-- ==== Sys2Proof/Word.lean ====
section
/-! DEFINITION. Word types of the VL4620 model: bytes and the register widths of the host link (R12, R271). -/
namespace Sys2Proof

/-- One byte of a register, a frame, a ring slot or the NVM. -/
abbrev Byte := BitVec 8
/-- A 16-bit field. -/
abbrev Half := BitVec 16
/-- A 32-bit field or register. -/
abbrev Word := BitVec 32
/-- A 64-bit field or register. -/
abbrev Dword := BitVec 64

/-- The number of a Room, 0 to 15 (R233). -/
abbrev RoomId := Fin 16
/-- The number of a rail, 0 to 15 (R344). -/
abbrev RailId := Fin 16

end Sys2Proof
end

