-- ==== Sys2Proof/Syntax.lean ====
section
/-! DEFINITION. The commands of the VL4620: one constructor for each row of the opcode table, with its operands. -/
namespace Sys2Proof

/-- The two keepers (R157). -/
inductive Keeper where
  | a | b
  deriving DecidableEq, Repr

/-- The ports of the host link; codes 1 to 3 of `ROOM[n].port` (R262). -/
inductive Port where
  | spi | i2c | uart
  deriving DecidableEq, Repr

/-- What the hardware measures and the keeper samples at step 1 of a Batch (R293, R529, R556): the analog world. -/
structure Sample where
  /-- `BATSNS`, VSYS and CAPH in mV. -/
  batMv  : Nat
  vsysMv : Nat
  capMv  : Nat
  /-- Battery current in µA, positive into the cell (R520), and temperature in 0.1 °C. -/
  batUa  : Int
  batTemp : Int
  /-- Charge into the cell that continuous sampling counted since the previous sample, µAs (R522, R525). -/
  charge : Int
  /-- Measured outputs of the 16 rails in mV, and rails in current limit (R378). -/
  railMv : List Nat
  railLimit : BitVec 16
  /-- Harvest power delivered into VSYS, µW (R556). -/
  harvestUw : Nat
  /-- Inputs delivering power, as `MIR.SRC` codes them (R293). -/
  src    : Nat
  /-- `PRIIN` in mV, and rectifier output in mV (R446). -/
  priMv  : Nat
  rectMv : Nat
  pvMv   : Nat
  /-- `DCIN` and `CAPM` in mV, and whether the dock regulator holds `DCIN` at `DC.vin_reg` (R423, R450). -/
  dcinMv : Nat
  capmMv : Nat
  dcReg  : Bool
  deriving DecidableEq, Repr

/-- What a start senses: the outcome of ROM, calibration and key store checks on this unit, the straps, the level that VSYS
has held for the start gate, `PRIIN`, and the battery (R56, R106, R114, R544). -/
structure StartSense where
  romOkA : Bool
  romOkB : Bool
  keystoreOk : Bool
  calOk  : Bool
  /-- The straps `RSEL0` to `RSEL2` as read, one by one; none where R54 leaves a ball's reading undefined. -/
  rsel0  : Option Bool
  rsel1  : Option Bool
  rsel2  : Option Bool
  vsysMv : Nat
  priMv  : Nat
  batMv  : Nat
  batTemp : Int
  deriving DecidableEq, Repr

/-- What an active keeper does in its closing window (R163, R164): the fields of the commit word that it writes, the number
of payload bytes that it has written since the latest write to buffer offset 0, and whether they were written as R163
requires. -/
structure CommitTry where
  batch   : BitVec 48
  writer  : Keeper
  length  : Nat
  written : Nat
  ordered : Bool
  deriving DecidableEq, Repr

/-- How far the active keeper's work of a Batch comes before the marks of R137: the manual gives no execution times
for a Batch's work, so a command says where it stands. -/
inductive WorkExtent where
  /-- Every step ends before the budget mark and the commit is accepted. -/
  | full
  /-- As `full`, and the other keeper tries to write a shadow target, the request table or mirror RAM (R160). -/
  | strayWrite
  /-- Steps 1 to 7 end before the budget mark, and the keeper writes this commit word before the commit deadline (R164). -/
  | commitAs (w : CommitTry)
  /-- Steps 1 to 7 end before the budget mark, and the commit word is written after the commit deadline (R140). -/
  | lateCommit
  /-- The budget mark passes during intake after `k` requests have been taken (R142). -/
  | stopAtIntake (k : Nat)
  /-- The budget mark passes during step 4 or 5, before the publish. -/
  | stopBeforePublish
  /-- The set is published after the budget mark and before the commit deadline (R138). -/
  | latePublish
  /-- The set is published before the budget mark; the mark passes during steps 6 or 7. -/
  | stopAfterPublish
  deriving DecidableEq, Repr

/-- A request as it stands in a submission slot, without its opcode (R310): Room, `tag`, `seq`, `flags`, `len` and
argument bytes. -/
structure Req where
  room  : RoomId
  tag   : Half
  seq   : Half
  flags : Byte
  len   : Nat
  args  : List Byte
  deriving DecidableEq, Repr

/-- A request's identity: Room, `tag` and `seq` (R312). -/
structure ReqId where
  room : RoomId
  tag  : Half
  seq  : Half
  deriving DecidableEq, Repr

/-- One accepted Hall edge: the sensor and its new level (R455). -/
inductive HallEdge where
  | aRise | bRise | aFall | bFall
  deriving DecidableEq, Repr

/-- Qualifying inputs of the power cycle that leaves SEALED (R661). -/
inductive GraveInput where
  | dcin | pv | kinetic
  deriving DecidableEq, Repr

/-- Where proofing failed (R361). -/
inductive ProofCause where
  | halfWindow | foldback | windowEnd
  deriving DecidableEq, Repr

/-- Protections that trip a rail (R367). -/
inductive TripCause where
  | overCurrent | overVoltage | thermal
  deriving DecidableEq, Repr

/-- Spaces of `DBG_MEM` (R724). -/
inductive MemSpace where
  | sramA | sramB | shared | nvm
  deriving DecidableEq, Repr

/-- The commands and events of the opcode table, each whole and indivisible. -/
inductive Instr where
  /-- VSYS falls below the POR-assert threshold, resetting the whole device until VSYS next rises to POR release (R104). -/
  | por (batMv : Nat)
  /-- VSYS stays below the brown-out threshold while POR is released, resetting the keepers, digital logic and every rail except LDO5 (R108). -/
  | brownOut
  /-- VSYS has held the form A or form H threshold for its hold time, and cold start proceeds from step 2 (R106). -/
  | startGatePass (ss : StartSense)
  /-- During step 8 of a start, the 1.000 ms tick acts as a Batch edge for sequencing and rails (R391). -/
  | startTick (sm : Sample)
  /-- PWR.grace Batches after a PWR_RESTART have passed, and the chip restart begins (R122). -/
  | restartGraceEnd (ss : StartSense)
  /-- BTN_N is held low for PWR.btn_restart_ms in RUN, DOZE or REST, causing a chip restart (R108). -/
  | btnRestartHold (ss : StartSense)
  /-- PWR.boot_floor_batches Batches after step 10 have passed, and the DOZE boot floor ends (R90). -/
  | bootFloorEnd
  /-- The grace after PWR_LODGE ends: HRST_N is asserted, Rooms close, and the LODGE power-down sequence runs (R94). -/
  | lodgeEntry
  /-- Device time reaches the LODGE start time plus alarm_s, which is wake event 0x01 (R96). -/
  | lodgeAlarm
  /-- WAKE_N falls after being high for 2 ms and stays low for 2 ms, and a wake request is recognised (R69). -/
  | wakeNRequest
  /-- A BTN_N low is recognised at the second consecutive 1 ms sample (R71). -/
  | btnNPress
  /-- CMP0 or CMP1 has two consecutive 125 ms samples beyond its threshold (R97). -/
  | wakeComparatorFire (cmp : Fin 2)
  /-- With SHIP armed and DCIN not valid for PWR.ship_delay, Rooms close, the Ledger is written and the battery FET opens (R100). -/
  | shipEntry
  /-- BTN_N is held low for PWR.ship_btn_ms, the SHIP latch clears, and a cold start follows (R101). -/
  | shipBtnHold
  /-- VIO rises to at least 1.08 V, and the VIO-domain balls become active (R48). -/
  | vioGood
  /-- VIO falls below 1.00 V: VIO-domain outputs go high-impedance and a fault is reported (R52). -/
  | vioLost
  /-- No crystal transition occurs for 250 µs; HOLDOVER and the RC oscillator take over (R128). -/
  | crystalFail
  /-- 1,024 good crystal periods have passed, and the mode becomes DISCIPLINED at the next edge (R128). -/
  | crystalQualify (rate : Nat)
  /-- Every 32,768 crystal periods, the disciplining loop updates the divider ratio (R129). -/
  | dividerUpdate (rate : Nat)
  /-- The frame tick ends a Batch: the number advances, published targets apply, the bubble is classified, and the keeper work of the new Batch runs (R137). -/
  | batchEdge (sm : Sample) (ext : WorkExtent) (ss : StartSense)
  /-- The budget mark passes without the work-done flag set, an overrun, and the next Batch becomes an overrun bubble (R141). -/
  | budgetMark
  /-- A Batch reaches its commit deadline without an accepted commit, and the missed-heartbeat count advances (R169). -/
  | commitDeadline
  /-- KPR.cold_hold Batches have passed, and the internal hold votes are withdrawn (R188). -/
  | coldHoldEnd
  /-- A restarting keeper finishes Starter ROM steps 2 and 6 and enters its standby role (R191). -/
  | keeperRestartDone (k : Keeper) (romOk : Bool)
  /-- KPR.selftest_h hours have passed, and the Innkeeper raises a HANDOVER for self-test (R196). -/
  | selfTestDue
  /-- The self-test passes, fails, or is not passed within 50 ms of the grant edge (R196). -/
  | selfTestResult (pass : Bool) (ss : StartSense)
  /-- A keeper writes a kick; it is accepted in an open window or expires the watchdog early (R676). -/
  | keeperWdKick (k : Keeper) (ss : StartSense)
  /-- A keeper writes a period change; it is accepted in an open window and rejected otherwise (R678). -/
  | keeperWdPeriodWrite (k : Keeper) (period : Nat)
  /-- The keeper watchdog count reaches P, and that keeper fails (R676). -/
  | keeperWdExpiry (k : Keeper) (ss : StartSense)
  /-- 12,000 ms pass while a keeper runs the Starter ROM (R681). -/
  | romLimitExpiry (k : Keeper) (ss : StartSense)
  /-- An armed guest watchdog's deadline passes, and it takes its next ladder step (R692). -/
  | guestWdExpiry (room : RoomId)
  /-- GWD.off_ms has passed, and a rail gated by the cycle step is released (R694). -/
  | gwdGatingEnd (rail : RailId)
  /-- A write of the submission doorbell takes effect when its occupancy is legal; otherwise it sets RING_ERR (R297). -/
  | sqTailWrite (port : Port) (room : RoomId) (value : Byte)
  /-- A write of the completion doorbell releases slots and retires records, or sets RING_ERR (R301). -/
  | cqHeadWrite (port : Port) (room : RoomId) (value : Byte)
  /-- A write to a submission slot is applied, or is discarded with RING_ERR when the slot is submitted but not yet taken (R298). -/
  | submissionSlotWrite (port : Port) (room : RoomId) (offset : Nat) (bytes : List Byte)
  /-- A W1C write to EVT.FLAGS clears flags set before the frame ended, and the IRQ line follows (R17). -/
  | evtFlagsClear (port : Port) (room : RoomId) (value : Word)
  /-- A write frame to a register with no row of its own takes effect as a whole at the end of its frame (R271). `bytes` are
  the bytes that the host sends in the frame: on SPI every byte clocked, those under which it reads among them, and on I²C the device
  address with its direction first; `reads` counts the bytes that it then reads on I²C, 0 in a write. -/
  | registerWrite (port : Port) (bytes : List Byte) (reads : Nat)
  /-- An I²C write with only the register address sets where the next address-less read starts (R282). -/
  | i2cAddressSet (addr : Half)
  /-- A gap longer than 5 ms between bytes discards a service-port frame, which is answered as discarded (R289); `bytes` are those that
  arrived before the gap. -/
  | servicePortGap (bytes : List Byte)
  /-- A write to DIG.CLAIM claims the engine for a Room when every condition holds (R625). -/
  | digClaimWrite (port : Port) (room : RoomId) (value : Byte)
  /-- A START in DIG.CTRL begins a message in the named mode and slot (R628). -/
  | digStart (port : Port) (room : RoomId) (hmac : Bool) (slot : Fin 8)
  /-- A FINISH in DIG.CTRL finalises the message, writes the result and releases the claim (R630). -/
  | digFinish (port : Port) (room : RoomId)
  /-- An ABORT in DIG.CTRL releases the claim with no result (R630). -/
  | digAbort (port : Port) (room : RoomId)
  /-- Bytes written to DIG.DATA are appended to the running message, or discarded with an error (R629). -/
  | digDataWrite (port : Port) (room : RoomId) (offset : Nat) (bytes : List Byte)
  /-- The holder writes nothing for DIG.claim_idle_ms, and the claim is released (R631). -/
  | digClaimIdle
  /-- DIG.claim_max_ms after it was taken, the claim is released (R631). -/
  | digClaimMax
  /-- Opens or reopens the calling Room and negotiates the SMP version (R263). -/
  | hello (r : Req)
  /-- Closes the calling Room, parking or withdrawing its votes (R264). -/
  | bye (r : Req)
  /-- Echoes the argument bytes (R265). -/
  | ping (r : Req)
  /-- Returns the device time of the start edge of the Batch of execution (R155). -/
  | time (r : Req)
  /-- Returns the state, privilege, version, quota and records held of a Room (R267). -/
  | roomQuery (r : Req)
  /-- Resets the named Room, clearing its records, votes, claims and watchdog (R266). -/
  | roomReset (r : Req)
  /-- Returns the power state, conditions, reset and wake causes, floors and boot_seq (R123). -/
  | pwrQuery (r : Req)
  /-- Sets the calling Room's floor vote (R119). -/
  | pwrFloor (r : Req)
  /-- Commands entry to LODGE after the grace, with an alarm and a wake mask (R120). -/
  | pwrLodge (r : Req)
  /-- Arms SHIP entry (R121). -/
  | pwrShipArm (r : Req)
  /-- Cancels an armed SHIP (R121). -/
  | pwrShipCancel (r : Req)
  /-- Schedules a chip restart after PWR.grace Batches (R122). -/
  | pwrRestart (r : Req)
  /-- Places or withdraws the Room's vote on a rail (R405). -/
  | railVote (r : Req)
  /-- Returns a rail's setpoint, state, ladder, limit and measured output (R378). -/
  | railQuery (r : Req)
  /-- Schedules a vote change to apply at Batch B, or cancels a pending one (R406). -/
  | railSched (r : Req)
  /-- Batch B − 1 arrives, and the scheduled vote change is made (R402). -/
  | schedDue (id : ReqId)
  /-- Starts a guest sequence (R407). -/
  | seqRun (r : Req)
  /-- Stops a running guest sequence, optionally unwinding it (R408). -/
  | seqAbort (r : Req)
  /-- A DELAY step's time has passed, and the next step executes (R393). -/
  | seqDelayEnd
  /-- A WAIT_PG or WAIT_LOW step reaches its timeout, and the sequence acts by on_fail (R392). -/
  | seqWaitTimeout
  /-- Returns the charger phase, zone, limit, CV and latched faults (R517). -/
  | chgQuery (r : Req)
  /-- Sets the Room's charge inhibit and current cap (R518). -/
  | chgSet (r : Req)
  /-- Returns the latched charger faults (R519). -/
  | chgFaultsRead (r : Req)
  /-- Reads and clears every latched charger fault except CHG_OV_FETFAIL (R519). -/
  | chgFaultsClear (r : Req)
  /-- Returns the reported and internal state of charge, FCC, validity and SoH (R551). -/
  | gaugeQuery (r : Req)
  /-- Sets Q to a given fraction of FCC (R552). -/
  | gaugeSetSoc (r : Req)
  /-- Adds equivalent age and writes the gauge record (R552). -/
  | gaugeSetAgeAdd (r : Req)
  /-- Resets the learning reference and writes the gauge record (R552). -/
  | gaugeSetLearnReset (r : Req)
  /-- Asks admission for an activity and is answered GRANT, DEFER or REFUSE (R587). -/
  | larderReserve (r : Req)
  /-- Asks admission for a pair of PA bursts and arms the burst hardware on GRANT (R588). -/
  | burstPair (r : Req)
  /-- Releases a reservation by its handle (R589). -/
  | larderRelease (r : Req)
  /-- Returns the store energies, forecast and reservations (R590). -/
  | larderQuery (r : Req)
  /-- Sets the time-of-day offset (R591). -/
  | larderSetTod (r : Req)
  /-- Resets the forecast bins to their seeds and writes the Larder record (R591). -/
  | larderSetFcReset (r : Req)
  /-- Returns the power-path state (R450). -/
  | pathQuery (r : Req)
  /-- Sets or withdraws the Room's dock input limit (R452). -/
  | dcLimit (r : Req)
  /-- Runs a primary-reserve passivation pulse (R453). -/
  | priPulse (r : Req)
  /-- Sets the PV boost mode and regulation parameters (R451). -/
  | pvSet (r : Req)
  /-- Returns the angle-engine counter, speed, mode and gates (R485). -/
  | kinQuery (r : Req)
  /-- Sets the Room's AUTO or PASSIVE rectifier setting (R486). -/
  | kinSet (r : Req)
  /-- Sets or clears a user event-table entry (R487). -/
  | kinUser (r : Req)
  /-- Writes scan-plan rows of a group and takes its hold (R615). -/
  | adcPlan (r : Req)
  /-- Configures a sampling group and takes its hold (R616). -/
  | adcGroupSet (r : Req)
  /-- Gives a group one COMMAND trigger at the next edge (R616). -/
  | adcGroupTrigger (r : Req)
  /-- Ends the hold on a group (R616). -/
  | adcGroupRelease (r : Req)
  /-- Returns a group's kept set, optionally waiting for a new one (R617). -/
  | adcRead (r : Req)
  /-- A waiting ADC_READ reaches its timeout and returns with valid clear (R617). -/
  | adcReadTimeout (id : ReqId)
  /-- Loads or erases a key slot from 2 to 7 (R639). -/
  | digKeyload (r : Req)
  /-- The key store write of a DIG_KEYLOAD ends, and it completes (R639). -/
  | keystoreWriteDone (ok : Bool)
  /-- Submits one part of a message to be digested by the firmware (R640). -/
  | digQueue (r : Req)
  /-- The parts of an identifier are incomplete 10 s after its first part, and all complete with FAULT (R641). -/
  | digQueueTimeout (room : RoomId) (ident : Half)
  /-- Returns active fault entries, optionally marking them read (R671). -/
  | faultRead (r : Req)
  /-- Copies Ledger entries to the result buffer (R672). -/
  | ledgerRead (r : Req)
  /-- Leaves Safe Hold at the edge ending the Batch of execution (R658). -/
  | faultClearSafeHold (r : Req)
  /-- Releases one HELD rail to OFF (R673). -/
  | faultClearRailHeld (r : Req)
  /-- Releases every HELD rail to OFF (R673). -/
  | faultClearAllHeld (r : Req)
  /-- Ends the over-current hold of the battery FET (R673). -/
  | faultClearBatfet (r : Req)
  /-- Removes every active fault entry (R673). -/
  | faultClearActive (r : Req)
  /-- Writes a LEDGER_MARK entry (R673). -/
  | faultClearLedgerMark (r : Req)
  /-- Reports the raw pair wires and the protection comparators active since the last probe (R674). -/
  | faultProbe (r : Req)
  /-- Changes the keeper watchdog period in the next open window (R698). -/
  | wdSetPeriod (r : Req)
  /-- Erases the chip-restart history (R698). -/
  | wdSetClearRestarts (r : Req)
  /-- Returns the watchdog periods, counts, restarts and guest ladder (R699). -/
  | wdQuery (r : Req)
  /-- Arms or disarms the Room's guest watchdog (R700). -/
  | gwdArm (r : Req)
  /-- Kicks the Room's guest watchdog (R700). -/
  | wdKick (r : Req)
  /-- Requests a commanded swap naming the keeper that is to be ACTIVE (R200). -/
  | keeperSwap (r : Req)
  /-- Returns the keeper roles, failures, last swap and checkpoint (R201). -/
  | keeperQuery (r : Req)
  /-- Releases a QUARANTINED keeper to OFFLINE (R202). -/
  | keeperRevive (r : Req)
  /-- Opens a stage and erases the named keeper's fallback slot (R224). -/
  | imageStageOpen (r : Req)
  /-- Writes image bytes into the staged slot (R225). -/
  | imageStageData (r : Req)
  /-- Arms a trial and restarts the keeper into it (R227). -/
  | imageStageClose (r : Req)
  /-- The fallback-slot erase ends, and OPEN completes (R224). -/
  | imageEraseEnd
  /-- Staged bytes are programmed, at most 256 per Batch, and the DATA request completes (R225). -/
  | stagedBytesProgrammed
  /-- 60 s pass with no IMAGE_STAGE request, and the stage is abandoned (R226). -/
  | imageStageAbandon
  /-- Writes a manifest that makes each trial slot primary (R229). -/
  | imageCommitCommit (r : Req)
  /-- Abandons the stage, disarms the trials and restarts a trial standby (R230). -/
  | imageCommitAbort (r : Req)
  /-- Returns the slots run, the floor, the manifest seq and the slot records (R232). -/
  | imageQuery (r : Req)
  /-- Verifies a Recipe and schedules a run-time switch to it (R749). -/
  | recipeSelect (r : Req)
  /-- In the switch bubble, the transition combines votes, publishes targets, resets Rooms and commits (R750). -/
  | recipeSwitch
  /-- Opens a Recipe write and erases the slot (R755). -/
  | recipeWriteOpen (r : Req)
  /-- Writes Recipe bytes (R756). -/
  | recipeWriteData (r : Req)
  /-- Verifies the written Recipe slot (R757). -/
  | recipeWriteClose (r : Req)
  /-- The Recipe slot erase ends, and OPEN completes (R755). -/
  | recipeEraseEnd
  /-- 60 s pass with no RECIPE_WRITE, and the write is abandoned (R755). -/
  | recipeWriteAbandon
  /-- Returns the Recipe in force, RSEL and the slot verdicts (R759). -/
  | recipeQuery (r : Req)
  /-- Issues a debug challenge over SMP (R729). -/
  | dbgChallenge (r : Req)
  /-- Submits a response to the outstanding challenge (R730). -/
  | dbgRespondRespond (r : Req)
  /-- Drops the debug level to CLOSED (R730). -/
  | dbgRespondDrop (r : Req)
  /-- Advances the lifecycle by one state (R731). -/
  | lifecycleAdvance (r : Req)
  /-- Both lifecycle word copies are programmed, and the advance completes (R731). -/
  | lifecycleProgramDone (ss : StartSense)
  /-- Returns the lifecycle, debug level, attach and lockout state (R732). -/
  | secQuery (r : Req)
  /-- TMS held high for five TCK edges resets the TAP controller (R72). -/
  | tapReset
  /-- At Update-DR, writes a key slot or a public key (R709). -/
  | keyprog (target : Byte) (payload : List Byte)
  /-- Advances BLANK to DEVELOP through the TAP (R704). -/
  | lcadv
  /-- A write of halt_a or halt_b halts or releases a keeper (R724). -/
  | dbgHalt (haltA haltB : Bool)
  /-- A write of wdhalt sets or clears DBG_WDHALT (R722). -/
  | dbgWdhalt (on : Bool)
  /-- A write of attach sets or withdraws the attach request (R725). -/
  | dbgAttach (on : Bool)
  /-- A write of chal_req requests a challenge (R715). -/
  | dbgChalReq
  /-- A write of drop drops the debug level to CLOSED (R710). -/
  | dbgDrop
  /-- An Update-DR of DBG_AUTH submits a response (R723). -/
  | dbgAuthSubmit (response : List Byte)
  /-- Reads a word from keeper SRAM, shared RAM, ROM or NVM (R724). -/
  | dbgMemRead (space : MemSpace) (addr : Word)
  /-- Writes a word to RAM, or programs an NVM word (R724). -/
  | dbgMemWrite (space : MemSpace) (addr data : Word)
  /-- Erases the NVM sector that holds the address (R724). -/
  | dbgMemErase (space : MemSpace) (addr : Word)
  /-- A challenge expires 10 s after its issue (R716). -/
  | challengeExpiry
  /-- DBG.retry_s after a refused attach, or at the end of its reservation, the admission is made again (R725). -/
  | attachRetry
  /-- A pair's change into fault is accepted, and its kind is raised and classified (R645). -/
  | dualRailFault (pair : Fin 24) (cause : Half) (qual : Half) (ss : StartSense)
  /-- A pair is held in state 00 or 11 for 10 µs (R644). -/
  | lineFault (pair : Fin 24) (high : Bool) (ss : StartSense)
  /-- A 32-bit coded fault message reaches the collector and is classified (R647). -/
  | codedMessage (msg : Word)
  /-- The Ledger writer takes a message from the FIFO and writes or suppresses its entry (R649). -/
  | ledgerEntryWrite
  /-- An hour ends, and a SUPPRESSED entry is written for each counted kind (R666). -/
  | suppressionHourEnd
  /-- A C1 entry clears 10 s after its latest occurrence (R653). -/
  | warnExpiry (msg : Word)
  /-- After every input stays below 1.65 V for 100 ms, a qualifying input appears and clears the SEALED latch (R661). -/
  | graveExit (input : GraveInput)
  /-- A rail's output holds power-good for settle_us, and it becomes PROOFED (R359); `mv` is the output at the crossing that
  it has held since. -/
  | railProofed (rail : RailId) (mv : Nat)
  /-- Proofing fails at half-window, on foldback or at window end (R361). -/
  | proofFail (rail : RailId) (cause : ProofCause) (mv : Nat)
  /-- A PROOFED rail's output stays below its falling threshold for 20 µs (R365). -/
  | railSag (rail : RailId) (mv : Nat)
  /-- An over-current, over-voltage or thermal condition shuts a rail down (R367). -/
  | railTrip (rail : RailId) (cause : TripCause) (mv : Nat)
  /-- A thermal sensor reaches 125 °C, raising RAIL_THERM_WARN (R367). -/
  | thermalWarning (sensor : Fin 7)
  /-- A TRIPPED rail's retry delay passes, and it is released at the next edge (R370). -/
  | retryRelease (rail : RailId)
  /-- A rail stays PROOFED for 10 s, and its ladder count returns to 0 (R371). -/
  | ladderReset (rail : RailId)
  /-- CAPH falls below PA.cap_min less 200 mV during an enable, and PA input moves to VSYS (R351). -/
  | paSourceSwitch
  /-- DCIN has stayed from 4.00 to 6.50 V for 10 ms and becomes valid (R421). -/
  | dcinValid
  /-- DCIN falls below 3.85 V for 100 µs, and UART Rooms are then reset (R421). -/
  | dcinInvalid
  /-- DCIN rises above 6.80 V, and the input switch opens (R422). -/
  | dcOv (dcinMv : Nat)
  /-- Type-C and BC 1.2 detection ends, and the detected limit applies (R426). -/
  | dockDetectionEnd (code : Nat) (cc2 : Bool)
  /-- A change of Type-C current level is applied within 60 ms (R427). -/
  | ccLevelChange (level : Fin 4)
  /-- VSYS stays above 5.50 V for 10 µs, stopping the sources feeding it (R414). -/
  | vsysOv
  /-- BATSNS stays below PATH.bat_uv for uv_ms off the dock, and the FET opens (R417). -/
  | batfetUvOpen (batMv : Nat)
  /-- Discharge current exceeds PATH.bat_ocd for 10 ms, and the FET opens (R417). -/
  | batfetOcOpen (batMv : Nat)
  /-- An OFF battery FET closes into SUPPLY once its conditions hold (R418). -/
  | batfetClose (batMv : Nat)
  /-- Shunt current above 5 mA for 100 ms while the FET is OFF (R420). -/
  | batfetStuck (ma : Nat)
  /-- PRIIN stays below PRI.vmin for 1 s, and the primary reserve leaves use (R438). -/
  | priLow (mv : Nat)
  /-- PRI.pulse_h hours have passed, or the 60 s repeat is due, and a pulse runs (R439). -/
  | passivationPulseDue (mv : Nat)
  /-- A passivation pulse ends (R453). -/
  | priPulseEnd (mv : Nat)
  /-- Every PV.sample_s, the PV boost stops and samples the open-circuit voltage (R431). -/
  | pvFocvSample (voc : Nat)
  /-- PVIN reaches the cold-start threshold while unpowered, and VSYS is charged (R430). -/
  | pvColdStart
  /-- A reservoir cell exceeds 2.60 V, or imbalance persists, and the charger stops (R441). -/
  | resImbal (qual : Half)
  /-- CAPH exceeds 5.10 V for 10 µs, and the reservoir charger stops (R445). -/
  | resOv
  /-- CAPH falls below the target less RES.hyst, and the charger starts (R443). -/
  | reservoirChargeStart
  /-- Rectifier output exceeds 5.30 V, and the clamp brakes the rotor (R434). -/
  | kineticClamp
  /-- An accepted TWA or TWB edge snaps the angle counter, possibly passing events or reversing (R458). -/
  | hallEdge (edge : HallEdge) (time : Nat)
  /-- Both Hall inputs change within 2 µs, and synchronisation is lost (R466). -/
  | illegalTransition
  /-- The counter steps one count at the estimated rate, firing exactly matching events (R460). -/
  | counterInterpolate
  /-- 200 ms pass without an edge, and the rotor is stopped (R464). -/
  | rotorStall
  /-- Every KIN.tw_period_ms, TWPWR is enabled and the Hall inputs sampled (R465). -/
  | twpwrDutySample (a b : Bool)
  /-- A gate's current reverses, and it turns off within 100 ns (R478). -/
  | reverseCurrentCut (gate : Fin 6)
  /-- The charger conditions hold for 1 s, and it enters PRECHARGE, FAST or DONE (R497). -/
  | qualifyPass (batMv : Nat)
  /-- BATSNS holds the precharge exit level for 1 s, and FAST begins (R498). -/
  | prechargeExit
  /-- BATSNS reaches CV, and the charger enters TAPER (R498). -/
  | cvReached
  /-- The current stays below CHG.i_term for 1 s with the CV loop governing, and CHG_DONE is raised (R498). -/
  | chargeTerminate
  /-- CHG.topoff_min elapses, and the charger enters DONE (R498). -/
  | topoffEnd
  /-- BATSNS stays below CV less rechg_mv for 1 s in DONE (R498). -/
  | rechargeStart
  /-- Consecutive NTC samples place the cell in a new temperature zone (R502). -/
  | zoneChange (temp : Int)
  /-- VSYS holds its margin for 10 s off the dock, and harvest charging becomes present (R495). -/
  | harvestChargingPresent
  /-- The precharge timer reaches CHG.t_pre_min (R504). -/
  | prechargeTimeout
  /-- The fast timer reaches CHG.t_fast_min (R505). -/
  | fastTimeout
  /-- Removal is declared by NTC, BATID or a voltage step, and charging stops with the FET opened (R508). -/
  | batteryRemoved (route : Nat) (batMv : Nat)
  /-- BATSNS exceeds CV plus 100 mV for 1 ms in CHARGE, and the fault latches (R513). -/
  | chgBatOv (batMv : Nat)
  /-- BATSNS exceeds the chemistry limit with current flowing and the FET commanded OFF (R513). -/
  | chgOvFetfail (batMv : Nat)
  /-- NTC reads short, and the fault latches (R513). -/
  | chgNtc (isShort : Bool)
  /-- BATID reads outside its window, and the fault latches (R507). -/
  | chgBatid (reading : Nat)
  /-- The battery qualifies for CHG.gone_auto_s with no CHG Room open, and the device reads CHG_BAT_GONE (R512). -/
  | goneAutoRead
  /-- The coulomb counter shorts its input and updates its offset (R524). -/
  | gaugeAutozero (offset : Int)
  /-- A SIPPING or LODGE window is taken and integrated, possibly changing mode (R525). -/
  | gaugeWindow (mean : Int) (batMv : Nat) (batTemp : Int)
  /-- Current exceeds 5 mA for 100 µs, and the gauge returns to FULL or raises its window rate (R527). -/
  | shuntComparator
  /-- The cell has relaxed for GAUGE.relax_min, and Q is corrected from the OCV table (R533). -/
  | ocvCorrection (batMv : Nat) (temp : Int)
  /-- An hour of device time ends, and the equivalent age increases (R539). -/
  | ageHour
  /-- The gauge record reaches GAUGE.save_h of age, and a new copy is written (R547). -/
  | gaugeRecordSave
  /-- A 15-minute bin ends, and its forecast is updated (R557). -/
  | forecastBinUpdate
  /-- A reservation reaches its end and is removed (R564). -/
  | reservationEnd (handle : Nat)
  /-- At an entry's start edge, the burst starts unless that Batch is a bubble (R571). -/
  | burstStart
  /-- 2 ms after PA is PROOFED, BGNT rises for the burst's length (R573). -/
  | bgntRise
  /-- The burst length ends: BGNT falls, the burst vote is withdrawn, and BSTAT reports the outcome (R573). -/
  | burstEnd
  /-- A rising BREQ edge is latched and decided as a raw burst (R583). -/
  | breqRise
  /-- BREQ falls and ends a running raw burst (R584). -/
  | breqFall
  /-- A triggered set begins once its delay passes and its converters are free (R599). -/
  | adcSetStart (group : Fin 4)
  /-- A set's last row ends, and the kept set is replaced (R598). -/
  | adcSetComplete (group : Fin 4) (codes : List Nat)
  /-- VSYS rises to the POR-release threshold, the AON node decides the battery FET, TEST is sampled and the start gate begins timing (R104). -/
  | porRelease (batMv : Nat) (test : Bool)
  /-- VSYS rises to 1.20 V during a POR and HRST_N begins to be driven low (R65). -/
  | hrstNHoldThreshold
  /-- While unpowered or in POR, BAT crosses the battery-start threshold and the AON node holds the battery FET in SUPPLY or OFF (R105). -/
  | batteryStartCrossing (batMv : Nat)
  /-- The battery is removed in SHIP or SEALED, the AON node loses power, and the SHIP or SEALED latch is lost (R662). -/
  | aonNodeLoss
  /-- VSYS falls below 5.30 V after VSYS_OV, and the PV boost, dock input switch and kinetic clamp are released (R414). -/
  | vsysOvClear
  /-- The rectifier output falls below 5.10 V and the clamp releases the low-side gates (R434). -/
  | kineticClampRelease
  /-- CAPH falls below 4.90 V and the reservoir charger resumes after a RES_OV stop (R445). -/
  | resOvClear
  /-- Both imbalance conditions have been clear for 10 s and the reservoir charger resumes (R441). -/
  | resImbalClear
  /-- CAPH reaches the target in force and the reservoir charger stops (R443). -/
  | reservoirChargeStop
  /-- VSYS reaches PATH.vsys_ceiling, or falls 50 mV below it, and the rectifier enters or leaves passive cause 9 while harvest throttles (R475). -/
  | vsysCeilingCrossing
  /-- The die reads below 120 °C after DIE_OT, and tripped rails may be released and the charger may resume (R646). -/
  | dieCooled
  /-- A thermal sensor falls below 120 °C and RAIL_THERM_WARN clears (R367). -/
  | thermalWarningClear (sensor : Fin 7)
  /-- A pair returns to state 01, and after 1 ms in that state it is no longer treated as reporting fault (R644). -/
  | dualRailReturn (pair : Fin 24)
  /-- The net current out of the cell has held above 1 mA for 60 s off the dock, and harvest charging ceases to be present (R495). -/
  | harvestChargingCeases
  /-- The mean current stays below 1 mA for 10 consecutive seconds in FULL mode, and the gauge enters SIPPING (R526). -/
  | gaugeSippingEntry
  /-- The rotor has been stopped for KIN.tw_hold_ms, and continuous TWPWR ends and duty-cycling begins (R465). -/
  | twpwrHoldEnd
  /-- A granted reservation reaches its start, and the LARDER event flag of its Room is set (R564). -/
  | reservationStart (handle : Nat)
  /-- The lockout after a failed response runs out, and challenges may be issued again (R717). -/
  | authLockoutEnd
  deriving DecidableEq, Repr

end Sys2Proof
end

