-- ==== Sys2Proof/Decode.lean ====
section
/-! DEFINITION. The command that a word of the opcode table spells. -/
namespace Sys2Proof

/-- No row of the opcode table has bits: a command reaches the device as a register frame, a ring slot, a TAP scan or an
event, and those formats are decoded where they arrive. -/
def decodeTableWord (_nbits _w : Nat) : Option Instr := none

end Sys2Proof
end

