-- ==== Sys2Proof/Config.lean ====
section
/-! DEFINITION. The free values of the VL4620 model: what the spec leaves undefined, unstated or to the unit. Each is a
constant without a body, applied to the model's counter or to the operands the value depends on. -/
namespace Sys2Proof.Config

/-- A fresh undefined number for each value of the counter (log entry 2). -/
opaque freeNat : Nat → Nat
/-- The 8-byte device ID that Eweaskon writes at manufacture (R708). -/
opaque deviceId : List (BitVec 8)
/-- The bytes of the Starter ROM by offset (R724 reads them; the manual gives no image of it). -/
opaque romByte : Nat → BitVec 8
/-- Starter ROM 1.2 as `PWR_BOOT` entries code it (R2, R664). -/
def romVersion : BitVec 8 := 0x12
/-- Whether the device rounds a quotient up, where the manual gives a quantity to a unit without saying how it rounds:
by the number of the formula (log entry 4). -/
opaque roundUp : (formula num den : Nat) → Bool
/-- The sign with which a resync jump reports its position error (R483; log entry 4). -/
opaque resyncSign : Bool
/-- The bytes by which an image codes its private state in a checkpoint's payload, by the number of the copy and the offset
(log entry 5). -/
opaque payloadByte : (stamp offset : Nat) → BitVec 8
/-- Whether a checkpoint written under schema `theirs` lacks field `field` of the private state of an image with schema
`own`, both of one major version (R218; log entry 5). -/
opaque schemaLacks : (own theirs field : Nat) → Bool
/-- A keeper's private SRAM and mirror RAM byte as `DBG_MEM` reads it: space, address and the model's counter
(log entry 5). -/
opaque debugByte : (space addr stamp : Nat) → BitVec 8

end Sys2Proof.Config
end

