-- ==== Sys2Proof/Machine/RecipeFields.lean ====
section
/-! DEFINITION. The fields of a Recipe, section by section in the order of R736, with the width, range and factory
default of each (R118, R199, R262, R309, R376, R404, R449, R484, R516, R550, R586, R614, R633, R651, R682, R728). -/
namespace Sys2Proof.Machine

/-- One field of a Recipe section (R736, R737): how many elements are stored, the width of each in bytes, whether it is
signed, whether it is a composite (placed at a multiple of 4), which values each element may hold, and the factory
values (a shorter list repeats its last value). -/
structure FieldSpec where
  count  : Nat
  width  : Nat
  signed : Bool := false
  comp   : Bool := false
  ok     : Nat → Int → Bool
  deflt  : List Int

/-- `v` lies from `lo` to `hi`. -/
def inRange (lo hi : Int) (v : Int) : Bool := decide (lo ≤ v) && decide (v ≤ hi)

/-- A field of one element with one range. -/
def single (w : Nat) (lo hi d : Int) : FieldSpec :=
  { count := 1, width := w, ok := fun _ v => inRange lo hi v, deflt := [d] }

/-- A signed field of one element with one range. -/
def singleS (w : Nat) (lo hi d : Int) : FieldSpec :=
  { count := 1, width := w, signed := true, ok := fun _ v => inRange lo hi v, deflt := [d] }

/-- An array field whose elements at the indices of `app` have one range, and hold 0 elsewhere (R736). -/
def perIndex (n w : Nat) (app : Nat → Bool) (lo hi : Int) (d : List Int) : FieldSpec :=
  { count := n, width := w, ok := fun i v => if app i then inRange lo hi v else decide (v = 0), deflt := d }

/-- Byte `k` of the little-endian value of a composite field. -/
def fieldByte (v : Int) (k : Nat) : Nat := (v.toNat / 256 ^ k) % 256

/-- `PWR.cmp0` and `PWR.cmp1` (R738): source 0 to 4, direction in bit 0 of byte 1, threshold 0 to 255. -/
def cmpOk (v : Int) : Bool :=
  decide (fieldByte v 0 ≤ 4) && decide (fieldByte v 1 ≤ 1) && decide (fieldByte v 3 = 0)

/-- PWR section (R118). -/
def pwrFields : List FieldSpec :=
  [single 1 0 2 2, single 1 0 2 1, single 2 0 60000 1000, single 2 1 1000 20, single 1 0 31 7,
   single 4 0 31536000 3600,
   { count := 1, width := 4, comp := true, ok := fun _ v => cmpOk v, deflt := [0] },
   { count := 1, width := 4, comp := true, ok := fun _ v => cmpOk v, deflt := [0] },
   single 2 0 60000 1000, single 2 2 10000 1000,
   { count := 1, width := 2, ok := fun _ v => decide (v = 0) || inRange 2000 60000 v, deflt := [10000] },
   single 2 0 65535 4]

/-- KPR section (R199). -/
def kprFields : List FieldSpec := [single 1 0 168 24, single 2 100 60000 5000]

/-- ROOM section: the Room entries (R262), then `LINK` (R309). -/
def roomFields : List FieldSpec :=
  [perIndex 16 1 (fun _ => true) 0 3 [1, 2, 0, 0, 0, 0, 0, 0, 0, 0, 0, 0, 0, 0, 0, 3],
   perIndex 16 1 (fun _ => true) 0 2 [0, 0, 2, 2, 2, 2, 2, 2, 2, 2, 2, 2, 2, 2, 2, 0],
   perIndex 16 2 (fun _ => true) 0 16384 [2048],
   { count := 16, width := 1, ok := fun _ v => inRange 0 3 v || decide (v = 255), deflt := [0, 1, 255] },
   perIndex 16 2 (fun _ => true) 0 65535 [65535, 65535, 0, 0, 0, 0, 0, 0, 0, 0, 0, 0, 0, 0, 0, 65535],
   perIndex 16 4 (fun _ => true) 0 4294967295
     [4294967295, 4294967295, 0, 0, 0, 0, 0, 0, 0, 0, 0, 0, 0, 0, 0, 4294967295],
   perIndex 16 1 (fun _ => true) 0 255 [0],
   perIndex 16 2 (fun _ => true) 0 0x7FF [0x7FF, 0x7F7, 0, 0, 0, 0, 0, 0, 0, 0, 0, 0, 0, 0, 0, 0x7F7],
   perIndex 16 2 (fun _ => true) 0 65535 [0],
   single 1 0 1 0, single 1 0 1 0,
   { count := 1, width := 1, ok := fun _ v => inRange 0x4E 0x4F v, deflt := [0x4E] },
   { count := 1, width := 4, ok := fun _ v => decide (v = 115200) || decide (v = 921600), deflt := [115200] }]

/-- Rails with a settable output: 0 to 4, 6 and 7 (R376). -/
def adjustable (n : Nat) : Bool := decide (n ≤ 4) || decide (n = 6) || decide (n = 7)

/-- Output range of each rail in mV (R345): least and greatest; 0 for load switches. -/
def railRange (n : Nat) : Int × Int :=
  match n with
  | 0 => (550, 1400) | 1 => (1000, 2000) | 2 => (1800, 3600) | 3 => (3000, 5500) | 4 => (1200, 1800)
  | 5 => (1800, 1800) | 6 => (1800, 3300) | 7 => (1200, 3300) | 8 => (1800, 1800) | 9 => (1800, 3000)
  | _ => (0, 0)

/-- Setpoint grid of each rail in mV (R345); 1 where the output is fixed. -/
def railGrid (n : Nat) : Int :=
  match n with
  | 0 => 5 | 1 => 10 | 2 => 25 | 3 => 50 | 4 => 50 | 6 => 50 | 7 => 50 | _ => 1

/-- A voltage field of an adjustable rail: within R345 and on the rail's grid, 0 elsewhere. -/
def railMvOk (n : Nat) (v : Int) : Bool :=
  if adjustable n then
    inRange (railRange n).1 (railRange n).2 v && decide ((v - (railRange n).1) % railGrid n = 0)
  else decide (v = 0)

/-- RAIL section: R376, then `vdef` of R404. -/
def railFields : List FieldSpec :=
  [perIndex 16 1 (· ≠ 8) 0 1 [1, 1, 1, 1, 1, 1, 1, 1, 0, 1],
   { count := 16, width := 2, ok := railMvOk,
     deflt := [550, 1000, 1800, 3000, 1200, 0, 1800, 1200, 0] },
   { count := 16, width := 2, ok := railMvOk,
     deflt := [1400, 2000, 3600, 5500, 1800, 0, 3300, 3300, 0] },
   { count := 1, width := 2, ok := fun _ v => decide (v = 1800) || decide (v = 3000), deflt := [1800] },
   perIndex 16 1 (· ≠ 8) 1 16 [4, 8, 8, 16, 8, 8, 8, 8, 0, 8],
   perIndex 16 2 (· ≠ 8) 2 400 [24, 20, 40, 40, 30, 30, 30, 30, 0, 30, 50],
   perIndex 16 1 (· ≠ 8) 1 100 [5, 5, 5, 5, 5, 5, 5, 5, 0, 5],
   perIndex 16 1 (· < 4) 0 1 [0, 0, 0, 1, 0],
   perIndex 16 1 (· ≠ 8) 0 1 [1, 1, 1, 1, 1, 1, 1, 1, 0, 1],
   { count := 1, width := 1, ok := fun _ v => inRange 0 3 v || decide (v = 255), deflt := [255] },
   { count := 1, width := 1, ok := fun _ v => inRange 0 3 v || decide (v = 255), deflt := [255] },
   { count := 16, width := 1,
     ok := fun i v => if i ≥ 10 then inRange 0 9 v || decide (v = 255) else decide (v = 0),
     deflt := [0, 0, 0, 0, 0, 0, 0, 0, 0, 0, 255] },
   perIndex 16 1 (· ≠ 8) 0 4 [3, 3, 3, 3, 3, 3, 3, 3, 0, 3],
   perIndex 64 2 (fun i => i / 4 ≠ 8) 1 60000
     [8, 64, 512, 4096, 8, 64, 512, 4096, 8, 64, 512, 4096, 8, 64, 512, 4096,
      8, 64, 512, 4096, 8, 64, 512, 4096, 8, 64, 512, 4096, 8, 64, 512, 4096,
      0, 0, 0, 0, 8, 64, 512, 4096, 8, 64, 512, 4096, 8, 64, 512, 4096,
      8, 64, 512, 4096, 8, 64, 512, 4096, 8, 64, 512, 4096, 8, 64, 512, 4096],
   perIndex 4 2 (fun _ => true) 0 65535 [4, 1, 0, 0],
   single 1 0 2 0, single 1 20 80 40,
   { count := 16, width := 2, ok := railMvOk,
     deflt := [1100, 1800, 3300, 5000, 1500, 0, 3300, 3300, 0] }]

/-- One step of a sequence as an 8-byte value (R388). -/
def stepVal (op rail ilim value needs : Nat) : Int :=
  Int.ofNat (op + 2 ^ 8 * rail + 2 ^ 16 * ilim + 2 ^ 32 * value + 2 ^ 48 * needs)

/-- A sequence step uses only its own fields, and an operation of R388. -/
def stepOk (v : Int) : Bool :=
  let op := fieldByte v 0
  let rail := fieldByte v 1
  let ilim := fieldByte v 2
  let value := fieldByte v 4 + 256 * fieldByte v 5
  let needs := fieldByte v 6 + 256 * fieldByte v 7
  decide (rail ≤ 15) && decide (fieldByte v 3 = 0) &&
  match op with
  | 0 => decide (v = 0)
  | 1 => decide (ilim = 0) || (decide (2 ≤ ilim) && decide (ilim ≤ 25))
  | 2 => decide (ilim = 0) && decide (value = 0) && decide (needs = 0)
  | 3 => decide (ilim = 0) && decide (needs = 0) && decide (1 ≤ value) && decide (value ≤ 60000)
  | 4 => decide (ilim = 0) && decide (needs = 0) && decide (1 ≤ value) && decide (value ≤ 60000)
  | 5 => decide (rail = 0) && decide (ilim = 0) && decide (needs = 0) && decide (1 ≤ value) && decide (value ≤ 60000)
  | _ => false

/-- Pads a list of steps to 32 with zeros (R738). -/
def stepsPad (l : List Int) : List Int := l ++ List.replicate (32 - l.length) 0

/-- Factory sequence 0 (R401). -/
def factorySeq0 : List Int :=
  [stepVal 1 2 0 3300 0, stepVal 3 2 0 10 0, stepVal 5 0 0 2 0, stepVal 1 0 0 1100 4, stepVal 3 0 0 10 0,
   stepVal 5 0 0 13 0]

/-- Factory sequence 1 (R401). -/
def factorySeq1 : List Int := [stepVal 2 0 0 0 0, stepVal 5 0 0 1 0, stepVal 2 2 0 0 0]

/-- SEQ section (R404): scope of 2 to 7, `on_fail` of 0 to 7, then 32 steps of each. -/
def seqFields : List FieldSpec :=
  [perIndex 6 1 (fun _ => true) 0 1 [0], perIndex 8 1 (fun _ => true) 0 2 [0],
   { count := 256, width := 8, comp := true, ok := fun _ v => stepOk v,
     deflt := stepsPad factorySeq0 ++ stepsPad factorySeq1 ++ [0] }]

/-- A number that is a multiple of `step`, from `lo` to `hi`, stored in its own units. -/
def stepRange (lo hi step : Int) (v : Int) : Bool := inRange lo hi v && decide (v % step = 0)

/-- PATH section: `DC`, `PATH`, `PV`, `PRI`, `RES` (R449). -/
def pathFields : List FieldSpec :=
  [single 1 2 40 30,
   { count := 1, width := 2, ok := fun _ v => decide (v = 100) || decide (v = 500), deflt := [100] },
   single 1 2 30 10, single 1 210 240 220,
   single 1 180 250 230, single 2 190 260 235, single 1 120 190 175, single 2 150 350 300,
   single 2 155 380 330, single 2 1 1000 100, single 1 4 16 16,
   single 1 0 1 1, single 1 0 1 0, single 1 50 95 78, single 2 25 500 200, single 2 1 600 16, single 1 2 20 10,
   single 1 0 1 0, single 2 200 360 280, single 2 0 8760 168, single 1 1 50 20, single 2 1 500 100,
   single 2 200 360 320,
   single 1 0 1 1, single 1 40 100 96,
   { count := 1, width := 1, ok := fun _ v => decide (v = 0) || inRange 20 100 v, deflt := [80] },
   single 1 5 50 10, single 1 1 40 10, single 1 140 210 170, single 1 0 1 1]

/-- KIN section (R484). -/
def kinFields : List FieldSpec :=
  [single 1 0 1 0, single 1 1 8 4, single 2 0 4095 0, single 1 60 120 100, single 1 0 100 20, single 1 2 50 5,
   single 1 2 16 4, single 2 200 60000 2000, single 2 10 1000 50, single 1 1 50 5]

/-- CHG section (R516). `cv` is in mV, as the worked example of Recipes stores it; the range by chemistry (R489) is
checked beside the section. -/
def chgFields : List FieldSpec :=
  [single 1 0 1 1, single 1 0 2 0,
   { count := 1, width := 2,
     ok := fun _ v => decide (v = 4100) || decide (v = 4200) || decide (v = 4350) || decide (v = 3600) ||
       stepRange 2700 2850 10 v, deflt := [4200] },
   single 1 5 150 50, single 1 1 40 20, single 1 1 30 10, single 2 150 320 300, single 1 1 60 5, single 1 0 60 0,
   single 1 5 30 10, single 1 5 240 60, single 1 6 144 60,
   singleS 1 (-20) 65 0, singleS 1 (-20) 65 10, singleS 1 (-20) 65 45, singleS 1 (-20) 65 55,
   single 1 1 10 5, single 1 0 30 10,
   { count := 1, width := 1, ok := fun _ v => decide (v = 10) || decide (v = 100), deflt := [10] },
   single 2 3000 4500 3435, single 1 0 1 0, single 2 10 2000 50, single 2 10 2000 150, single 1 10 50 20,
   single 1 0 1 1,
   { count := 1, width := 2, ok := fun _ v => decide (v = 0) || inRange 10 3600 v, deflt := [60] }]

/-- GAUGE section (R550). -/
def gaugeFields : List FieldSpec :=
  [single 2 10 20000 1000, singleS 1 (-50) 50 0, single 1 0 1 1,
   perIndex 21 2 (fun _ => true) 1500 4500
     [3000, 3450, 3550, 3610, 3650, 3680, 3710, 3740, 3760, 3790, 3810, 3840, 3870, 3910, 3950, 3990, 4030, 4070,
      4110, 4150, 4200],
   singleS 1 (-100) 100 0, single 1 1 100 10, single 1 5 240 30, single 1 5 100 20, single 1 2 20 10,
   single 1 1 50 5, single 1 20 90 40, single 1 5 100 20, single 1 2 20 5, single 2 0 1000 200, single 1 5 20 10,
   single 2 0 5000 1000,
   { count := 1, width := 1, ok := fun _ v => decide (v = 0) || inRange 50 95 v, deflt := [70] },
   single 1 6 168 24]

/-- LAR section (R586). -/
def larFields : List FieldSpec :=
  [single 1 0 50 20, single 2 0 10000 50, single 2 1 1000 75, single 1 1 20 4, single 1 0 20 10, single 1 1 90 6,
   perIndex 96 2 (fun _ => true) 0 65535 [0], perIndex 16 4 (fun _ => true) 1 200000 [1000],
   perIndex 16 1 (fun _ => true) 0 1 [0], perIndex 16 1 (fun _ => true) 0 1 [0], single 1 0 40 0,
   { count := 1, width := 2, ok := fun _ v => decide (v = 0) || inRange 20 2000 v, deflt := [0] },
   single 1 0 15 0]

/-- A row word uses only its own bits (R596): bits 31:24 zero, `avg` not 3. -/
def adcRowOk (v : Int) : Bool := decide (0 ≤ v) && decide (v < 2 ^ 24) && decide (v / 2 ^ 22 % 4 ≠ 3)

/-- ADC section (R614). -/
def adcFields : List FieldSpec :=
  [{ count := 64, width := 4, comp := true, ok := fun _ v => adcRowOk v, deflt := [0] },
   perIndex 4 1 (fun _ => true) 1 15 [1], perIndex 4 1 (fun _ => true) 1 16 [1],
   perIndex 4 1 (fun _ => true) 0 5 [0], perIndex 4 2 (fun _ => true) 1 65535 [1],
   perIndex 4 2 (fun _ => true) 0 65535 [0],
   { count := 4, width := 1, ok := fun i v => inRange 0 3 v && decide (v ≠ i), deflt := [1, 0] },
   perIndex 4 1 (fun _ => true) 0 1 [0], perIndex 4 1 (fun _ => true) 0 15 [0],
   perIndex 4 1 (fun _ => true) 0 3 [0], perIndex 4 2 (fun _ => true) 0 4095 [0],
   perIndex 4 2 (fun _ => true) 0 4095 [4095]]

/-- DIG section (R638). -/
def digFields : List FieldSpec := [single 2 1 1000 100, single 2 1 1000 100]

/-- Every fault kind: source, kind, class floor, factory class (R651). -/
def faultKinds : List (Nat × Nat × Nat × Nat) :=
  [(1, 1, 0, 1), (1, 2, 1, 1), (1, 3, 0, 1), (1, 4, 1, 1), (1, 5, 0, 0),
   (2, 1, 2, 2), (2, 2, 2, 2), (2, 3, 2, 2), (2, 4, 1, 1), (2, 5, 1, 1), (2, 6, 1, 1), (2, 7, 2, 2), (2, 8, 2, 2),
   (2, 9, 4, 4), (2, 10, 0, 0), (2, 11, 1, 1), (2, 12, 0, 0),
   (3, 1, 1, 1), (3, 2, 2, 2), (3, 3, 3, 3), (3, 4, 1, 1), (3, 5, 0, 0),
   (4, 1, 1, 1), (4, 2, 0, 0), (5, 1, 2, 2), (5, 2, 0, 0)] ++
  [(6, 1, 2, 2), (6, 2, 1, 2), (6, 3, 2, 2), (6, 4, 0, 1), (6, 5, 2, 2), (6, 6, 2, 2), (6, 7, 0, 1), (6, 8, 2, 2),
   (7, 1, 0, 1), (7, 2, 0, 0),
   (8, 1, 1, 1), (8, 2, 0, 0), (8, 3, 2, 2), (8, 4, 1, 1), (8, 5, 2, 2), (8, 6, 2, 2), (8, 7, 1, 1), (8, 8, 1, 1),
   (8, 9, 0, 1), (8, 10, 2, 2), (8, 11, 2, 2), (8, 12, 1, 1),
   (9, 1, 0, 0), (9, 2, 0, 0), (9, 3, 1, 1), (9, 4, 1, 1), (9, 5, 1, 1)] ++
  [(10, 1, 2, 2), (10, 2, 2, 2), (10, 3, 2, 2), (10, 4, 2, 2), (10, 5, 4, 4), (10, 6, 2, 2), (10, 7, 2, 2),
   (10, 8, 1, 1), (10, 9, 0, 0),
   (11, 1, 0, 1), (11, 2, 0, 0), (11, 3, 0, 0), (11, 4, 1, 1), (11, 5, 0, 1),
   (12, 1, 1, 1), (12, 2, 0, 0), (12, 3, 1, 1), (13, 1, 0, 0), (13, 2, 0, 0), (14, 1, 1, 1), (14, 2, 0, 0),
   (15, 1, 2, 2), (15, 2, 1, 1), (15, 3, 0, 0), (15, 4, 0, 0), (15, 5, 0, 0), (15, 6, 0, 0), (15, 7, 0, 0)] ++
  [(16, 1, 2, 2), (16, 2, 2, 2), (16, 3, 1, 1), (16, 4, 2, 2), (16, 5, 3, 3), (16, 6, 1, 1), (16, 7, 1, 1),
   (16, 8, 2, 2), (17, 1, 4, 4), (17, 2, 0, 0), (17, 3, 1, 1), (17, 4, 0, 0),
   (18, 1, 2, 2), (18, 2, 4, 4), (18, 3, 3, 3), (18, 4, 1, 1), (18, 5, 2, 2), (18, 6, 1, 1), (18, 7, 3, 3),
   (19, 1, 0, 0), (19, 2, 0, 0), (19, 3, 0, 0), (19, 4, 0, 0)]

/-- An `FLT.map` entry (R738): its RSV bytes are 0, and it is unused, or names a listed source and kind with a class of 0 to 4. -/
def mapOk (v : Int) : Bool :=
  decide (fieldByte v 3 = 0) && decide (fieldByte v 6 = 0) && decide (fieldByte v 7 = 0) &&
  (decide (fieldByte v 0 = 0) ||
   (faultKinds.any (fun k => k.1 == fieldByte v 0 && k.2.1 == fieldByte v 1) && decide (fieldByte v 2 % 128 ≤ 4)))

/-- FLT section (R670). -/
def fltFields : List FieldSpec :=
  [{ count := 64, width := 8, comp := true, ok := fun _ v => mapOk v, deflt := [0] },
   single 2 0 65535 5, single 1 0 1 0, single 1 1 255 16]

/-- WD section: `WD`, `GWD` (R697). -/
def wdFields : List FieldSpec := [single 2 4 4096 256, single 1 1 7 3, single 2 10 10000 100]

/-- DBG section (R728). -/
def dbgFields : List FieldSpec := [single 1 0 15 0, single 2 60 3600 600, single 2 10 3600 60]

/-- The field lists of sections 1 to 15 (R735). -/
def sectionFields : List (List FieldSpec) :=
  [pwrFields, kprFields, roomFields, railFields, seqFields, pathFields, kinFields, chgFields, gaugeFields, larFields,
   adcFields, digFields, fltFields, wdFields, dbgFields]

end Sys2Proof.Machine
end

