-- ==== Sys2Proof/Machine/State.lean ====
section
/-! DEFINITION. The state of the VL4620 as plain data: every register, counter, buffer, mode and pin that the manual
gives the device, the keepers' private state with its checkpoints, and the queue of waiting commands. -/
namespace Sys2Proof.Machine

/-! ### Phases and power states (chapters 02, 03, 19) -/

/-- The power state a Batch runs in (R83); the codes of `PWR_QUERY` byte 0 are 0, 1, 2. -/
inductive PowerState where
  | run | doze | rest
  deriving DecidableEq, Repr

/-- Where the device is between power and power states (R83, R104, R106, R114, R222). -/
inductive Phase where
  /-- VSYS is below the POR threshold, or the SHIP or SEALED latch holds the device in POR (R101, R104). -/
  | por
  /-- Waiting for the start gate before step 2 (R106). -/
  | gate
  /-- Steps 2 to 9 of a start; step 8's sequence runs on 1.000 ms ticks (R114, R391). -/
  | starting
  /-- RUN, DOZE or REST: Rooms open and the Batch runs (R83). -/
  | open
  /-- LODGE, its power-down sequence still running (R94). -/
  | lodgeDown
  /-- LODGE with both keepers off and the Batch stopped (R94). -/
  | lodge
  /-- The SHIP power-down sequence runs before the latch is set (R100). -/
  | shipDown
  /-- SHIP: battery FET open, SHIP latch set (R100, R101). -/
  | ship
  /-- SEALED after a Grave fault (R659). -/
  | sealed
  /-- ROM Safe Hold: the Starter ROM serves Room 15 (R222). -/
  | romSafeHold
  /-- No keeper can start until the next POR: TEST read high (R59) or both keepers failed step 2 (R114). -/
  | dark
  deriving DecidableEq, Repr

/-- Power states, latches, causes and wake events (R83 to R125). -/
structure Power where
  phase       : Phase
  state       : PowerState
  shipLatch   : Bool
  sealedLatch : Bool
  resetCause  : Nat
  wakeCause   : Nat
  bootSeq     : Nat
  /-- A POR, brown-out or SHIP exit samples `RSEL2:0` at the start under way (R57). -/
  sampleRsel  : Bool
  /-- A low on `BTN_N` has been recognised since step 10 of the latest start, so a hold may restart the chip (R109). -/
  btnFresh : Bool
  /-- BAT as the AON node last saw it, mV: its supply (R37, R105). -/
  aonMv : Nat
  /-- Device time at which the start gate began timing (R106). -/
  gateSince : Nat
  /-- Instant of the latest 1.000 ms tick of step 8 or of ROM Safe Hold, in µs (R391, log entry 31). -/
  tickAt : Nat
  /-- The internal DOZE floor of the first Batches after step 10 (R90). -/
  bootFloor   : Bool
  bootFloorEnd : Nat
  /-- Device time of the edge at which LODGE began (R96). -/
  lodgeStart  : Nat
  /-- Wake mask and alarm armed for LODGE, and the events latched before LODGE is reached (R95), each as
  16 × (KEEP clock period) + wake code (R96). -/
  wakeArmed   : Bool
  wakeMask    : Nat
  wakeAlarm   : Nat
  wakeLatched : List Nat
  /-- KEEP clock period of the event that LODGE was left for, while events of that period still count (R96). -/
  exitPeriod : Option Nat
  /-- TEST read high at POR release (R59). -/
  testHigh    : Bool
  /-- The SEALED latch has been cleared by this qualifying input, 1 to 3, and `GRAVE_EXIT` is to be logged at step 3;
  else 0 (R651, R661). -/
  graveExit   : Nat
  deriving DecidableEq, Repr

/-- Balls driven by the device, and input levels that other steps need (chapter 02). -/
structure Pins where
  vioGood  : Bool
  /-- VSYS has reached 1.20 V in this POR, so `HRST_N` is driven (R65). -/
  hrstPowered : Bool
  /-- `HRST_N` is driven low. -/
  hrstLow  : Bool
  /-- `BGNT` driven high by the burst hardware (R63). -/
  bgnt     : Bool
  /-- PG0 to PG3 held low until the selected Recipe is verified (R67). -/
  pgHeld   : Bool
  /-- The TAP controller is in Test-Logic-Reset (R72). -/
  tapReset : Bool
  deriving DecidableEq, Repr

/-! ### The Batch (chapter 04) -/

/-- Timing mode of the Batch and of device time (R127). -/
inductive TimingMode where
  | free | disciplined | holdover
  deriving DecidableEq, Repr

/-- Bubble causes (R146), in the order of recording of R147. -/
inductive BubbleCause where
  | takeover | debugHalt | overrun | recipe
  deriving DecidableEq, Repr

/-- The Batch timer and the Batch supervisor's registers (R126 to R153). -/
structure BatchTimer where
  number   : BitVec 48
  /-- A Batch has run since POR: the first one is number 0 (R112). -/
  used     : Bool
  /-- Device time in µs (R134, R135). -/
  time     : Nat
  /-- Part of a µs carried while device time advances in KEEP clock periods, in 1/512 µs (R135). -/
  timeFrac : Nat
  edgeTime : Nat
  /-- The current Batch lasts 16 ms (R137). -/
  rest     : Bool
  mode     : TimingMode
  xtalQualified : Bool
  /-- The crystal qualified since the latest edge, so the mode changes at the next edge (R130). -/
  qualifyPending : Bool
  /-- The KEEP clock runs from the RC oscillator (R132). -/
  rcClock  : Bool
  /-- Crystal reports made while the Batch was stopped, raised at the next Batch (R133): true for OK. -/
  xtalReports : List Bool
  /-- The qualification that changes the mode at the next edge is reported already, having come in LODGE (R133). -/
  okSaid : Bool
  /-- Divider setting, as 48 MHz cycles per second of Batch time (R129). -/
  divider  : Nat
  newDivider : Nat
  bubble   : Option BubbleCause
  bubbles  : Nat
  maxRun   : Nat
  curRun   : Nat
  lastBubble : BitVec 48
  cntTakeover : Nat
  cntOverrun  : Nat
  cntRecipe   : Nat
  cntDebug    : Nat
  deriving DecidableEq, Repr

/-- The next part of a Batch's keeper work that is still to be done (R142). -/
inductive WorkStage where
  /-- The takeover procedure has begun (R182). -/
  | takeover
  /-- Step 4, from the executions on. -/
  | execute
  /-- The rest of step 4, and step 5, which ends with the publish. -/
  | targets
  /-- Steps 6 and 7. -/
  | complete
  /-- The commit in the closing window. -/
  | commit
  | idle
  deriving DecidableEq, Repr

/-- How far the active keeper's work of a Batch has come (R138 to R144). -/
structure Supervisor where
  workDone   : Bool
  stage      : WorkStage
  /-- How far the work of the current Batch comes before its marks, as its edge said. -/
  ext        : WorkExtent
  /-- The Batch whose work is being finished, and the device time of its start edge (R143, R390). -/
  workBatch  : BitVec 48
  workEdge   : Nat
  /-- A shadow set was published in this Batch before the budget mark (R138). -/
  published  : Bool
  /-- A shadow set published after the budget mark is held for the following edge (R138). -/
  publishHeld : Bool
  /-- The commit word of this Batch was accepted (R164). -/
  committed  : Bool
  budgetPassed : Bool
  deadlinePassed : Bool
  /-- The Batch is a run of overruns already reported (R145). -/
  overrunReported : Bool
  /-- A halt of the active keeper has fallen in a Batch whose work is not done, and the work waits for its release (R149). -/
  haltCut : Bool
  /-- Number of bubble Batches still to come of a takeover (R180). -/
  takeoverLeft : Nat
  /-- The standby was powered off at the start edge of the current Batch (R180). -/
  standbyOff : Bool
  missed     : Nat
  deriving DecidableEq, Repr

/-! ### Keepers (chapter 05) -/

/-- Roles of a keeper (R157). -/
inductive Role where
  | offline | active | standbyHot | standbyCold | quarantined
  deriving DecidableEq, Repr

/-- Kinds of swap (R177). -/
inductive SwapKind where
  | hwTakeover | commanded | handover | heartbeat
  deriving DecidableEq, Repr

/-- What an OFFLINE keeper is doing (R157, R191, R196): its image is accepted and its first hot copy still to be read, in
`absorbing`. -/
inductive OfflineUse where
  | nothing | restarting | selfTest | absorbing
  deriving DecidableEq, Repr

/-- One keeper: its role and what belongs to it alone (R157, R190 to R193). -/
structure KeeperState where
  role     : Role
  offUse   : OfflineUse
  /-- Step 2 of the Starter ROM passed at the latest start or restart (R114). -/
  romOk    : Bool
  /-- The slot whose image it runs, 0 to 3 (R214). -/
  slot     : Option Nat
  /-- Header and body of the image in its private SRAM, which it runs from (R22, R212); empty with no image. -/
  image    : List Byte
  /-- Number of the checkpoint that its hot copy holds, none with no hot copy (R166 to R168). -/
  hot      : Option (BitVec 48)
  /-- Powered core: false while off in REST with its SRAM retained (R172). -/
  powered  : Bool
  /-- Device times of its latest failures, newest first, at most 3 (R192). -/
  failTimes : List Nat
  /-- Halted by the debug port (R724). -/
  halted   : Bool
  deriving DecidableEq, Repr

/-- Latest granted swap (R197). -/
structure LastSwap where
  grantBatch : BitVec 48
  kind       : Option SwapKind
  cold       : Bool
  bubbles    : Nat
  newActive  : Keeper
  deriving DecidableEq, Repr

/-- The keepers, the swap arbiter and the keeper registers (R157 to R202). -/
structure Keepers where
  a : KeeperState
  b : KeeperState
  /-- The keeper named by the role register as ACTIVE, valid while one role is ACTIVE. -/
  activeKeeper : Keeper
  busy       : Bool
  cold       : Bool
  swapSeq    : Nat
  lastSwap   : LastSwap
  ckptBatch  : BitVec 48
  ckptBuffer : Bool
  /-- Batch number at which the hold-off ends (R178). -/
  holdoffEnd : Nat
  /-- Rooms whose COMMANDED input is raised (R173). -/
  commanded  : List RoomId
  handover   : Option Bool
  hwTakeover : Bool
  heartbeat  : Bool
  /-- Device time at which the next self-test is due (R196). -/
  selfTestDue : Nat
  selfTestWanted : Bool
  selfTestStart : Nat
  deriving DecidableEq, Repr

/-! ### Images (chapter 06) -/

/-- An image stage (R223 to R227). `written` lists the image offsets of written words, with their bytes in NVM. -/
structure Stage where
  keeper   : Keeper
  slot     : Nat
  total    : Nat
  /-- Offsets (multiples of 4) of the words written since OPEN. -/
  written  : List Nat
  /-- Device time of the latest request for it (R226). -/
  lastUse  : Nat
  deriving DecidableEq, Repr

/-- Image state that is not in NVM (R214 to R232). -/
structure Images where
  /-- Verdict of each slot since the latest start, none when not verified (R232). -/
  verdicts : Vector (Option Nat) 4
  trialA   : Bool
  trialB   : Bool
  /-- Slot erase of OPEN under way: keeper, total, and the room and tag of the request. -/
  erasing  : Option Stage
  stage    : Option Stage
  /-- A CLOSE waits for this keeper's restart into this trial slot (R227), and an ABORT for a restart (R230). -/
  closeWait : Option (Keeper × Nat)
  abortWait : Option Keeper
  /-- The manifest copy that a COMMIT writes, and its request (R229). -/
  commit   : Option (List Byte × ReqId)
  deriving DecidableEq, Repr

/-! ### Rooms and the host link (chapters 07, 08) -/

/-- State of a Room (R254). -/
inductive RoomSt where
  | closed | opened | parked
  deriving DecidableEq, Repr

/-- Registers of one Room window that are not RAM (R291, R296, R303). -/
structure RoomRegs where
  st       : RoomSt
  version  : Nat
  session  : Word
  /-- `ROOM.IDENT` and `ROOM.QUOTA.quota` as copied at step 10 and at a switch (R292): port 0 NONE, 1 SPI, 2 I²C, 3 UART. -/
  idPort   : Nat
  idPriv   : Nat
  idIrq    : Nat
  quota    : Nat
  cqWait   : Bool
  crcErrs  : Nat
  frameErrs : Nat
  ringErrs : Nat
  linkErr  : Bool
  sqTail   : Byte
  sqHead   : Byte
  cqHead   : Byte
  cqTail   : Byte
  evFlags  : Word
  evEnable : Word
  /-- A `BYE` or Room reset closes the Room at the edge ending this Batch (R257, R259). -/
  closing  : Option RoomSt
  deriving DecidableEq, Repr

/-- Framing state of the ports (R279, R280, R282). -/
structure LinkState where
  spiErr   : Bool
  i2cErr   : Bool
  /-- Where the next address-less I²C read starts: Room + 16 × offset (R282). -/
  i2cNext  : Nat
  /-- Bytes sent by the device in its latest response on the service port (R288). -/
  svResponse : List Byte
  /-- Bytes that `SDO` drove in the latest SPI frame, the first first; none where it was high-impedance (R42, R278). -/
  spiSdo   : List Byte
  /-- What the device answered to each byte sent in the latest I²C transfer, the device address first: true for an acknowledge
  (R281, R284). -/
  i2cAcks  : List Bool
  /-- Bytes that the device sent in the latest I²C transfer (R282). -/
  i2cData  : List Byte
  deriving DecidableEq, Repr

/-- The status mirror (R293). -/
structure Mirror where
  batch    : BitVec 48
  written  : BitVec 48
  railEn   : BitVec 16
  railPg   : BitVec 16
  railProof : BitVec 16
  railOff  : BitVec 16
  railMv   : Vector Nat 16
  batMv    : Nat
  vsysMv   : Nat
  batUa    : Int
  soc      : Nat
  batTemp  : Int
  chg      : Nat
  src      : Nat
  capMv    : Nat
  pwr      : Nat
  cond     : Nat
  fault    : Nat
  ledger   : Word
  deriving DecidableEq, Repr

/-! ### Requests (chapter 09) -/

/-- States of a request record (R322). -/
inductive RecState where
  | taken | waiting | done
  deriving DecidableEq, Repr

/-- Intent state of a once-only record (R337). -/
inductive Intent where
  | none | open (passed : Bool) | closed
  deriving DecidableEq, Repr

/-- The content of a completion that a record holds (R314). -/
structure Compl where
  status   : Byte
  slid     : Bool
  dup      : Bool
  result   : List Byte
  deriving DecidableEq, Repr

/-- A request record with its argument block (R320, R321). -/
structure Rec where
  id       : ReqId
  opcode   : Nat
  flags    : Nat
  len      : Nat
  fp       : Word
  /-- The argument bytes, where `len` is not 0. They stay with the record after the release of their block, for a replay from
  an older checkpoint (R182, R321, log entry 101). -/
  args     : Option (List Byte)
  /-- The argument block is held (R321). -/
  held     : Bool
  st       : RecState
  intent   : Intent
  takenBatch : BitVec 48
  execBatch : Option (BitVec 48)
  compl    : Option Compl
  producedTime : Nat
  /-- Its number among the Room's final completions of records, once produced (R333). -/
  index    : Nat
  /-- The value `CQ_TAIL` had for the slot of its final completion, once posted (R323). -/
  postedAt : Option Byte
  /-- What a WAITING command still needs of its execution (model field: numbers its home rule gives). -/
  wait     : List Nat
  /-- Its final completion carries `LATE`: a new active keeper posts what the old one executed (R317, R342). -/
  late     : Bool
  /-- It was taken while R185 applies, and its opcode is refused with `BUSY` (R185, R200). -/
  busy     : Bool
  /-- Its record's index in the request table RAM, and its argument block's index among the 128 of its Room while it holds
  one (R321, R324, R651). -/
  slot     : Nat
  block    : Nat
  /-- Its record or block suffered an uncorrectable ECC error; whether `tag` and `seq` still read (R767). -/
  ecc      : Option Bool
  deriving DecidableEq, Repr

/-- A remembered request (R333). -/
structure Dedup where
  tag      : Half
  seq      : Half
  fp       : Word
  compl    : Compl
  producedTime : Nat
  index    : Nat
  deriving DecidableEq, Repr

/-- A completion of a record that waits to be posted (R300): the final one, or an interim `ACCEPTED`. -/
structure PostItem where
  id       : ReqId
  compl    : Compl
  final    : Bool
  quiet    : Bool
  /-- Batch in which it was produced (R317). -/
  batch    : BitVec 48
  deriving DecidableEq, Repr

/-- Shared request table RAM (R320 to R334). -/
structure ReqTable where
  /-- Records in the order taken (R325, R328). -/
  recs     : List Rec
  dedup    : Vector (List Dedup) 16
  /-- Final completions of records produced so far in each Room (R333). -/
  produced : Vector Nat 16
  /-- Completions to be posted, in the order produced (R326). -/
  waiting  : List PostItem
  deriving DecidableEq, Repr

/-! ### Rails (chapter 10) -/

/-- Rail states (R357). -/
inductive RailSt where
  | off | proofing | proofed | sagging | tripped | held
  deriving DecidableEq, Repr

/-- A rail's applied (or shadow) target (R381). -/
structure RailTarget where
  en    : Bool
  mv    : Nat
  ilim  : Nat
  deriving DecidableEq, Repr

/-- The hardware of one rail (R357 to R373). -/
structure RailHw where
  st       : RailSt
  /-- Setpoint in force while enabled; kept as the last applied setpoint when off (R388 WAIT_LOW). -/
  mv       : Nat
  /-- Ladder count and last trip code (R370, R378). -/
  ladder   : Nat
  lastTrip : Nat
  /-- Device time at which the retry delay passes, and whether it has passed (R370). -/
  retryAt  : Nat
  retryDue : Bool
  /-- Its DIE_OT or thermal trip waits for a sensor below 120 °C (R368, R646). -/
  thermalHold : Bool
  /-- Device time at which its state began: proofing, PROOFED or SAGGING (R358, R365, R371). -/
  since    : Nat
  /-- The reference moves from `ref0` mV, which it had at device time `refAt`, to its goal at `slew` (R358, R363, R366). -/
  ref0     : Nat
  refAt    : Nat
  /-- Lowest and highest setpoint of the move under way (R366). -/
  lo       : Nat
  hi       : Nat
  /-- In current limit, in foldback (R378 `cond`). -/
  inLimit  : Bool
  foldback : Bool
  /-- Output measured by the monitor, mV (R378). -/
  meas     : Nat
  /-- Enabled at least once since the latest start (R388). -/
  everOn   : Bool
  deriving DecidableEq, Repr

/-- Rail hardware outside the single rails. -/
structure RailBlock where
  rails    : Vector RailHw 16
  /-- Thermal warning of the 7 sensors (R368): BUCK1, BUCK2, BB3, PAB, LDO1/2, LDO3/4, LSW. -/
  thermWarn : BitVec 7
  /-- PA takes its input from the reservoir (R351). -/
  paReservoir : Bool
  /-- LDO6's enable by the angle engine (R355). -/
  twDuty   : Bool
  /-- The rails as step 1 of the latest working Batch sampled them (R392), and what `RAIL_QUERY` reports of each (R378). -/
  seen     : Vector RailHw 16
  query    : Vector (List Byte) 16
  deriving DecidableEq, Repr

/-! ### Votes and sequences (chapter 11) -/

/-- Who holds a vote (R379): a Room, the Recipe, the device for a hold period (R188, R221, R385) or while Safe Hold
applies (R656), or the device for a supplied rail (R383). A hold vote names the Batch at whose end it is withdrawn, 0 until
the first normal Batch of its period is known. The burst vote is held by the burst hardware itself (R572). -/
inductive VoteHolder where
  | room (n : RoomId) | base | hold (ends : Nat) | safe | supply
  deriving DecidableEq, Repr

/-- A vote on a rail (R380). -/
structure Vote where
  holder : VoteHolder
  rail   : RailId
  mv     : Nat
  code   : Nat
  deriving DecidableEq, Repr

/-- Why a sequence runs (R387, R752). -/
inductive SeqOrigin where
  | start | down | guest (id : ReqId) | switch
  deriving DecidableEq, Repr

/-- The running sequence (R390 to R398). -/
structure SeqRun where
  num      : Nat
  origin   : SeqOrigin
  pc       : Nat
  /-- Device time of the start of the Batch in which the current waiting step was reached. -/
  reached  : Option Nat
  failed   : BitVec 16
  failStep : Option Nat
  /-- Rails on which the run placed votes that still stand, in order of placement. -/
  placed   : List RailId
  steps    : Nat
  skips    : Bool
  /-- Outcome to report once the unwind ends (R396, R407). -/
  unwinding : Option Nat
  deriving DecidableEq, Repr

/-- A pending `RAIL_SCHED` (R402). -/
structure Sched where
  id     : ReqId
  rail   : RailId
  enable : Bool
  mv     : Nat
  code   : Nat
  batch  : Nat
  deriving DecidableEq, Repr

/-! ### Power path (chapter 12) -/

/-- Battery FET modes (R416). -/
inductive FetMode where
  | off | supply | charge
  deriving DecidableEq, Repr

/-- PV boost modes (R451). -/
inductive PvMode where
  | focv | fixed | off
  deriving DecidableEq, Repr

/-- A passivation pulse under way (R439, R453). -/
structure Pulse where
  /-- The record that asked for it: none for a scheduled pulse. -/
  req    : Option ReqId
  start  : Nat
  before : Nat
  ma     : Nat
  ms     : Nat
  /-- It is the 60 s repeat (R439). -/
  rep    : Bool
  deriving DecidableEq, Repr

/-- The power path hardware (R410 to R447). -/
structure Path where
  fet        : FetMode
  /-- Opening cause code 1 to 4, 0 when not opened by one (R417). -/
  fetCause   : Nat
  /-- Device times of over-current openings within 60 s, newest first (R419). -/
  ocTimes    : List Nat
  ocHeld     : Bool
  /-- `BATSNS` has held `PATH.bat_recover` for 1 s, measured in hardware (R418, R511). -/
  fetReady   : Bool
  dcValid    : Bool
  /-- Device time at which DCIN last changed its validity. -/
  dcSince    : Nat
  /-- DCIN ceased to be valid, and the UART Rooms have not been reset for it (R238). -/
  dcLost     : Bool
  dcOv       : Bool
  /-- Detection result code (R426), detected limit in mA, and the BC 1.2 result found since DCIN became valid (R427). -/
  dock       : Nat
  dockMa     : Nat
  bcResult   : Option Nat
  cc2        : Bool
  vsysOv     : Bool
  /-- Latest open-circuit sample and `PVIN` regulation point, mV (R431). -/
  pvVoc      : Nat
  pvReg      : Nat
  /-- Device time at which the boost next stops for an open-circuit sample (R431). -/
  pvAt       : Nat
  pvCold     : Bool
  /-- The kinetic clamp of R434 is on. -/
  clamp      : Bool
  priInUse   : Bool
  pulse      : Option Pulse
  /-- Device times of the latest pulse and of the next scheduled one, a pulse that fell due in LODGE or a start, and the
  repeat with its current and duration (R439). -/
  pulseLast  : Nat
  pulseAt    : Nat
  pulseDue   : Bool
  repeatAt   : Option (Nat × Nat × Nat)
  priLoad    : Nat
  resCharging : Bool
  resImbal   : Bool
  resOv      : Bool
  deriving DecidableEq, Repr

/-! ### Angle engine (chapter 13) -/

/-- Actions of an event (R467). -/
inductive EvAction where
  | nop | gateOn | gateOff | adc | mark
  deriving DecidableEq, Repr

/-- A mark of the mark log (R474). -/
structure Mark where
  time  : Nat
  count : BitVec 16
  tag   : Byte
  rev   : Bool
  deriving DecidableEq, Repr

/-- The angle engine (R457 to R482). -/
structure Kinetic where
  counter  : BitVec 16
  synced   : Bool
  /-- Present direction is reverse. -/
  rev      : Bool
  /-- Position of the latest edge, 0 to 95, meaningful while synchronised. -/
  pos      : Nat
  /-- Levels of `TWA` and `TWB` as last accepted. -/
  lvlA     : Bool
  lvlB     : Bool
  /-- Whether any edge was accepted since the sensors were last powered. -/
  seen     : Bool
  /-- Times and positions of the latest edges in the present direction, newest first, at most 5 (R459). -/
  hist     : List (Nat × Nat)
  /-- `TWA` intervals ending at the latest edges, newest first: level and length, for R462. -/
  aIntervals : List (Bool × Nat)
  /-- Device time of the latest `TWA` edge, none after a reversal, a stall or a loss of synchronisation. -/
  lastEdgeA  : Option Nat
  lastEdge : Nat
  stopped  : Bool
  /-- Device time since which the rotor is stopped (R465). -/
  stopTime : Nat
  twCont   : Bool
  /-- Last duty-cycled sample of the inputs, and device time of the latest duty-cycled enable of LDO6 (R465). -/
  twSample : Option (Bool × Bool)
  twAt     : Nat
  /-- An illegal transition has not been followed by a new synchronisation (R466). -/
  sensorBad : Bool
  lowSpeed : Bool
  overspeed : Bool
  ceiling  : Bool
  staleEdges : Nat
  stale    : Bool
  /-- Active event table, entries 0 to 63 (R467). -/
  table    : List Word
  gates    : BitVec 6
  /-- The rectifier was ACTIVE at the latest evaluation (R476). -/
  active   : Bool
  resyncs  : Nat
  reversals : Nat
  cuts     : Nat
  passFired : Nat
  passDropped : Nat
  marks    : Nat
  markLog  : List Mark
  deriving DecidableEq, Repr

/-- A user entry of the event table and the Room that holds it (R487). -/
structure UserEntry where
  room : RoomId
  num  : Nat
  word : Word
  deriving DecidableEq, Repr

/-! ### Charger (chapter 14) -/

/-- Charger phases (R496), with codes 0 to 10 in this order. -/
inductive ChgPhase where
  | idle | qualify | precharge | fast | taper | terminate | topoff | done | recharge | suspended | fault
  deriving DecidableEq, Repr

/-- Temperature zones (R501), codes 0 to 4. -/
inductive Zone where
  | cold | cool | normal | warm | hot
  deriving DecidableEq, Repr

/-- One Room's `CHG_SET` (R518). -/
structure ChgSet where
  room    : RoomId
  inhibit : Bool
  cap     : Nat
  deriving DecidableEq, Repr

/-- The charger hardware (R489 to R519). -/
structure Charger where
  phase      : ChgPhase
  zone       : Zone
  ntcOpen    : Bool
  ntcShort   : Bool
  /-- Latched kinds, bits 0 to 6 as `CHG_QUERY` byte 7 (R517). -/
  latched    : BitVec 8
  /-- The FET was OFF when PRECHARGE began (R494, R498). -/
  preFetOff  : Bool
  /-- Timers in µs of device time: precharge, fast, top-off (R504, R505). -/
  tPre       : Nat
  tFast      : Nat
  tTop       : Nat
  /-- Device time at which FAST or RECHARGE was entered, for the qualifier of `CHG_DONE`. -/
  started    : Nat
  /-- Harvest charging present (R495). -/
  harvest    : Bool
  /-- The battery has qualified for 1 s since the removal (R511). -/
  requalified : Bool
  /-- TERMINATE was entered through R500, without `CHG_DONE`. -/
  viaZone    : Bool
  terminations : Nat
  recharges  : Nat
  /-- `BATSNS` at the previous Batch edge (R508 route 3). -/
  lastBatsns : Nat
  /-- Faults latched in LODGE, reported at the first Batch after the exit: kind and qualifier (R513). -/
  lodgeFaults : List (Nat × Nat)
  /-- Device time at which the present zone took effect (R498). -/
  zoneSince  : Nat
  /-- A removal was declared, and charging is not yet permitted to restart (R511, R546). -/
  removed    : Bool
  /-- Device time since which what R497 asks of the device's own state has held, the latched faults apart, none while it does not
  hold; and since which no charger fault is latched. -/
  okSince    : Option Nat
  clearSince : Nat
  deriving DecidableEq, Repr

/-! ### Gauge (chapter 15) -/

/-- Sampling modes (R525). -/
inductive GaugeMode where
  | off | full | sipping | lodge
  deriving DecidableEq, Repr

/-- Validity (R548), codes 0 to 2. -/
inductive Validity where
  | none | seeded | anchored
  deriving DecidableEq, Repr

/-- The gauge hardware and its KEEP-domain snapshot (R522 to R532, R545). -/
structure GaugeHw where
  mode       : GaugeMode
  /-- µAs, a 64-bit signed count (R522). -/
  integ      : BitVec 64
  extrap     : Nat
  /-- Mean of the latest window, µA, and the device time of its end. -/
  lastMean   : Int
  lastWindow : Nat
  offset     : Int
  lodgeFast  : Bool
  /-- When the next window of SIPPING or LODGE mode ends, and before which device time no autozero ends (R524, R525, R527). -/
  winNext    : Nat
  azNext     : Nat
  /-- In FULL mode, since when no second's mean of 1 mA or more has been seen; in SIPPING, when it was entered (R526). -/
  lowFrom    : Nat
  /-- `BATSNS` and temperature (0.1 °C) of the latest LODGE window of the present or latest LODGE (R532). -/
  lodgeWin   : Option (Nat × Int)
  /-- For how long the current has stayed below `GAUGE.relax_ua`, µs (R532). -/
  relaxTime  : Nat
  /-- Sum and number of the `NTC` samples of the current hour, 0.1 °C, when the next is due, and the hour's end (R539). -/
  tempSum    : Int
  tempN      : Nat
  tempNext   : Nat
  hourEnd    : Nat
  deriving DecidableEq, Repr

/-- The learning reference and ages held by the gauge record (R547): the learned FCC in 10⁻¹² A·s, E in 10⁻⁶ days, EFC
in 10⁻¹⁵ cycles, the extrapolated charge in µAs. -/
structure GaugeRec where
  learned  : Nat
  /-- Model value M at the learning reference, in 10⁻⁹. -/
  mRef     : Nat
  e        : Nat
  efc      : Nat
  extrap   : Nat
  learns   : Nat
  deriving DecidableEq, Repr

/-- The internal estimate kept by the active keeper (R529 to R548). -/
structure Gauge where
  /-- Remaining charge and full-charge capacity in 10⁻¹² A·s. -/
  q        : Nat
  fcc      : Nat
  /-- Reported state of charge, in parts of 6 × 10¹⁰. -/
  reported : Nat
  validity : Validity
  integUsed : BitVec 64
  /-- Device time of the latest computation of the reported value (R542). -/
  reportTime : Nat
  record   : GaugeRec
  /-- Device time at which the copy in force was written, or of the start that read it (R547). -/
  recordTime : Nat
  /-- Previous learning point (R536): its state of charge in parts of 6 × 10¹⁰ and device time, then net counted charge
  since it (10⁻¹² A·s), the extrapolated-charge count at it, and whether a reseed or SOC followed it, and its zone was bad. -/
  learnSoc : Option Nat
  learnTime : Nat
  learnNet : Int
  learnExtrap : Nat
  learnReseed : Bool
  learnZoneBad : Bool
  sohLow   : Bool
  /-- Device time of the latest OCV correction, or reading that one discarded (R533). -/
  ocvAt    : Nat
  /-- The cell was relaxed at the latest LODGE window of the LODGE just left (R533). -/
  lodgeOcv : Bool
  /-- The gauge is to be seeded at the first Batch at which the FET is closed (R544). -/
  seedDue  : Bool
  deriving DecidableEq, Repr

/-- What the KEEP domain snapshot holds (R545). -/
structure GaugeSnap where
  q        : Nat
  fcc      : Nat
  reported : Nat
  validity : Validity
  integ    : BitVec 64
  deriving DecidableEq, Repr

/-! ### Larder (chapter 16) -/

/-- A reservation (R562). -/
structure Reservation where
  handle  : Nat
  /-- The Room it belongs to; none for the debug port's (R725). -/
  room    : Option RoomId
  app     : Nat
  start   : Nat
  stop    : Nat
  /-- Power in 0.1 mW. -/
  mw      : Nat
  /-- Energy of the activity, 10⁻¹⁵ J (R562). -/
  energy  : Nat
  begun   : Bool
  deriving DecidableEq, Repr

/-- Pair policies (R576). -/
inductive Policy where
  | slide | abandon | either
  deriving DecidableEq, Repr

/-- State of one burst entry (R570 to R576). -/
inductive EntrySt where
  | armed | running | resolved (code : Nat)
  deriving DecidableEq, Repr

/-- One entry of the burst hardware (R570). -/
structure BurstEntry where
  batch   : Nat
  len     : Nat
  mv      : Nat
  policy  : Policy
  /-- Device time of the scheduled start edge, and slip in ms once started. -/
  sched   : Nat
  slip    : Nat
  st      : EntrySt
  deriving DecidableEq, Repr

/-- The burst hardware (R570 to R584). -/
structure BurstHw where
  first   : Option BurstEntry
  second  : Option BurstEntry
  raw     : Bool
  /-- Cause code of the latest bubble that swallowed an entry (R579). -/
  cause   : Nat
  breqLatched : Bool
  breqHigh : Bool
  /-- Outcome pulses on `BSTAT`: code, which is the width in ms, and device time at which it rises (R575); latest
  first. -/
  pulses  : List (Nat × Nat)
  /-- Outcomes not yet read by the keeper (R579). -/
  unread  : List Nat
  /-- Device time at which `BGNT` rose for the running burst (R573). -/
  riseAt  : Nat
  deriving DecidableEq, Repr

/-- The granted pair in the keeper's state (R567, R588). -/
structure Pair where
  room   : RoomId
  req    : Option ReqId
  handle : Nat
  vt     : Nat
  deriving DecidableEq, Repr

/-- The Larder (R553 to R591). -/
structure Larder where
  /-- Forecast bins in nJ. -/
  bins     : List Nat
  /-- Measured energy (pJ) and observed time (µs) of the current bin, and its number counted from time of day 0. -/
  measured : Nat
  observed : Nat
  curBin   : Nat
  lastAdd  : Option Nat
  /-- Offset from device time to time of day, µs; none while unknown (R559). -/
  tod      : Option Nat
  reservations : List Reservation
  nextHandle : Nat
  pair     : Option Pair
  deriving DecidableEq, Repr

/-! ### Measurement (chapter 17) -/

/-- Configuration of a sampling group (R614, R616). -/
structure AdcCfg where
  mask    : Nat
  rows    : Nat
  trig    : Nat
  div     : Nat
  delay   : Nat
  cmpSrc  : Nat
  limEn   : Bool
  limRow  : Nat
  limConv : Nat
  limLo   : Nat
  limHi   : Nat
  deriving DecidableEq, Repr

/-- A complete set as kept by the hardware (R606). -/
structure AdcSet where
  /-- Codes, row by row, one for each converter of the mask and 0xFFFF otherwise. -/
  codes   : List Nat
  time    : Nat
  /-- Fraction of the start µs, and start latency, in 48 MHz cycles. -/
  frac    : Nat
  latency : Nat
  mask    : Nat
  rows    : Nat
  trig    : Nat
  angle   : Nat
  outside : Bool
  deriving DecidableEq, Repr

/-- What a triggered set latched (R598, R599). -/
structure AdcRun where
  cfg     : AdcCfg
  rowWords : List Word
  /-- Trigger code, angle counter at the trigger, and its device time in 48 MHz cycles. -/
  trig    : Nat
  angle   : Nat
  trigC   : Nat
  /-- The set has begun, at a device time in 48 MHz cycles, with a start latency. -/
  started : Bool
  startC  : Nat
  latency : Nat
  deriving DecidableEq, Repr

/-- One sampling group (R598 to R607). -/
structure AdcGroup where
  cfg      : AdcCfg
  rowWords : List Word
  run      : Option AdcRun
  kept     : Option AdcSet
  seq      : Nat
  overlaps : Nat
  /-- Triggers dropped in the current Batch, and whether `ADC_OVERLAP` was raised in it (R602). -/
  overBatch : Nat
  /-- Result of the latest limit check since the group was armed: true when outside. -/
  lastCheck : Option Bool
  /-- Device time, in 48 MHz cycles, at which its latest set ended. -/
  doneC    : Nat
  deriving DecidableEq, Repr

/-- The Room holding a group and what it set (R608). -/
structure AdcHold where
  room     : RoomId
  cfg      : AdcCfg
  rowWords : List Word
  deriving DecidableEq, Repr


/-- The ADC hardware (R592 to R609): groups 0 to 3, and the groups that wait for their next `COMPARE` check (R604). -/
structure Adc where
  groups   : Vector AdcGroup 4
  deriving DecidableEq, Repr

/-! ### Digest engine and key store (chapter 18, R708) -/

/-- The two SHA-256 states of a loaded key slot (R621): after the ipad block and after the opad block. -/
structure SlotKeys where
  inner : List Word
  outer : List Word
  deriving DecidableEq, Repr

/-- The digest engine (R624 to R637). -/
structure Digest where
  /-- `DIG.CLAIM` (R624). -/
  claim    : Byte
  /-- Device times at which the claim was taken and of the holder's latest write (R631). -/
  claimTime : Nat
  lastWrite : Nat
  running  : Bool
  hmac     : Bool
  slot     : Nat
  foreign  : Bool
  overrun  : Bool
  err      : Nat
  /-- Device reservation (R634). -/
  resv     : Bool
  count    : BitVec 48
  /-- Bytes absorbed by the running message, in order. -/
  msg      : List Byte
  rSeq     : Half
  rSource  : Byte
  rHmac    : Bool
  rSlot    : Nat
  result   : List Byte
  deriving DecidableEq, Repr

/-- The key store in the Config region (R708, R715). -/
structure KeyStore where
  slots    : Vector (Option SlotKeys) 8
  pubKeys  : Vector (Option (List Byte)) 2
  deviceId : List Byte
  challenges : Dword
  /-- A `DIG_KEYLOAD` write under way: the request, its slot and the states to write, none to erase (R639). -/
  loading  : Option (ReqId × Fin 8 × Option SlotKeys)
  deriving DecidableEq, Repr

/-! ### Fault collector (chapter 19) -/

/-- Fault classes C0 to C4 (R653). -/
inductive Cls where
  | note | warn | trip | hold | grave
  deriving DecidableEq, Repr

/-- State of one dual-rail pair (R644): the wires as true and complement, and whether the collector treats the pair as
reporting fault, and since when it has been back in state 01. -/
structure Pair24 where
  wireT   : Bool
  wireC   : Bool
  treated : Bool
  deriving DecidableEq, Repr

/-- A message in the FIFO (R648). -/
structure FaultMsg where
  msg    : Word
  cls    : Cls
  pair   : Bool
  line   : Bool
  /-- Numbers the message among those that reached the collector; active entries hold it until their entry is written. -/
  ticket : Nat
  /-- Bytes 11:8 of its entry, and the writer context of R664. -/
  time   : Nat
  ctx    : Nat
  deriving DecidableEq, Repr

/-- One active-table entry (R654, R671). -/
structure ActiveEntry where
  msg    : Word
  batch  : BitVec 48
  cls    : Cls
  occurrences : Nat
  /-- Ticket of the first occurrence, and the `seq` of its Ledger entry, 0 until it is written. -/
  ticket : Nat
  ledgerSeq : Word
  read   : Bool
  time   : Nat
  deriving DecidableEq, Repr

/-- Messages of one source and kind in the current hour (R666). -/
structure RateCount where
  source : Nat
  kind   : Nat
  written : Nat
  suppressed : Nat
  deriving DecidableEq, Repr

/-- The fault collector and the Ledger writer (R643 to R674). -/
structure Faults where
  pairs    : Vector Pair24 24
  fifo     : List FaultMsg
  tickets  : Nat
  /-- Messages lost since the FIFO became full (R650). -/
  lost     : Nat
  /-- The latest 64 messages that the active keeper has not read at step 2 (R649). -/
  unread   : List Word
  active   : List ActiveEntry
  /-- Greatest `seq` written, next slot of the Ledger, and epoch (R664, R665). -/
  seq      : Word
  slot     : Nat
  epoch    : Nat
  rates    : List RateCount
  /-- Device time at which the current hour of R666 began. -/
  hourStart : Nat
  safeHold : Bool
  /-- The hold votes of R656 have been placed. -/
  holdVotes : Bool
  /-- The hardware gating of R656 is applied from the first Batch edge after entry. -/
  gating   : Bool
  /-- Safe Hold is left at the next edge (R658). -/
  leaving  : Bool
  /-- A Grave message, and whether from a pair, was classified in the command under way: the Grave path follows at its end (the model's own; none
  between commands). -/
  graveDue : Option (Word × Bool)
  /-- `FLT.grave_wake` as copied into the SEALED latch (R659). -/
  graveWake : Nat
  /-- In SEALED: DCIN has not been valid throughout, so that the first part of the power cycle can have passed (R661). -/
  graveLow : Bool
  /-- The die has reported 150 °C and not yet cooled below 120 °C (R646), and the time of the latest pair 19 fault. -/
  dieHot   : Bool
  dieTime  : Option Nat
  /-- `FAULT_PROBE` accumulators in the order of R674. -/
  probeLimit : BitVec 16
  probeOv  : BitVec 16
  probePg  : BitVec 16
  probeMisc : BitVec 8
  probeTherm : BitVec 8
  deriving DecidableEq, Repr

/-! ### Watchdogs (chapter 20) -/

/-- What a keeper watchdog does (R681, R684). -/
inductive WdMode where
  | stopped | counting | rom (began : Nat)
  deriving DecidableEq, Repr

/-- One keeper watchdog (R675). -/
structure KeeperWd where
  period : Nat
  count  : Nat
  mode   : WdMode
  /-- The Innkeeper applies the period in force at its next open window (R682, R698). -/
  newPeriod : Option Nat
  deriving DecidableEq, Repr

/-- A Room's guest watchdog (R690): `T` in ms, 0 when disarmed; deadline in µs; ladder step. -/
structure GuestWd where
  t        : Nat
  deadline : Nat
  step     : Nat
  deriving DecidableEq, Repr

/-- One rail of a cycle step (R694). -/
structure Gating where
  room   : RoomId
  rail   : RailId
  /-- Device time at which its gating ends, none while it waits for the rails it supplies. -/
  ends   : Option Nat
  /-- Gated from the next edge. -/
  chosen : Bool
  deriving DecidableEq, Repr

/-- The watchdogs (R675 to R700). -/
structure Watchdogs where
  a : KeeperWd
  b : KeeperWd
  /-- The period in force (R682). -/
  inForce  : Nat
  /-- Device times of counted chip restarts, newest first, at most 7 (R687). -/
  restarts : List Nat
  /-- The restart under way raises `WD_RESTART_HOLD` at step 10 with this number (R688). -/
  holdDue  : Option Nat
  gating   : List Gating
  deriving DecidableEq, Repr

/-! ### Lifecycle and debug (chapter 21) -/

/-- Debug levels (R710), codes 0 to 2. -/
inductive Level where
  | opened | auth | closed
  deriving DecidableEq, Repr

/-- A response waiting for verification (R715), with the challenge it consumed: from the TAP or from a `DBG_RESPOND`
record. -/
structure Response where
  bytes : List Byte
  challenge : List Byte
  req   : Option ReqId
  deriving DecidableEq, Repr

/-- A `LIFECYCLE_ADVANCE` or `LCADV` under way (R702, R731): its target and the request it completes. -/
structure Advance where
  target : Nat
  req    : Option ReqId
  deriving DecidableEq, Repr

/-- Lifecycle words and debug state (R701 to R732). -/
structure Security where
  copyA    : Vector Word 4
  copyB    : Vector Word 4
  level    : Level
  /-- Level that takes effect at the next edge (R710, R715). -/
  nextLevel : Option Level
  attach   : Bool
  attachDrop : Bool
  attState : Nat
  attHandle : Option Nat
  retryAt  : Option Nat
  wdhalt   : Bool
  haltA    : Bool
  haltB    : Bool
  chalReq  : Bool
  /-- The outstanding challenge and its device time of issue (R715, R716). -/
  challenge : Option (List Byte × Nat)
  responses : List Response
  authFail : Bool
  failures : Nat
  lockEnd  : Option Nat
  prog     : Nat
  memDone  : Bool
  memDenied : Bool
  memBusy  : Bool
  memData  : Word
  advance  : Option Advance
  /-- Instruction register of the TAP (R719). -/
  tapIr    : BitVec 5
  deriving DecidableEq, Repr

/-! ### Recipes (chapter 22) -/

/-- A Recipe as verified (R743): its number, `rcp_version`, and the field values of sections 1 to 15. -/
structure Recipe where
  number   : Nat
  version  : Word
  sections : List (List Int)
  deriving DecidableEq, Repr

/-- A Recipe write (R755): slot, `total`, offsets of written words, latest use. -/
structure RcpWrite where
  slot    : Nat
  total   : Nat
  written : List Nat
  lastUse : Nat
  deriving DecidableEq, Repr

/-- A scheduled switch (R749): the Recipe verified, its Batch and the request. -/
structure RcpSwitch where
  recipe : Recipe
  batch  : Nat
  req    : ReqId
  /-- The switch bubble has begun, and its transition has not been carried out. -/
  now    : Bool
  /-- The transition has been published. -/
  passed : Bool
  deriving DecidableEq, Repr

/-- Recipe state outside NVM (R742 to R759). -/
structure Recipes where
  inForce  : Option Recipe
  /-- Latest verdict of each slot and its offset since the start (R742). -/
  verdicts : Vector (Option (Nat × Nat)) 8
  fallback : Bool
  /-- Value of `RSEL2:0` at the latest sample. -/
  rsel     : Nat
  erasing  : Option (RcpWrite × ReqId)
  write    : Option RcpWrite
  switch   : Option RcpSwitch
  deriving DecidableEq, Repr

/-! ### Hardware targets (R27, R138) -/

/-- Parameters that the keeper writes through shadow registers: rails, charger, event table, rectifier setting,
ADC groups, PV boost (R27, R138, R469, R492, R609). -/
structure Targets where
  rails   : Vector RailTarget 16
  chgInhibit : Bool
  chgCap  : Option Nat
  chgLarder : Option Nat
  dcLimit : Option Nat
  table   : Option (List Word)
  kinAuto : Bool
  adc     : Vector (AdcCfg × List Word) 4
  /-- Groups with a COMMAND trigger at the edge (R616). -/
  adcTrig : BitVec 4
  pvMode  : PvMode
  pvK     : Nat
  pvVfix  : Nat
  floor   : PowerState
  deriving DecidableEq, Repr

/-! ### The keepers' private state (R161, R182) -/

/-- A LODGE entry in its grace (R92): Batch of execution, alarm and wake mask. -/
structure LodgePlan where
  batch : Nat
  alarm : Nat
  mask  : Nat
  /-- A forced entry, without a grace (R93). -/
  forced : Bool
  deriving DecidableEq, Repr

/-- The active keeper's private state, which each checkpoint carries (R161, R182). -/
structure Priv where
  votes    : List Vote
  floors   : Vector (Option PowerState) 16
  scheds   : List Sched
  seqRun   : Option SeqRun
  /-- The start-up or switch sequence of R752: base votes that stood at the switch. -/
  oldBase  : List RailId
  lodge    : Option LodgePlan
  /-- Batch of execution of a pending `PWR_RESTART`, and the start cause it will record (R122, R704). -/
  restart  : Option (Nat × Nat)
  shipArmed : Bool
  chgSets  : List ChgSet
  dcLimits : List (RoomId × Nat)
  /-- Rooms whose `KIN_SET` is PASSIVE (true) or AUTO (false). -/
  kinSets  : List (RoomId × Bool)
  kinUsers : List UserEntry
  pvSet    : Option (RoomId × PvMode × Nat × Nat)
  adcHolds : Vector (Option AdcHold) 4
  gauge    : Gauge
  larder   : Larder
  gwds     : Vector GuestWd 16
  deriving DecidableEq, Repr

/-- One checkpoint buffer (R161): the fields of its commit word, and its payload, as the private state written and as the
bytes by which the image codes it, which the manual does not give. -/
structure Ckpt where
  mark    : Byte
  batch   : BitVec 48
  /-- Payload length in 16-byte units. -/
  length  : Nat
  crc     : Word
  schema  : Half
  writer  : Keeper
  /-- The number under which the free payload bytes are drawn (log entry 5). -/
  stamp   : Nat
  /-- Bytes of the buffer that the debug port has written since its copy began, by buffer offset (R724). -/
  pokes   : List Host.Cell
  payload : Priv
  deriving DecidableEq, Repr

/-! ### Config region of the NVM (R203, R204, R547, R560) -/

/-- The fields of a manifest (R204). -/
structure Manifest where
  seq       : Word
  aPrimary  : Fin 4
  aFallback : Fin 4
  bPrimary  : Fin 4
  bFallback : Fin 4
  floor     : Half
  deriving DecidableEq, Repr

/-- The records of the Config region whose addresses the manual does not give: the two 32-byte manifest copies, the two gauge
record copies (R547) and the two Larder record copies (R560), each of the latter with its sequence number. -/
structure ConfigNvm where
  manifest0 : List Byte
  manifest1 : List Byte
  gauge0    : Option (Word × GaugeRec)
  gauge1    : Option (Word × GaugeRec)
  larder0   : Option (Word × List Nat)
  larder1   : Option (Word × List Nat)
  deriving DecidableEq, Repr

/-! ### What step 1 samples for the queries (R450, R485, R517, R617, R699) -/

/-- The results and result-buffer records of the queries as step 1 of the latest working Batch sampled them, the ADC groups, and the
speed, direction and angle from which the Innkeeper computes its table (R479, R480). -/
structure Polled where
  path    : List Byte
  pathRec : List Byte
  chg     : List Byte
  chgRec  : List Byte
  kin     : List Byte
  kinRec  : List Byte
  /-- Result and record of `WD_QUERY`, for each Room. -/
  wd      : Vector (List Byte × List Byte) 16
  adc     : Vector AdcGroup 4
  speed   : Option (Nat × Nat)
  rev     : Bool
  angle   : Nat
  /-- The battery FET was OFF (R553). -/
  fetOff  : Bool
  deriving DecidableEq, Repr

/-! ### The whole device -/

/-- The VL4620: everything but the queue of commands. -/
structure Device where
  power   : Power
  pins    : Pins
  batch   : BatchTimer
  sup     : Supervisor
  keepers : Keepers
  images  : Images
  rooms   : Vector RoomRegs 16
  link    : LinkState
  mirror  : Mirror
  /-- The status sampled at step 1 of the latest working Batch, to be written at its step 7 (R143, R293). -/
  staged  : Mirror
  reqs    : ReqTable
  rails   : RailBlock
  path    : Path
  kin     : Kinetic
  chg     : Charger
  gaugeHw : GaugeHw
  snap    : GaugeSnap
  burst   : BurstHw
  adc     : Adc
  dig     : Digest
  keys    : KeyStore
  faults  : Faults
  wd      : Watchdogs
  sec     : Security
  rcp     : Recipes
  /-- Targets in the shadow registers, and those in force in hardware (R27). -/
  shadow  : Targets
  active  : Targets
  priv    : Priv
  ckpt0   : Ckpt
  ckpt1   : Ckpt
  /-- Window RAM of the 16 Rooms: submission ring, completion ring and result buffer; key Room × 4096 + offset. -/
  wram    : List Host.Cell
  /-- Non-volatile memory (R203): image slots, Ledger and Recipes. -/
  nvm     : List Host.Cell
  cfg     : ConfigNvm
  /-- The analog sample of the latest step 1. -/
  sample  : Sample
  /-- What step 1 of the latest working Batch sampled for the queries. -/
  polled  : Polled
  /-- Counter of free values read so far (the model's own). -/
  freeCtr : Nat
  deriving DecidableEq, Repr

/-- The device and the queue of commands that wait for it, first in, first out. -/
structure State where
  dev     : Device
  pending : List Instr
  deriving DecidableEq, Repr

/-! ### Reset -/

/-- A keeper at reset: OFFLINE, powered off, with no failure recorded (R157, R192). -/
def KeeperState.reset : KeeperState :=
  { role := .offline, offUse := .nothing, romOk := false, slot := none, image := [], hot := none, powered := false,
    failTimes := [], halted := false }

/-- A Room window at reset (R291, R296, R303). -/
def RoomRegs.reset : RoomRegs :=
  { st := .closed, version := 0, session := 0, idPort := 0, idPriv := 0, idIrq := 7, quota := 0, cqWait := false,
    crcErrs := 0, frameErrs := 0, ringErrs := 0, linkErr := false, sqTail := 0, sqHead := 0, cqHead := 0, cqTail := 0,
    evFlags := 0, evEnable := 0, closing := none }

/-- A rail at reset: OFF (R113, R357). -/
def RailHw.reset : RailHw :=
  { st := .off, mv := 0, ladder := 0, lastTrip := 0, retryAt := 0, retryDue := false, thermalHold := false, since := 0,
    ref0 := 0, refAt := 0, lo := 0, hi := 0, inLimit := false, foldback := false, meas := 0, everOn := false }

/-- An ADC group with no configuration yet: the Recipe gives it at a start (R608, log entry 1). -/
def AdcCfg.reset : AdcCfg :=
  { mask := 0, rows := 0, trig := 0, div := 0, delay := 0, cmpSrc := 0, limEn := false, limRow := 0, limConv := 0,
    limLo := 0, limHi := 0 }

/-- Targets at reset: every rail off (R113; the rest by log entry 1). -/
def Targets.reset : Targets :=
  { rails := Vector.replicate 16 { en := false, mv := 0, ilim := 0 }, chgInhibit := false, chgCap := none,
    chgLarder := none, dcLimit := none, table := none, kinAuto := true,
    adc := Vector.replicate 4 (AdcCfg.reset, []), adcTrig := 0, pvMode := .focv, pvK := 0, pvVfix := 0, floor := .run }

/-- An ADC group before the first set (R607). -/
def AdcGroup.reset : AdcGroup :=
  { cfg := AdcCfg.reset, rowWords := [], run := none, kept := none, seq := 0, overlaps := 0, overBatch := 0, lastCheck := none,
    doneC := 0 }

/-- Nothing has been sampled yet: no query can read this, since step 1 comes before every execution (log entry 1). -/
def Polled.reset : Polled :=
  { path := [], pathRec := [], chg := [], chgRec := [], kin := [], kinRec := [], wd := Vector.replicate 16 ([], []),
    adc := Vector.replicate 4 AdcGroup.reset, speed := none, rev := false, angle := 0, fetOff := true }

/-- A gauge with no estimate (R548). -/
def Gauge.reset : Gauge :=
  { q := 0, fcc := 0, reported := 0, validity := .none, integUsed := 0, reportTime := 0,
    record := { learned := 0, mRef := 0, e := 0, efc := 0, extrap := 0, learns := 0 }, recordTime := 0,
    learnSoc := none, learnTime := 0, learnNet := 0, learnExtrap := 0, learnReseed := false, learnZoneBad := false,
    sohLow := false, ocvAt := 0, lodgeOcv := false, seedDue := false }

/-- A Larder with nothing measured, reserved or forecast. -/
def Larder.reset : Larder :=
  { bins := List.replicate 96 0, measured := 0, observed := 0, curBin := 0, lastAdd := none, tod := none,
    reservations := [], nextHandle := 1, pair := none }

/-- The keepers' private state before any image runs: no vote, no setting. -/
def Priv.reset : Priv :=
  { votes := [], floors := Vector.replicate 16 none, scheds := [], seqRun := none, oldBase := [], lodge := none,
    restart := none, shipArmed := false, chgSets := [], dcLimits := [], kinSets := [], kinUsers := [], pvSet := none,
    adcHolds := Vector.replicate 4 none, gauge := Gauge.reset, larder := Larder.reset,
    gwds := Vector.replicate 16 { t := 0, deadline := 0, step := 0 } }

/-- An invalid checkpoint buffer (R161). -/
def Ckpt.reset : Ckpt :=
  { mark := 0, batch := 0, length := 0, crc := 0, schema := 0, writer := .a, stamp := 0, pokes := [], payload := Priv.reset }

/-- A sample of an unpowered board. -/
def Sample.zero : Sample :=
  { batMv := 0, vsysMv := 0, capMv := 0, batUa := 0, batTemp := 0, charge := 0, railMv := [], railLimit := 0,
    harvestUw := 0, src := 0, priMv := 0, rectMv := 0, pvMv := 0, dcinMv := 0, capmMv := 0, dcReg := false }

/-- The factory manifest (R204). -/
def Manifest.factory : Manifest :=
  { seq := 1, aPrimary := 0, aFallback := 2, bPrimary := 1, bFallback := 3, floor := 0 }

/-- Bytes 27:0 of a factory manifest copy, and its CRC-32 (R204). -/
def factoryCopy : List Byte :=
  [1, 0, 0, 0, 0, 2, 1, 3] ++ List.replicate 20 0 ++ [62, 191, 101, 0]

/-- The status mirror before its first write (R294). -/
def Mirror.reset : Mirror :=
  { batch := 0, written := 0, railEn := 0, railPg := 0, railProof := 0, railOff := 0,
    railMv := Vector.replicate 16 0, batMv := 0, vsysMv := 0, batUa := 0, soc := 0, batTemp := 0, chg := 0, src := 0,
    capMv := 0, pwr := 0, cond := 0, fault := 0, ledger := 0 }

/-- The device in POR, as manufactured: lifecycle BLANK, key store empty but for the device ID, Ledger and image slots
empty, factory Recipe and manifest (R104, R113, R204, R701, R708, R744; registers without a stated reset value by log
entry 1). `id` is the device ID of this unit. -/
def Device.resetWith (id : List Byte) : Device :=
  { power := { phase := .por, state := .run, shipLatch := false, sealedLatch := false, resetCause := 1, wakeCause := 0,
               bootSeq := 0, sampleRsel := true, btnFresh := false, aonMv := 0, gateSince := 0, tickAt := 0,
               bootFloor := false, bootFloorEnd := 0, lodgeStart := 0, wakeArmed := false, wakeMask := 0, wakeAlarm := 0,
               wakeLatched := [], exitPeriod := none, testHigh := false, graveExit := 0 }
    pins := { vioGood := false, hrstPowered := false, hrstLow := false, bgnt := false, pgHeld := true,
              tapReset := true }
    batch := { number := 0, used := false, time := 0, timeFrac := 0, edgeTime := 0, rest := false, mode := .free,
               xtalQualified := false, qualifyPending := false, rcClock := false, xtalReports := [], okSaid := false,
               divider := 48000000, newDivider := 48000000, bubble := none, bubbles := 0, maxRun := 0, curRun := 0,
               lastBubble := 0, cntTakeover := 0, cntOverrun := 0, cntRecipe := 0, cntDebug := 0 }
    sup := { workDone := true, stage := .idle, ext := .full, workBatch := 0, workEdge := 0, published := false,
             publishHeld := false, committed := false, budgetPassed := false, deadlinePassed := false,
             overrunReported := false, haltCut := false, takeoverLeft := 0, standbyOff := false, missed := 0 }
    keepers := { a := KeeperState.reset, b := KeeperState.reset, activeKeeper := .a, busy := false, cold := false,
                 swapSeq := 0,
                 lastSwap := { grantBatch := 0, kind := none, cold := false, bubbles := 0, newActive := .a },
                 ckptBatch := 0, ckptBuffer := false, holdoffEnd := 0, commanded := [], handover := none,
                 hwTakeover := false, heartbeat := false, selfTestDue := 0,
                 selfTestWanted := false, selfTestStart := 0 }
    images := { verdicts := Vector.replicate 4 none, trialA := false, trialB := false, erasing := none, stage := none,
                closeWait := none, abortWait := none, commit := none }
    rooms := Vector.replicate 16 RoomRegs.reset
    link := { spiErr := false, i2cErr := false, i2cNext := 0, svResponse := [], spiSdo := [], i2cAcks := [], i2cData := [] }
    mirror := Mirror.reset
    staged := Mirror.reset
    reqs := { recs := [], dedup := Vector.replicate 16 [], produced := Vector.replicate 16 0, waiting := [] }
    rails := { rails := Vector.replicate 16 RailHw.reset, thermWarn := 0, paReservoir := false, twDuty := false,
               seen := Vector.replicate 16 RailHw.reset, query := Vector.replicate 16 (List.replicate 8 0) }
    path := { fet := .off, fetCause := 0, ocTimes := [], ocHeld := false, fetReady := false, dcValid := false, dcSince := 0,
              dcLost := false, dcOv := false, dock := 0, dockMa := 0, bcResult := none, cc2 := false, vsysOv := false,
              pvVoc := 0, pvReg := 0, pvAt := 0, pvCold := false, clamp := false, priInUse := false, pulse := none,
              pulseLast := 0, pulseAt := 0, pulseDue := false, repeatAt := none, priLoad := 0, resCharging := false,
              resImbal := false, resOv := false }
    kin := { counter := 0, synced := false, rev := false, pos := 0, lvlA := false, lvlB := false, seen := false,
             hist := [], aIntervals := [], lastEdgeA := none, lastEdge := 0, stopped := true, stopTime := 0,
             twCont := false, twSample := none, twAt := 0, sensorBad := false, lowSpeed := true,
             overspeed := false, ceiling := false, staleEdges := 0, stale := false,
             table := List.replicate 64 0, gates := 0, active := false, resyncs := 0, reversals := 0, cuts := 0,
             passFired := 0, passDropped := 0, marks := 0, markLog := [] }
    chg := { phase := .idle, zone := .normal, ntcOpen := false, ntcShort := false, latched := 0, preFetOff := false,
             tPre := 0, tFast := 0, tTop := 0, started := 0, harvest := false, requalified := false, viaZone := false,
             terminations := 0, recharges := 0, lastBatsns := 0, lodgeFaults := [], zoneSince := 0, removed := false,
             okSince := none, clearSince := 0 }
    gaugeHw := { mode := .off, integ := 0, extrap := 0, lastMean := 0, lastWindow := 0, offset := 0,
                 lodgeFast := false, winNext := 0, azNext := 0, lowFrom := 0, lodgeWin := none, relaxTime := 0, tempSum := 0, tempN := 0, tempNext := 0,
                 hourEnd := 3600000000 }
    snap := { q := 0, fcc := 0, reported := 0, validity := .none, integ := 0 }
    burst := { first := none, second := none, raw := false, cause := 0, breqLatched := false,
               breqHigh := false, pulses := [], unread := [], riseAt := 0 }
    adc := { groups := Vector.replicate 4 AdcGroup.reset }
    dig := { claim := 0xFF, claimTime := 0, lastWrite := 0, running := false, hmac := false, slot := 0,
             foreign := false, overrun := false, err := 0, resv := false, count := 0, msg := [], rSeq := 0,
             rSource := 0xFF, rHmac := false, rSlot := 0, result := List.replicate 32 0 }
    keys := { slots := Vector.replicate 8 none, pubKeys := Vector.replicate 2 none, deviceId := id, challenges := 0,
              loading := none }
    faults := { pairs := Vector.replicate 24 { wireT := false, wireC := true, treated := false }, fifo := [],
                tickets := 1, lost := 0, unread := [], active := [], seq := 0, slot := 0, epoch := 0, rates := [],
                hourStart := 0, safeHold := false, holdVotes := false, gating := false, leaving := false,
                graveDue := none, graveWake := 0, graveLow := false, dieHot := false, dieTime := none, probeLimit := 0, probeOv := 0,
                probePg := 0, probeMisc := 0, probeTherm := 0 }
    wd := { a := { period := 256, count := 0, mode := .stopped, newPeriod := none },
            b := { period := 256, count := 0, mode := .stopped, newPeriod := none },
            inForce := 256, restarts := [], holdDue := none, gating := [] }
    sec := { copyA := Vector.replicate 4 0xFFFFFFFF, copyB := Vector.replicate 4 0xFFFFFFFF, level := .opened,
             nextLevel := none, attach := false, attachDrop := false, attState := 0, attHandle := none,
             retryAt := none, wdhalt := false, haltA := false, haltB := false, chalReq := false, challenge := none,
             responses := [], authFail := false, failures := 0, lockEnd := none, prog := 0, memDone := false,
             memDenied := false, memBusy := false, memData := 0, advance := none, tapIr := 1 }
    rcp := { inForce := none, verdicts := Vector.replicate 8 none, fallback := false, rsel := 0, erasing := none,
             write := none, switch := none }
    shadow := Targets.reset
    active := Targets.reset
    priv := Priv.reset
    ckpt0 := Ckpt.reset
    ckpt1 := Ckpt.reset
    wram := []
    nvm := []
    cfg := { manifest0 := factoryCopy, manifest1 := List.replicate 32 0xFF,
             gauge0 := none, gauge1 := none, larder0 := none, larder1 := none }
    sample := Sample.zero
    polled := Polled.reset
    freeCtr := 0 }

/-- The device at reset, with the device ID of this unit, which the manual does not give (R708). -/
def Device.reset : Device := Device.resetWith Config.deviceId

/-- The machine at reset: the device in POR as manufactured, and no command waiting. -/
def State.reset : State := { dev := Device.reset, pending := [] }

/-- Faults: none. The block has no condition under which the manual stops it: every error is a status, a flag or a fault
message of the device itself. -/
inductive Fault where
  /-- Raised by nothing: reserved for a repair. Safe: it only stops. -/
  | stopped
  deriving DecidableEq, Repr

/-- Refusals. -/
inductive Refusal where
  /-- A command that has no meaning yet, by its mnemonic: raised by its arm of `exec`. Safe: the run stops there. -/
  | notModelled (mnemonic : String)
  deriving DecidableEq, Repr

end Sys2Proof.Machine
end

