-- ==== Sys2Proof/Machine/Ops.lean ====
section
/-! DEFINITION. Named operations shared by every command: vectors, byte strings, the canonical memory, updates of the
device's parts, Recipe fields, and the two ways a command's effect becomes an outcome. -/
namespace Sys2Proof.Machine

/-- What a meaning answers. -/
abbrev Res := Host.Outcome State Fault Refusal

/-! ### Vectors and lists -/

/-- `v` with element `i` set to `x`. -/
def vput {α : Type} {n : Nat} (v : Vector α n) (i : Fin n) (x : α) : Vector α n := v.set i.val x i.isLt

/-- `v` with element `i` changed by `f`. -/
def vmod {α : Type} {n : Nat} (v : Vector α n) (i : Fin n) (f : α → α) : Vector α n := vput v i (f (v.get i))

/-- All 16 Room or rail numbers in ascending order. -/
def all16 : List (Fin 16) := List.finRange 16

/-- A number as a Room or rail number, taken modulo 16. -/
def fin16 (n : Nat) : Fin 16 := Fin.ofNat 16 n

/-! ### Byte strings (little-endian, R12) -/

/-- The low `n` bytes of `v`, least significant first. -/
def leBytes : (n : Nat) → (v : Nat) → List Byte
  | 0, _ => []
  | n + 1, v => BitVec.ofNat 8 v :: leBytes n (v / 256)

/-- The number that a byte string holds, least significant byte first. -/
def leNat : List Byte → Nat
  | [] => 0
  | b :: l => b.toNat + 256 * leNat l

/-- Bytes `off` to `off + n − 1` of `l`, with 0 for those beyond its end (R312). -/
def slice (l : List Byte) (off n : Nat) : List Byte :=
  let t := (l.drop off).take n
  t ++ List.replicate (n - t.length) 0

/-- The little-endian number in bytes `off` to `off + n − 1`. -/
def numAt (l : List Byte) (off n : Nat) : Nat := leNat (slice l off n)

/-- Byte `off` as a number. -/
def byteAt (l : List Byte) (off : Nat) : Nat := (l.getD off 0).toNat

/-- Whether bytes `off` to `off + n − 1` are all 0. -/
def zeroAt (l : List Byte) (off n : Nat) : Bool := (slice l off n).all (· == 0)

/-- The signed reading of an `n`-byte little-endian number. -/
def toSigned (n v : Nat) : Int := if v < 2 ^ (8 * n - 1) then (v : Int) else (v : Int) - 2 ^ (8 * n)

/-- The `n`-byte two's complement code of `v`. -/
def ofSigned (n : Nat) (v : Int) : Nat := (v % (2 ^ (8 * n) : Int)).toNat

/-- `v` held within 0 to `hi`. -/
def sat (hi v : Nat) : Nat := min hi v

/-- Bit `i` of a number. -/
def bit (v i : Nat) : Bool := v.testBit i

/-- 1 or 0. -/
def b2n (b : Bool) : Nat := if b then 1 else 0

/-- The number whose bit `i` is `f i`, for `i` below `n`. -/
def maskOf (n : Nat) (f : Nat → Bool) : Nat := (List.range n).foldl (fun a i => if f i then a + 2 ^ i else a) 0

/-- `num / den` to the unit, where the manual leaves the rounding open: the floor or the ceiling (log entry 4). -/
def quot (formula num den : Nat) : Nat :=
  num / den + (if num % den = 0 then 0 else b2n (Config.roundUp formula num den))

/-- `num / den` to the nearest unit; a tie goes either way (log entry 4). -/
def quotNear (formula num den : Nat) : Nat :=
  if 2 * (num % den) < den then num / den
  else if 2 * (num % den) = den then num / den + b2n (Config.roundUp formula num den)
  else num / den + 1

/-- Inserts into a list sorted by key, behind equal keys. -/
def insertBy {α : Type} (key : α → Nat) (x : α) : List α → List α
  | [] => [x]
  | y :: t => if key x < key y then x :: y :: t else y :: insertBy key x t

/-- A list sorted by key; equal keys keep their order. -/
def sortBy {α : Type} (key : α → Nat) (l : List α) : List α := l.foldl (fun a x => insertBy key x a) []

/-! ### Memory in canonical form -/

/-- What address `a` reads as: its listed byte, else the byte `dflt` gives an unlisted address. -/
def cellRead (dflt : Nat → Byte) (m : List Host.Cell) (a : Nat) : Byte :=
  match m with
  | [] => dflt a
  | (k, b) :: t => if k = a then b else cellRead dflt t a

/-- The canonical form: addresses strictly rise, and no entry equals what an unlisted address reads as. -/
def memWf (dflt : Nat → Byte) : List Host.Cell → Bool
  | [] => true
  | [(k, b)] => decide (b ≠ dflt k)
  | (k, b) :: (k', b') :: t => decide (b ≠ dflt k) && decide (k < k') && memWf dflt ((k', b') :: t)

/-- Writes `b` at `a`; a byte equal to what the unlisted address reads as removes the entry. -/
def cellWrite (dflt : Nat → Byte) (m : List Host.Cell) (a : Nat) (b : Byte) : List Host.Cell :=
  match m with
  | [] => if b = dflt a then [] else [(a, b)]
  | (k, c) :: t =>
    if k < a then (k, c) :: cellWrite dflt t a b
    else if k = a then (if b = dflt a then t else (a, b) :: t)
    else if b = dflt a then (k, c) :: t else (a, b) :: (k, c) :: t

/-- Writes a byte string from address `a` upwards. -/
def cellsWrite (dflt : Nat → Byte) (m : List Host.Cell) (a : Nat) : List Byte → List Host.Cell
  | [] => m
  | b :: t => cellsWrite dflt (cellWrite dflt m a b) (a + 1) t

/-- Reads `n` bytes from address `a` upwards. -/
def cellsRead (dflt : Nat → Byte) (m : List Host.Cell) (a n : Nat) : List Byte :=
  (List.range n).map fun i => cellRead dflt m (a + i)

/-- Window RAM reads 0 until written (log entry 6). -/
def zeroByte (_ : Nat) : Byte := 0

/-! ### Updates of the device's parts -/

section
variable (d : Device)
def Device.updPower (f : Power → Power) : Device := { d with power := f d.power }
def Device.updPins (f : Pins → Pins) : Device := { d with pins := f d.pins }
def Device.updBatch (f : BatchTimer → BatchTimer) : Device := { d with batch := f d.batch }
def Device.updSup (f : Supervisor → Supervisor) : Device := { d with sup := f d.sup }
def Device.updKeepers (f : Keepers → Keepers) : Device := { d with keepers := f d.keepers }
def Device.updImages (f : Images → Images) : Device := { d with images := f d.images }
def Device.updRoom (n : RoomId) (f : RoomRegs → RoomRegs) : Device := { d with rooms := vmod d.rooms n f }
def Device.updLink (f : LinkState → LinkState) : Device := { d with link := f d.link }
def Device.updMirror (f : Mirror → Mirror) : Device := { d with mirror := f d.mirror }
def Device.updReqs (f : ReqTable → ReqTable) : Device := { d with reqs := f d.reqs }
def Device.updRails (f : RailBlock → RailBlock) : Device := { d with rails := f d.rails }
def Device.updRail (r : RailId) (f : RailHw → RailHw) : Device :=
  { d with rails := { d.rails with rails := vmod d.rails.rails r f } }
def Device.updPath (f : Path → Path) : Device := { d with path := f d.path }
def Device.updKin (f : Kinetic → Kinetic) : Device := { d with kin := f d.kin }
def Device.updChg (f : Charger → Charger) : Device := { d with chg := f d.chg }
def Device.updGaugeHw (f : GaugeHw → GaugeHw) : Device := { d with gaugeHw := f d.gaugeHw }
def Device.updBurst (f : BurstHw → BurstHw) : Device := { d with burst := f d.burst }
def Device.updAdcGroup (g : Fin 4) (f : AdcGroup → AdcGroup) : Device :=
  { d with adc := { d.adc with groups := vmod d.adc.groups g f } }
def Device.updDig (f : Digest → Digest) : Device := { d with dig := f d.dig }
def Device.updKeys (f : KeyStore → KeyStore) : Device := { d with keys := f d.keys }
def Device.updFaults (f : Faults → Faults) : Device := { d with faults := f d.faults }
def Device.updWd (f : Watchdogs → Watchdogs) : Device := { d with wd := f d.wd }
def Device.updSec (f : Security → Security) : Device := { d with sec := f d.sec }
def Device.updRcp (f : Recipes → Recipes) : Device := { d with rcp := f d.rcp }
def Device.updShadow (f : Targets → Targets) : Device := { d with shadow := f d.shadow }
def Device.updActive (f : Targets → Targets) : Device := { d with active := f d.active }
def Device.updPriv (f : Priv → Priv) : Device := { d with priv := f d.priv }
def Device.updGauge (f : Gauge → Gauge) : Device := { d with priv := { d.priv with gauge := f d.priv.gauge } }
def Device.updLarder (f : Larder → Larder) : Device := { d with priv := { d.priv with larder := f d.priv.larder } }

/-- Device time in µs (R134). -/
abbrev Device.now : Nat := d.batch.time
end

/-- Does `f` where `c` holds. -/
def Device.when (d : Device) (c : Bool) (f : Device → Device) : Device := if c then f d else d

/-- A fresh free value (log entry 2), and the device with its counter advanced. -/
def Device.free (d : Device) : Nat × Device := (Config.freeNat d.freeCtr, { d with freeCtr := d.freeCtr + 1 })

/-- The device with `n` free values used. -/
def Device.freeSkip (d : Device) (n : Nat) : Device := { d with freeCtr := d.freeCtr + n }

/-- Does `f` for each element of a list in order. -/
def Device.each {α : Type} (d : Device) (l : List α) (f : α → Device → Device) : Device := l.foldl (fun x a => f a x) d

/-! ### Recipe fields -/

/-- A Recipe field: its section, counted from 0, and its place in the section (R736). -/
structure FieldId where
  sec : Nat
  idx : Nat

/-- Where a field's first element stands among the section's values. -/
def FieldId.offset (f : FieldId) : Nat :=
  (((sectionFields.getD f.sec []).take f.idx).map FieldSpec.count).sum

/-- Element `e` of a field of a Recipe. -/
def Recipe.get (r : Recipe) (f : FieldId) (e : Nat := 0) : Int :=
  (r.sections.getD f.sec []).getD (f.offset + e) 0

/-- The factory values of a field list, every element in order (R744). -/
def factoryValues (l : List FieldSpec) : List Int :=
  l.flatMap fun f => (List.range f.count).map fun i => f.deflt.getD i (f.deflt.getLastD 0)

/-- The factory Recipe's values (R744). -/
def factoryRecipe : Recipe := { number := 7, version := 0, sections := sectionFields.map factoryValues }

/-- Element `e` of a field of the Recipe in force; where none is in force, the factory value (log entry 7). -/
def Device.fld (d : Device) (f : FieldId) (e : Nat := 0) : Int := (d.rcp.inForce.getD factoryRecipe).get f e

/-- The same as a natural number. -/
def Device.fn (d : Device) (f : FieldId) (e : Nat := 0) : Nat := (d.fld f e).toNat

end Sys2Proof.Machine
end

