-- ==== Sys2Proof/Machine/Sha.lean ====
section
/-! DEFINITION. The checksums and digests of the manual: CRC-8 (R311), CRC-16 (R275), CRC-32 (R163), SHA-256 and
HMAC-SHA-256 (R618 to R621). -/
namespace Sys2Proof.Machine

/-! ### CRCs -/

/-- One bit of the CRC-8 of R311. -/
def crc8Bit (c : Byte) : Byte := if c.msb then (c <<< 1) ^^^ 0x07#8 else c <<< 1

/-- The CRC-8 of R311: polynomial 0x07, initial value 0, no reflection. -/
def crc8 (l : List Byte) : Byte := l.foldl (fun c b => Nat.repeat crc8Bit 8 (c ^^^ b)) 0

/-- One bit of the CRC-16 of R275. -/
def crc16Bit (c : Half) : Half := if c.msb then (c <<< 1) ^^^ 0x1021#16 else c <<< 1

/-- The CRC-16/CCITT-FALSE of R275. -/
def crc16 (l : List Byte) : Half :=
  l.foldl (fun c b => Nat.repeat crc16Bit 8 (c ^^^ (b.zeroExtend 16).shiftLeft 8)) 0xFFFF#16

/-- One bit of the reflected CRC-32 of R163. -/
def crc32Bit (c : Word) : Word := if c.getLsbD 0 then (c >>> 1) ^^^ 0xEDB88320#32 else c >>> 1

/-- The CRC-32 of R163. -/
def crc32 (l : List Byte) : Word :=
  (l.foldl (fun c b => Nat.repeat crc32Bit 8 (c ^^^ b.zeroExtend 32)) 0xFFFFFFFF#32) ^^^ 0xFFFFFFFF#32

/-! ### SHA-256 (FIPS 180-4) -/

/-- The largest `r` below 2^36 whose `k`-th power is at most `n`, found bit by bit from the top. -/
def rootBits (k n : Nat) : (i : Nat) → (r : Nat) → Nat
  | 0, r => r
  | i + 1, r => rootBits k n i (if (r + 2 ^ i) ^ k ≤ n then r + 2 ^ i else r)

/-- The first 32 bits of the fractional part of the `k`-th root of a prime. -/
def rootFrac (k p : Nat) : Word := BitVec.ofNat 32 (rootBits k (p * 2 ^ (32 * k)) 36 0)

/-- The first 64 primes, as the bits set in a number. -/
def shaPrimes : List Nat :=
  (List.range 312).filter (Nat.testBit 0x8800200a20a08208028228800800a28028208820a00a08800228a20208828828208a20a08a28ac)

/-- The round constants: from the cube roots of the first 64 primes. -/
def shaK : List Word := shaPrimes.map (rootFrac 3)

/-- The initial state: from the square roots of the first 8 primes. -/
def shaInit : List Word := (shaPrimes.take 8).map (rootFrac 2)

/-- A word from four bytes, most significant first. -/
def beWord (l : List Byte) : Word := BitVec.ofNat 32 (l.foldl (fun a b => a * 256 + b.toNat) 0)

/-- The bytes of a word, most significant first. -/
def beBytes (w : Word) : List Byte := (leBytes 4 w.toNat).reverse

/-- The first `n` groups of `k` elements of a list. -/
def chunks {α : Type} (k : Nat) : (n : Nat) → List α → List (List α)
  | 0, _ => []
  | n + 1, l => l.take k :: chunks k n (l.drop k)

/-- The exclusive-OR of a word's rotations. -/
def rotXor (by_ : List Nat) (x : Word) : Word := by_.foldl (fun a k => a ^^^ x.rotateRight k) 0

/-- The word of the schedule that follows a window of 16. -/
def shaWord (w : List Word) : Word :=
  let at_ := fun i => w.getD i 0
  at_ 0 + (rotXor [7, 18] (at_ 1) ^^^ at_ 1 >>> 3) + at_ 9 + (rotXor [17, 19] (at_ 14) ^^^ at_ 14 >>> 10)

/-- One round on the state `a` to `h` and the window of the schedule that begins with its word. -/
def shaRound (x : List Word × List Word) (k : Word) : List Word × List Word :=
  let s := fun i => x.1.getD i 0
  let choose := s 6 ^^^ (s 4 &&& (s 5 ^^^ s 6))
  let major := (s 0 &&& s 1) ||| (s 2 &&& (s 0 ||| s 1))
  let t := s 7 + rotXor [6, 11, 25] (s 4) + choose + k + x.2.headD 0
  ((t + rotXor [2, 13, 22] (s 0) + major) :: (x.1.take 7).set 3 (s 3 + t), x.2.tail ++ [shaWord x.2])

/-- Compresses one 64-byte block into a state. -/
def shaBlock (st : List Word) (blk : List Byte) : List Word :=
  List.zipWith (· + ·) st (shaK.foldl shaRound (st, (chunks 4 16 blk).map beWord)).1

/-- The padding of a message of `n` bytes in all (R619). -/
def shaPad (n : Nat) : List Byte :=
  [0x80#8] ++ List.replicate ((119 - n % 64) % 64) 0 ++ (leBytes 8 (8 * n)).reverse

/-- SHA-256 continued from a state that has absorbed `pre` bytes. -/
def shaFrom (st : List Word) (pre : Nat) (m : List Byte) : List Byte :=
  let p := m ++ shaPad (pre + m.length)
  (((chunks 64 (p.length / 64) p).foldl shaBlock st)).flatMap beBytes

/-- SHA-256 of a message (mode PLAIN). -/
def sha256 (m : List Byte) : List Byte := shaFrom shaInit 0 m

/-- The key block of HMAC: a key of at most 64 bytes padded with zeros, and XORed with `pad`. -/
def keyBlock (key : List Byte) (pad : Byte) : List Byte :=
  (key ++ List.replicate (64 - key.length) 0).map (· ^^^ pad)

/-- The two states that a loaded slot holds (R621). -/
def slotKeys (key : List Byte) : SlotKeys :=
  { inner := shaBlock shaInit (keyBlock key 0x36#8), outer := shaBlock shaInit (keyBlock key 0x5c#8) }

/-- HMAC-SHA-256 under a loaded slot (mode HMAC_SLOT). -/
def hmac (k : SlotKeys) (m : List Byte) : List Byte := shaFrom k.outer 64 (shaFrom k.inner 64 m)

end Sys2Proof.Machine
end

