-- ==== Sys2Proof/Machine/Ecdsa.lean ====
section
/-! DEFINITION. The verification of an ECDSA P-256 signature (R212), by the curve and the algorithm of FIPS 186-4 (log entry
3). -/
namespace Sys2Proof.Machine

/-- The field prime, the group order, the coefficient b and the base point of P-256. -/
def p256 : Nat := 2 ^ 256 - 2 ^ 224 + 2 ^ 192 + 2 ^ 96 - 1
def p256Order : Nat := 0xffffffff00000000ffffffffffffffffbce6faada7179e84f3b9cac2fc632551
def p256B : Nat := 0x5ac635d8aa3a93e7b3ebbd55769886bc651d06b0cc53b0f63bce3c3e27d2604b
def p256X : Nat := 0x6b17d1f2e12c4247f8bce6e563a440f277037d812deb33a0f4a13945d898c296
def p256Y : Nat := 0x4fe342e2fe1a7f9b8ee7eb4a7c0f9e162bce33576b315ececbb6406837bf51f5

/-- Field arithmetic. -/
def fMul (a b : Nat) : Nat := a * b % p256
def fSub (a b : Nat) : Nat := (a + (p256 - b % p256)) % p256

/-- `a` to the power `e` modulo `m`, for an exponent of `n` bits. -/
def powMod (m a e : Nat) : (n : Nat) → Nat
  | 0 => 1
  | n + 1 =>
    let r := powMod m a (e / 2) n
    (if e % 2 = 1 then r * r % m * a else r * r) % m

/-- A point (X/Z², Y/Z³); Z is 0 for the point at infinity. -/
structure JPoint where
  x : Nat
  y : Nat
  z : Nat

/-- The point at infinity. -/
def JPoint.zero : JPoint := ⟨1, 1, 0⟩

/-- Twice a point, on a curve with a = −3. -/
def JPoint.double (p : JPoint) : JPoint :=
  let yy := fMul p.y p.y
  let zz := fMul p.z p.z
  let s := fMul 4 (fMul p.x yy)
  let m := fMul 3 (fMul (fSub p.x zz) (p.x + zz))
  let x := fSub (fMul m m) (2 * s)
  ⟨x, fSub (fMul m (fSub s x)) (fMul 8 (fMul yy yy)), fMul 2 (fMul p.y p.z)⟩

/-- The sum of two points. -/
def JPoint.add (p q : JPoint) : JPoint :=
  if p.z = 0 then q
  else if q.z = 0 then p
  else
    let pz := fMul p.z p.z
    let qz := fMul q.z q.z
    let u := fMul p.x qz
    let s := fMul p.y (fMul qz q.z)
    let h := fSub (fMul q.x pz) u
    let r := fSub (fMul q.y (fMul pz p.z)) s
    if h = 0 then (if r = 0 then p.double else JPoint.zero)
    else
      let hh := fMul h h
      let v := fMul u hh
      let hhh := fMul h hh
      let x := fSub (fSub (fMul r r) hhh) (2 * v)
      ⟨x, fSub (fMul r (fSub v x)) (fMul s hhh), fMul h (fMul p.z q.z)⟩

/-- `k` times a point, for a `k` of `n` bits. -/
def JPoint.times (p : JPoint) (k : Nat) : (n : Nat) → JPoint
  | 0 => JPoint.zero
  | n + 1 =>
    let h := (p.times (k / 2) n).double
    if k % 2 = 1 then h.add p else h

/-- A number from its bytes, most significant first. -/
def beNat (l : List Byte) : Nat := l.foldl (fun a b => 256 * a + b.toNat) 0

/-- `x`, `y` is a point of the curve. -/
def onCurve (x y : Nat) : Bool :=
  decide (x < p256) && decide (y < p256) &&
    decide (fMul y y = (fMul x (fSub (fMul x x) 3) + p256B) % p256)

/-- A signature, `r` then `s`, verifies for a digest under a public key, each 64 bytes (R212). -/
def ecdsaVerifies (key digest sig : List Byte) : Bool :=
  let x := beNat (key.take 32)
  let y := beNat (key.drop 32)
  let r := beNat (sig.take 32)
  let s := beNat (sig.drop 32)
  let w := powMod p256Order s (p256Order - 2) 256
  let q := (JPoint.times ⟨p256X, p256Y, 1⟩ (beNat digest * w % p256Order) 256).add
    (JPoint.times ⟨x, y, 1⟩ (r * w % p256Order) 256)
  let zz := fMul q.z q.z
  onCurve x y && decide (1 ≤ r) && decide (r < p256Order) && decide (1 ≤ s) && decide (s < p256Order) &&
    decide (q.z ≠ 0) &&
    (decide (fMul r zz = q.x) || (decide (r + p256Order < p256) && decide (fMul (r + p256Order) zz = q.x)))

end Sys2Proof.Machine
end

