-- ==== Sys2Proof/Machine/Fields.lean ====
section
/-! DEFINITION. The names of the Recipe fields, as places in the sections of R735 in the order of R736. -/
namespace Sys2Proof.Machine.Fld

-- PWR (R118)
def pwrIdleFloor : FieldId := ⟨0, 0⟩
def pwrRoomFloor : FieldId := ⟨0, 1⟩
def pwrBootFloor : FieldId := ⟨0, 2⟩
def pwrGrace : FieldId := ⟨0, 3⟩
def pwrLodgeWake : FieldId := ⟨0, 4⟩
def pwrLodgeAlarm : FieldId := ⟨0, 5⟩
def pwrCmp0 : FieldId := ⟨0, 6⟩
def pwrCmp1 : FieldId := ⟨0, 7⟩
def pwrShipDelay : FieldId := ⟨0, 8⟩
def pwrShipBtn : FieldId := ⟨0, 9⟩
def pwrBtnRestart : FieldId := ⟨0, 10⟩
def pwrHoldList : FieldId := ⟨0, 11⟩
-- KPR (R199)
def kprSelftest : FieldId := ⟨1, 0⟩
def kprColdHold : FieldId := ⟨1, 1⟩
-- ROOM (R262), LINK (R309)
def roomPort : FieldId := ⟨2, 0⟩
def roomPriv : FieldId := ⟨2, 1⟩
def roomQuota : FieldId := ⟨2, 2⟩
def roomIrq : FieldId := ⟨2, 3⟩
def roomRails : FieldId := ⟨2, 4⟩
def roomChannels : FieldId := ⟨2, 5⟩
def roomKeys : FieldId := ⟨2, 6⟩
def roomFeatures : FieldId := ⟨2, 7⟩
def roomGwdRails : FieldId := ⟨2, 8⟩
def linkSpiCrc : FieldId := ⟨2, 9⟩
def linkI2cCrc : FieldId := ⟨2, 10⟩
def linkI2cAddr : FieldId := ⟨2, 11⟩
def linkUartBaud : FieldId := ⟨2, 12⟩
-- RAIL, PA (R376, R404)
def railPresent : FieldId := ⟨3, 0⟩
def railVmin : FieldId := ⟨3, 1⟩
def railVmax : FieldId := ⟨3, 2⟩
def railVset9 : FieldId := ⟨3, 3⟩
def railSlew : FieldId := ⟨3, 4⟩
def railProofUs : FieldId := ⟨3, 5⟩
def railSettleUs : FieldId := ⟨3, 6⟩
def railMode : FieldId := ⟨3, 7⟩
def railDischarge : FieldId := ⟨3, 8⟩
def railLdo12 : FieldId := ⟨3, 9⟩
def railLdo34 : FieldId := ⟨3, 10⟩
def railSupply : FieldId := ⟨3, 11⟩
def railRetries : FieldId := ⟨3, 12⟩
def railRetryMs : FieldId := ⟨3, 13⟩
def railPg : FieldId := ⟨3, 14⟩
def paSrc : FieldId := ⟨3, 15⟩
def paCapMin : FieldId := ⟨3, 16⟩
def railVdef : FieldId := ⟨3, 17⟩
-- SEQ (R404)
def seqScope : FieldId := ⟨4, 0⟩
def seqOnFail : FieldId := ⟨4, 1⟩
def seqSteps : FieldId := ⟨4, 2⟩
-- PATH: DC, PATH, PV, PRI, RES (R449)
def dcIlimMax : FieldId := ⟨5, 0⟩
def dcSdpMa : FieldId := ⟨5, 1⟩
def dcUnknownMa : FieldId := ⟨5, 2⟩
def dcVinReg : FieldId := ⟨5, 3⟩
def pathVsysDc : FieldId := ⟨5, 4⟩
def pathVsysCeiling : FieldId := ⟨5, 5⟩
def pathVsysMin : FieldId := ⟨5, 6⟩
def pathBatUv : FieldId := ⟨5, 7⟩
def pathBatRecover : FieldId := ⟨5, 8⟩
def pathUvMs : FieldId := ⟨5, 9⟩
def pathBatOcd : FieldId := ⟨5, 10⟩
def pvPresent : FieldId := ⟨5, 11⟩
def pvMode : FieldId := ⟨5, 12⟩
def pvK : FieldId := ⟨5, 13⟩
def pvVfix : FieldId := ⟨5, 14⟩
def pvSampleS : FieldId := ⟨5, 15⟩
def pvIlim : FieldId := ⟨5, 16⟩
def priPresent : FieldId := ⟨5, 17⟩
def priVmin : FieldId := ⟨5, 18⟩
def priPulseH : FieldId := ⟨5, 19⟩
def priPulseMa : FieldId := ⟨5, 20⟩
def priPulseMs : FieldId := ⟨5, 21⟩
def priPassMv : FieldId := ⟨5, 22⟩
def resPresent : FieldId := ⟨5, 23⟩
def resVmax : FieldId := ⟨5, 24⟩
def resVkeep : FieldId := ⟨5, 25⟩
def resHyst : FieldId := ⟨5, 26⟩
def resIchg : FieldId := ⟨5, 27⟩
def resVsysMin : FieldId := ⟨5, 28⟩
def resHoldup : FieldId := ⟨5, 29⟩
-- KIN (R484)
def kinPresent : FieldId := ⟨6, 0⟩
def kinPoles : FieldId := ⟨6, 1⟩
def kinZero : FieldId := ⟨6, 2⟩
def kinWidth : FieldId := ⟨6, 3⟩
def kinAdvanceUs : FieldId := ⟨6, 4⟩
def kinMinRps : FieldId := ⟨6, 5⟩
def kinDeadtime : FieldId := ⟨6, 6⟩
def kinTwHold : FieldId := ⟨6, 7⟩
def kinTwPeriod : FieldId := ⟨6, 8⟩
def kinTwSettle : FieldId := ⟨6, 9⟩
-- CHG (R516)
def chgEnable : FieldId := ⟨7, 0⟩
def chgChem : FieldId := ⟨7, 1⟩
def chgCv : FieldId := ⟨7, 2⟩
def chgIFast : FieldId := ⟨7, 3⟩
def chgIHv : FieldId := ⟨7, 4⟩
def chgIPre : FieldId := ⟨7, 5⟩
def chgVPre : FieldId := ⟨7, 6⟩
def chgITerm : FieldId := ⟨7, 7⟩
def chgTopoffMin : FieldId := ⟨7, 8⟩
def chgRechgMv : FieldId := ⟨7, 9⟩
def chgTPreMin : FieldId := ⟨7, 10⟩
def chgTFastMin : FieldId := ⟨7, 11⟩
def chgT1 : FieldId := ⟨7, 12⟩
def chgT2 : FieldId := ⟨7, 13⟩
def chgT3 : FieldId := ⟨7, 14⟩
def chgT4 : FieldId := ⟨7, 15⟩
def chgCoolPct : FieldId := ⟨7, 16⟩
def chgWarmCvMv : FieldId := ⟨7, 17⟩
def chgNtcR25 : FieldId := ⟨7, 18⟩
def chgNtcBeta : FieldId := ⟨7, 19⟩
def chgBatid : FieldId := ⟨7, 20⟩
def chgBatidMin : FieldId := ⟨7, 21⟩
def chgBatidMax : FieldId := ⟨7, 22⟩
def chgStepMv : FieldId := ⟨7, 23⟩
def chgBurstPause : FieldId := ⟨7, 24⟩
def chgGoneAutoS : FieldId := ⟨7, 25⟩
-- GAUGE (R550)
def gaugeDesignMah : FieldId := ⟨8, 0⟩
def gaugeShuntTrim : FieldId := ⟨8, 1⟩
def gaugeSip : FieldId := ⟨8, 2⟩
def gaugeOcv : FieldId := ⟨8, 3⟩
def gaugeOcvTc : FieldId := ⟨8, 4⟩
def gaugeRelaxUa : FieldId := ⟨8, 5⟩
def gaugeRelaxMin : FieldId := ⟨8, 6⟩
def gaugeFlatSlope : FieldId := ⟨8, 7⟩
def gaugeOcvWeight : FieldId := ⟨8, 8⟩
def gaugeSlew : FieldId := ⟨8, 9⟩
def gaugeLearnSpan : FieldId := ⟨8, 10⟩
def gaugeLearnExtrap : FieldId := ⟨8, 11⟩
def gaugeLearnGain : FieldId := ⟨8, 12⟩
def gaugeCalK : FieldId := ⟨8, 13⟩
def gaugeCalDbl : FieldId := ⟨8, 14⟩
def gaugeCycK : FieldId := ⟨8, 15⟩
def gaugeSohWarn : FieldId := ⟨8, 16⟩
def gaugeSaveH : FieldId := ⟨8, 17⟩
-- LAR (R586)
def larBatFloor : FieldId := ⟨9, 0⟩
def larBaseMw : FieldId := ⟨9, 1⟩
def larResF : FieldId := ⟨9, 2⟩
def larFcAlpha : FieldId := ⟨9, 3⟩
def larFcTrust : FieldId := ⟨9, 4⟩
def larFcMinObs : FieldId := ⟨9, 5⟩
def larSeed : FieldId := ⟨9, 6⟩
def larAppMw : FieldId := ⟨9, 7⟩
def larAppSrc : FieldId := ⟨9, 8⟩
def larAppEssential : FieldId := ⟨9, 9⟩
def larHvCapMa : FieldId := ⟨9, 10⟩
def larBreqMs : FieldId := ⟨9, 11⟩
def larBreqApp : FieldId := ⟨9, 12⟩
-- ADC (R614)
def adcRow : FieldId := ⟨10, 0⟩
def adcMask : FieldId := ⟨10, 1⟩
def adcRows : FieldId := ⟨10, 2⟩
def adcTrig : FieldId := ⟨10, 3⟩
def adcDiv : FieldId := ⟨10, 4⟩
def adcDelay : FieldId := ⟨10, 5⟩
def adcCmpSrc : FieldId := ⟨10, 6⟩
def adcLimEn : FieldId := ⟨10, 7⟩
def adcLimRow : FieldId := ⟨10, 8⟩
def adcLimConv : FieldId := ⟨10, 9⟩
def adcLimLo : FieldId := ⟨10, 10⟩
def adcLimHi : FieldId := ⟨10, 11⟩
-- DIG (R638), FLT (R670), WD (R697), DBG (R728)
def digClaimIdle : FieldId := ⟨11, 0⟩
def digClaimMax : FieldId := ⟨11, 1⟩
def fltMap : FieldId := ⟨12, 0⟩
def fltSafeRails : FieldId := ⟨12, 1⟩
def fltGraveWake : FieldId := ⟨12, 2⟩
def fltRate : FieldId := ⟨12, 3⟩
def wdPeriod : FieldId := ⟨13, 0⟩
def wdRestartLimit : FieldId := ⟨13, 1⟩
def gwdOffMs : FieldId := ⟨13, 2⟩
def dbgApp : FieldId := ⟨14, 0⟩
def dbgAttachS : FieldId := ⟨14, 1⟩
def dbgRetryS : FieldId := ⟨14, 2⟩

end Sys2Proof.Machine.Fld
end

