-- ==== Sys2Proof/Machine/RecipeCodec.lean ====
section
/-! DEFINITION. The binary layout of a Recipe (R733 to R740), what unlisted NVM reads as, and reads and writes of the
NVM and of the window RAM. -/
namespace Sys2Proof.Machine

/-! ### Encoding (R736 to R738) -/

/-- `n` rounded up to a multiple of `k`. -/
def alignUp (n k : Nat) : Nat := (n + k - 1) / k * k

/-- The alignment of a field: its width, or 4 for a composite (R737). -/
def FieldSpec.align (f : FieldSpec) : Nat := if f.comp then 4 else f.width

/-- The offset of each field in its section, and the offset behind the last. -/
def fieldOffsets : List FieldSpec → Nat → List Nat × Nat
  | [], o => ([], o)
  | f :: t, o =>
    let a := alignUp o f.align
    let r := fieldOffsets t (a + f.count * f.width)
    (a :: r.1, r.2)

/-- The length of a section: to the end of its last field, rounded up to a multiple of 8 (R737). -/
def sectionLen (fs : List FieldSpec) : Nat := alignUp (fieldOffsets fs 0).2 8

/-- The bytes of a section with the given values. -/
def encodeSection (fs : List FieldSpec) (vals : List Int) : List Byte :=
  let go := (fs.foldl (fun (acc : List Byte × List Int) f =>
    let padded := acc.1 ++ List.replicate (alignUp acc.1.length f.align - acc.1.length) 0
    (padded ++ (acc.2.take f.count).flatMap (fun v => leBytes f.width (ofSigned f.width v)), acc.2.drop f.count))
    ([], vals)).1
  go ++ List.replicate (alignUp go.length 8 - go.length) 0

/-- Slot offsets of the 15 sections placed one behind the other from 0x00B8. -/
def sectionStarts : List (List FieldSpec) → Nat → List Nat
  | [], _ => []
  | fs :: t, o => o :: sectionStarts t (o + sectionLen fs)

/-- Header, directory and sections of a Recipe laid out without gaps (R734, R735): bytes 0 to `total` − 1. -/
def encodeRecipe (r : Recipe) : List Byte :=
  let starts := sectionStarts sectionFields 0xB8
  let total := 0xB8 + (sectionFields.map sectionLen).sum
  let dir := (List.range 15).flatMap fun i =>
    leBytes 2 (i + 1) ++ leBytes 2 0 ++ leBytes 2 (starts.getD i 0) ++
      leBytes 2 (sectionLen (sectionFields.getD i []))
  [0x56#8, 0x4C#8, 0x52#8, 0x43#8] ++ leBytes 2 1 ++ leBytes 2 0x40 ++ leBytes 4 total ++
    [BitVec.ofNat 8 r.number, 15#8, 0, 0] ++ leBytes 4 r.version.toNat ++ List.replicate 44 0 ++ dir ++
    (sectionFields.zip r.sections).flatMap fun p => encodeSection p.1 p.2

/-- Bytes 0 to `total` − 1 of the factory Recipe (R744). -/
def factoryBytes : List Byte := encodeRecipe factoryRecipe

/-! ### NVM and window RAM -/

/-- The base address of Recipe slot `n` (R733). -/
def rcpBase (n : Nat) : Nat := 0xE0000 + n * 0x2000

/-- What NVM reads where nothing is listed: the factory Recipe in slot 7 with tag 0 (R744), and erased bytes of 0xFF
elsewhere (log entry 8). -/
def nvmDefault (a : Nat) : Byte :=
  if 0xEE000 ≤ a ∧ a < 0xEFFE0 then factoryBytes.getD (a - 0xEE000) 0xFF
  else if 0xEFFE0 ≤ a ∧ a < 0xF0000 then 0
  else 0xFF

/-- `n` bytes of NVM from address `a`. -/
def Device.nvmRead (d : Device) (a n : Nat) : List Byte := cellsRead nvmDefault d.nvm a n

/-- Programs bytes of NVM from address `a`. -/
def Device.nvmWrite (d : Device) (a : Nat) (l : List Byte) : Device :=
  { d with nvm := cellsWrite nvmDefault d.nvm a l }

/-- Erases `n` bytes of NVM from address `a` to 0xFF. -/
def Device.nvmErase (d : Device) (a n : Nat) : Device :=
  { d with nvm := (d.nvm.filter fun c => decide (c.1 < a) || decide (a + n ≤ c.1)) |>
      fun m => if 0xEE000 < a + n ∧ a < 0xF0000 then cellsWrite nvmDefault m a (List.replicate n 0xFF) else m }

/-- The byte at `off` of Room `n`'s window RAM: rings and result buffer. -/
def Device.winRead (d : Device) (n : RoomId) (off : Nat) : Byte :=
  cellRead zeroByte d.wram (n.val * 4096 + off)

/-- Writes bytes of Room `n`'s window RAM from `off` upwards. -/
def Device.winWrite (d : Device) (n : RoomId) (off : Nat) (l : List Byte) : Device :=
  { d with wram := cellsWrite zeroByte d.wram (n.val * 4096 + off) l }

end Sys2Proof.Machine
end

