-- ==== Sys2Proof/Machine/Faults.lean ====
section
/-! DEFINITION. The fault collector (R643 to R669): event flags of Rooms, classification, the FIFO, the active table,
Safe Hold, the Ledger writer and the Grave path; and how a command's effect becomes an outcome. -/
namespace Sys2Proof.Machine

/-! ### Event flags (R303, R304) -/

/-- Bits of `EVT.FLAGS` (R303). -/
def evCq : Nat := 0
def evCqFull : Nat := 1
def evRail : Nat := 2
def evFault : Nat := 3
def evPower : Nat := 4
def evBurst : Nat := 5
def evLarder : Nat := 6
def evGwd : Nat := 7
def evKeeper : Nat := 8
def evRingErr : Nat := 9
def evLinkErr : Nat := 10

/-- Sets an event flag of a Room; a Closed Room holds none (R304). -/
def RoomRegs.setFlag (k : Nat) (r : RoomRegs) : RoomRegs :=
  if r.st = .closed then r else { r with evFlags := r.evFlags ||| BitVec.twoPow 32 k }

/-- Sets an event flag in one Room. -/
def Device.flag (d : Device) (n : RoomId) (k : Nat) : Device := d.updRoom n (RoomRegs.setFlag k)

/-- Sets an event flag in every Open or Parked Room. -/
def Device.flagAll (d : Device) (k : Nat) : Device := { d with rooms := d.rooms.map (RoomRegs.setFlag k) }

/-! ### Messages and classes (R647, R651, R652) -/

/-- A coded message (R647). -/
def coded (source kind : Nat) (qual : Nat := 0) : Word :=
  BitVec.ofNat 32 (source % 256 * 2 ^ 24 + kind % 256 * 2 ^ 16 + qual % 2 ^ 16)

def msgSource (m : Word) : Nat := m.toNat / 2 ^ 24
def msgKind (m : Word) : Nat := m.toNat / 2 ^ 16 % 256
def msgQual (m : Word) : Nat := m.toNat % 2 ^ 16

/-- The qualifier byte that names a keeper (R651). -/
def keeperCode (k : Keeper) : Nat := match k with | .a => 0 | .b => 1

/-- Classes as numbers 0 to 4. -/
def Cls.code : Cls → Nat
  | .note => 0 | .warn => 1 | .trip => 2 | .hold => 3 | .grave => 4

/-- The class with a number, C4 above 3. -/
def classOfNat : Nat → Cls
  | 0 => .note | 1 => .warn | 2 => .trip | 3 => .hold | _ => .grave

/-- Floor and factory class of a kind (R651); a reserved encoding counts as C0 (log entry 9). -/
def kindClasses (source kind qual : Nat) : Nat × Nat :=
  match faultKinds.find? (fun k => k.1 == source && k.2.1 == kind) with
  | some (_, _, fl, fac) => if source = 6 ∧ kind = 2 ∧ qual = 8 then (fl, 1) else (fl, fac)
  | none => (0, 0)

/-- The class of an `FLT.map` entry that matches, with or without a qualifier (R652, R738). -/
def mapMatch (map : List Int) (source kind : Nat) (qual : Option Nat) : Option Nat :=
  (map.find? fun v => decide (fieldByte v 0 = source) && decide (fieldByte v 0 ≠ 0) && decide (fieldByte v 1 = kind) &&
    match qual with
    | some q => decide (fieldByte v 2 ≥ 128) && decide (fieldByte v 4 + 256 * fieldByte v 5 = q)
    | none => decide (fieldByte v 2 < 128)).map fun v => fieldByte v 2 % 8

/-- The class of a message (R652). -/
def Device.classify (d : Device) (m : Word) : Cls :=
  let src := msgSource m
  let kind := msgKind m
  let qual := msgQual m
  let map := (List.range 64).map fun i => d.fld Fld.fltMap i
  let cls := kindClasses src kind qual
  let mapped := ((mapMatch map src kind (some qual)).orElse fun _ => mapMatch map src kind none).getD cls.2
  let c := max mapped cls.1
  classOfNat (if 4 ≤ c ∧ cls.1 ≠ 4 then 3 else c)

/-! ### Where the collector runs (R643) -/

/-- The collector runs in every state but SHIP, SEALED and POR. -/
def Device.collecting (d : Device) : Bool :=
  match d.power.phase with
  | .por | .ship | .sealed => false
  | _ => true

/-- The writer context of an entry (R664). -/
def Device.writerCtx (d : Device) : Nat :=
  match d.power.phase with
  | .open | .lodgeDown | .shipDown =>
    if d.keepers.a.role = .active then 0 else if d.keepers.b.role = .active then 1 else 2
  | .starting => if d.keepers.a.role = .active then 0 else if d.keepers.b.role = .active then 1 else 3
  | .gate | .romSafeHold => 3
  | _ => 2

/-! ### The Ledger writer (R649, R663 to R666) -/

/-- NVM address of Ledger slot `i` (R203, R663). -/
def ledgerAddr (i : Nat) : Nat := 0xC0000 + 16 * (i % 8192)

/-- The bytes of an entry (R664). -/
def ledgerBytes (seq : Word) (msg : Word) (time epoch info : Nat) : List Byte :=
  let b := leBytes 4 seq.toNat ++ leBytes 4 msg.toNat ++ leBytes 4 time ++ leBytes 2 epoch ++ leBytes 1 info
  b ++ [crc8 b]

/-- Byte 14 of an entry. -/
def ledgerInfo (m : FaultMsg) (isGrave : Bool) : Nat :=
  m.cls.code + 8 * b2n m.pair + 16 * b2n m.line + 32 * b2n isGrave + 64 * m.ctx

/-- Programs one entry at the next slot, erasing the sector first at its start. -/
def Device.ledgerWrite (d : Device) (m : FaultMsg) (isGrave : Bool) : Device :=
  let f := d.faults
  let boot := msgSource m.msg = 0x13 ∧ msgKind m.msg = 1 ∧ m.time / 2 ^ 16 % 256 = 1
  let epoch := if boot then f.epoch + 1 else f.epoch
  let seq : Word := if f.seq.toNat ≥ 0xFFFFFFFE then 1 else f.seq + 1
  let slot := f.slot % 8192
  let d := if slot % 256 = 0 then d.nvmErase (ledgerAddr slot) 4096 else d
  let d := d.nvmWrite (ledgerAddr slot) (ledgerBytes seq m.msg m.time epoch (ledgerInfo m isGrave))
  d.updFaults fun f => { f with
    seq := seq, slot := (slot + 1) % 8192, epoch := epoch,
    active := f.active.map fun a => if a.ticket = m.ticket then { a with ledgerSeq := seq } else a }

/-- The count of a source and kind in the current hour. -/
def rateOf (rs : List RateCount) (source kind : Nat) : RateCount :=
  (rs.find? fun r => r.source == source && r.kind == kind).getD
    { source := source, kind := kind, written := 0, suppressed := 0 }

/-- `rs` with the count of its source and kind replaced. -/
def ratePut (rs : List RateCount) (r : RateCount) : List RateCount :=
  rs.filter (fun x => !(x.source == r.source && x.kind == r.kind)) ++ [r]

/-- Whether the rate limit lets a message's entry be written (R666). -/
def rateAllows (limit : Nat) (r : RateCount) (m : FaultMsg) : Bool :=
  decide (m.cls.code ≥ 3) || decide (r.written < limit)

/-- The writer writes or suppresses one message (R649, R666). -/
def Device.ledgerTake (d : Device) (m : FaultMsg) : Device :=
  let r := rateOf d.faults.rates (msgSource m.msg) (msgKind m.msg)
  if rateAllows (d.fn Fld.fltRate) r m then
    (d.ledgerWrite m false).updFaults fun f => { f with rates := ratePut f.rates { r with written := r.written + 1 } }
  else d.updFaults fun f => { f with rates := ratePut f.rates { r with suppressed := r.suppressed + 1 } }

/-- The `seq` that the newest message of the FIFO will have once the writer reaches it (R673). -/
def Device.lastSeq (d : Device) : Nat :=
  (d.faults.fifo.foldl (fun (acc : Nat × List RateCount) m =>
    let r := rateOf acc.2 (msgSource m.msg) (msgKind m.msg)
    if rateAllows (d.fn Fld.fltRate) r m then (acc.1 + 1, ratePut acc.2 { r with written := r.written + 1 })
    else acc) (d.faults.seq.toNat, d.faults.rates)).1

/-! ### The FIFO and the active table (R648 to R654) -/

/-- Enters a message in the FIFO, or loses it when the FIFO is full (R648, R650). -/
def Faults.enqueue (f : Faults) (m : FaultMsg) : Faults :=
  if f.fifo.length < 64 then { f with fifo := f.fifo ++ [m] }
  else if m.cls.code ≥ 2 then
    match f.fifo.reverse.findIdx? (fun x => decide (x.cls.code ≤ 1)) with
    | some i => { f with fifo := f.fifo.eraseIdx (f.fifo.length - 1 - i) ++ [m], lost := f.lost + 1 }
    | none => { f with lost := f.lost + 1 }
  else { f with lost := f.lost + 1 }

/-- The index of the oldest entry of at most class `c`. -/
def oldestEntry (l : List ActiveEntry) (c : Nat) : Option Nat :=
  match l.findIdx? (fun a => decide (a.cls.code ≤ c)) with
  | none => none
  | some i => some ((List.range l.length).foldl (fun best j =>
      match l[j]?, l[best]? with
      | some a, some b => if a.cls.code ≤ c ∧ a.time < b.time then j else best
      | _, _ => best) i)

/-- Enters or updates a message of class C1 or above in the active table (R654). -/
def Faults.activate (f : Faults) (m : FaultMsg) (batch : BitVec 48) (now : Nat) : Faults :=
  if m.cls.code = 0 then f
  else if f.active.any (fun a => a.msg == m.msg) then
    { f with active := f.active.map fun a =>
        if a.msg = m.msg then { a with batch := batch, cls := m.cls, occurrences := sat 255 (a.occurrences + 1),
                                       time := now } else a }
  else
    let e : ActiveEntry := { msg := m.msg, batch := batch, cls := m.cls, occurrences := 1, ticket := m.ticket,
                             ledgerSeq := 0, read := false, time := now }
    if f.active.length < 32 then { f with active := f.active ++ [e] }
    else match oldestEntry f.active (if m.cls.code = 1 then 1 else 2) with
      | some i => { f with active := f.active.eraseIdx i ++ [e] }
      | none => f

/-- What every message of class C0 to C3 does: FIFO, the keeper's copy, active table and flags (R649, R653). -/
def Device.record (d : Device) (msg : Word) (cls : Cls) (pair line : Bool) (time : Nat) : Device :=
  let m : FaultMsg := { msg := msg, cls := cls, pair := pair, line := line, ticket := d.faults.tickets, time := time,
                        ctx := d.writerCtx }
  let d := d.updFaults fun f =>
    let f := (f.enqueue m).activate m d.batch.number d.now
    { f with tickets := f.tickets + 1, unread := (f.unread ++ [msg]).drop (f.unread.length + 1 - 64) }
  d.when (decide (cls.code ≥ 1)) (·.flagAll evFault)

/-! ### Cancelling bursts not started (R575, R582, R656) -/

/-- The device time at which a pulse due at `now` rises: 1 ms after the latest one ends when that one is still high. -/
def pulseStart (pulses : List (Nat × Nat)) (now : Nat) : Nat :=
  match pulses with
  | [] => now
  | (code, start) :: _ => if now < start + 1000 * code then start + 1000 * code + 1000 else now

/-- Reports an outcome on `BSTAT` and to the keeper (R575, R579). -/
def BurstHw.report (b : BurstHw) (code now : Nat) : BurstHw :=
  { b with pulses := (code, pulseStart b.pulses now) :: b.pulses.take 3, unread := b.unread ++ [code] }

/-- Cancels each armed entry with outcome 5. -/
def BurstHw.cancelArmed (b : BurstHw) (now : Nat) : BurstHw :=
  let b := match b.first with
    | some e => if e.st = EntrySt.armed then ({ b with first := some { e with st := .resolved 5 } }).report 5 now else b
    | none => b
  match b.second with
  | some e => if e.st = EntrySt.armed then ({ b with second := some { e with st := .resolved 5 } }).report 5 now else b
  | none => b

/-! ### Raising a message -/

/-- The time field of an ordinary entry: device time in whole seconds (R664). -/
def Device.entryTime (d : Device) : Nat := d.now / 1000000

/-- Enters Safe Hold (R656): the gating starts at the next edge, and the hold votes follow in the next working Batch. -/
def Device.enterSafeHold (d : Device) : Device :=
  if d.faults.safeHold then d
  else
    let d := (d.updBurst (·.cancelArmed d.now)).updFaults fun f =>
      { f with safeHold := true, gating := false, holdVotes := false, leaving := false }
    d.record (coded 0x0F 4 1) (d.classify (coded 0x0F 4 1)) false false d.entryTime

/-- Classifies a message and takes the reactions of its class (R643, R652, R653). A Grave message leaves the Grave path
to the end of the command. -/
def Device.raiseAs (d : Device) (msg : Word) (pair line : Bool) (time : Nat) : Device :=
  if d.collecting then
    let cls := d.classify msg
    let cls := if line ∧ cls = .grave then Cls.hold else cls
    match cls with
    | .grave => d.updFaults fun f => { f with graveDue := some (f.graveDue.getD (msg, pair)) }
    | .hold => (d.record msg cls pair line time).enterSafeHold
    | _ => d.record msg cls pair line time
  else d

/-- A coded message from a block, the keeper or the Starter ROM. -/
def Device.raise (d : Device) (msg : Word) : Device := d.raiseAs msg false false d.entryTime

/-- A message from a dual-rail pair. -/
def Device.raisePair (d : Device) (msg : Word) : Device := d.raiseAs msg true false d.entryTime

/-- A pair has a line fault: its wires are equal (R644). -/
def Device.pairCut (d : Device) (p : Fin 24) : Bool :=
  let x := d.faults.pairs.get p
  x.wireT == x.wireC

/-- A protection's message through its pair: while the pair has a line fault, its kind is not raised (R645). -/
def Device.raiseOn (d : Device) (p : Fin 24) (msg : Word) : Device := if d.pairCut p then d else d.raisePair msg

/-- The pair that reports the protections of a rail (R645). -/
def railPair (r : RailId) : Fin 24 :=
  match r.val with
  | 0 => 6 | 1 => 7 | 2 => 8 | 3 => 9 | 4 => 10 | 5 => 10 | 6 => 11 | 7 => 11 | 8 => 12 | 9 => 12 | _ => 13

/-- The next message of the FIFO leaves it; then `FIFO_OVERFLOW` follows when messages were lost (R649, R650). -/
def Device.ledgerStep (d : Device) : Device :=
  match d.faults.fifo with
  | [] => d
  | m :: rest =>
    let d := (d.updFaults fun f => { f with fifo := rest }).ledgerTake m
    if d.faults.lost = 0 then d
    else
      let n := sat 65535 d.faults.lost
      (d.updFaults fun f => { f with lost := 0 }).raise (coded 0x0F 2 n)

/-- Removes the C2 entries of a kind, with one qualifier or with any, whose block releases (R654). -/
def Device.clearActive (d : Device) (source kind : Nat) (qual : Option Nat := none) : Device :=
  d.updFaults fun f => { f with active := f.active.filter fun a =>
    !(a.cls == .trip && msgSource a.msg == source && msgKind a.msg == kind && (match qual with | some q => msgQual a.msg == q | none => true)) }

/-- `MIR.FAULT` (R293, R655). -/
def Device.mirFault (d : Device) : Nat :=
  let act := d.faults.active
  b2n (act.any fun a => a.cls = .warn) + 2 * b2n (act.any fun a => decide (a.cls.code ≥ 2)) +
    4 * b2n d.faults.safeHold + 8 * b2n (d.chg.latched ≠ 0) +
    256 * sat 255 (act.filter fun a => !a.read).length

/-! ### POR and the Grave path -/

/-- What the dock input's own comparators and detection hold: they work while the device is unpowered (R421 to R423), as
does the kinetic clamp (R434); their times count from the POR. -/
def Path.porKeep (p z : Path) : Path :=
  { z with dcValid := p.dcValid, dcOv := p.dcOv, dock := p.dock, dockMa := p.dockMa, bcResult := p.bcResult, cc2 := p.cc2,
           clamp := p.clamp }

/-- A lifecycle word copy with `k` words programmed (R701, R702). -/
def lifecycleWords (k : Nat) : Vector Word 4 := Vector.ofFn fun (i : Fin 4) => if i.val < k then 0 else 0xFFFFFFFF

/-- A lifecycle advance that a reset interrupts is in the old state or the new one: a free bit (R703, log entry 2). -/
def Device.advanceCut (d : Device) : Device :=
  match d.sec.advance with
  | none => d
  | some a =>
    let (x, d) := d.free
    d.updSec fun s => { s with advance := none, copyA := if x % 2 = 1 then lifecycleWords a.target else s.copyA }

/-- What a POR leaves: NVM, key store, lifecycle words, the AON latches and what is read off the balls themselves; everything
else as at reset (R113, R49). -/
def Device.porReset (d : Device) : Device :=
  let d := d.advanceCut
  let z := Device.resetWith d.keys.deviceId
  { z with
    nvm := d.nvm, cfg := d.cfg, keys := { d.keys with loading := none },
    sec := { z.sec with copyA := d.sec.copyA, copyB := d.sec.copyB },
    power := { z.power with shipLatch := d.power.shipLatch, sealedLatch := d.power.sealedLatch, aonMv := d.power.aonMv },
    pins := { z.pins with vioGood := d.pins.vioGood },
    path := d.path.porKeep z.path,
    faults := { z.faults with graveWake := d.faults.graveWake, seq := d.faults.seq, slot := d.faults.slot,
                              epoch := d.faults.epoch },
    freeCtr := d.freeCtr }

/-- The Grave path (R659): the Grave entry ahead of the FIFO, everything off, the SEALED latch with `FLT.grave_wake`. -/
def Device.gravePath (d : Device) (msg : Word) (pair : Bool) : Device :=
  let m : FaultMsg := { msg := msg, cls := .grave, pair := pair, line := false,
                        ticket := d.faults.tickets, time := d.entryTime, ctx := d.writerCtx }
  let wake := d.fn Fld.fltGraveWake
  let d := d.ledgerWrite m true
  let z := d.porReset
  { z with power := { z.power with phase := .sealed, sealedLatch := true },
           faults := { z.faults with graveWake := wake, graveLow := !d.path.dcValid } }

/-- The end of a command: a Grave message classified in it is followed by the Grave path. -/
def Device.finish (d : Device) : Device :=
  match d.faults.graveDue with
  | some m => d.gravePath m.1 m.2
  | none => d

/-! ### From an effect to an outcome -/

/-- The outcome of a command with effect `f` that leaves the Batch timer and device time alone. -/
def State.onDev (s : State) (f : Device → Device) : Res :=
  .next { s with dev := { (f s.dev).finish with batch := s.dev.batch } }

/-- The outcome of a command that may move the Batch timer; device time never decreases (R136). -/
def State.onClk (s : State) (f : Device → Device) : Res :=
  let t := (f s.dev).finish
  .next { s with dev := { t with batch := { t.batch with time := max s.dev.batch.time t.batch.time } } }

/-- The outcome of a command that resets device time: POR and its release (R112). -/
def State.onPor (s : State) (f : Device → Device) : Res := .next { s with dev := f s.dev }

end Sys2Proof.Machine
end

