-- ==== Sys2Proof/Machine/Clock.lean ====
section
/-! DEFINITION. Device time (R134 to R136): the Batch period, its instants, the next edge, the KEEP clock, and moving time to
the instant of an event. -/
namespace Sys2Proof.Machine

/-- Phases in which the Batch runs (R112, R127). -/
def Phase.batchRuns : Phase → Bool
  | .open | .lodgeDown | .shipDown => true
  | _ => false

/-- Phases in which device time advances at all: it is held at 0 in POR, and stands in SHIP and SEALED (R112, R135). -/
def Phase.timeRuns : Phase → Bool
  | .por | .ship | .sealed => false
  | _ => true

/-- The period of the current Batch in µs (R137). -/
def BatchTimer.period (b : BatchTimer) : Nat := if b.rest then 16000 else 1000

/-- Device time of the edge that ends the current Batch (R134). -/
def BatchTimer.nextEdge (b : BatchTimer) : Nat := b.edgeTime + b.period

/-- Device times of the budget mark and the commit deadline of the current Batch (R137). -/
def Device.budgetTime (d : Device) : Nat := d.batch.edgeTime + if d.batch.rest then 11200 else 700
def Device.deadlineTime (d : Device) : Nat := d.batch.edgeTime + if d.batch.rest then 11350 else 850

/-! ### The KEEP clock (R132, R135) -/

/-- Device time after `n` more periods of the KEEP clock, each of 15,625/512 µs. -/
def BatchTimer.keepSteps (b : BatchTimer) (n : Nat) : BatchTimer :=
  let at_ := 512 * b.time + b.timeFrac + 15625 * n
  { b with time := at_ / 512, timeFrac := at_ % 512 }

/-- While the Batch is stopped, an event at `t` is met at the first KEEP step that is not before it. -/
def BatchTimer.keepTo (b : BatchTimer) (t : Nat) : BatchTimer :=
  b.keepSteps ((512 * t - (512 * b.time + b.timeFrac) + 15624) / 15625)

/-- The latest KEEP step not after `t`. -/
def BatchTimer.keepBefore (b : BatchTimer) (t : Nat) : BatchTimer :=
  b.keepSteps ((512 * t - (512 * b.time + b.timeFrac)) / 15625)

/-- Phases paced by a tick of 1.000 ms instead of the Batch (R391, log entry 32). -/
def Phase.ticks : Phase → Bool
  | .starting | .romSafeHold => true
  | _ => false

/-- Whether an instant has its place before the edge that ends the current Batch, or before the next tick where ticks pace the device;
always, where neither comes. -/
def Device.reaches (d : Device) (t : Nat) : Bool :=
  if d.power.phase.batchRuns then decide (t ≤ d.batch.nextEdge)
  else !d.power.phase.ticks || decide (t ≤ d.power.tickAt + 1000)

/-- The charger runs in RUN, DOZE, REST and LODGE (R514). -/
def Device.chgRuns (d : Device) : Bool :=
  match d.power.phase with
  | .open | .lodgeDown | .lodge | .shipDown => true
  | _ => false

/-- The precharge timer counts: the current is at least half of `CHG.i_pre` (R504). -/
def Device.preCounts (d : Device) : Bool :=
  d.chgRuns && decide (d.chg.phase = .precharge) && decide (2 * d.sample.batUa ≥ 5000 * (d.fn Fld.chgIPre : Int))

/-- The fast timer counts (R505). -/
def Device.fastCounts (d : Device) : Bool :=
  d.chgRuns && d.path.dcValid &&
    (decide (d.chg.phase = .fast) || decide (d.chg.phase = .taper) || decide (d.chg.phase = .recharge))

/-- The charger's timers count the device time that passes (R498, R504, R505). -/
def Device.chgElapse (d : Device) (dt : Nat) : Device :=
  d.updChg fun c => { c with
    tPre := if d.preCounts then c.tPre + dt else c.tPre,
    tFast := if d.fastCounts then c.tFast + dt else c.tFast,
    tTop := if d.chgRuns && decide (c.phase = .topoff) then c.tTop + dt else c.tTop }

/-- Device time as it reads once an instant has come: that instant while the Batch runs, a KEEP step while it is stopped
(R134, R135); never backwards (R136). -/
def Device.timerAt (d : Device) (t : Nat) : BatchTimer :=
  if d.power.phase.batchRuns then { d.batch with time := max d.batch.time t } else d.batch.keepTo t

/-- A Batch timer that has run on, with what counts the time that passed. -/
def Device.elapse (d : Device) (b : BatchTimer) : Device := { d.chgElapse (b.time - d.now) with batch := b }

/-- Moves device time forward to an instant. -/
def Device.moveTo (d : Device) (t : Nat) : Device := d.elapse (d.timerAt t)

end Sys2Proof.Machine
end

