-- ==== Sys2Proof/Machine/Burst.lean ====
section
/-! DEFINITION. The burst hardware (R570 to R579): starting, failing and ending a burst. -/
namespace Sys2Proof.Machine

/-- The device time of the start edge at which an entry starts: its schedule plus its slip (R576). -/
def BurstEntry.startTime (e : BurstEntry) : Nat := e.sched + e.slip * 1000

/-- The entry whose burst runs, if any. -/
def BurstHw.running (b : BurstHw) : Option BurstEntry :=
  match b.first with
  | some e => if e.st = EntrySt.running then some e
              else b.second.filter fun e => decide (e.st = EntrySt.running)
  | none => b.second.filter fun e => decide (e.st = EntrySt.running)

/-- The first entry runs. -/
def BurstHw.firstRuns (b : BurstHw) : Bool :=
  match b.first with
  | some e => decide (e.st = EntrySt.running)
  | none => false

/-- Resolves the first or the second entry with an outcome and reports it (R575). -/
def BurstHw.resolve (b : BurstHw) (isFirst : Bool) (code now : Nat) : BurstHw :=
  let done := fun (e : BurstEntry) => { e with st := EntrySt.resolved code }
  let b := if isFirst then { b with first := b.first.map done } else { b with second := b.second.map done }
  b.report code now

/-- The second entry, still armed, is cancelled (R577, R582). -/
def BurstHw.cancelSecond (b : BurstHw) (now : Nat) : BurstHw :=
  match b.second with
  | some e => if e.st = EntrySt.armed then b.resolve false 5 now else b
  | none => b

/-- State codes of `RAIL_QUERY` (R378). -/
def RailSt.code : RailSt → Nat
  | .off => 0 | .proofing => 1 | .proofed => 2 | .sagging => 3 | .tripped => 4 | .held => 5

/-- A failed PA ends the running burst with PA_FAIL; the first burst's failure cancels the second unless the pair is
PAIR_EITHER; the qualifier is PA's state code (R574, R577, R585). -/
def Device.burstPaFail (d : Device) : Device :=
  match d.burst.running with
  | none => d
  | some e =>
    let isFirst := d.burst.firstRuns
    let d := d.updPins fun p => { p with bgnt := false }
    let d := d.updBurst fun b => b.resolve isFirst 4 d.now
    let d := d.when (isFirst && decide (e.policy ≠ Policy.either)) (·.updBurst fun b => b.cancelSecond d.now)
    d.raise (coded 0x0C 1 (d.rails.rails.get 3).st.code)

/-- Starts the burst of an entry at its start edge; PA HELD there fails it at once (R571, R574). -/
def Device.burstBegin (d : Device) (isFirst : Bool) : Device :=
  let run := fun (o : Option BurstEntry) => o.map fun (e : BurstEntry) => { e with st := EntrySt.running }
  let d := d.updBurst fun b => if isFirst then { b with first := run b.first } else { b with second := run b.second }
  if (d.rails.rails.get 3).st = .held then d.burstPaFail else d

/-- The end of a running burst: `BGNT` falls, the vote ends with it, and the outcome is DELIVERED, at its scheduled
start or after a slide (R573, R575). -/
def Device.burstFinish (d : Device) : Device :=
  match d.burst.running with
  | none => d
  | some e =>
    let isFirst := d.burst.firstRuns
    (d.updPins fun p => { p with bgnt := false }).updBurst fun b => b.resolve isFirst (if e.slip = 0 then 1 else 2) d.now

end Sys2Proof.Machine
end

