-- ==== Sys2Proof/Machine/Requests.lean ====
section
/-! DEFINITION. Requests in flight (chapters 07, 09 and 23): the checks of R245, deduplication, records, argument blocks,
completions and their posting; and the shape that every SMP command has. -/
namespace Sys2Proof.Machine

/-! ### Status codes (R765) -/

def stOk : Nat := 0x00
def stAccepted : Nat := 0x01
def stDup : Nat := 0x02
def stDeferred : Nat := 0x03
def stBadOpcode : Nat := 0x10
def stBadArg : Nat := 0x11
def stNotAllotted : Nat := 0x12
def stPrivilege : Nat := 0x13
def stQuota : Nat := 0x14
def stTagConflict : Nat := 0x15
def stVersion : Nat := 0x16
def stBusy : Nat := 0x20
def stRefusedEnergy : Nat := 0x21
def stSwapContended : Nat := 0x22
def stFault : Nat := 0x30
def stRolledBack : Nat := 0x31
def stInternal : Nat := 0x3F

/-! ### Rooms as the checks see them -/

/-- The number of the rings' Room entry of the Recipe in force for a mask field. -/
def Device.allotMask (d : Device) (f : FieldId) (n : RoomId) : Nat := d.fn f n.val

/-- Room `n` may change rail `r` (R242). -/
def Device.mayRail (d : Device) (n : RoomId) (r : Nat) : Bool := bit (d.allotMask Fld.roomRails n) r

/-- Room `n` holds feature `k` (R242). -/
def Device.hasFeature (d : Device) (n : RoomId) (k : Nat) : Bool := bit (d.allotMask Fld.roomFeatures n) k

/-- Key slot `k` is allotted to Room `n` (R244). -/
def Device.mayKey (d : Device) (n : RoomId) (k : Nat) : Bool := bit (d.allotMask Fld.roomKeys n) k

/-- ROM Safe Hold (R222). -/
def Device.romHold (d : Device) : Bool := decide (d.power.phase = .romSafeHold)

/-- Privilege of a Room: 0 OWNER, 1 TENANT, 2 VIEWER; in ROM Safe Hold, Room 15 is OWNER (R222). -/
def Device.privOf (d : Device) (n : RoomId) : Nat := if d.romHold then 0 else (d.rooms.get n).idPriv

/-- `HELLO`, `BYE`, `PING` and `ROOM_QUERY`, which no quota touches (R248). -/
def quotaFree (op : Nat) : Bool := op == 0 || op == 1 || op == 2 || op == 4

/-- Records held against a Room's quota (R246, R248). -/
def Device.held (d : Device) (n : RoomId) : Nat :=
  (d.reqs.recs.filter fun r => r.id.room == n && !quotaFree r.opcode).length

/-- Argument blocks that a Room holds (R321). -/
def Device.blocks (d : Device) (n : RoomId) : Nat :=
  (d.reqs.recs.filter fun r => r.id.room == n && r.held).length

/-! ### Rings (R296, R300) -/

/-- Completions in the ring of a Room (R296). -/
def RoomRegs.cqUsed (r : RoomRegs) : Nat := (r.cqTail - r.cqHead).toNat

/-- Requests in the submission ring of a Room (R296). -/
def RoomRegs.sqUsed (r : RoomRegs) : Nat := (r.sqTail - r.sqHead).toNat

/-- The 16 bytes of a completion (R314). -/
def complBytes (tag seq : Half) (status cflags : Nat) (batch : BitVec 48) (result : List Byte) : List Byte :=
  leBytes 2 tag.toNat ++ leBytes 2 seq.toNat ++ leBytes 1 status ++ leBytes 1 cflags ++
    leBytes 2 (batch.toNat % 65536) ++ slice result 0 8

/-- Writes one completion in the slot named by `CQ_TAIL`, advances it and sets `CQ` (R300, R303). -/
def Device.postSlot (d : Device) (n : RoomId) (bytes : List Byte) (quiet : Bool) : Device :=
  let r := d.rooms.get n
  let d := d.winWrite n (0xA00 + 16 * (r.cqTail.toNat % 64)) bytes
  let d := d.updRoom n fun r => { r with cqTail := r.cqTail + 1 }
  d.when (!quiet) (·.flag n evCq)

/-- The status from which a result is carried (R314, R763). -/
def carriesResult (status : Nat) (result : List Byte) : List Byte :=
  if status = stOk ∨ status = stAccepted ∨ status = stFault ∨ status = stBadArg then result else []

/-- Completions of a Room that wait to be posted. -/
def Device.waitingOf (d : Device) (n : RoomId) : Nat := (d.reqs.waiting.filter fun w => w.id.room == n).length

/-- An answer without a record (R319, R332): none when the completion ring has no free slot for it. Behind completions of its Room
that are still to be posted it waits for step 6, since a Room's completions are posted in the order produced (R326). -/
def Device.answer (d : Device) (n : RoomId) (tag seq : Half) (status cflags : Nat) (result : List Byte)
    (quiet : Bool) : Option Device :=
  let w := d.waitingOf n
  if (d.rooms.get n).cqUsed + w ≥ 64 then none
  else if w = 0 then some (d.postSlot n (complBytes tag seq status cflags d.batch.number result) quiet)
  else
    let c : Compl := { status := BitVec.ofNat 8 status, slid := bit cflags 2, dup := bit cflags 0, result := slice result 0 8 }
    some (d.updReqs fun q => { q with waiting := q.waiting ++
      [{ id := { room := n, tag := tag, seq := seq }, compl := c, final := false, quiet := quiet, batch := d.batch.number }] })

/-- `PWR_LODGE` and `PWR_RESTART` pass their commit point when their `OK` is posted (R338), an ADC trigger with the publish
of the set that carries it (R616). -/
def Rec.commitsAtPost (r : Rec) : Bool := r.opcode == 0x012 || r.opcode == 0x014
def Rec.commitsAtPublish (r : Rec) : Bool := r.opcode == 0x501

/-- A completion of a request whose record or argument block suffered an ECC error (R763, R767). -/
def internalCompl : Compl := { status := 0x3F, slid := false, dup := false, result := List.replicate 8 0 }

/-- The ECC error that a final completion about to be posted meets: whether `tag` and `seq` read (R767). -/
def Device.eccOf (d : Device) (p : PostItem) : Option Bool :=
  if p.final then
    (d.reqs.recs.find? fun r => r.id == p.id && decide (r.st = .done) && r.postedAt.isNone).bind (·.ecc)
  else none

/-- Posts one waiting completion; the flags `LATE` and `SLID` as R317 gives, `INTERNAL` as R767 gives. Its Batch is that of the
posting (R143), of a `TIME` completion posted later than its execution too (DESIGN CHOICE, log entry 109: R155 names the Batch of
execution). -/
def Device.postItem (d : Device) (p : PostItem) : Device :=
  let ecc := d.eccOf p
  let p := if ecc.isSome then { p with compl := internalCompl } else p
  let tag : Half := if ecc = some false then 0xFFFF else p.id.tag
  let seq : Half := if ecc = some false then 0 else p.id.seq
  let n := p.id.room
  let late := p.final && (decide (p.batch ≠ d.batch.number) || d.reqs.recs.any fun r =>
    r.id == p.id && decide (r.st = .done) && r.postedAt.isNone && r.late)
  let tail := (d.rooms.get n).cqTail
  let flags := b2n p.compl.dup + 2 * b2n late + 4 * b2n p.compl.slid
  let d := d.postSlot n (complBytes tag seq p.compl.status.toNat flags d.batch.number p.compl.result) p.quiet
  d.updReqs fun q => { q with recs := q.recs.map fun r =>
    if p.final && r.id == p.id && decide (r.st = .done) && r.postedAt.isNone then
      { r with postedAt := some tail, compl := if ecc.isSome then some internalCompl else r.compl,
               intent := if r.commitsAtPost ∧ r.intent ≠ .none then .closed else r.intent }
    else r }

/-- Posts waiting completions in the order produced; a Room whose ring is full keeps the rest waiting (R300, R326). What waits for
ring space is posted in no bubble, and holds back what follows it. -/
def Device.postAll (d : Device) : Device :=
  let bubble := d.batch.bubble.isSome
  let go := d.reqs.waiting.foldl (fun (acc : Device × List PostItem × List RoomId) p =>
    if acc.2.2.contains p.id.room || decide ((acc.1.rooms.get p.id.room).cqUsed ≥ 64) ||
        (bubble && (d.rooms.get p.id.room).cqWait) then
      (acc.1, acc.2.1 ++ [p], p.id.room :: acc.2.2)
    else (acc.1.postItem p, acc.2.1, acc.2.2)) (d, [], [])
  let d := go.1.updReqs fun q => { q with waiting := go.2.1 }
  d.each all16 fun n d =>
    let w := go.2.2.contains n
    let d := d.when (w && !(d.rooms.get n).cqWait) (·.flag n evCqFull)
    d.updRoom n fun r => { r with cqWait := w }

/-! ### Completing a record -/

/-- The record of a request. -/
def Device.findRec (d : Device) (id : ReqId) : Option Rec := d.reqs.recs.find? fun r => r.id == id && r.st ≠ .done

/-- Changes the record of a request in flight. -/
def Device.updRec (d : Device) (id : ReqId) (f : Rec → Rec) : Device :=
  d.updReqs fun q => { q with recs := q.recs.map fun r => if r.id = id ∧ r.st ≠ .done then f r else r }

/-- Commands whose bytes wait to be programmed, digested or loaded hold their argument block to the end (R321): of `IMAGE_STAGE` and
`RECIPE_WRITE`, DATA alone. -/
def Rec.keepsBlock (r : Rec) : Bool :=
  r.opcode == 0x601 || r.opcode == 0x600 ||
    ((r.opcode == 0x910 || r.opcode == 0xA01) && byteAt (r.args.getD []) 0 == 2)

/-- A checkpoint of Batch `b` or a later one has been accepted since the start. -/
def Device.ckptCovers (d : Device) (b : BitVec 48) : Bool :=
  decide (b ≤ d.keepers.ckptBatch) && (decide (d.keepers.ckptBatch ≠ 0) ||
    decide ((if d.keepers.ckptBuffer then d.ckpt1 else d.ckpt0).mark = 0xA5))

/-- Releases the argument blocks that neither their command nor a replay needs any longer (R321); their bytes stay with the record
(R182, log entry 101). -/
def Device.releaseBlocks (d : Device) : Device :=
  d.updReqs fun q => { q with recs := q.recs.map fun r =>
    match r.execBatch with
    | some b => if d.ckptCovers b ∧ (r.st = .done ∨ (r.st = .waiting ∧ r.keepsBlock = false)) then { r with held := false } else r
    | none => r }

/-- Produces the final completion of a record (R322, R333): it is DONE, and the completion waits to be posted. -/
def Device.complete (d : Device) (id : ReqId) (status : Nat) (result : List Byte) (slid : Bool := false)
    (dup : Bool := false) : Device :=
  match d.findRec id with
  | none => d
  | some r =>
    let n := id.room
    let c : Compl := { status := BitVec.ofNat 8 status, slid := slid, dup := dup,
                       result := slice (carriesResult status result) 0 8 }
    let idx := d.reqs.produced.get n
    let d := d.updRec id fun r => { r with
      st := .done, compl := some c, producedTime := d.now, index := idx,
      intent := if r.intent = .none then .none
        else if status = stOk ∧ (r.commitsAtPost || r.commitsAtPublish) then .open false else .closed,
      args := if r.opcode = 0x600 then r.args.map (·.map fun _ => 0) else r.args }
    (d.updReqs fun q => { q with
      produced := vput q.produced n (idx + 1),
      waiting := q.waiting ++ [{ id := id, compl := c, final := true, quiet := bit r.flags 1,
                                 batch := d.batch.number }] }).releaseBlocks

/-- Posts an interim `ACCEPTED` once (R316). -/
def Device.interim (d : Device) (id : ReqId) (result : List Byte) : Device :=
  d.updReqs fun q => { q with waiting := q.waiting ++
    [{ id := id, compl := { status := 0x01, slid := false, dup := false, result := slice result 0 8 }, final := false, quiet := false,
       batch := d.batch.number }] }

/-- Retires the records whose completion slots `CQ_HEAD` has passed, into the dedup memory (R323, R333). -/
def Device.retire (d : Device) (n : RoomId) (oldHead newHead : Byte) : Device :=
  let passed := fun (t : Byte) => decide ((t - oldHead).toNat < (newHead - oldHead).toNat)
  let isOut := fun (r : Rec) => r.id.room == n && (match r.postedAt with | some t => passed t | none => false)
  d.updReqs fun q =>
    let out := q.recs.filter isOut
    { q with
      recs := q.recs.filter (fun r => !isOut r)
      dedup := vmod q.dedup n fun l => l ++ out.filterMap fun r => r.compl.map fun c =>
        { tag := r.id.tag, seq := r.id.seq, fp := r.fp, compl := c, producedTime := r.producedTime, index := r.index } }

/-- A remembered request is still matched (R333). -/
def Device.remembered (d : Device) (n : RoomId) (e : Dedup) : Bool :=
  decide (d.reqs.produced.get n < e.index + 4097) && decide (d.now ≤ e.producedTime + 30000000)

/-! ### The shape of a command (R768) -/

/-- Privilege classes (R239). -/
inductive CmdClass where
  | session | read | roomChange | deviceChange
  deriving DecidableEq, Repr

/-- How Safe Hold treats a command (R769). -/
inductive SafeCode where
  | all | owner | never
  deriving DecidableEq, Repr

/-- What executing a command leads to: its final completion, a WAITING record with what it still needs, an interim
`ACCEPTED` with the same, or nothing, when the command discarded its own record. -/
inductive Answer where
  | done (status : Nat) (result : List Byte) (slid : Bool := false) (dup : Bool := false)
  | wait (keep : List Nat) (intent : Intent := .none)
  | accept (result : List Byte) (keep : List Nat) (intent : Intent := .none)
  | gone

/-- Completes with `OK` and a result. -/
def ok (result : List Byte := []) : Answer := .done stOk result

/-- Completes with a status and no result. -/
def fails (status : Nat) : Answer := .done status []

/-- A command of R768: its attributes, its parts of checks 6, 8 and 9, and its execution (check 10 and the effect).
Arguments are the 56 bytes of the slot's argument area, 0 beyond `len` (R312). -/
structure Cmd where
  op     : Nat
  cls    : CmdClass
  feature : Option Nat := none
  /-- The Len column: the greatest offset used, or the exact `len` (R762). -/
  len    : Nat
  exact  : List Byte → Option Nat := fun _ => none
  /-- The least `len`, for a part whose length `len` gives (R640). -/
  minLen : Nat := 0
  safe   : SafeCode
  /-- Once-only (R336, R770). -/
  once   : List Byte → Bool := fun _ => false
  /-- Check 6 beyond the class. -/
  priv   : Device → RoomId → List Byte → Bool := fun _ _ _ => true
  /-- Check 8 beyond the feature. -/
  allot  : Device → RoomId → List Byte → Bool := fun _ _ _ => true
  /-- Check 9. -/
  argsOk : Device → RoomId → List Byte → Bool
  run    : Device → ReqId → List Byte → Device × Answer
  /-- The result as it stands at step 5, for a command whose result is computed there. -/
  late   : Device → ReqId → List Byte → Option (List Byte) := fun _ _ _ => none
  /-- What a replay after a takeover makes again of an executed request (R336, R341), where it differs from executing it. -/
  redo   : Option (Device → Rec → List Byte → Device) := none

/-- A header as read from a slot. -/
structure Hdr where
  id     : ReqId
  opcode : Nat
  flags  : Nat
  len    : Nat
  args   : List Byte
  /-- `hcrc` matches (R311). -/
  crcOk  : Bool

/-- The fingerprint of a request (R329). -/
def fingerprint (h : Hdr) : Word :=
  crc32 (leBytes 1 h.opcode ++ leBytes 1 (h.opcode / 256 + 16 * h.flags) ++ leBytes 1 h.len ++ slice h.args 0 h.len)

/-- The request in a slot's 64 bytes (R310). -/
def parseSlot (n : RoomId) (b : List Byte) : Hdr :=
  let w0 := numAt b 0 4
  let len := byteAt b 6
  { id := { room := n, tag := BitVec.ofNat 16 w0, seq := BitVec.ofNat 16 (numAt b 4 2) },
    opcode := w0 / 2 ^ 16 % 4096, flags := w0 / 2 ^ 28, len := len, args := slice (slice b 8 (min len 56)) 0 56,
    crcOk := crc8 (slice b 0 7) == b.getD 7 0 }

/-- The header that a request row stands for, with its opcode. -/
def Req.hdr (r : Req) (op : Nat) : Hdr :=
  { id := { room := r.room, tag := r.tag, seq := r.seq }, opcode := op, flags := r.flags.toNat, len := r.len,
    args := slice (slice r.args 0 (min r.len 56)) 0 56, crcOk := true }

/-- Check 1 of R245 (R313). -/
def Hdr.wellFormed (h : Hdr) : Bool :=
  h.crcOk && decide (h.len ≤ 56) && decide (h.flags < 4) && decide (h.id.tag ≠ 0xFFFF)

/-- Checks 6 to 9 of R245 for a listed command: the status of the first that fails. -/
def Cmd.check (c : Cmd) (d : Device) (h : Hdr) : Option Nat :=
  let n := h.id.room
  let p := d.privOf n
  let classOk := match c.cls with
    | .session | .read => true
    | .roomChange => decide (p ≤ 1)
    | .deviceChange => decide (p = 0)
  let safeBad := !d.romHold && d.faults.safeHold && (match c.safe with
    | .all => false | .owner => decide (p ≠ 0) | .never => true)
  let allotOk := d.romHold ||
    ((match c.feature with | some k => d.hasFeature n k | none => true) && c.allot d n h.args)
  let lenOk := match c.exact h.args with | some l => decide (h.len = l) | none => decide (c.minLen ≤ h.len)
  let rsvOk := (h.args.drop (match c.exact h.args with | some l => l | none => c.len)).all (· == 0)
  if !(classOk && c.priv d n h.args) then some stPrivilege
  else if safeBad then some stFault
  else if !allotOk then some stNotAllotted
  else if !(lenOk && rsvOk && c.argsOk d n h.args) then some stBadArg
  else none

/-- The opcodes that ROM Safe Hold serves (R222, R773). -/
def romServes (op : Nat) : Bool := [0x000, 0x002, 0x912, 0x910, 0x701, 0x014].contains op

/-- What intake does with one request (R319): it stays in its slot, is answered, or enters the table. -/
inductive Taken where
  | stays
  | answered (d : Device)
  | entered (d : Device)

/-- An answer at intake, or the request stays in its slot (R319). `QUIET` touches a final completion alone, which `DUP` is not
(R310, R315). -/
def Device.answerTaken (d : Device) (h : Hdr) (status cflags : Nat) (result : List Byte := []) : Taken :=
  match d.answer h.id.room h.id.tag h.id.seq status cflags result (bit h.flags 1 && decide (status ≠ stDup)) with
  | some d => .answered d
  | none => .stays

/-- The answer to a request that matches an earlier one (R330, R331): none when it does not match. -/
def Device.dedupAnswer (d : Device) (h : Hdr) (fp : Word) : Option Taken :=
  let mine := d.reqs.recs.filter fun r => r.id.room == h.id.room && r.id.tag == h.id.tag
  match mine.find? (fun r => r.st ≠ .done) with
  | some r =>
    some (if r.id.seq = h.id.seq ∧ r.fp = fp then d.answerTaken h stDup 0 else d.answerTaken h stTagConflict 0)
  | none =>
    match mine.find? (fun r => r.id.seq == h.id.seq) with
    | some r =>
      some (if r.fp = fp then
          match r.compl with
          | some c => d.answerTaken h c.status.toNat (1 + 4 * b2n c.slid) c.result
          | none => d.answerTaken h stInternal 0
        else d.answerTaken h stTagConflict 0)
    | none =>
      match (d.reqs.dedup.get h.id.room).find? (fun e =>
        e.tag == h.id.tag && e.seq == h.id.seq && d.remembered h.id.room e) with
      | some e =>
        some (if e.fp = fp then d.answerTaken h e.compl.status.toNat (1 + 4 * b2n e.compl.slid) e.compl.result
          else d.answerTaken h stTagConflict 0)
      | none => none

/-- Opcodes refused with `BUSY` when taken while R185 applies (R185, R200, R766). -/
def busyRefused (op : Nat) : Bool := op / 256 == 9 || op / 256 == 10 || op == 0xB02

/-- The least number that a list does not hold. -/
def leastFree (l : List Nat) : Nat := ((List.range l.length).find? fun i => !l.contains i).getD l.length

/-- Enters a request in the table as a TAKEN record, in the least free record and block (R319, R321, R331; the table's layout
is the model's, log entry 70). -/
def Device.enterRec (d : Device) (h : Hdr) (fp : Word) : Device :=
  d.updReqs fun q => { q with
    recs := q.recs ++ [{ id := h.id, opcode := h.opcode, flags := h.flags, len := h.len, fp := fp,
                         args := if h.len = 0 then none else some h.args, held := decide (h.len ≠ 0), st := .taken, intent := .none,
                         takenBatch := d.batch.number, execBatch := none, compl := none, producedTime := 0, index := 0,
                         postedAt := none, wait := [], late := false,
                         busy := d.keepers.busy && busyRefused h.opcode, slot := leastFree (q.recs.map (·.slot)),
                         block := leastFree ((q.recs.filter fun r => r.id.room == h.id.room && r.held).map (·.block)),
                         ecc := none }],
    dedup := vmod q.dedup h.id.room fun l => l.filter fun e => e.tag ≠ h.id.tag }

/-- Takes one request: checks 1 to 9 of R245 with deduplication after check 2 (R319, R330). `cmds` finds a listed
opcode's command. -/
def Device.take (d : Device) (cmds : Nat → Option Cmd) (h : Hdr) : Taken :=
  let n := h.id.room
  if !h.wellFormed then
    match d.answer n 0xFFFF h.id.seq stBadArg 0 (leBytes 2 h.id.tag.toNat) false with
    | some d => .answered d
    | none => .stays
  else if ((d.rooms.get n).st ≠ .opened ∨ (d.rooms.get n).closing.isSome) ∧ h.opcode ≠ 0 then d.answerTaken h stVersion 0
  else
    let fp := fingerprint h
    match d.dedupAnswer h fp with
    | some t => t
    | none =>
      let quota := if d.romHold then 64 else (d.rooms.get n).quota
      if !quotaFree h.opcode && decide (d.held n ≥ quota) then d.answerTaken h stQuota 0
      else
        match (if d.romHold && !romServes h.opcode then none else cmds h.opcode) with
        | none => d.answerTaken h stBadOpcode 0
        | some c =>
          match c.check d h with
          | some st => d.answerTaken h st 0
          | none => if h.len ≠ 0 ∧ d.blocks n ≥ 128 then .stays else .entered (d.enterRec h fp)

/-! ### Execution (step 4) -/

/-- A TAKEN record may begin: with `ORDER`, every earlier request of its Room is DONE (R327). -/
def Device.mayBegin (d : Device) (r : Rec) : Bool :=
  decide (r.st = .taken) && (!bit r.flags 0 ||
    ((d.reqs.recs.takeWhile fun x => x.id ≠ r.id).filter fun x => x.id.room == r.id.room).all fun x => x.st == .done)

/-- Begins the execution of a record in the current Batch (R322, R337). Where what its arguments name has changed since its check, it
is refused as the check would refuse it (R245, log entry 124). -/
def Device.execRec (d : Device) (c : Cmd) (r : Rec) : Device :=
  let args := r.args.getD (List.replicate 56 0)
  let d := d.updRec r.id fun r => { r with st := .waiting, execBatch := some d.batch.number,
                                           intent := if c.once args then .open false else .none }
  if r.ecc.isSome then d.complete r.id stInternal []
  else if r.busy then d.complete r.id stBusy []
  else if !c.argsOk d r.id.room args then d.complete r.id stBadArg []
  else
    match c.run d r.id args with
    | (d, .done st res slid dup) => d.complete r.id st res slid dup
    | (d, .wait keep i) => d.updRec r.id fun r => { r with wait := keep, intent := i }
    | (d, .accept res keep i) => (d.updRec r.id fun r => { r with wait := keep, intent := i }).interim r.id res
    | (d, .gone) => d

/-- Executes every record that may begin, in the order taken, at most once each (R328). -/
def Device.execAll (d : Device) (cmds : Nat → Option Cmd) : Device :=
  d.each (d.reqs.recs.map (·.id)) fun id d =>
    match d.findRec id with
    | none => d
    | some r => if d.mayBegin r then
        match cmds r.opcode with
        | some c => d.execRec c r
        | none => d
      else d

/-- An uncorrectable ECC error of the request table RAM strikes what `index` names: a record, or from 0x8000 on an argument
block (R651, R767). It marks a request whose final completion is not posted; whether `tag` and `seq` of a struck record still
read is a free bit, while a struck block leaves them intact. -/
def Device.eccHit (d : Device) (index : Nat) : Device :=
  let (x, d) := d.free
  let hit := fun (r : Rec) =>
    if index < 0x8000 then r.slot == index
    else r.held && 128 * r.id.room.val + r.block == index - 0x8000
  let mark := fun (r : Rec) =>
    { r with ecc := some (r.ecc.getD true && (decide (0x8000 ≤ index) || decide (x % 2 = 1))) }
  d.updReqs fun q => { q with recs := q.recs.map fun r => if hit r && r.postedAt.isNone then mark r else r }

/-- Step 4: a WAITING request that an ECC error struck completes with `INTERNAL` (R767). -/
def Device.eccStep4 (d : Device) : Device :=
  d.each d.reqs.recs fun r d => d.when (r.ecc.isSome && decide (r.st = .waiting)) (·.complete r.id stInternal [])

/-- Writes bytes of the calling Room's result buffer; `off` counts from 0xF00 (R764). -/
def Device.buffer (d : Device) (n : RoomId) (off : Nat) (l : List Byte) : Device := d.winWrite n (0xF00 + off) l

/-- Discards the records of a Room that `p` picks, and its waiting completions but for those of the records that stay. -/
def Device.discardRecs (d : Device) (n : RoomId) (p : Rec → Bool) : Device :=
  d.updReqs fun q =>
    let gone := fun (r : Rec) => r.id.room == n && p r
    let stay := q.recs.filter fun r => !gone r
    { q with recs := stay, waiting := q.waiting.filter fun w => w.id.room != n || (stay.map (·.id)).contains w.id }

end Sys2Proof.Machine
end

