-- ==== Sys2Proof/Machine/Rails.lean ====
section
/-! DEFINITION. The rails (R345 to R374): ratings, supplies, targets in force, the reference and its thresholds, what a
Batch edge does to each rail, trips and the retry ladder. -/
namespace Sys2Proof.Machine

/-! ### Ratings (R345, R361, R369) -/

/-- What R345 gives a rail beside its output: rated current in mA, the current it may carry without a time limit, and its
switching frequency in kHz, none for an LDO or a load switch. -/
structure RailRating where
  rated      : Nat
  continuous : Nat
  khz        : Option Nat
  deriving DecidableEq, Repr

/-- The ratings of R345. -/
def ratingOf (r : RailId) : RailRating :=
  match r.val with
  | 0 => ⟨800, 800, some 3000⟩
  | 1 => ⟨1000, 1000, some 2000⟩
  | 2 => ⟨1200, 1200, some 1500⟩
  | 3 => ⟨2500, 1000, some 1000⟩
  | 4 => ⟨100, 100, none⟩
  | 5 => ⟨200, 200, none⟩
  | 6 => ⟨150, 150, none⟩
  | 7 => ⟨300, 300, none⟩
  | 8 => ⟨20, 20, none⟩
  | 9 => ⟨10, 10, none⟩
  | _ => ⟨1000, 1000, none⟩

/-- How long PA may carry its rated current in one enable, in ms (R345). -/
def paRatedMs : Nat := 2000

/-- The trip time of R361 and R367 in whole µs, as device time shows it: 64 switching periods, or 20 µs. -/
def foldUs (r : RailId) : Nat :=
  match (ratingOf r).khz with
  | some f => (64000 + f - 1) / f
  | none => 20

/-! ### Supplies and targets -/

/-- The supply a Recipe field names: a rail, or VSYS (R348). -/
def supplyRail (v : Nat) : Option RailId := if v < 10 then some (fin16 v) else none

/-- The rail that supplies rail `r`, none for VSYS (R348). -/
def Device.supplyOf (d : Device) (r : RailId) : Option RailId :=
  if r.val = 4 ∨ r.val = 5 then supplyRail (d.fn Fld.railLdo12)
  else if r.val = 6 ∨ r.val = 7 then supplyRail (d.fn Fld.railLdo34)
  else if r.val ≥ 10 then supplyRail (d.fn Fld.railSupply r.val)
  else none

/-- The Recipe declares the rail present; LDO5 always is (R349, R354). -/
def Device.railThere (d : Device) (r : RailId) : Bool := decide (r.val = 8) || decide (d.fn Fld.railPresent r.val ≠ 0)

/-- Rails with 16 mV fields that a vote can set, and those whose output is fixed (R381, R386). -/
def isSwitch (r : RailId) : Bool := decide (r.val ≥ 10)

/-- `LDO6`'s output in mV (R376). -/
def Device.vset9 (d : Device) : Nat := d.fn Fld.railVset9

/-- A rail in service: enabled and neither proofing nor shut down (R357). -/
def RailSt.inService : RailSt → Bool
  | .proofed | .sagging => true
  | _ => false

/-- A rail that is enabled and not shut down. -/
def RailSt.isOn : RailSt → Bool
  | .proofing | .proofed | .sagging => true
  | _ => false

/-- A rail that waits for its supplier counts as off when OFF or HELD (R383). -/
def RailSt.isDown : RailSt → Bool
  | .off | .held => true
  | _ => false

/-- State of rail `r`. -/
def Device.railSt (d : Device) (r : RailId) : RailSt := (d.rails.rails.get r).st

/-- Hardware holds the enable of a rail at 0: Safe Hold gating outside `FLT.safe_rails` (R656) or a guest watchdog's
cycle step under way (R694). LDO5 is never gated, and a running burst keeps PA to its end. -/
def Device.gated (d : Device) (r : RailId) : Bool :=
  decide (r.val ≠ 8) && !(decide (r.val = 3) && d.burst.running.isSome) &&
    ((d.faults.safeHold && d.faults.gating && !bit (d.fn Fld.fltSafeRails) r.val) ||
      d.wd.gating.any fun g => g.rail == r && g.ends.isSome)

/-- The target in force on a rail: the active copy, with the burst vote (R572) and the angle engine's duty cycle (R355),
under the gating. -/
def Device.railTarget (d : Device) (r : RailId) : RailTarget :=
  let a := d.active.rails.get r
  let a := match (if r.val = 3 then d.burst.running else none) with
    | some e => if a.en then { a with mv := max a.mv e.mv } else { en := true, mv := e.mv, ilim := 25 }
    | none => a
  let a := if r.val = 9 ∧ d.rails.twDuty ∧ a.en = false then { en := true, mv := d.vset9, ilim := 25 } else a
  let a := if r.val = 8 then { en := true, mv := 1800, ilim := a.ilim } else a
  { a with en := a.en && d.railThere r && !d.gated r }

/-- The input voltage of a load switch: its supplying rail's output or VSYS (R356). -/
def Device.switchInput (d : Device) (r : RailId) : Nat :=
  match d.supplyOf r with
  | some s => (d.rails.rails.get s).meas
  | none => d.sample.vsysMv

/-- The current-limit code in force: 25 where no vote names one, as on LDO5 and LDO6, whose limits are fixed (R369, R386). -/
def Device.ilimInForce (d : Device) (r : RailId) : Nat :=
  let k := (d.railTarget r).ilim
  if r.val = 8 ∨ r.val = 9 ∨ k = 0 then 25 else k

/-- The current limit of a rail in mA (R354, R362, R369): 5 % of the rated current for each step of its code, fixed for LDO5
and LDO6, and half for a switching regulator in foldback. -/
def Device.limitMa (d : Device) (r : RailId) : Nat :=
  if r.val = 8 then 30
  else if r.val = 9 then 20
  else
    let full := d.ilimInForce r * 5 * (ratingOf r).rated / 100
    if (ratingOf r).khz.isSome ∧ (d.rails.rails.get r).foldback then full / 2 else full

/-- The setpoint a rail holds under a target: a load switch passes its input (R346). -/
def Device.appliedMv (d : Device) (r : RailId) (t : RailTarget) : Nat := if isSwitch r then d.switchInput r else t.mv

/-! ### The reference and the thresholds (R356, R358 to R366) -/

/-- What a rail's reference moves to and its power-good is taken from: the setpoint, the fixed 1.80 V of LDO5, or the input
of a load switch (R354, R356, R358). -/
def Device.railGoal (d : Device) (r : RailId) : Nat :=
  if isSwitch r then d.switchInput r else if r.val = 8 then 1800 else (d.rails.rails.get r).mv

/-- The reference of a rail at device time `t`: it moves at `slew`, in steps of 0.5 mV/µs (R358, R363, R366). -/
def Device.refNow (d : Device) (r : RailId) (t : Nat) : Nat :=
  let h := d.rails.rails.get r
  let goal := d.railGoal r
  let moved := d.fn Fld.railSlew r.val * (t - h.refAt) / 2
  if h.ref0 ≤ goal then min goal (h.ref0 + moved) else max goal (h.ref0 - moved)

/-- The setpoint moves at device time `t` (R366); that of LDO5 is fixed. -/
def Device.railMoves (d : Device) (r : RailId) (t : Nat) : Bool := decide (r.val ≠ 8) && decide (d.refNow r t ≠ d.railGoal r)

/-- What power-good is taken from at device time `t`: the lower setpoint during a move in service (R366). -/
def Device.pgBase (d : Device) (r : RailId) (t : Nat) : Nat :=
  if isSwitch r = false ∧ d.railMoves r t then (d.rails.rails.get r).lo else d.railGoal r

/-- What over-voltage is judged against at device time `t`: the higher setpoint during a move (R366). -/
def Device.ovBase (d : Device) (r : RailId) (t : Nat) : Nat :=
  if isSwitch r = false ∧ d.railMoves r t then (d.rails.rails.get r).hi else d.railGoal r

/-- An output at or above the rising threshold: 92 %, or 90 % for a load switch (R356, R360). -/
def Device.aboveRising (d : Device) (r : RailId) (t mv : Nat) : Bool :=
  decide ((if isSwitch r then 90 else 92) * d.pgBase r t ≤ 100 * mv)

/-- An output below the falling threshold: 88 %, or 85 % for a load switch (R356, R360). -/
def Device.belowFalling (d : Device) (r : RailId) (t mv : Nat) : Bool :=
  decide (100 * mv < (if isSwitch r then 85 else 88) * d.pgBase r t)

/-- An output below half of the present reference, where a rail in limit is in foldback (R362). -/
def Device.belowHalf (d : Device) (r : RailId) (t mv : Nat) : Bool := decide (2 * mv < d.refNow r t)

/-- An output above 110 % of the target (R367). -/
def Device.overTop (d : Device) (r : RailId) (t mv : Nat) : Bool := decide (110 * d.ovBase r t < 100 * mv)

/-- The proofing window and the settle time of a rail in µs (R358, R359, R376). -/
def Device.proofUs (d : Device) (r : RailId) : Nat := 50 * d.fn Fld.railProofUs r.val
def Device.settleUs (d : Device) (r : RailId) : Nat := 10 * d.fn Fld.railSettleUs r.val

/-- PA's boost is in pass-through: its input exceeds its target less 300 mV (R352). -/
def Device.paThrough (d : Device) : Bool :=
  let input := if d.rails.paReservoir then d.sample.capMv else d.sample.vsysMv
  (d.railSt 3).isOn && decide ((d.rails.rails.get 3).mv < input + 300)

/-- A rail may be enabled: its supply is VSYS or a PROOFED rail (R348). -/
def Device.supplyOk (d : Device) (r : RailId) : Bool :=
  match d.supplyOf r with
  | some s => decide (d.railSt s = .proofed)
  | none => true

/-- The sensor of rail `r` (R368); none for rails 8 and 9. -/
def sensorOf (r : RailId) : Option (Fin 7) :=
  match r.val with
  | 0 => some 0 | 1 => some 1 | 2 => some 2 | 3 => some 3 | 4 => some 4 | 5 => some 4 | 6 => some 5 | 7 => some 5
  | 8 => none | 9 => none | _ => some 6

/-! ### A Batch edge (R357, R358, R363, R366, R370) -/

/-- The delay of a TRIPPED rail has passed at an edge, and no temperature keeps it (R368, R370, R646). -/
def Device.retryReady (d : Device) (t : Nat) (h : RailHw) : Bool :=
  (h.retryDue || decide (h.retryAt ≤ t)) && !h.thermalHold && !(d.faults.dieHot && decide (h.lastTrip = 6))

/-- Proofing begins at time `t`: the reference ramps from 0 V (R358). -/
def Device.beginProof (d : Device) (t : Nat) (r : RailId) (h : RailHw) : RailHw :=
  let mv := d.appliedMv r (d.railTarget r)
  { h with st := .proofing, since := t, mv := mv, ref0 := 0, refAt := t, lo := mv, hi := mv, everOn := true,
           retryDue := false, inLimit := false, foldback := false }

/-- A new setpoint at time `t`: the reference moves on from its present value; proofing is judged by the new target, and a rail
in service by the range that the move covers (R363, R366). -/
def Device.retarget (d : Device) (t : Nat) (r : RailId) (mv : Nat) : RailHw :=
  let h := d.rails.rails.get r
  if isSwitch r ∨ mv = h.mv then h
  else
    let moves := d.railMoves r t
    let lo := if h.st = .proofing then mv else min mv (if moves then h.lo else h.mv)
    let hi := if h.st = .proofing then mv else max mv (if moves then h.hi else h.mv)
    { h with mv := mv, ref0 := d.refNow r t, refAt := t, lo := lo, hi := hi }

/-- What the edge at time `t` makes of rail `r`. -/
def Device.railNext (d : Device) (t : Nat) (r : RailId) : RailHw :=
  let h := d.rails.rails.get r
  let tgt := d.railTarget r
  match h.st with
  | .held => h
  | .off => if tgt.en ∧ d.supplyOk r ∧ r.val ≠ 8 ∧ d.faults.dieHot = false then d.beginProof t r h else h
  | .tripped =>
    if d.retryReady t h then
      if tgt.en = false then { h with st := .off, ladder := 0, retryDue := false }
      else if d.supplyOk r then d.beginProof t r h
      else { h with retryDue := true }
    else h
  | _ =>
    if tgt.en = false then
      { h with st := .off, ladder := 0, inLimit := false, foldback := false }
    else d.retarget t r tgt.mv

/-- PA's input at an enable (R351). -/
def Device.paPick (d : Device) : Bool :=
  decide (d.fn Fld.resPresent = 1) && match d.fn Fld.paSrc with
  | 0 => decide (d.sample.capMv ≥ d.fn Fld.paCapMin * 50)
  | 1 => true
  | _ => false

/-- Removes the C2 entries of a rail that leaves TRIPPED and HELD (R654). -/
def Device.railReleased (d : Device) (r : RailId) : Device :=
  d.updFaults fun f => { f with active := f.active.filter fun a =>
    !(msgSource a.msg == 6 && msgQual a.msg == r.val && a.cls == .trip) }

/-! ### Trips (R367, R370, R373) -/

/-- The message of a last-trip code (R367, R378). -/
def tripKind (code : Nat) : Nat :=
  match code with
  | 4 => 2 | 5 => 3 | 6 => 5 | 7 => 6 | _ => 1

/-- One rail trips: one step on its ladder, then TRIPPED with the step's delay, or HELD (R370). -/
def Device.tripOne (d : Device) (r : RailId) (code : Nat) (hot : Bool) : Device :=
  let h := d.rails.rails.get r
  let n := h.ladder + 1
  let gone := decide (n > d.fn Fld.railRetries r.val)
  let at_ := d.now + 1000 * d.fn Fld.railRetryMs (4 * r.val + (n - 1))
  let d := d.updRail r fun h => { h with
    st := if gone then .held else .tripped, ladder := sat 15 n, lastTrip := code,
    retryAt := if gone then h.retryAt else at_, retryDue := false, thermalHold := h.thermalHold || hot,
    inLimit := false, foldback := false }
  let d := d.raiseOn (railPair r) (coded 6 (tripKind code) r.val)
  let d := d.when gone (·.raise (coded 6 8 r.val))
  d.when (decide (r.val = 3)) (·.burstPaFail)

/-- Trips rails in order; a rail that leaves service trips every rail it supplies that is neither OFF nor HELD (R357,
R373). -/
def Device.tripList : (fuel : Nat) → Device → List (RailId × Nat × Bool) → Device
  | 0, d, _ => d
  | _ + 1, d, [] => d
  | fuel + 1, d, (r, code, hot) :: rest =>
    let st := d.railSt r
    if st.isDown ∨ r.val = 8 then Device.tripList fuel d rest
    else
      let deps := if st.inService then all16.filter fun s => d.supplyOf s == some r else []
      Device.tripList fuel (d.tripOne r code hot) (rest ++ deps.map fun s => (s, 7, false))

/-- Trips one rail and what it supplies. -/
def Device.trip (d : Device) (r : RailId) (code : Nat) (hot : Bool := false) : Device :=
  Device.tripList 64 d [(r, code, hot)]

/-- Rails that a supplying rail's turning OFF leaves without supply (R357). -/
def Device.tripUnsupplied (d before : Device) : Device :=
  let lost := all16.filter fun s => match d.supplyOf s with
    | some r => (before.railSt r).inService && !(d.railSt r).inService && !(d.railSt s).isDown
    | none => false
  Device.tripList 64 d (lost.map fun s => (s, 7, false))

/-- The Batch edge at time `t` on every rail. -/
def Device.railsEdge (d : Device) (t : Nat) : Device :=
  let pick := decide (d.railSt 3 ≠ .proofing) && decide ((d.railNext t 3).st = .proofing)
  let d1 := { d with rails := { d.rails with
    rails := Vector.ofFn (d.railNext t), paReservoir := if pick then d.paPick else d.rails.paReservoir } }
  let d2 := d1.each all16 fun r x =>
    x.when (decide (d.railSt r = .tripped) && decide ((d1.railSt r) ≠ .tripped)) (·.railReleased r)
  d2.tripUnsupplied d

/-- The edge's effect on a single rail: an enable that hardware places at an instant of its own (R355, R572). -/
def Device.railEdgeOne (d : Device) (t : Nat) (r : RailId) : Device :=
  let pick := decide (r.val = 3) && decide ((d.railNext t r).st = .proofing) && decide (d.railSt r ≠ .proofing)
  let h := d.railNext t r
  let d := d.updRails fun b => { b with paReservoir := if pick then d.paPick else b.paReservoir }
  d.updRail r fun _ => h

/-- Turns a rail off at once, with its ladder count at 0 (R371): resets, LODGE and the Grave path. -/
def RailHw.turnOff (h : RailHw) : RailHw :=
  { h with st := .off, ladder := 0, retryDue := false, thermalHold := false, inLimit := false, foldback := false }

/-- Releases a HELD rail to OFF (R357, R372). -/
def Device.releaseHeld (d : Device) (r : RailId) : Device :=
  if d.railSt r = .held then (d.updRail r RailHw.turnOff).railReleased r else d

/-- A die overtemperature trips every rail that is on, each with `RAIL_THERM` and not for its supply (R646). -/
def Device.tripDie (d : Device) : Device :=
  (all16.filter fun r => (d.railSt r).isOn && decide (r.val ≠ 8)).foldl (fun x r => x.tripOne r 6 false) d

/-- What step 1 of a Batch measures of the rails: outputs, current limits, and the foldback that follows from both (R362); with
what `FAULT_PROBE` gathers of the current limits (R674). -/
def Device.railsMeasure (d : Device) (sm : Sample) : Device :=
  let lim := maskOf 16 fun i => sm.railLimit.getLsbD i && (d.railSt (fin16 i)).isOn
  let d := d.updFaults fun f => { f with probeLimit := f.probeLimit ||| BitVec.ofNat 16 lim }
  { d with rails := { d.rails with
    rails := Vector.ofFn fun r =>
      let h := d.rails.rails.get r
      let meas := sm.railMv.getD r.val 0
      let inLimit := sm.railLimit.getLsbD r.val && h.st.isOn
      { h with meas := meas, inLimit := inLimit, foldback := inLimit && d.belowHalf r d.now meas } } }

/-! ### What step 1 samples for `RAIL_QUERY` (R378) -/

/-- The applied setpoint as reported: 0 for a rail that is OFF or shut down, and for a load switch (R346, R378). -/
def Device.queryMv (d : Device) (r : RailId) : Nat :=
  if (d.railSt r).isOn && !isSwitch r then d.railGoal r else 0

/-- Byte 5 of `RAIL_QUERY`. -/
def Device.railCond (d : Device) (r : RailId) : Nat :=
  let h := d.rails.rails.get r
  b2n h.inLimit + 2 * b2n h.foldback +
    4 * b2n (match sensorOf r with | some s => d.rails.thermWarn.getLsbD s.val | none => false) +
    8 * b2n (decide (r.val = 3) && d.paThrough) +
    16 * b2n (decide (r.val = 3) && d.rails.paReservoir && h.st.isOn)

/-- The result of `RAIL_QUERY`. -/
def Device.railResult (d : Device) (r : RailId) : List Byte :=
  let h := d.rails.rails.get r
  leBytes 2 (d.queryMv r) ++ leBytes 1 (if d.railThere r then h.st.code else 6) ++
    leBytes 1 (sat 15 h.ladder + 16 * h.lastTrip) ++ leBytes 1 (d.ilimInForce r) ++ leBytes 1 (d.railCond r) ++
    leBytes 2 (sat 65535 h.meas)

/-- Step 1 of a working Batch samples the rails (R378, R392). -/
def Device.railsSeen (d : Device) : Device :=
  d.updRails fun b => { b with seen := b.rails, query := Vector.ofFn d.railResult }

/-- Whether every rail of a mask is proofed (R66, R357). -/
def Device.allProofed (d : Device) (mask : Nat) : Bool :=
  all16.all fun r => !bit mask r.val || decide (d.railSt r = .proofed)

end Sys2Proof.Machine
end

