-- ==== Sys2Proof/Machine/Voting.lean ====
section
/-! DEFINITION. Votes and their combination (R379 to R386), and the sequence engine (R387 to R399). -/
namespace Sys2Proof.Machine

/-! ### Votes -/

/-- Places a vote; a Room's or a base vote replaces that holder's previous one on the rail (R250, R389). -/
def placeVote (vs : List Vote) (v : Vote) : List Vote :=
  vs.filter (fun x => !(x.holder == v.holder && x.rail == v.rail)) ++ [v]

/-- Withdraws a holder's vote on a rail. -/
def dropVote (vs : List Vote) (h : VoteHolder) (r : RailId) : List Vote :=
  vs.filter fun x => !(x.holder == h && x.rail == r)

/-- Withdraws every vote of a holder. -/
def dropHolder (vs : List Vote) (h : VoteHolder) : List Vote := vs.filter fun x => x.holder != h

/-- A holder's vote on a rail stands. -/
def hasVote (vs : List Vote) (h : VoteHolder) (r : RailId) : Bool := vs.any fun x => x.holder == h && x.rail == r

/-- Changes the votes. -/
def Device.updVotes (d : Device) (f : List Vote → List Vote) : Device := d.updPriv fun p => { p with votes := f p.votes }

/-- Rails whose votes carry a voltage of choice (R376, R386). -/
def settable (r : RailId) : Bool := decide (r.val ≤ 4) || decide (r.val = 6) || decide (r.val = 7)

/-- `m` raised to the next grid value of rail `r` (R346). -/
def onGrid (r : RailId) (m : Nat) : Nat :=
  let lo := (railRange r.val).1.toNat
  let g := (railGrid r.val).toNat
  lo + (m - lo + g - 1) / g * g

/-- The fixed output of a rail that is not settable; a load switch reports 0 (R346, R381). -/
def Device.fixedMv (d : Device) (r : RailId) : Nat :=
  if r.val = 5 ∨ r.val = 8 then 1800 else if r.val = 9 then d.vset9 else 0

/-- The largest of a list of numbers other than 0; 0 when there is none. -/
def largest (l : List Nat) : Nat := l.foldl max 0

/-- The smallest of the numbers other than 0 in a list; none when there is none. -/
def smallest (l : List Nat) : Option Nat :=
  l.foldl (fun a x => if x = 0 then a else match a with | none => some x | some y => some (min x y)) none

/-- The target of rail `r` combined from votes (R381); with no vote its enable is 0 and the rest stays as it was. -/
def Device.combine (d : Device) (vs : List Vote) (old : RailTarget) (r : RailId) : RailTarget :=
  let v := vs.filter fun x => x.rail == r
  if v.isEmpty then { old with en := false }
  else
    let m := largest (v.map (·.mv))
    let m := if m = 0 then d.fn Fld.railVdef r.val else m
    let m := min (max m (d.fn Fld.railVmin r.val)) (d.fn Fld.railVmax r.val)
    { en := true, mv := if settable r then onGrid r m else d.fixedMv r, ilim := (smallest (v.map (·.code))).getD 25 }

/-- A vote's voltage lies outside `vmin` to `vmax` and is clipped (R382). -/
def Device.clipped (d : Device) (r : RailId) (mv : Nat) : Bool :=
  settable r && decide (mv ≠ 0) && (decide (mv < d.fn Fld.railVmin r.val) || decide (d.fn Fld.railVmax r.val < mv))

/-- A voltage that a vote on a rail may carry (R382, R386). -/
def Device.voteMvOk (d : Device) (r : RailId) (mv : Nat) : Bool :=
  decide (mv = 0) ||
  (if settable r then decide ((railRange r.val).1.toNat ≤ mv) && decide (mv ≤ (railRange r.val).2.toNat)
   else if r.val = 5 then decide (mv = 1800)
   else if r.val = 9 then decide (mv = d.vset9)
   else false)

/-- A rail in a list of rails needs its supplier `s`: it has a vote, or it still holds the supply vote that stands
because the sample of step 1 does not yet show it OFF or HELD (R383, R384). -/
def Device.needsSupply (d : Device) (rails : List RailId) (voted : RailId → Bool) (s : RailId) : Bool :=
  rails.any fun r => d.supplyOf r == some s &&
    (voted r || (hasVote d.priv.votes .supply s && !(d.rails.seen.get r).st.isDown))

/-- The supply votes of a Batch (R383): those of the load switches first, which may make an LDO enabled, then those of
the LDOs; an LDO is supplied by rails 0 to 3 only (R348). -/
def Device.supplyVotes (d : Device) : Device :=
  let own := dropHolder d.priv.votes .supply
  let voted := fun (r : RailId) => own.any fun v => v.rail == r
  let bySwitch := d.needsSupply [10, 11, 12, 13, 14, 15] voted
  let byLdo := d.needsSupply [4, 5, 6, 7] fun r => voted r || bySwitch r
  let on := all16.filter fun s => bySwitch s || byLdo s
  d.updVotes fun _ => own ++ on.map fun s => { holder := .supply, rail := s, mv := 0, code := 0 }

/-- A rail's combined enable is 1 by the votes that stand, with the supply votes that they make (R381, R383); LDO5 is always
enabled (R354). -/
def Device.votedOn (d : Device) (r : RailId) : Bool :=
  decide (r.val = 8) || d.supplyVotes.priv.votes.any (fun v => v.rail == r) || (decide (r.val = 3) && d.burst.running.isSome)

/-- Step 5 for the rails: supply votes, then the combination of every rail into the shadow targets (R381, R383). -/
def Device.combineRails (d : Device) : Device :=
  let d := d.supplyVotes
  d.updShadow fun t => { t with rails := Vector.ofFn fun r => d.combine d.priv.votes (t.rails.get r) r }

/-! ### Sequences -/

/-- Operations of a step (R388). -/
inductive SeqOp where
  | ended | enable | disable | waitPg | waitLow | delay
  deriving DecidableEq, Repr

/-- A step of a sequence (R388). -/
structure SeqStep where
  op    : SeqOp
  rail  : RailId
  ilim  : Nat
  value : Nat
  needs : Nat
  deriving DecidableEq, Repr

/-- Step `i` of sequence `num` of the Recipe in force; behind the 32 steps a sequence ends (R387). -/
def Device.seqStep (d : Device) (num i : Nat) : SeqStep :=
  let v := if i < 32 then d.fld Fld.seqSteps (num * 32 + i) else 0
  { op := match fieldByte v 0 with
      | 1 => .enable | 2 => .disable | 3 => .waitPg | 4 => .waitLow | 5 => .delay | _ => .ended,
    rail := fin16 (fieldByte v 1), ilim := fieldByte v 2, value := fieldByte v 4 + 256 * fieldByte v 5,
    needs := fieldByte v 6 + 256 * fieldByte v 7 }

/-- The holder of the votes of a run (R389): Room for a ROOM-scope guest sequence, base otherwise. -/
def Device.seqHolder (d : Device) (s : SeqRun) : VoteHolder :=
  match s.origin with
  | .guest id => if d.fn Fld.seqScope (s.num - 2) = 0 then .room id.room else .base
  | _ => .base

/-- Rails on which a vote that a run placed stands (R396, R407). -/
def Device.seqStanding (d : Device) (s : SeqRun) : List RailId :=
  s.placed.filter fun r => hasVote d.priv.votes (d.seqHolder s) r

/-- What one step of a sequence leads to. -/
inductive SeqGo where
  /-- On to the next step. -/
  | next (d : Device) (s : SeqRun)
  /-- The step waits. -/
  | waits (s : SeqRun)
  /-- A WAIT step failed. -/
  | failed (s : SeqRun)
  /-- END was reached. -/
  | ended (s : SeqRun)

/-- A run moves on by one step. -/
def SeqRun.advance (s : SeqRun) : SeqRun := { s with pc := s.pc + 1, reached := none, steps := s.steps + 1 }

/-- A rail joins the failed set (R395). -/
def SeqRun.fail (s : SeqRun) (r : RailId) : SeqRun := { s with failed := s.failed ||| BitVec.twoPow 16 r.val }

/-- A WAIT step in a Batch that begins at `t` (R392, R395). -/
def SeqRun.waitStep (s : SeqRun) (d : Device) (st : SeqStep) (t : Nat) (cond atOnce : Bool) : SeqGo :=
  let t0 := s.reached.getD t
  if s.failed.getLsbD st.rail.val then .next d { s.advance with skips := true }
  else if cond then .next d s.advance
  else if atOnce || decide (t0 + st.value * 1000 ≤ t) then
    .failed { s.fail st.rail with steps := s.steps + 1, reached := none,
                                   failStep := some (s.failStep.getD s.pc) }
  else .waits { s with reached := some t0 }

/-- One step of a running sequence in a Batch that begins at `t` (R388 to R395); a WAIT step reads the sample of step 1. -/
def Device.seqOne (d : Device) (s : SeqRun) (t : Nat) : SeqGo :=
  let st := d.seqStep s.num s.pc
  let h := d.rails.seen.get st.rail
  match st.op with
  | .ended => .ended { s with steps := s.steps + 1 }
  | .enable =>
    let deps := fun (r : RailId) => s.failed.getLsbD r.val &&
      (r == st.rail || bit st.needs r.val || d.supplyOf st.rail == some r)
    if all16.any deps then .next d { (s.fail st.rail).advance with skips := true }
    else
      .next (d.updVotes fun vs => placeVote vs { holder := d.seqHolder s, rail := st.rail, mv := st.value,
                                                 code := st.ilim })
        { s.advance with placed := s.placed.filter (· != st.rail) ++ [st.rail] }
  | .disable =>
    .next (d.updVotes fun vs => dropVote vs (d.seqHolder s) st.rail)
      { s.advance with placed := s.placed.filter (· != st.rail) }
  | .waitPg =>
    s.waitStep d st t (decide (h.st = .proofed)) (decide (h.st = .held) || !d.votedOn st.rail)
  | .waitLow => s.waitStep d st t (!h.everOn || decide (h.meas * 10 < if st.rail.val = 8 then 1800 else h.mv)) false
  | .delay =>
    match s.reached with
    | some t0 => if t0 + st.value * 1000 ≤ t then .next d s.advance else .waits s
    | none => .waits { s with reached := some t }

/-- The sequence of a Recipe switch has ended: the base votes that stood at the switch and that it did not place are
withdrawn (R752). -/
def Device.oldBaseDrop (d : Device) (s : SeqRun) : Device :=
  (d.updVotes fun vs => vs.filter fun v =>
    !(v.holder == .base && d.priv.oldBase.contains v.rail && !s.placed.contains v.rail)).updPriv fun p => { p with oldBase := [] }

/-- How a run ended: its outcome of R407. -/
def Device.seqFinish (d : Device) (s : SeqRun) (outcome : Nat) : Device :=
  let voted := maskOf 16 fun i => (d.seqStanding s).any fun r => r.val == i
  let d := d.updPriv fun p => { p with seqRun := none }
  match s.origin with
  | .guest id =>
    d.complete id (if outcome = 0 then stOk else stFault)
      (leBytes 1 outcome ++ leBytes 1 (s.failStep.getD 0xFF) ++ leBytes 2 s.failed.toNat ++ leBytes 2 voted ++
        leBytes 1 (sat 255 s.steps))
  | .switch => d.oldBaseDrop s
  | _ => d

/-- The qualifier of a sequence fault (R409). -/
def SeqRun.qual (s : SeqRun) : Nat := s.num * 256 + s.pc

/-- One withdrawal of an unwind, in reverse order of placement; the run ends with the last (R396, R408). -/
def Device.seqUnwind (d : Device) (s : SeqRun) (outcome : Nat) : Device :=
  match (d.seqStanding s).reverse with
  | [] => d.seqFinish s outcome
  | r :: rest =>
    let d := d.updVotes fun vs => dropVote vs (d.seqHolder s) r
    if rest.isEmpty then d.seqFinish s outcome
    else d.updPriv fun p => { p with seqRun := some { s with unwinding := some outcome } }

/-- Runs the steps of a sequence in a Batch that begins at `t` until one waits or the sequence ends (R390, R395). -/
def Device.seqLoop : (fuel : Nat) → Device → SeqRun → (t : Nat) → Device
  | 0, d, s, _ => d.updPriv fun p => { p with seqRun := some s }
  | fuel + 1, d, s, t =>
    match d.seqOne s t with
    | .next d s => Device.seqLoop fuel d s t
    | .waits s => d.updPriv fun p => { p with seqRun := some s }
    | .ended s => d.seqFinish s (if s.skips then 1 else 0)
    | .failed s =>
      let d := d.raise (coded 7 1 s.qual)
      match d.fn Fld.seqOnFail s.num with
      | 0 => Device.seqLoop fuel d { s with pc := s.pc + 1 } t
      | 1 => (d.raise (coded 7 2 s.qual)).seqFinish s 2
      | _ => (d.raise (coded 7 2 s.qual)).seqUnwind s 3

/-- The running sequence in a Batch that begins at `t` (R390). -/
def Device.seqBatch (d : Device) (t : Nat) : Device :=
  match d.priv.seqRun with
  | none => d
  | some s =>
    match s.unwinding with
    | some o => d.seqUnwind s o
    | none => Device.seqLoop 34 d s t

/-- A run at its first step. -/
def SeqRun.start (num : Nat) (origin : SeqOrigin) : SeqRun :=
  { num := num, origin := origin, pc := 0, reached := none, failed := 0, failStep := none, placed := [], steps := 0,
    skips := false, unwinding := none }

/-- A guest sequence ends without unwind (R397). -/
def Device.seqStop (d : Device) : Device :=
  match d.priv.seqRun with
  | some s =>
    (match s.origin with
     | .guest _ => d.raise (coded 7 2 s.qual)
     | _ => d).updPriv fun p => { p with seqRun := none }
  | none => d

/-- A guest sequence that `SEQ_RUN` started and that does not unwind (R408). -/
def Device.guestRun (d : Device) : Option (SeqRun × ReqId) :=
  match d.priv.seqRun with
  | some s => match s.origin with
    | .guest id => if s.unwinding.isNone then some (s, id) else none
    | _ => none
  | none => none

/-- A vote for a rail at its applied setpoint and code (R188, R385, R399). -/
def Device.appliedVote (d : Device) (h : VoteHolder) (r : RailId) : Vote :=
  { holder := h, rail := r, mv := if isSwitch r then 0 else (d.railTarget r).mv, code := (d.railTarget r).ilim }

/-- The LODGE power-down sequence begins (R399): every enabled rail carries a base vote at its applied setpoint and code,
and every other vote but supply votes is withdrawn. -/
def Device.downBegin (d : Device) : Device :=
  let base := (all16.filter fun r => decide (r.val ≠ 8) && (d.railTarget r).en).map (d.appliedVote .base)
  (d.updVotes fun vs => vs.filter (fun v => v.holder == .supply) ++ base).updPriv fun p =>
    { p with seqRun := some (SeqRun.start 1 .down) }

/-- A power-down sequence is running. -/
def Device.downRuns (d : Device) : Bool :=
  match d.priv.seqRun with
  | some s => decide (s.origin = .down)
  | none => false

/-! ### Internal hold votes (R188, R221, R385) -/

/-- Hold votes on rails at their applied setpoint and code. -/
def Device.holdRails (d : Device) (rails : List RailId) : Device :=
  d.updVotes fun vs => vs ++ rails.map (d.appliedVote (.hold 0))

/-- A Room's rail votes become hold votes (R221). -/
def Device.holdRoomVotes (d : Device) (n : RoomId) : Device :=
  d.updVotes fun vs => vs.map fun v => if v.holder = .room n then { v with holder := .hold 0 } else v

/-- The end of a hold vote, 0 for every other vote. -/
def Vote.holdEnds (v : Vote) : Nat := match v.holder with | .hold e => e | _ => 0

/-- In the first normal Batch of a hold period its end is fixed, `KPR.cold_hold` Batches later (R188, R221, R385). -/
def Device.holdStart (d : Device) : Device :=
  d.updVotes fun vs => vs.map fun v =>
    if v.holder = .hold 0 then { v with holder := .hold (d.batch.number.toNat + d.fn Fld.kprColdHold) } else v

/-- A hold period ends with the current Batch: its votes are withdrawn (R188, R385). -/
def Device.holdEnd (d : Device) : Device :=
  d.updVotes fun vs => vs.filter fun v => decide (v.holdEnds = 0) || decide (d.batch.number.toNat < v.holdEnds)

/-- A hold period will have ended by the end of Batch `n`. -/
def Device.holdDue (d : Device) (n : Nat) : Bool :=
  d.priv.votes.any fun v => decide (v.holdEnds ≠ 0) && decide (v.holdEnds ≤ n)

end Sys2Proof.Machine
end

