-- ==== Sys2Proof/Machine/Path.lean ====
section
/-! DEFINITION. The power path (R410 to R453): the battery FET, the dock input, PV, the primary reserve and the
reservoir. -/
namespace Sys2Proof.Machine

/-! ### The dock (R421 to R429) -/

/-- The detected limit in mA of a detection result (R426). -/
def Device.dockLimit (d : Device) (code : Nat) : Nat :=
  match code with
  | 1 => 100
  | 2 => 50 * d.fn Fld.dcUnknownMa
  | 3 => d.fn Fld.dcSdpMa
  | 4 => 1500 | 5 => 1500 | 6 => 500 | 7 => 1500 | 8 => 3000
  | _ => 0

/-- Step 10 of the latest start has passed (R424). -/
def Phase.afterStep10 : Phase → Bool
  | .open | .lodgeDown | .lodge | .shipDown => true
  | _ => false

/-- The input limit under a lowest Room value (R429), at most 500 mA until step 10 of a start (R424); 0 while DCIN is not
valid. -/
def Device.inputLimit (d : Device) (room : Option Nat) : Nat :=
  if d.path.dcValid then
    let m := min d.path.dockMa (50 * d.fn Fld.dcIlimMax)
    let m := if d.power.phase.afterStep10 then m else min m 500
    match room with | some r => min m r | none => m
  else 0

/-- DCIN becomes valid: detection begins at 100 mA (R421, R425, R426). -/
def Device.dockArrives (d : Device) : Device :=
  d.updPath fun p => { p with dcValid := true, dcSince := d.now, dcOv := false, dock := 1, dockMa := 100,
                              bcResult := none }

/-- DCIN ceases to be valid (R421, R238). -/
def Device.dockLeaves (d : Device) : Device :=
  if d.path.dcValid then
    d.updPath fun p => { p with dcValid := false, dcSince := d.now, dcLost := true, dock := 0, dockMa := 0,
                                bcResult := none }
  else d

/-- A detection result takes effect (R426). -/
def Device.dockResult (d : Device) (code : Nat) : Device :=
  d.updPath fun p => { p with dock := code, dockMa := d.dockLimit code,
                              bcResult := if 3 ≤ code ∧ code ≤ 5 then some code else p.bcResult }

/-- The codes with which detection can end (R425, R426). -/
def dockCodeOk (code : Nat) : Bool := decide (2 ≤ code) && decide (code ≤ 8)

/-- The device time, after DCIN became valid, before which detection cannot end with a code: the debounce, then by the result primary and
secondary detection, or the timeout of DCD (R425). -/
def dockTime (code : Nat) : Nat :=
  match code with
  | 7 | 8 => 150000
  | 3 => 190000
  | 4 | 5 => 230000
  | _ => 750000

/-- A change of the Type-C level: 0 no Rp, 1 Default, 2 1.5 A, 3 3.0 A (R427). -/
def Device.ccLevel (d : Device) (level : Nat) : Device :=
  match level with
  | 1 => match d.path.bcResult with
    | some c => d.updPath fun p => { p with dock := c, dockMa := d.dockLimit c }
    | none => d.updPath fun p => { p with dock := 6, dockMa := 500 }
  | 2 => d.updPath fun p => { p with dock := 7, dockMa := 1500 }
  | 3 => d.updPath fun p => { p with dock := 8, dockMa := 3000 }
  | _ => d

/-! ### The battery FET and the primary reserve (R416 to R420, R435 to R439) -/

/-- The power states of chapter 03 in which the Batch serves Rooms: RUN, DOZE, REST. -/
def Device.isOpen (d : Device) : Bool := decide (d.power.phase = .open)

/-- The lowest `DC_LIMIT` value that Rooms hold. -/
def Device.lowestDcLimit (d : Device) : Option Nat := smallest (d.priv.dcLimits.map (·.2))

/-- The FET is OFF, or counts as OFF while PRECHARGE that began with it OFF conducts into the cell only (R494). -/
def Device.fetIsOff (d : Device) : Bool :=
  decide (d.path.fet = .off) || (decide (d.chg.phase = .precharge) && d.chg.preFetOff)

/-- The FET is OFF by undervoltage, removal or over-current (R446, R447). -/
def Device.fetLost (d : Device) : Bool := d.fetIsOff && decide (2 ≤ d.path.fetCause)

/-- The conditions of use of the primary reserve (R435). -/
def Device.priWanted (d : Device) : Bool :=
  decide (d.fn Fld.priPresent = 1) && d.isOpen && d.fetIsOff && decide (1 ≤ d.path.fetCause) &&
    decide (d.sample.priMv ≥ 10 * d.fn Fld.priVmin)

/-- Entry into and end of use of the primary reserve (R435, R438). -/
def Device.priUpdate (d : Device) : Device :=
  if d.priWanted then
    if d.path.priInUse then d
    else (d.updPath fun p => { p with priInUse := true, resCharging := false }).raise (coded 8 7 (d.sample.priMv / 10))
  else if d.path.priInUse ∧ (d.fetIsOff = false ∨ d.isOpen = false) then d.updPath fun p => { p with priInUse := false }
  else d

/-- The FET opens for a cause (R417): but for an over-current, the cell no longer holds `PATH.bat_recover`. -/
def Device.fetOpen (d : Device) (cause : Nat) : Device :=
  (d.updPath fun p => { p with fet := .off, fetCause := cause, fetReady := p.fetReady && decide (cause = 4) }).priUpdate

/-- The FET closes into SUPPLY (R418, R438). -/
def Device.fetSupply (d : Device) : Device :=
  d.updPath fun p => { p with fet := .supply, fetCause := 0, priInUse := false }

/-- Over-current openings that count at a time (R419): the given one and those within 60 s before it. -/
def Path.ocWithin (p : Path) (now : Nat) : List Nat := now :: p.ocTimes.filter fun t => decide (now < t + 60000000)

/-- Until step 10 of a start, the start gate and what leads to it, except SHIP and SEALED (R424, R435). -/
def Phase.beforeStep10 : Phase → Bool
  | .por | .gate | .starting | .romSafeHold | .dark => true
  | _ => false

/-- The primary ideal diode is enabled: the reserve is in use, or before step 10 an OFF FET and 2.20 V enable it (R435). -/
def Device.priEnabled (d : Device) : Bool :=
  d.path.priInUse || (d.power.phase.beforeStep10 && !d.power.shipLatch && !d.power.sealedLatch && d.fetIsOff && decide (2200 ≤ d.sample.priMv))

/-- It conducts: VSYS is below what it holds, `PRIIN` less 20 mV (R410, R436). -/
def Device.priConducts (d : Device) : Bool := d.priEnabled && decide (d.sample.vsysMv + 20 < d.sample.priMv)

/-- The charger draws no current: the diode is enabled and no other source holds VSYS above `PRIIN` (R437; with the diode not enabled no
primary energy can flow, log entry 119). -/
def Device.priBlocks (d : Device) : Bool := d.priEnabled && decide (d.sample.vsysMv ≤ d.sample.priMv)

/-- The hold-up path is enabled (R446). -/
def Device.holdup (d : Device) : Bool :=
  decide (d.fn Fld.resPresent = 1) && decide (d.fn Fld.resHoldup = 1) && d.fetLost && !d.path.dcValid &&
    !d.path.priInUse

/-- It conducts (R446). -/
def Device.holdupConducts (d : Device) : Bool :=
  d.holdup && decide (d.sample.vsysMv + 50 < d.sample.capMv) && decide (1000 ≤ d.sample.capMv)

/-- No source is left (R447). -/
def Device.exhausted (d : Device) : Bool :=
  d.isOpen && d.fetLost && !d.path.dcValid && !d.path.priInUse

/-- A pulse begins (R439, R453): it restarts the interval. -/
def Device.pulseBegin (d : Device) (req : Option ReqId) (before ma ms : Nat) (rep : Bool) : Device :=
  d.updPath fun p => { p with
    pulse := some { req := req, start := d.now, before := before, ma := ma, ms := ms, rep := rep },
    pulseLast := d.now, pulseAt := d.now + d.fn Fld.priPulseH * 3600000000, pulseDue := false, repeatAt := none }

/-- The primary reserve can be pulsed: present, not in use, and no pulse running (R439). -/
def Device.pulseFree (d : Device) : Bool :=
  decide (d.fn Fld.priPresent = 1) && !d.path.priInUse && d.path.pulse.isNone

/-- A scheduled pulse with the Recipe's current and duration (R439). -/
def Device.pulsePlain (d : Device) (before : Nat) : Device :=
  d.pulseBegin none before (d.fn Fld.priPulseMa) (10 * d.fn Fld.priPulseMs) false

/-- The end of a pulse with its loaded sample (R439, R453). -/
def Device.pulseFinish (d : Device) (p : Pulse) (mv : Nat) : Device :=
  let bad := decide (mv < 10 * d.fn Fld.priPassMv)
  let d := d.updPath fun q => { q with
    pulse := none, priLoad := mv,
    repeatAt := if bad && !p.rep then some (d.now + 60000000, p.ma, p.ms) else none }
  let d := d.when bad (·.raise (coded 8 9 (mv / 10)))
  match p.req with
  | some id => d.complete id stOk (leBytes 2 p.before ++ leBytes 2 mv ++ leBytes 1 (b2n bad))
  | none => d

/-! ### The reservoir (R442 to R445) -/

/-- What the balancer does to `CAPM` (R440). -/
inductive Balance where
  | idle | source | sink
  deriving DecidableEq, Repr

/-- The balancer, with `CAPH` and `CAPM` as sampled: it holds `CAPM` within 50 mV of half of `CAPH` from 1.00 V on, except in SHIP and
SEALED (R440). -/
def Device.balancer (d : Device) : Balance :=
  if decide (d.fn Fld.resPresent = 0) || d.power.shipLatch || d.power.sealedLatch || decide (d.sample.capMv < 1000) then .idle
  else if 2 * d.sample.capmMv + 100 < d.sample.capMv then .source
  else if d.sample.capMv + 100 < 2 * d.sample.capmMv then .sink
  else .idle

/-- The reservoir is out of balance by R441 with `CAPM` at `capm`: a cell above 2.60 V, or more than 200 mV off half of `CAPH`. -/
def Device.resOff (d : Device) (capm : Nat) : Bool :=
  decide (2600 < capm) || decide (2600 + capm < d.sample.capMv) || decide (d.sample.capMv + 400 < 2 * capm) ||
    decide (2 * capm + 400 < d.sample.capMv)

/-- The reservoir's target in force, mV; 0 when absent (R442, R450). -/
def Device.resTarget (d : Device) : Nat :=
  if d.fn Fld.resPresent = 0 then 0
  else
    let level := match d.priv.larder.pair with | some p => p.vt | none => 0
    min (max (50 * d.fn Fld.resVkeep) level) (50 * d.fn Fld.resVmax)

/-- The reservoir charger may run (R443). -/
def Device.resMayCharge (d : Device) : Bool :=
  decide (d.fn Fld.resPresent = 1) && d.isOpen && !d.path.priInUse && !d.holdup && !d.path.resImbal && !d.path.resOv

/-- The reservoir charger stops when it may not run (R443). -/
def Device.resCheck (d : Device) : Device :=
  d.when (d.path.resCharging && !d.resMayCharge) (·.updPath fun p => { p with resCharging := false })

/-- It starts when `CAPH`, as sampled, is below the target less `RES.hyst` (R441, R443, R445). -/
def Device.resResume (d : Device) : Device :=
  d.when (d.resMayCharge && decide (d.sample.capMv + 10 * d.fn Fld.resHyst < d.resTarget))
    (·.updPath fun p => { p with resCharging := true })

/-- The charger by a sample of `CAPH`: it stops at the target and starts below it (R443). -/
def Device.resEdge (d : Device) : Device :=
  ((d.resCheck).when (decide (d.resTarget ≤ d.sample.capMv)) (·.updPath fun p => { p with resCharging := false })).resResume

/-! ### PV (R431, R451) -/

/-- The PV setting that the keeper wants: the latest `PV_SET`, else the Recipe's (R430, R451). -/
def Device.pvTarget (d : Device) : PvMode × Nat × Nat :=
  match d.priv.pvSet with
  | some (_, m, k, v) => (m, k, v)
  | none => (if d.fn Fld.pvMode = 0 then .focv else .fixed, d.fn Fld.pvK, 10 * d.fn Fld.pvVfix)

/-- Until step 10 the boost runs with FOCV and a `k` of 0.78 (R430). -/
def Device.pvInForce (d : Device) : PvMode × Nat × Nat :=
  match d.power.phase with
  | .open | .lodgeDown | .lodge | .shipDown => (d.active.pvMode, d.active.pvK, d.active.pvVfix)
  | _ => (.focv, 78, 0)

/-- The regulation point that follows from an open-circuit voltage (R431). -/
def Device.pvRegulate (d : Device) : Device :=
  let (m, k, v) := d.pvInForce
  d.updPath fun p => { p with pvReg := match m with
    | .focv => quot 52 (k * p.pvVoc) 100
    | .fixed => v
    | .off => 0 }

/-- The boost harvests: power comes from `PVIN`, it is not off, stopped by VSYS over-voltage or idle below 0.25 V, and VSYS is at least
the regulation point plus 0.2 V (R414, R431, R432). -/
def Device.pvHarvests (d : Device) : Bool :=
  bit d.sample.src 1 && decide (d.fn Fld.pvPresent = 1) && decide (d.pvInForce.1 ≠ .off) && !d.path.vsysOv &&
    decide (250 ≤ d.path.pvReg) && decide (d.path.pvReg + 200 ≤ d.sample.vsysMv)

/-! ### The sources of VSYS (R410) -/

/-- The six sources of VSYS (R410). -/
inductive Source where
  | pv | kinetic | dock | battery | primary | reservoir
  deriving DecidableEq, Repr

/-- The kinetic clamp is engaged (R414, R434). -/
def Path.clampOn (p : Path) : Bool := p.clamp || p.vsysOv

/-- The dock input switch is closed (R414, R422). -/
def Path.dockSwitch (p : Path) : Bool := p.dcValid && !p.vsysOv && !p.dcOv

/-- The set-point of the dock regulator, mV (R424). -/
def Device.dockSetMv (d : Device) : Nat := if d.power.phase.afterStep10 then 20 * d.fn Fld.pathVsysDc else 4200

/-- What a source holds VSYS at, at most, in mV (R410; before step 10 the boost has the ceiling of R424, R430). -/
def Device.sourceHolds (d : Device) : Source → Nat
  | .pv => if d.power.phase.afterStep10 then 20 * d.fn Fld.pathVsysCeiling else 4200
  | .kinetic => 20 * d.fn Fld.pathVsysCeiling
  | .dock => d.dockSetMv
  | .battery => d.sample.batMv - 20
  | .primary => d.sample.priMv - 20
  | .reservoir => d.sample.capMv - 50

/-- A source feeds VSYS (R410, R416, R494): the cell precharged through an OFF FET does not. -/
def Device.sourceFeeds (d : Device) : Source → Bool
  | .pv => d.pvHarvests
  | .kinetic => decide (d.fn Fld.kinPresent = 1) && !d.kin.stopped && !d.path.clampOn
  | .dock => d.path.dockSwitch
  | .battery => !d.fetIsOff && decide (d.chg.phase ≠ .precharge)
  | .primary => d.priConducts
  | .reservoir => d.holdupConducts

/-- Codes of PV modes (R450). -/
def PvMode.code : PvMode → Nat
  | .focv => 0 | .fixed => 1 | .off => 2

/-- Codes of FET modes (R450). -/
def FetMode.code : FetMode → Nat
  | .off => 0 | .supply => 1 | .charge => 2

/-! ### Commands -/

/-- A fault of a source and kind is in the active table. -/
def Device.faultActive (d : Device) (source kind : Nat) : Bool :=
  d.faults.active.any fun a => msgSource a.msg == source && msgKind a.msg == kind

/-- Hours since the latest pulse; with none since POR the record states no number, and it is a free value (R439, R450, log
entry 100). -/
def Device.pulseAge (d : Device) : Nat :=
  if d.path.pulseLast = 0 then Config.freeNat d.freeCtr else sat 65535 ((d.now - d.path.pulseLast) / 3600000000)

/-- The result of `PATH_QUERY` (R450). -/
def Device.pathResult (d : Device) : List Byte :=
  let p := d.path
  let flags := b2n p.dcValid + 2 * b2n p.dcOv + 4 * b2n (p.dcValid && d.sample.dcReg) + 8 * b2n (p.dcValid && p.cc2) +
    16 * b2n p.priInUse + 32 * b2n d.holdup + 64 * b2n d.kin.ceiling + 128 * b2n (p.resCharging && d.resMayCharge)
  leBytes 1 p.dock ++ leBytes 2 (d.inputLimit d.active.dcLimit) ++
    leBytes 1 (p.fet.code + 16 * p.fetCause + 128 * b2n (d.faultActive 8 6)) ++ leBytes 1 flags ++
    leBytes 1 (d.pvInForce.1.code + 4 * b2n d.pvHarvests) ++ leBytes 2 d.resTarget

/-- The 16-byte power-path record (R450). -/
def Device.pathRecord (d : Device) : List Byte :=
  leBytes 2 (sat 65535 d.sample.dcinMv) ++ leBytes 2 (sat 65535 d.path.pvReg) ++ leBytes 2 (sat 65535 d.path.pvVoc) ++
    leBytes 2 (sat 65535 d.sample.priMv) ++ leBytes 2 (sat 65535 d.path.priLoad) ++
    leBytes 2 (sat 65535 d.sample.capmMv) ++ leBytes 2 d.pulseAge ++ leBytes 2 0

/-- `PATH_QUERY` (R450). -/
def cmdPathQuery : Cmd :=
  { op := 0x330, cls := .read, len := 0, safe := .all, argsOk := fun _ _ _ => true,
    run := fun d id _ => (d.buffer id.room 0 d.polled.pathRec, ok d.polled.path) }

/-- The arguments of `PV_SET` (R451). -/
def pvSetOk (d : Device) (a : List Byte) : Bool :=
  let k := byteAt a 1
  let v := numAt a 2 2
  decide (d.fn Fld.pvPresent = 1) &&
  match byteAt a 0 with
  | 0 => decide (50 ≤ k) && decide (k ≤ 95) && decide (v = 0)
  | 1 => decide (k = 0) && decide (250 ≤ v) && decide (v ≤ 5000)
  | 2 => decide (k = 0) && decide (v = 0)
  | _ => false

/-- `PV_SET` (R451). -/
def cmdPvSet : Cmd :=
  { op := 0x400, cls := .roomChange, feature := some 4, len := 4, safe := .owner, argsOk := fun d _ a => pvSetOk d a,
    run := fun d id a =>
      let m : PvMode := match byteAt a 0 with | 0 => .focv | 1 => .fixed | _ => .off
      (d.updPriv fun p => { p with pvSet := some (id.room, m, byteAt a 1, numAt a 2 2) }, ok (leBytes 1 m.code)) }

/-- `DC_LIMIT` (R452). -/
def cmdDcLimit : Cmd :=
  { op := 0x331, cls := .roomChange, feature := some 0, len := 2, safe := .owner,
    argsOk := fun _ _ a =>
      let v := numAt a 0 2
      decide (v = 0) || (decide (100 ≤ v) && decide (v ≤ 2000) && decide (v % 50 = 0)),
    run := fun d id a =>
      let v := numAt a 0 2
      (d.updPriv fun p =>
        { p with dcLimits := p.dcLimits.filter (fun x => x.1 ≠ id.room) ++ (if v = 0 then [] else [(id.room, v)]) },
       ok []),
    late := fun d _ _ => some (leBytes 2 (d.inputLimit d.lowestDcLimit)) }

/-- `PRI_PULSE` (R453). -/
def cmdPriPulse : Cmd :=
  { op := 0x332, cls := .deviceChange, len := 4, safe := .owner, once := fun _ => true,
    argsOk := fun d _ a =>
      let ma := numAt a 0 2
      let ms := numAt a 2 2
      decide (d.fn Fld.priPresent = 1) && decide (ma ≤ 50) && (decide (ms = 0) || (decide (10 ≤ ms) && decide (ms ≤ 5000))),
    run := fun d id a =>
      if d.path.priInUse ∨ d.path.pulse.isSome then (d, fails stBusy)
      else
        let ma := numAt a 0 2
        let ms := numAt a 2 2
        (d.pulseBegin (some id) d.sample.priMv (if ma = 0 then d.fn Fld.priPulseMa else ma)
          (if ms = 0 then 10 * d.fn Fld.priPulseMs else ms) false, .wait [] (.open true)) }

end Sys2Proof.Machine
end

