-- ==== Sys2Proof/Machine/Adc.lean ====
section
/-! DEFINITION. Measurement (R592 to R617): sampling groups, their triggers, sets and limits, and the `ADC_` commands. -/
namespace Sys2Proof.Machine

/-- Group `g` of the ADC hardware. -/
def Device.adcGroup (d : Device) (g : Fin 4) : AdcGroup := d.adc.groups.get g

/-- A group number. -/
def fin4 (n : Nat) : Fin 4 := Fin.ofNat 4 n

/-- All group numbers in ascending order. -/
def all4 : List (Fin 4) := [0, 1, 2, 3]

/-! ### Definitions and rows -/

/-- A group's definition in the Recipe in force (R614). -/
def Device.adcRecipe (d : Device) (g : Fin 4) : AdcCfg × List Word :=
  ({ mask := d.fn Fld.adcMask g.val, rows := d.fn Fld.adcRows g.val, trig := d.fn Fld.adcTrig g.val,
     div := d.fn Fld.adcDiv g.val, delay := d.fn Fld.adcDelay g.val, cmpSrc := d.fn Fld.adcCmpSrc g.val,
     limEn := decide (d.fn Fld.adcLimEn g.val ≠ 0), limRow := d.fn Fld.adcLimRow g.val,
     limConv := d.fn Fld.adcLimConv g.val, limLo := d.fn Fld.adcLimLo g.val, limHi := d.fn Fld.adcLimHi g.val },
   (List.range 16).map fun r => BitVec.ofNat 32 (d.fn Fld.adcRow (16 * g.val + r)))

/-- A group's definition as the keeper wants it: the holder's, else the Recipe's (R608). -/
def Device.adcWanted (d : Device) (g : Fin 4) : AdcCfg × List Word :=
  match d.priv.adcHolds.get g with
  | some h => (h.cfg, h.rowWords)
  | none => d.adcRecipe g

/-- The channel a row names for converter `k` (R596). -/
def rowChannel (w : Word) (k : Nat) : Nat := w.toNat / 2 ^ (5 * k) % 32

/-- A row meets R596 under a converter mask. -/
def rowOk (mask : Nat) (w : Word) : Bool :=
  adcRowOk (w.toNat : Int) && (List.range 4).all fun k => bit mask k || decide (rowChannel w k = 0)

/-- Every channel that rows name under a mask is allotted to a Room (R243). -/
def Device.rowsAllotted (d : Device) (n : RoomId) (mask : Nat) (rows : List Word) : Bool :=
  rows.all fun w => (List.range 4).all fun k =>
    !bit mask k || bit (d.allotMask Fld.roomChannels n) (rowChannel w k)

/-! ### Channels (R594, R595) -/

/-- Full scale of a channel in mV; channels 29 and 31 have none (R594). -/
def channelMv (ch : Nat) : Nat :=
  if ch ≤ 5 ∨ (13 ≤ ch ∧ ch ≤ 15) then 1250
  else if ch = 11 ∨ (16 ≤ ch ∧ ch ≤ 18) then 20000
  else if ch = 19 ∨ ch = 20 ∨ ch = 30 then 2500
  else if ch = 29 ∨ ch = 31 then 0
  else 6250

/-- The quantity that a code stands for (R594): µV, or for the die temperature 0.125 °C. -/
def channelValue (ch code : Nat) : Int := if ch = 29 then (code : Int) - 1600 else (code * (1000 * channelMv ch) / 4096 : Nat)

/-- How long one conversion of a row takes, in 48 MHz cycles (R592, R595). -/
def convCycles (acq : Nat) : Nat := match acq with | 0 => 48 | 1 => 84 | 2 => 228 | _ => 804

/-- How long a row lasts, in 48 MHz cycles (R596, R598). -/
def rowCycles (w : Word) : Nat := 4 ^ (w.toNat / 2 ^ 22 % 4) * convCycles (w.toNat / 2 ^ 20 % 4)

/-! ### Triggers and sets (R598 to R607) -/

/-- A trigger of a group at a device time in 48 MHz cycles: dropped while the group is busy, and counted (R602). -/
def Device.adcTrigger (d : Device) (g : Fin 4) (code angle at_ : Nat) : Device :=
  d.updAdcGroup g fun a =>
    match a.run with
    | some _ => { a with overlaps := sat 65535 (a.overlaps + 1), overBatch := a.overBatch + 1 }
    | none => { a with run := some { cfg := a.cfg, rowWords := a.rowWords, trig := code,
                                     angle := if code = 2 then angle else 0, trigC := at_, started := false,
                                     startC := 0, latency := 0 } }

/-- Triggers every group whose source is `code` and that `p` picks, at a device time in 48 MHz cycles; groups are armed only in RUN, DOZE
and REST (R600, R610). -/
def Device.adcTriggerAll (d : Device) (code at_ : Nat) (p : Fin 4 → AdcGroup → Bool) : Device :=
  if d.isOpen then
    d.each all4 fun g d => d.when (decide ((d.adcGroup g).cfg.trig = code) && p g (d.adcGroup g)) (·.adcTrigger g code 0 at_)
  else d

/-- The present instant in 48 MHz cycles of device time: an edge falls on a whole µs, and where any other trigger falls within its µs is
a free value (log entry 2). -/
def Device.edgeC (d : Device) : Nat := 48 * d.now
def Device.freeC (d : Device) : Nat × Device := let (f, d) := d.free; (48 * d.now + f % 48, d)

/-- The instant at which a triggered set is to begin, in 48 MHz cycles (R599). -/
def AdcRun.dueC (r : AdcRun) (delay : Nat) : Nat := r.trigC + 48 * (2 + delay)

/-- The instant at which the first `k` rows of a begun set have ended (R598). -/
def AdcRun.endC (r : AdcRun) (k : Nat) : Nat := (r.rowWords.take k).foldl (fun t w => t + rowCycles w) r.startC

/-- A group's set has begun and occupies converters of a mask. -/
def AdcGroup.occupies (a : AdcGroup) (mask : Nat) : Bool :=
  match a.run with
  | some r => r.started && decide (r.cfg.mask &&& mask ≠ 0)
  | none => false

/-- The instant from which the converters of a mask are free of the latest set of a group. -/
def AdcGroup.freeFrom (a : AdcGroup) (mask : Nat) : Nat :=
  match a.kept with
  | some k => if k.mask &&& mask ≠ 0 then a.doneC else 0
  | none => 0

/-- The instant at which a group's triggered set begins, when no other group's set comes between (R599). -/
def Device.adcBeginC (d : Device) (g : Fin 4) (r : AdcRun) : Nat :=
  let a := d.adcGroup g
  all4.foldl (fun t h => if h = g then t else max t ((d.adcGroup h).freeFrom a.cfg.mask)) (r.dueC a.cfg.delay)

/-- Group `h` comes before group `g` to converters that they share: its set runs, or would begin earlier, or at the same instant with
the lower number (R599, R603). -/
def Device.adcBefore (d : Device) (h g : Fin 4) (begin_ : Nat) : Bool :=
  let a := d.adcGroup h
  let mask := (d.adcGroup g).cfg.mask
  a.occupies mask ||
  match a.run with
  | some r => !r.started && decide (a.cfg.mask &&& mask ≠ 0) &&
      (decide (d.adcBeginC h r < begin_) || (decide (d.adcBeginC h r = begin_) && decide (h.val < g.val)))
  | none => false

/-- Begins the triggered set of a group that nothing comes before, latching configuration and rows, at the instant at which its delay
has passed and its converters are free (R598, R599, R603). -/
def Device.adcStart (d : Device) (g : Fin 4) : Device :=
  let a := d.adcGroup g
  match a.run with
  | none => d
  | some r =>
    let t := d.adcBeginC g r
    if r.started ∨ (all4.any fun h => h ≠ g && d.adcBefore h g t) then d
    else
      d.updAdcGroup g fun a => { a with run := some { r with
        cfg := a.cfg, rowWords := a.rowWords, started := true, startC := t,
        latency := sat 65535 (96 + (t - r.dueC a.cfg.delay)) } }

/-- Codes of a set as kept: 16 rows of 4, 0xFFFF where a converter or a row has none (R617); no code exceeds 4,095 (R594). -/
def setCodes (c : AdcCfg) (codes : List Nat) : List Nat :=
  (List.range 64).map fun i =>
    if i / 4 < c.rows ∧ bit c.mask (i % 4) then min 4095 (codes.getD i 0) else 0xFFFF

/-- The last row of a set ends: the kept set is replaced, and `COMPARE` groups are triggered by a limit event, whose check came at the
end of its row (R598, R604 to R607). `codes` holds four codes a row. -/
def Device.adcComplete (d : Device) (g : Fin 4) (codes : List Nat) : Device :=
  let a := d.adcGroup g
  match a.run with
  | none => d
  | some r =>
    if r.started = false then d
    else
      let all := setCodes r.cfg codes
      let v := all.getD (4 * r.cfg.limRow + r.cfg.limConv) 0
      let outside := r.cfg.limEn && (decide (v < r.cfg.limLo) || decide (r.cfg.limHi < v))
      let event := outside && decide (a.lastCheck ≠ some true)
      let d := d.updAdcGroup g fun a => { a with
        run := none, seq := if a.seq = 65535 then 1 else a.seq + 1, doneC := r.endC r.cfg.rows,
        lastCheck := if r.cfg.limEn then some outside else a.lastCheck,
        kept := some { codes := all, time := r.startC / 48, frac := r.startC % 48, latency := r.latency, mask := r.cfg.mask,
                       rows := r.cfg.rows, trig := r.trig, angle := r.angle, outside := outside } }
      if event then
        (d.raise (coded 0x0D 2 (256 * g.val + b2n (decide (r.cfg.limHi < v))))).adcTriggerAll 5
          (r.endC (r.cfg.limRow + 1)) fun _ h => decide (h.cfg.cmpSrc = g.val)
      else d

/-- The definitions of a published set, and a change of definition arms the group anew (R604, R609). -/
def Device.adcApply (d : Device) (t : Targets) : Device :=
  { d with adc := { d.adc with groups := Vector.ofFn fun g =>
      let a := d.adc.groups.get g
      let c := t.adc.get g
      if a.cfg = c.1 ∧ a.rowWords = c.2 then a
      else { a with cfg := c.1, rowWords := c.2, lastCheck := if a.cfg = c.1 then a.lastCheck else none } } }

/-- `ADC_OVERLAP` of the Batch that ends, one a group, with its overlaps (R602, R613). -/
def Device.adcOverlaps (d : Device) : Device :=
  d.each all4 fun g d =>
    let n := (d.adcGroup g).overBatch
    if n = 0 then d
    else (d.updAdcGroup g fun a => { a with overBatch := 0 }).raise (coded 0x0D 1 (256 * g.val + sat 255 n))

/-- The groups at step 10 of a start (R607, R610). -/
def Device.adcStep10 (d : Device) : Device :=
  { d with adc := { d.adc with groups := d.adc.groups.map fun a =>
      { a with run := none, kept := none, seq := 0, overlaps := 0, overBatch := 0, lastCheck := none } } }

/-- LODGE, SHIP and starts disarm the groups: no set runs (R610). -/
def Device.adcStop (d : Device) : Device :=
  { d with adc := { d.adc with groups := d.adc.groups.map fun a => { a with run := none } } }

/-- The targets of step 5 for the groups. -/
def Device.adcTargets (d : Device) : Device :=
  d.updShadow fun t => { t with adc := Vector.ofFn d.adcWanted }

/-- The holds that a Room holds end (R608). -/
def Priv.adcRelease (p : Priv) (n : RoomId) : Priv :=
  { p with adcHolds := p.adcHolds.map fun h => h.filter fun h => h.room ≠ n }

/-! ### Commands (R615 to R617) -/

/-- Another Room holds group `g`. -/
def Device.adcBusy (d : Device) (n : RoomId) (g : Fin 4) : Bool :=
  match d.priv.adcHolds.get g with
  | some h => h.room != n
  | none => false

/-- The rows that `ADC_PLAN` carries. -/
def planRows (a : List Byte) : List Word :=
  (List.range (byteAt a 2)).map fun i => BitVec.ofNat 32 (numAt a (4 + 4 * i) 4)

/-- Takes or keeps a group's hold with a definition. -/
def Device.adcTake (d : Device) (n : RoomId) (g : Fin 4) (c : AdcCfg × List Word) : Device :=
  d.updPriv fun p => { p with adcHolds := vput p.adcHolds g (some { room := n, cfg := c.1, rowWords := c.2 }) }

/-- `ADC_PLAN` (R615). -/
def cmdAdcPlan : Cmd :=
  { op := 0x500, cls := .roomChange, len := 56, exact := fun a => some (4 + 4 * byteAt a 2), safe := .owner,
    allot := fun d n a => decide (3 < byteAt a 0) ||
      d.rowsAllotted n (d.adcWanted (fin4 (byteAt a 0))).1.mask ((planRows a).take 13),
    argsOk := fun d _ a =>
      let first := byteAt a 1
      let count := byteAt a 2
      decide (byteAt a 0 ≤ 3) && decide (first ≤ 15) && decide (1 ≤ count) && decide (count ≤ 13) &&
        decide (first + count ≤ 16) && decide (byteAt a 3 = 0) &&
        (planRows a).all (rowOk (d.adcWanted (fin4 (byteAt a 0))).1.mask),
    run := fun d id a =>
      let g := fin4 (byteAt a 0)
      if d.adcBusy id.room g then (d, fails stBusy)
      else
        let c := d.adcWanted g
        let first := byteAt a 1
        let rows := (List.range 16).map fun r =>
          if first ≤ r ∧ r < first + byteAt a 2 then (planRows a).getD (r - first) 0 else c.2.getD r 0
        (d.adcTake id.room g (c.1, rows), ok) }

/-- The configuration that `ADC_GROUP` SET carries (R616). -/
def setCfg (a : List Byte) : AdcCfg :=
  { mask := byteAt a 2, trig := byteAt a 3, div := numAt a 4 2, delay := numAt a 6 2, rows := byteAt a 8,
    cmpSrc := byteAt a 9, limRow := byteAt a 10 % 16, limConv := byteAt a 10 / 16 % 4,
    limEn := decide (byteAt a 10 ≥ 128), limLo := numAt a 12 2, limHi := numAt a 14 2 }

/-- The ranges of a group's configuration (R600, R614). -/
def AdcCfg.inRanges (c : AdcCfg) (g : Nat) : Bool :=
  decide (1 ≤ c.mask) && decide (c.mask ≤ 15) && decide (c.trig ≤ 5) && decide (1 ≤ c.div) && decide (1 ≤ c.rows) &&
    decide (c.rows ≤ 16) && decide (c.cmpSrc ≤ 3) && decide (c.cmpSrc ≠ g) && decide (c.limRow < c.rows) &&
    bit c.mask c.limConv && decide (c.limLo ≤ c.limHi) && decide (c.limHi ≤ 4095)

/-- The arguments of `ADC_GROUP` (R605, R616). -/
def adcGroupOk (d : Device) (a : List Byte) : Bool :=
  let g := fin4 (byteAt a 0)
  decide (byteAt a 0 ≤ 3) &&
  match byteAt a 1 with
  | 1 =>
    let c := setCfg a
    let other := (d.adcWanted (fin4 c.cmpSrc)).1
    c.inRanges g.val && decide (byteAt a 10 / 64 % 2 = 0) && decide (byteAt a 11 = 0) &&
      (d.adcWanted g).2.all (rowOk c.mask) &&
      !(decide (c.trig = 5) && decide (other.trig = 5) && decide (other.cmpSrc = g.val))
  | 2 => zeroAt a 2 14 && decide ((d.adcWanted g).1.trig = 4)
  | 3 => zeroAt a 2 14
  | _ => false

/-- `ADC_GROUP` (R616). -/
def cmdAdcGroup : Cmd :=
  { op := 0x501, cls := .roomChange, len := 16, safe := .owner, once := fun a => byteAt a 1 == 2,
    priv := fun d n a => byteAt a 1 != 3 || decide (3 < byteAt a 0) || !d.adcBusy n (fin4 (byteAt a 0)) || decide (d.privOf n = 0),
    allot := fun d n a =>
      let w := d.adcWanted (fin4 (byteAt a 0))
      decide (3 < byteAt a 0) ||
      match byteAt a 1 with
      | 1 => d.rowsAllotted n (setCfg a).mask (w.2.take (setCfg a).rows)
      | 2 => d.rowsAllotted n w.1.mask (w.2.take w.1.rows)
      | _ => true,
    argsOk := fun d _ a => adcGroupOk d a,
    run := fun d id a =>
      let g := fin4 (byteAt a 0)
      let res := fun (d : Device) => leBytes 1 (d.adcGroup g).seq ++
        leBytes 1 (match d.priv.adcHolds.get g with | some h => h.room.val | none => 0xFF)
      match byteAt a 1 with
      | 1 => if d.adcBusy id.room g then (d, fails stBusy)
        else
          let d := d.adcTake id.room g (setCfg a, (d.adcWanted g).2)
          (d, ok (res d))
      | 2 => if d.adcBusy id.room g then (d, fails stBusy)
        else (d.updShadow fun t => { t with adcTrig := t.adcTrig ||| BitVec.twoPow 4 g.val }, ok (res d))
      | _ =>
        let d := d.updPriv fun p => { p with adcHolds := vput p.adcHolds g none }
        (d, ok (res d)) }

/-- The result of `ADC_READ` (R617). -/
def AdcGroup.readResult (a : AdcGroup) (valid : Bool) : List Byte :=
  match a.kept with
  | some k => leBytes 2 a.seq ++ leBytes 1 k.rows ++ leBytes 1 (b2n valid + 2 * b2n k.outside + 4 * k.trig) ++
      leBytes 4 k.time
  | none => leBytes 2 a.seq ++ leBytes 6 0

/-- The measurement record of `ADC_READ` (R617). -/
def AdcGroup.readRecord (a : AdcGroup) : List Byte :=
  match a.kept with
  | some k => leBytes 8 k.time ++ leBytes 1 k.frac ++ leBytes 1 k.mask ++ leBytes 2 k.latency ++ leBytes 2 k.angle ++
      leBytes 2 a.overlaps ++ k.codes.flatMap (leBytes 2)
  | none => leBytes 14 0 ++ leBytes 2 a.overlaps ++ (List.replicate 64 0xFFFF).flatMap (leBytes 2)

/-- A read returns a group's kept set. -/
def Device.adcReturn (d : Device) (n : RoomId) (g : Fin 4) (valid : Bool) : Device × List Byte :=
  (d.buffer n 0 (d.adcGroup g).readRecord, (d.adcGroup g).readResult valid)

/-- `ADC_READ` (R617). One that does not wait returns the group as step 1 saw it; a waiting read keeps its group, the sequence number at execution and its deadline. -/
def cmdAdcRead : Cmd :=
  { op := 0x502, cls := .read, len := 4, safe := .all,
    argsOk := fun _ _ a =>
      let t := numAt a 2 2
      decide (byteAt a 0 ≤ 3) && decide (byteAt a 1 ≤ 1) &&
        (if byteAt a 1 = 1 then decide (1 ≤ t) && decide (t ≤ 60000) else decide (t = 0)),
    run := fun d id a =>
      let g := fin4 (byteAt a 0)
      if byteAt a 1 = 1 then (d, .wait [g.val, (d.adcGroup g).seq, d.now + 1000 * numAt a 2 2])
      else
        let a := d.polled.adc.get g
        (d.buffer id.room 0 a.readRecord, ok (a.readResult a.kept.isSome)) }

/-- A waiting read whose group has completed a new set returns it (R617). -/
def Device.adcWaiter (d : Device) (r : Rec) : Device :=
  if r.opcode = 0x502 ∧ r.st = .waiting then
    let g := fin4 (r.wait.getD 0 0)
    if (d.adcGroup g).seq ≠ r.wait.getD 1 0 then
      let x := d.adcReturn r.id.room g true
      x.1.complete r.id stOk x.2
    else d
  else d

/-- Completes every waiting read that a new set answers. -/
def Device.adcWaiters (d : Device) : Device := d.each d.reqs.recs fun r d => d.adcWaiter r

/-- A waiting read of a group returns with `valid` clear (R617). -/
def Device.adcReadEnd (d : Device) (id : ReqId) (g : Fin 4) : Device :=
  let x := d.adcReturn id.room g false
  x.1.complete id stOk x.2

end Sys2Proof.Machine
end

