-- ==== Sys2Proof/Machine/Kinetic.lean ====
section
/-! DEFINITION. The angle engine (R454 to R487): edges, the counter, synchronisation, events, the rectifier's mode and
commutation by the Innkeeper. -/
namespace Sys2Proof.Machine

/-! ### The wheel (R455, R456, R458) -/

/-- The nominal angle of an edge position (R456). -/
def nominal (p : Nat) : Nat := p * 128 / 3

/-- The position after `p` in a direction, skipping the missing tooth (R458). -/
def nextPos (rev : Bool) (p : Nat) : Nat :=
  if rev then (if p = 0 then 91 else p - 1) else (if p = 91 then 0 else p + 1)

/-- Steps from position `a` to `b` in a direction, of 96 a revolution. -/
def posDiff (rev : Bool) (a b : Nat) : Nat := if rev then (a + 96 - b) % 96 else (b + 96 - a) % 96

/-- The sensor of an edge is `TWA`. -/
def edgeOnA : Sys2Proof.HallEdge → Bool
  | .aRise | .aFall => true
  | _ => false
/-- The level that the sensor goes to. -/
def edgeLevel : Sys2Proof.HallEdge → Bool
  | .aRise | .bRise => true
  | _ => false

/-- The direction that an edge shows by its quadrature order, given the other sensor's level: true for reverse (R458). -/
def edgeReverse (e : Sys2Proof.HallEdge) (other : Bool) : Bool :=
  match e with
  | .aRise => other
  | .aFall => !other
  | .bRise => !other
  | .bFall => other

/-! ### Speed (R459) -/

/-- The estimate: edge positions and microseconds between the latest edge and the fourth before it, when valid. -/
def Kinetic.speed (k : Kinetic) : Option (Nat × Nat) :=
  match k.hist with
  | [a, _, _, _, b] =>
    let n := if k.synced then posDiff k.rev b.2 a.2 else 4
    if b.1 < a.1 then some (n, a.1 - b.1) else none
  | _ => none

/-- The speed is at least `num / den` rev/s (speed = n / 96 revolutions in t µs). -/
def speedGe (s : Nat × Nat) (num den : Nat) : Bool := decide (s.1 * 1000000 * den ≥ num * 96 * s.2)

/-- The speed in `1 / scale` rev/s, to the unit. -/
def speedIn (formula scale : Nat) (s : Nat × Nat) : Nat := quot formula (s.1 * 1000000 * scale) (96 * s.2)

/-! ### The rectifier (R475, R476) -/

/-- LDO6 is TRIPPED or HELD (R466). -/
def Device.ldo6Down (d : Device) : Bool := decide (d.railSt 9 = .tripped) || decide (d.railSt 9 = .held)

/-- The kinetic function is present. -/
def Device.kinPresent (d : Device) : Bool := decide (d.fn Fld.kinPresent = 1)

/-- The lowest passive cause that holds; 0 when none does (R475). -/
def Device.kinCause (d : Device) : Nat :=
  let k := d.kin
  if !d.kinPresent then 1
  else if !d.isOpen then 2
  else if !d.active.kinAuto then 3
  else if !k.synced then 4
  else if k.stopped then 5
  else if k.lowSpeed then 6
  else if k.overspeed then 7
  else if k.stale then 8
  else if k.ceiling then 9
  else if k.sensorBad || d.ldo6Down then 10
  else 0

/-- Speed conditions with their hysteresis (R475, causes 6 and 7). -/
def Device.kinSpeed (d : Device) : Device :=
  let m := d.fn Fld.kinMinRps
  match d.kin.speed with
  | none => d.updKin fun k => { k with lowSpeed := true, overspeed := false }
  | some s =>
    let low := if d.kin.lowSpeed then !speedGe s (11 * m) 100 else !speedGe s m 10
    let fast := if d.kin.overspeed then speedGe s 45 1 else decide (50 * 96 * s.2 < s.1 * 1000000)
    let began := fast && !d.kin.overspeed
    let d := d.updKin fun k => { k with lowSpeed := low, overspeed := fast }
    d.when began (·.raise (coded 9 4 (sat 65535 (speedIn 1 10 s))))

/-- Evaluates the rectifier's mode; at the instant it leaves ACTIVE every gate turns off (R475, R476). -/
def Device.kinMode (d : Device) : Device :=
  let act := decide (d.kinCause = 0) && !d.path.clampOn
  d.updKin fun k => { k with active := act, gates := if act then k.gates else 0 }

/-! ### Events (R467 to R474) -/

/-- Fields of an event entry (R467). -/
def entAngle (w : Word) : Nat := w.toNat % 4096
def entGate (w : Word) : Nat := w.toNat / 2 ^ 12 % 8
def entAction (w : Word) : Nat := w.toNat / 2 ^ 16 % 8
def entDir (w : Word) : Nat := w.toNat / 2 ^ 19 % 4
def entFire (w : Word) : Bool := w.getLsbD 21
def entGroup (w : Word) : Nat := w.toNat / 2 ^ 22 % 4
def entTag (w : Word) : Nat := w.toNat / 2 ^ 24

/-- The entry's `dir` includes the present direction. -/
def entIncludes (rev : Bool) (w : Word) : Bool := bit (entDir w) (if rev then 1 else 0)

/-- Gates after a GATE_ON: the opposite gate of the phase turns off first (R477). -/
def gateOn (gates : BitVec 6) (g : Nat) : BitVec 6 :=
  if g < 6 then (gates &&& ~~~(BitVec.twoPow 6 (g ^^^ 1))) ||| BitVec.twoPow 6 g else gates

/-- Gates after a GATE_OFF. -/
def gateOff (gates : BitVec 6) (g : Nat) : BitVec 6 :=
  if g < 6 then gates &&& ~~~(BitVec.twoPow 6 g) else gates

/-- Applies the action of a fired event (R472, R474, R475). -/
def Device.fireEvent (d : Device) (w : Word) : Device :=
  match entAction w with
  | 1 => d.when d.kin.active (·.updKin fun k => { k with gates := gateOn k.gates (entGate w) })
  | 2 => d.when d.kin.active (·.updKin fun k => { k with gates := gateOff k.gates (entGate w) })
  | 3 =>
    let g := fin4 (entGroup w)
    d.when (d.isOpen && decide ((d.adcGroup g).cfg.trig = 2)) fun d =>
      let (t, d) := d.freeC
      d.adcTrigger g 2 d.kin.counter.toNat t
  | 4 => d.when d.isOpen (·.updKin fun k => { k with
      marks := sat 0xFFFFFFFF (k.marks + 1),
      markLog := ({ time := d.now, count := k.counter, tag := BitVec.ofNat 8 (entTag w), rev := k.rev } :: k.markLog).take 8 })
  | _ => d

/-- Offset of an angle from a start angle along an arc. -/
def arcOffset (back : Bool) (fromAngle angle : Nat) : Nat :=
  if back then (fromAngle + 4096 - angle) % 4096 else (angle + 4096 - fromAngle) % 4096

/-- The counter moves `len` counts along an arc: events strictly inside it are passed, and an event at the new value
matches (R470 to R473). -/
def Device.moveCounter (d : Device) (back : Bool) (len : Nat) : Device :=
  let old := d.kin.counter.toNat % 4096
  let d := d.updKin fun k => { k with counter := if back then k.counter - BitVec.ofNat 16 len else k.counter + BitVec.ofNat 16 len }
  let hits := sortBy (fun w => arcOffset back old (entAngle w))
    (d.kin.table.filter fun w =>
      let o := arcOffset back old (entAngle w)
      entIncludes d.kin.rev w && decide (0 < o) && decide (o ≤ len))
  d.each hits fun w d =>
    if arcOffset back old (entAngle w) = len then d.fireEvent w
    else if entFire w then (d.fireEvent w).updKin fun k => { k with passFired := sat 0xFFFFFFFF (k.passFired + 1) }
    else d.updKin fun k => { k with passDropped := sat 0xFFFFFFFF (k.passDropped + 1) }

/-- The counter snaps to an edge's nominal angle in the direction of motion (R458, R471). -/
def Device.snapTo (d : Device) (p : Nat) : Device :=
  d.moveCounter d.kin.rev (arcOffset d.kin.rev (d.kin.counter.toNat % 4096) (nominal p))

/-- A resync jump along the shorter arc, and the direction of motion when both are equal (R471). -/
def Device.resyncJump (d : Device) (p : Nat) : Device :=
  let c := d.kin.counter.toNat % 4096
  let fwd := arcOffset false c (nominal p)
  let back := arcOffset true c (nominal p)
  if fwd < back ∨ (fwd = back ∧ d.kin.rev = false) then d.moveCounter false fwd else d.moveCounter true back

/-! ### Synchronisation (R462 to R466) -/

/-- A gap is recognised by the three latest `TWA` intervals (R462). -/
def gapSeen (l : List (Bool × Nat)) : Bool :=
  match l with
  | (true, h2) :: (false, low) :: (true, h1) :: _ => decide (2 * low ≥ 5 * h1) && decide (2 * h2 ≤ low)
  | _ => false

/-- The positions of the edges up to a recognising edge, newest first (R462). -/
def gapPositions (rev : Bool) : List Nat := if rev then [88, 89, 90, 91, 0] else [2, 1, 0, 91, 90]

/-- Gives the edges in the history the positions that a recognised gap shows. -/
def relabel (rev : Bool) (h : List (Nat × Nat)) : List (Nat × Nat) :=
  (h.zip (gapPositions rev)).map fun x => (x.1.1, x.2)

/-- Synchronisation is lost (R457, R466). -/
def Device.syncLost (d : Device) (cause : Nat) : Device :=
  if d.kin.synced then
    ((d.updKin fun k => { k with synced := false, counter := 0, hist := [], aIntervals := [], lastEdgeA := none }).raise
      (coded 9 2 cause)).kinSpeed.kinMode
  else d

/-- Any start, LODGE or SHIP takes the synchronisation; the manual gives it no cause code, so that the qualifier is a free
value (R466, R483, log entry 2). -/
def Device.syncGone (d : Device) : Device :=
  if d.kin.synced then
    let (x, d) := d.free
    d.raise (coded 9 2 x)
  else d

/-- The engine stops being powered: any start, LODGE or SHIP (R466, R481). -/
def Device.kinStop (d : Device) : Device :=
  (d.syncGone.updKin fun k => { k with
    synced := false, counter := 0, hist := [], aIntervals := [], lastEdgeA := none, seen := false, stopped := true,
    stopTime := d.now, twCont := false, twSample := none, sensorBad := false, lowSpeed := true, overspeed := false,
    gates := 0, active := false, pos := 0 }).updRails fun b => { b with twDuty := false }

/-- LDO6 leaves PROOFED (R466): a duty-cycled enable under way is over. -/
def Device.ldo6Left (d : Device) : Device :=
  let d := (d.syncLost 3).updRails fun b => { b with twDuty := b.twDuty && d.kin.twCont }
  (d.when (d.ldo6Down && d.kinPresent) (·.raise (coded 9 3 2))).kinMode

/-- LDO6, PROOFED in `before`, has been turned off (R465, R466). -/
def Device.twLeft (d before : Device) : Device :=
  d.when (decide (before.railSt 9 = .proofed) && decide (d.railSt 9 = .off)) (·.ldo6Left)

/-- The magnitude of a position error, as the shorter way round, and its code in a qualifier (R483). -/
def resyncError (predicted true_ : Nat) : Nat :=
  let f := (true_ + 96 - predicted) % 96
  let mag : Int := if f ≤ 48 then f else (f : Int) - 96
  ofSigned 2 (if Config.resyncSign then mag else -mag)

/-- A vote holds LDO6 on (R465). -/
def Device.ldo6Voted (d : Device) : Bool := (d.active.rails.get 9).en

/-- The engine enables LDO6 or lets it go, at the instant (R355). -/
def Device.twEnable (d : Device) (on : Bool) : Device :=
  ((d.updRails fun b => { b with twDuty := on }).railEdgeOne d.now 9).twLeft d

/-- `TWPWR` is enabled continuously, or is duty-cycled from now on, with its first enable a period later (R465; DESIGN CHOICE, log
entry 117). -/
def Device.twPower (d : Device) (on : Bool) : Device :=
  (d.updKin fun k => { k with twCont := on, twAt := d.now }).twEnable on

/-- An accepted edge at a device time (R455, R457 to R464). -/
def Device.hallEdge (d : Device) (e : Sys2Proof.HallEdge) (t : Nat) : Device :=
  let k := d.kin
  let rev := edgeReverse e (if edgeOnA e then k.lvlB else k.lvlA)
  let reversal := k.seen && (rev != k.rev)
  let iv := if edgeOnA e then match k.lastEdgeA with | some t0 => [(k.lvlA, t - t0)] | none => [] else []
  -- R461: gates off, then the direction, then the snap
  let d := d.when reversal (·.updKin fun k => { k with gates := 0, reversals := sat 0xFFFFFFFF (k.reversals + 1) })
  let p := if reversal then k.pos else nextPos rev k.pos
  let d := d.updKin fun k => { k with
    rev := rev, seen := true, stopped := false, lastEdge := t,
    lvlA := if edgeOnA e then edgeLevel e else k.lvlA, lvlB := if edgeOnA e then k.lvlB else edgeLevel e,
    pos := if k.synced then p else 0,
    hist := if reversal then [(t, if k.synced then p else 0)] else ((t, if k.synced then p else 0) :: k.hist).take 5,
    aIntervals := if reversal then [] else (iv ++ k.aIntervals).take 3,
    lastEdgeA := if edgeOnA e then some t else if reversal then none else k.lastEdgeA }
  let gap := edgeOnA e && gapSeen d.kin.aIntervals
  let true_ := if rev then 88 else 2
  let d :=
    if gap ∧ d.kin.synced = false then
      d.updKin fun k => { k with synced := true, pos := true_, sensorBad := false, counter := BitVec.ofNat 16 (nominal true_),
                                 hist := relabel rev k.hist }
    else if gap ∧ p ≠ true_ then
      let d := (d.updKin fun k => { k with resyncs := sat 0xFFFFFFFF (k.resyncs + 1), pos := true_,
                                           hist := relabel rev k.hist }).resyncJump true_
      d.raise (coded 9 1 (resyncError p true_))
    else if d.kin.synced then d.snapTo p
    else d
  -- R465: a rotor that is not stopped keeps `TWPWR` on
  (d.when (!d.kin.twCont) (·.twPower true)).kinSpeed.kinMode

/-- The engine takes edges: the function is present, and LDO6 supplies the sensors in RUN, DOZE or REST, other than for a sample of the
duty cycle (R465, R481). -/
def Device.sensorsOn (d : Device) : Bool :=
  d.kinPresent && d.isOpen && (d.railSt 9).isOn && (d.kin.twCont || d.ldo6Voted)

/-- The counter is short of its limit before the next expected edge (R460). -/
def Kinetic.mayStep (k : Kinetic) : Bool :=
  let c := k.counter.toNat % 4096
  let target := nominal (nextPos k.rev k.pos)
  let left := arcOffset k.rev c target
  k.synced && !k.stopped && k.speed.isSome && decide (1 < left)

/-- The device time of the next count at the estimated rate, to the nearest µs: so many counts after the latest edge, from its nominal
angle on (R459, R460). -/
def Kinetic.stepTime (k : Kinetic) : Option Nat :=
  k.speed.map fun s =>
    let n := arcOffset k.rev (nominal k.pos) (k.counter.toNat % 4096) + 1
    k.lastEdge + (2 * n * 96 * s.2 + s.1 * 4096) / (2 * s.1 * 4096)

/-- The rotor stops: the counter holds the last edge's nominal angle (R464). -/
def Device.rotorStop (d : Device) : Device :=
  (d.updKin fun k =>
    let c := k.counter.toNat
    let n := nominal k.pos
    let back := arcOffset (!k.rev) (c % 4096) n
    { k with stopped := true, stopTime := k.lastEdge + 200000, hist := [], aIntervals := [], lastEdgeA := none,
             counter := if k.synced then (if k.rev then k.counter + BitVec.ofNat 16 back else k.counter - BitVec.ofNat 16 back)
               else k.counter }).kinSpeed.kinMode

/-- Illegal transition of both inputs (R455, R466). -/
def Device.illegal (d : Device) : Device :=
  let d := d.updKin fun k => { k with sensorBad := true }
  let d := d.syncLost 1
  (d.raise (coded 9 3 1)).kinMode

/-! ### Commutation by the Innkeeper (R479, R480) -/

/-- Twice the centre of a gate's forward window, electrical degrees: AH, AL, BH, BL, CH, CL (R479). -/
def windowCentre2 (g : Nat) : Nat :=
  match g with
  | 0 => 180 | 1 => 540 | 2 => 420 | 3 => 780 | 4 => 660 | _ => 1020

/-- The mechanical angle of an electrical angle, given doubled, in period `e` (R479). -/
def Device.mechAngle (d : Device) (e theta2 : Nat) : Nat :=
  (d.fn Fld.kinZero + quotNear 2 ((e * 720 + theta2) * 4096) (720 * d.fn Fld.kinPoles)) % 4096

/-- The advance in counts, at the speed sampled at step 1 (R479). -/
def Device.kinAdvance (d : Device) : Nat :=
  match d.polled.speed with
  | some s => quotNear 3 (s.1 * d.fn Fld.kinAdvanceUs * 4096) (96 * s.2)
  | none => 0

/-- An entry of the table (R467). -/
def mkEntry (angle gate action dir : Nat) (fire : Bool) : Word :=
  BitVec.ofNat 32 (angle % 4096 + gate * 2 ^ 12 + action * 2 ^ 16 + dir * 2 ^ 19 + b2n fire * 2 ^ 21)

/-- Whether an offset in a direction lies within the reach (R480): 256 counts, or in the direction of motion the angle
covered in 5 ms at the speed plus 2 rev/s when that is larger. -/
def Device.inReach (d : Device) (rev : Bool) (off : Nat) : Bool :=
  decide (off ≤ 256) ||
  match d.polled.speed with
  | some s => decide (rev = d.polled.rev) && decide (off * 9600 * s.2 ≤ (s.1 * 1000000 + 192 * s.2) * 2048)
  | none => false

/-- The gate events of one gate in one electrical period: forward on and off, reverse on and off (R479). A gate in
reverse uses the window of its phase's other gate. -/
def Device.gateEvents (d : Device) (g e : Nat) : List (Bool × Nat × Word) :=
  let w := d.fn Fld.kinWidth
  let adv := d.kinAdvance
  let a := d.mechAngle e (windowCentre2 g - w)
  let b := d.mechAngle e (windowCentre2 g + w)
  let ra := d.mechAngle e (windowCentre2 (g ^^^ 1) - w)
  let rb := d.mechAngle e (windowCentre2 (g ^^^ 1) + w)
  let f := fun x => (x + 4096 * (adv / 4096 + 1) - adv) % 4096
  let r := fun x => (x + adv) % 4096
  [(false, f a, mkEntry (f a) g 1 1 false), (false, f b, mkEntry (f b) g 2 1 true),
   (true, r rb, mkEntry (r rb) g 1 2 false), (true, r ra, mkEntry (r ra) g 2 2 true)]

/-- The table that the Innkeeper writes at step 5: gate events within reach in entries 0 to 47, user entries in 48 to 63
(R468, R480). The manual gives no order within entries 0 to 47 (log entry 11). -/
def Device.kinTable (d : Device) : List Word :=
  let c := d.polled.angle
  let evs := (List.range 6).flatMap fun g => (List.range (d.fn Fld.kinPoles)).flatMap fun e => d.gateEvents g e
  let near := (evs.filter fun x => d.inReach x.1 (arcOffset x.1 c x.2.1)).map (·.2.2)
  let gates := (near ++ List.replicate 48 0).take 48
  gates ++ (List.range 16).map fun i =>
    match d.priv.kinUsers.find? fun u => u.num == i with
    | some u => u.word
    | none => 0

/-- Step 5 for the engine: the table while the function is present, and the Rooms' settings (R469, R486). -/
def Device.kinTargets (d : Device) : Device :=
  d.updShadow fun t => { t with table := if d.kinPresent then some d.kinTable else none,
                                kinAuto := !d.priv.kinSets.any (·.2) }

/-- The edge on the engine: a published table swaps in, and five edges without one make it stale (R469, R475). -/
def Device.kinEdge (d : Device) (table : Option (List Word)) : Device :=
  let d :=
    if !d.kinPresent then d.updKin fun k => { k with staleEdges := 0, stale := false }
    else match table with
      | some t => d.updKin fun k => { k with table := t, staleEdges := 0, stale := false }
      | none =>
        let n := sat 65535 (d.kin.staleEdges + 1)
        let began := decide (n ≥ 5) && !d.kin.stale
        let d := d.updKin fun k => { k with staleEdges := n, stale := k.stale || decide (n ≥ 5) }
        d.when began (·.raise (coded 9 5 n))
  d.kinMode

/-- Step 10 of a start: counts are zero, and continuous `TWPWR` begins where the function is present (R465, R485). -/
def Device.kinStep10 (d : Device) : Device :=
  let d := d.kinStop.updKin fun k => { k with resyncs := 0, reversals := 0, cuts := 0, passFired := 0, passDropped := 0,
                                              marks := 0, markLog := [], staleEdges := 0, stale := false,
                                              table := List.replicate 64 0 }
  d.when d.kinPresent (·.twPower true)

/-! ### Commands (R485 to R487) -/

/-- The mode byte (R485). -/
def Device.kinModeCode (d : Device) : Nat := if d.path.clampOn then 2 else if d.kin.active then 1 else 0

/-- Gates as they stand: the clamp holds the three low-side gates on (R475). -/
def Device.gateStates (d : Device) : Nat := if d.path.clampOn then 0b101010 else d.kin.gates.toNat

/-- The result of `KIN_QUERY` (R485). -/
def Device.kinResult (d : Device) : List Byte :=
  let k := d.kin
  let v : Int := match k.speed with
    | some s => if k.rev then -((speedIn 4 100 s : Nat) : Int) else ((speedIn 4 100 s : Nat) : Int)
    | none => 0
  leBytes 2 k.counter.toNat ++ leBytes 2 (ofSigned 2 v) ++ leBytes 1 d.kinModeCode ++
    leBytes 1 (if d.kin.active then 0 else d.kinCause) ++
    leBytes 1 (b2n k.synced + 2 * b2n k.stopped + 4 * b2n k.rev + 8 * b2n (d.railSt 9).isOn) ++ leBytes 1 d.gateStates

/-- The angle-engine record (R485). -/
def Device.kinRecord (d : Device) : List Byte :=
  let k := d.kin
  leBytes 4 k.resyncs ++ leBytes 4 k.reversals ++ leBytes 4 k.cuts ++ leBytes 4 k.passFired ++ leBytes 4 k.passDropped ++
    leBytes 4 k.marks ++
    slice (k.markLog.flatMap fun m => leBytes 4 m.time ++ leBytes 2 m.count.toNat ++ [m.tag] ++ leBytes 1 (b2n m.rev)) 0 64

/-- `KIN_QUERY` (R485). -/
def cmdKinQuery : Cmd :=
  { op := 0x410, cls := .read, len := 0, safe := .all, argsOk := fun _ _ _ => true,
    run := fun d id _ => (d.buffer id.room 0 d.polled.kinRec, ok d.polled.kin) }

/-- `KIN_SET` (R486). -/
def cmdKinSet : Cmd :=
  { op := 0x411, cls := .roomChange, feature := some 5, len := 1, safe := .owner,
    argsOk := fun d _ a => decide (byteAt a 0 ≤ 1) && d.kinPresent,
    run := fun d id a =>
      (d.updPriv fun p => { p with kinSets := p.kinSets.filter (fun x => x.1 ≠ id.room) ++ [(id.room, byteAt a 0 == 1)] },
       ok []),
    late := fun d _ _ => some (leBytes 1 (b2n (d.priv.kinSets.any (·.2)))) }

/-- A word that may stand in a user entry: NOP, ADC or MARK with its unused fields 0 (R467, R468). -/
def userWordOk (w : Word) : Bool :=
  let a := entAction w
  (decide (a = 0) || decide (a = 3) || decide (a = 4)) && decide (entGate w ≤ 5) && !w.getLsbD 15 &&
    decide (entDir w ≠ 0) && (decide (a = 3) || decide (entGroup w = 0)) && (decide (a = 4) || decide (entTag w = 0))

/-- `KIN_USER` (R487). -/
def cmdKinUser : Cmd :=
  { op := 0x412, cls := .roomChange, feature := some 5, len := 6, safe := .owner,
    argsOk := fun d _ a =>
      let w := BitVec.ofNat 32 (numAt a 2 4)
      d.kinPresent && decide (byteAt a 0 ≤ 15) && decide (byteAt a 1 ≤ 1) &&
        (if byteAt a 1 = 1 then userWordOk w else decide (w = 0)),
    run := fun d id a =>
      let n := byteAt a 0
      if d.priv.kinUsers.any (fun u => u.num == n && u.room != id.room) then (d, fails stBusy)
      else (d.updPriv fun p => { p with kinUsers := p.kinUsers.filter (fun u => u.num ≠ n) ++
        (if byteAt a 1 = 1 then [{ room := id.room, num := n, word := BitVec.ofNat 32 (numAt a 2 4) }] else []) }, ok) }

end Sys2Proof.Machine
end

