-- ==== Sys2Proof/Machine/Charger.lean ====
section
/-! DEFINITION. The charger (R489 to R519): limits, phases, zones, removal, latched faults and the `CHG_` commands. -/
namespace Sys2Proof.Machine

/-! ### Voltages and limits (R489, R490, R492) -/

/-- The CV in force, mV (R490). -/
def Device.chgCvOf (d : Device) (z : Zone) : Nat :=
  d.fn Fld.chgCv - (if z = .warm then 10 * d.fn Fld.chgWarmCvMv else 0)

/-- The CV in force in the present zone. -/
def Device.cv (d : Device) : Nat := d.chgCvOf d.chg.zone

/-- The chemistry over-voltage limit, mV (R489). -/
def Device.chemLimit (d : Device) : Nat := match d.fn Fld.chgChem with | 0 => 4500 | 1 => 3900 | _ => 3000

/-- The restart level, mV (R498). -/
def Device.rechargeLevel (d : Device) : Nat := d.cv - 10 * d.fn Fld.chgRechgMv

/-- FAST, TAPER, TOPOFF and RECHARGE, in which the FET is in CHARGE (R491). -/
def ChgPhase.conducts : ChgPhase → Bool
  | .fast | .taper | .topoff | .recharge => true
  | _ => false

/-- The phases in which current is charged into the cell (R90, R508). -/
def ChgPhase.charging : ChgPhase → Bool
  | .precharge => true
  | p => p.conducts

/-- Phase codes (R496). -/
def ChgPhase.code : ChgPhase → Nat
  | .idle => 0 | .qualify => 1 | .precharge => 2 | .fast => 3 | .taper => 4 | .terminate => 5 | .topoff => 6
  | .done => 7 | .recharge => 8 | .suspended => 9 | .fault => 10

/-- Zone codes (R501). -/
def Zone.code : Zone → Nat
  | .cold => 0 | .cool => 1 | .normal => 2 | .warm => 3 | .hot => 4

/-- The zone with a code. -/
def zoneOf : Nat → Zone
  | 0 => .cold | 1 => .cool | 2 => .normal | 3 => .warm | _ => .hot

/-- COOL, NORMAL and WARM permit charging (R501). -/
def Zone.permits : Zone → Bool
  | .cold | .hot => false
  | _ => true

/-- The limits that apply, each with its bit in `CHG_QUERY` byte 6 (R492, R494, R517): the phase current, the zone, a
Room cap, the Larder cap, the burst pause, and the hardware ceiling, which shows as the phase current. -/
def Device.chgLimits (d : Device) (cap larder : Option Nat) : List (Nat × Nat) :=
  let dock := d.path.dcValid
  let phase := if dock then 10 * d.fn Fld.chgIFast else 10 * d.fn Fld.chgIHv
  let pre := decide (d.chg.phase = .precharge)
  [(0, if pre then 5 * d.fn Fld.chgIPre else phase), (0, if dock then 1500 else 400)] ++
    (if !pre && decide (d.chg.zone = .cool) then [(3, phase * (10 * d.fn Fld.chgCoolPct) / 100)] else []) ++
    (match cap with | some c => [(4, c)] | none => []) ++
    (if dock then [] else
      (match larder with | some c => [(5, c)] | none => []) ++
      (if d.pins.bgnt && decide (d.fn Fld.chgBurstPause = 1) then [(6, 0)] else []))

/-- The least of a list of limits. -/
def leastLimit (l : List (Nat × Nat)) : Nat := l.foldl (fun a x => min a x.2) 1500

/-- The charger may draw current: the FET is in CHARGE (R517), the die is not hot (R646), and the primary reserve does not stop it
(R437). -/
def Device.chgDraws (d : Device) : Bool := decide (d.path.fet = .charge) && !d.faults.dieHot && !d.priBlocks

/-- The charge current limit in force, mA; 0 when the charger may draw none (R437, R517, R646). -/
def Device.chgIlim (d : Device) (cap larder : Option Nat) : Nat :=
  if d.chgDraws then leastLimit (d.chgLimits cap larder) else 0

/-- The CV loop governs (R499): no limit but the phase current is the least, the dock regulator does not regulate its
input, and `BATSNS` is within 20 mV of CV. -/
def Device.cvGoverns (d : Device) : Bool :=
  let l := d.chgLimits d.active.chgCap d.active.chgLarder
  let m := leastLimit l
  d.chgDraws && l.all (fun x => decide (x.1 = 0) || decide (m < x.2)) &&
    !(d.path.dcValid && d.sample.dcReg) && decide (d.cv ≤ d.sample.batMv + 20) && decide (d.sample.batMv ≤ d.cv + 20)

/-- What holds the current (R517): the dock input or the CV loop when they govern, harvest when it delivers less than the
limit, and otherwise every limit that is the least (log entry 20). -/
def Device.chgHolds (d : Device) : Nat :=
  if d.chgDraws = false then 0
  else if d.path.dcValid && d.sample.dcReg then 2
  else if d.cvGoverns then 128
  else
    let l := d.chgLimits d.active.chgCap d.active.chgLarder
    let m := leastLimit l
    if d.path.dcValid = false ∧ d.sample.batUa < (m : Int) * 1000 then 4
    else maskOf 8 fun i => l.any fun x => x.1 == i && x.2 == m

/-! ### Phases (R491, R494, R495, R498) -/

/-- An input is present for the charger (R495). -/
def Device.inputPresent (d : Device) : Bool := d.path.dcValid || d.chg.harvest

/-- Enters a phase, with what it does to the FET (R491, R494): out of PRECHARGE begun with the FET OFF, only FAST keeps
the FET conducting and clears the opening cause. -/
def Device.chgEnter (d : Device) (p : ChgPhase) : Device :=
  let wasOff := d.fetIsOff
  let d := d.updChg fun c => { c with phase := p, preFetOff := if p = .precharge then wasOff else false }
  match p with
  | .precharge => d.updPath fun q => { q with fet := .charge }
  | .fault =>
    d.updPath fun q => { q with fet := if wasOff then .off else .supply }
  | _ =>
    if wasOff then
      (if p = .fast then d.updPath fun q => { q with fet := .charge, fetCause := 0, priInUse := false }
       else d.updPath fun q => { q with fet := .off }).priUpdate
    else d.updPath fun q => { q with fet := if p.conducts then .charge else .supply }

/-- The FET of R491 for the present phase once it is closed. -/
def Device.chgFet (d : Device) : Device :=
  if d.fetIsOff then d
  else d.updPath fun q => { q with fet := if d.chg.phase.charging && d.chgRuns then .charge else .supply }

/-- The conditions of R418 and R419 at device time `t`: the hardware has measured the 1 s at `PATH.bat_recover`. -/
def Device.fetMayClose (d : Device) (t : Nat) : Bool :=
  d.isOpen && decide (d.path.fet = .off) && d.path.fetReady && !d.chg.latched.getLsbD 0 && !d.path.ocHeld &&
    (match decide (d.path.fetCause = 4), d.path.ocTimes.head? with
      | true, some o => decide (o + 1000000 ≤ t)
      | _, _ => true)

/-- A Batch edge on an OFF FET: it closes when R418 is met; a sample below the level breaks the 1 s. -/
def Device.fetEdge (d : Device) : Device :=
  let d := d.when (decide (d.sample.batMv < 10 * d.fn Fld.pathBatRecover)) (·.updPath fun p => { p with fetReady := false })
  if d.fetMayClose d.now then (d.fetSupply).chgFet else d

/-- Charging disabled by the Recipe or inhibited by a Room (R498). -/
def Device.chgStopped (d : Device) : Bool := decide (d.fn Fld.chgEnable = 0) || d.active.chgInhibit

/-- QUALIFY's conditions as far as the device's state shows them (R497), the latched fault apart; a hot die lets the
charger not resume (R646). -/
def Device.mayQualify (d : Device) : Bool :=
  d.inputPresent && d.chg.zone.permits && !d.active.chgInhibit && !d.faults.dieHot

/-- Keeps the device time since which those conditions hold (R497, R511, R512). -/
def Device.qualKeep (d : Device) : Device :=
  d.updChg fun c => { c with okSince := if d.mayQualify then some (c.okSince.getD d.now) else none }

/-- The transitions of R498 that follow from the present conditions without an event of their own. -/
def Device.chgSettle (d : Device) : Device :=
  let d := d.qualKeep
  if !d.chgRuns then d
  else
    let p := d.chg.phase
    let d :=
      if p = .fault then d
      else if d.chgStopped then d.when (decide (p ≠ .idle)) (·.chgEnter .idle)
      else if p ≠ .idle ∧ d.chg.zone.permits = false then d.when (decide (p ≠ .suspended)) (·.chgEnter .suspended)
      else if (p.charging ∨ p = .qualify) ∧ d.inputPresent = false then d.chgEnter .idle
      else if p = .suspended ∧ d.chg.zoneSince + 1000000 ≤ d.now then d.chgEnter .qualify
      else d
    if d.chg.phase = .idle ∧ d.inputPresent ∧ d.chg.latched = 0 ∧ d.chgStopped = false then
      (d.chgEnter .qualify).when (!d.chg.zone.permits) (·.chgEnter .suspended)
    else d

/-- TERMINATE ends at the next Batch edge (R498, R500). -/
def Device.chgTerminateEnd (d : Device) : Device :=
  if d.chg.phase = .terminate then
    if d.chg.viaZone = false ∧ 0 < d.fn Fld.chgTopoffMin then
      (d.chgEnter .topoff).updChg fun c => { c with tTop := 0 }
    else d.chgEnter .done
  else d

/-- In LODGE no Batch edge comes: TERMINATE ends at once (log entry 21). -/
def Device.chgNoEdge (d : Device) : Device := d.when (!d.power.phase.batchRuns) (·.chgTerminateEnd)

/-! ### Faults (R508 to R513) -/

/-- Raises a charger kind: the over-voltage kinds through pair 15, the others as coded messages (R645, R647). -/
def Device.chgRaise (d : Device) (kind qual : Nat) : Device :=
  if kind = 4 ∨ kind = 5 then d.raiseOn 15 (coded 0x0A kind qual) else d.raise (coded 0x0A kind qual)

/-- Latches a charger fault, bit `k` of `CHG_QUERY` byte 7, with its message (R513): in LODGE it is reported at the first
Batch after the exit. -/
def Device.chgLatch (d : Device) (k qual : Nat) : Device :=
  let d := (d.updChg fun c => { c with latched := c.latched ||| BitVec.twoPow 8 k }).chgEnter .fault
  if d.isOpen ∨ k = 4 then d.chgRaise (k + 1) qual
  else d.updChg fun c => { c with lodgeFaults := c.lodgeFaults ++ [(k + 1, qual)] }

/-- Reports the faults that latched in LODGE. -/
def Device.chgReport (d : Device) : Device :=
  let l := d.chg.lodgeFaults
  (d.updChg fun c => { c with lodgeFaults := [] }).each l fun f d => d.chgRaise f.1 f.2

/-- The removal of the battery is declared (R509). -/
def Device.chgRemoval (d : Device) (route : Nat) : Device :=
  let d := (d.chgLatch 0 route).updChg fun c => { c with removed := true, requalified := false }
  (d.updGauge fun g => { g with validity := .none, seedDue := false }).fetOpen 3

/-- Route 3 of a removal: `BATSNS` has risen by the step since the previous edge (R508). -/
def Device.batStep (d : Device) (mv : Nat) : Bool := decide (d.chg.lastBatsns + 10 * d.fn Fld.chgStepMv ≤ mv)

/-- A Batch edge compares `BATSNS` with the edge before: a step without current is a removal (R508). -/
def Device.stepRemoval (d : Device) (sm : Sample) : Device :=
  (d.when (d.chgRuns && d.chg.phase.charging && d.batStep sm.batMv && decide (sm.batUa.natAbs < 5000)) (·.chgRemoval 3)).updChg
    fun c => { c with lastBatsns := sm.batMv }

/-- `BATSNS` in 10 mV units. -/
def mv10 (mv : Nat) : Nat := sat 65535 (mv / 10)

/-- Clears latched kinds and their active entries (R512, R654); with none left, FAULT ends (R498). -/
def Device.chgRead (d : Device) (mask : BitVec 8) : Device :=
  let d := d.each (List.range 7) fun k d =>
    d.when (mask.getLsbD k && d.chg.latched.getLsbD k) (·.clearActive 0x0A (k + 1))
  let d := d.updChg fun c => { c with
    latched := c.latched &&& ~~~mask, clearSince := if c.latched &&& ~~~mask = 0 then d.now else c.clearSince }
  if d.chg.phase = .fault ∧ d.chg.latched = 0 then (d.chgEnter .idle).chgSettle else d

/-! ### Zones (R501, R502) -/

/-- Threshold `k`, 1 to 4, in 0.1 °C. -/
def Device.chgT (d : Device) (k : Nat) : Int :=
  10 * d.fld (match k with | 1 => Fld.chgT1 | 2 => Fld.chgT2 | 3 => Fld.chgT3 | _ => Fld.chgT4)

/-- One step towards the zone of a temperature: upward at a threshold, downward at it less 2 °C. -/
def Device.zoneStep (d : Device) (temp : Int) (z : Nat) : Nat :=
  if z < 4 ∧ d.chgT (z + 1) ≤ temp then z + 1
  else if 0 < z ∧ temp ≤ d.chgT z - 20 then z - 1
  else z

/-- The zone that a temperature lies in, coming from zone `z`. -/
def Device.zoneFor (d : Device) (temp : Int) (z : Zone) : Zone := zoneOf (Nat.repeat (d.zoneStep temp) 4 z.code)

/-- A zone takes effect (R500, R502). -/
def Device.zoneTo (d : Device) (z : Zone) : Device :=
  let old := d.chg.zone
  if z = old then d
  else
    let lower := decide (d.chgCvOf z < d.chgCvOf old)
    let d := d.updChg fun c => { c with zone := z, zoneSince := d.now }
    let d := d.when (!z.permits) (·.raise (coded 0x0A 8 z.code))
    if lower ∧ d.chg.phase.conducts ∧ d.cv < d.sample.batMv + 10 * d.fn Fld.chgRechgMv then
      ((d.chgEnter .terminate).updChg fun c => { c with viaZone := true }).chgNoEdge
    else d.chgSettle

/-! ### Events -/

/-- After a removal, charging is permitted to restart once the battery has qualified and the fault is read: the gauge is
reseeded (R511, R546). The seeding itself stands in the gauge. -/
def Device.restartPermitted (d : Device) : Bool := d.chg.removed && d.chg.requalified && !d.chg.latched.getLsbD 0

/-- FAST or RECHARGE begins with its timer at 0. -/
def Device.chgFast (d : Device) (p : ChgPhase) : Device :=
  (d.chgEnter p).updChg fun c => { c with tFast := 0, started := d.now, viaZone := false }

/-- QUALIFY passes with `BATSNS` at `mv` (R498). -/
def Device.qualified (d : Device) (mv : Nat) : Device :=
  let d := d.clearActive 0x0A 8
  if mv < 10 * d.fn Fld.chgVPre ∨ d.fetIsOff then (d.chgEnter .precharge).updChg fun c => { c with tPre := 0 }
  else if mv ≤ d.rechargeLevel then d.chgFast .fast
  else d.chgEnter .done

/-- The charge time of `CHG_DONE` in minutes, saturating (R513). -/
def Device.chargeMinutes (d : Device) : Nat := sat 65535 (quot 5 (d.now - d.chg.started) 60000000)

/-- `CHG_SET` values end (R514, R518). -/
def Device.chgWithdraw (d : Device) : Device := d.updPriv fun p => { p with chgSets := [] }

/-- The Rooms' settings as targets of step 5 (R492, R518). -/
def Device.chgTargets (d : Device) : Device :=
  d.updShadow fun t => { t with chgInhibit := d.priv.chgSets.any (·.inhibit),
                                chgCap := smallest (d.priv.chgSets.map (·.cap)) }

/-! ### Commands (R517 to R519) -/

/-- The result of `CHG_QUERY` (R517). -/
def Device.chgResult (d : Device) : List Byte :=
  let c := d.chg
  leBytes 1 c.phase.code ++ leBytes 1 (if c.ntcOpen then 5 else if c.ntcShort then 6 else c.zone.code) ++
    leBytes 2 (d.chgIlim d.active.chgCap d.active.chgLarder) ++ leBytes 2 d.cv ++ leBytes 1 d.chgHolds ++ [c.latched]

/-- The charger record (R517). -/
def Device.chgRecord (d : Device) : List Byte :=
  let c := d.chg
  let left := if c.phase = .topoff then 60000000 * d.fn Fld.chgTopoffMin - c.tTop else 0
  leBytes 2 (sat 65535 (quot 6 c.tPre 60000000)) ++ leBytes 2 (sat 65535 (quot 7 c.tFast 60000000)) ++
    leBytes 2 (quot 8 left 60000000) ++
    leBytes 2 (maskOf 16 fun i => d.priv.chgSets.any fun x => x.room.val == i && x.inhibit) ++
    leBytes 4 c.terminations ++ leBytes 4 c.recharges

/-- `CHG_QUERY` (R517). -/
def cmdChgQuery : Cmd :=
  { op := 0x300, cls := .read, len := 0, safe := .all, argsOk := fun _ _ _ => true,
    run := fun d id _ => (d.buffer id.room 0 d.polled.chgRec, ok d.polled.chg) }

/-- `CHG_SET` (R518). Byte 1, which the rule names neither as a field nor as RSV, must be 0 (DESIGN CHOICE, log entry 120). -/
def cmdChgSet : Cmd :=
  { op := 0x301, cls := .roomChange, feature := some 0, len := 4, safe := .owner,
    argsOk := fun _ _ a =>
      let c := numAt a 2 2
      decide (byteAt a 0 ≤ 1) && decide (byteAt a 1 = 0) &&
        (decide (c = 0) || (decide (10 ≤ c) && decide (c ≤ 1500) && decide (c % 10 = 0))),
    run := fun d id a =>
      (d.updPriv fun p => { p with chgSets := p.chgSets.filter (fun x => x.room ≠ id.room) ++
        [{ room := id.room, inhibit := byteAt a 0 == 1, cap := numAt a 2 2 }] }, ok []),
    late := fun d _ _ =>
      let s := d.priv.chgSets
      some (leBytes 2 (if s.any (·.inhibit) then 0 else d.chgIlim (smallest (s.map (·.cap))) d.shadow.chgLarder)) }

end Sys2Proof.Machine
end

