-- ==== Sys2Proof/Machine/Gauge.lean ====
section
/-! DEFINITION. The gauge (R520 to R552): counting, sampling modes, anchors, relaxation, learning, ageing, the reported
value, the gauge record, and the `GAUGE_` commands. -/
namespace Sys2Proof.Machine

/-! ### Units and exact roots -/

/-- Full scale of a state of charge. -/
def socOne : Nat := 60000000000

/-- 1 µAs in the units of Q. -/
def uAs : Nat := 1000000

/-- 1 mAh in the units of Q. -/
def mAh : Nat := 3600000000000

/-- `num × p / den` to the unit, for a signed factor. -/
def quotInt (formula : Nat) (num : Int) (den : Nat) : Int :=
  if num < 0 then -(quot formula num.natAbs den : Int) else (quot formula num.natAbs den : Int)

/-- The greatest `x` below `2 ^ bits` with `x ^ k × den ≤ num`. -/
def rootFloor (k num den : Nat) : (bits : Nat) → Nat
  | 0 => 0
  | b + 1 =>
    let hi := rootFloor k (num / 2 ^ k) den b * 2
    if (hi + 1) ^ k * den ≤ num then hi + 1 else hi

/-- `c × 2 ^ (p / q)` to the unit (log entry 4). -/
def powTwo (formula c : Nat) (p : Int) (q : Nat) : Nat :=
  let num := if p < 0 then c ^ q else c ^ q * 2 ^ p.toNat
  let den := if p < 0 then 2 ^ (-p).toNat else 1
  let x := rootFloor q num den 128
  if x ^ q * den = num then x else x + b2n (Config.roundUp formula num den)

/-- `√(num / den)` to the unit (log entry 4). -/
def sqrtQuot (formula num den : Nat) : Nat :=
  let x := Nat.sqrt (num / den)
  if x * x * den = num then x else x + b2n (Config.roundUp formula num den)

/-! ### Counting (R522, R525 to R528, R532) -/

/-- The integrator counts a signed charge. -/
def GaugeHw.add (g : GaugeHw) (c : Int) : GaugeHw := { g with integ := g.integ + BitVec.ofInt 64 c }

/-- The charge of a mean current over a time, µAs (R525). -/
def meanCharge (mean : Int) (us : Nat) : Int := quotInt 10 (mean * us) 1000000

/-- An interval integrated at the latest window's mean with no window of its own (R526, R528). -/
def GaugeHw.extrapolate (g : GaugeHw) (now : Nat) : GaugeHw :=
  let dt := now - g.lastWindow
  { g.add (meanCharge g.lastMean dt) with extrap := g.extrap + (meanCharge g.lastMean dt).natAbs, lastWindow := now }

/-- A battery temperature is taken for the hour's mean, when `period` has passed since the one before (R539). -/
def GaugeHw.tempTaken (g : GaugeHw) (now : Nat) (temp : Int) (period : Nat) : GaugeHw :=
  if g.tempNext ≤ now then { g with tempSum := g.tempSum + temp, tempN := g.tempN + 1, tempNext := now + period } else g

/-- FULL mode begins: seconds of low current are counted anew (R526). -/
def GaugeHw.toFull (g : GaugeHw) (now : Nat) : GaugeHw := { g with mode := .full, lowFrom := now }

/-- From the end of a window to the end of the next (R525). -/
def GaugeHw.winPeriod (g : GaugeHw) : Nat := if g.mode = .lodge ∧ g.lodgeFast = false then 60000000 else 1000000

/-- A window of SIPPING or LODGE mode ends (R525 to R528, R532). -/
def Device.gaugeWin (d : Device) (mean : Int) (bat : Nat) (temp : Int) : Device :=
  let limit := 100 * d.fn Fld.gaugeRelaxUa
  d.updGaugeHw fun g =>
    let dt := d.now - g.lastWindow
    let rest := decide (mean.natAbs < limit)
    let g := { g.add (meanCharge mean dt) with
      extrap := g.extrap + (meanCharge mean (dt - 8000)).natAbs, lastWindow := d.now, lastMean := mean,
      relaxTime := if rest then (if g.lastMean.natAbs < limit then g.relaxTime + dt else g.relaxTime) else 0 }
    let g := match g.mode with
      | .lodge => { (g.tempTaken d.now temp 60000000) with lodgeFast := decide (mean.natAbs > 5000), lodgeWin := some (bat, temp) }
      | _ => if mean.natAbs > 5000 then g.toFull d.now else g
    { g with winNext := d.now + g.winPeriod }

/-- The gauge hardware over the Batch or tick that an edge at `d.now` ends: what FULL mode counted in it, relaxation, the seconds
of low current as far as samples show them (DESIGN CHOICE, log entry 125), and the temperature samples (R522, R526, R532, R539). -/
def Device.gaugeEdge (d : Device) (sm : Sample) (dt : Nat) : Device :=
  if d.gaugeHw.mode = .off ∨ d.gaugeHw.mode = .lodge then d
  else
    let limit := 100 * d.fn Fld.gaugeRelaxUa
    d.updGaugeHw fun g =>
      let g := if g.mode = .full ∨ d.now < g.lowFrom + dt then g.add sm.charge else g
      let g := if g.mode = .full then
          { g with relaxTime := if sm.batUa.natAbs < limit then g.relaxTime + dt else 0, lastMean := sm.batUa,
                   lowFrom := if sm.batUa.natAbs < 1000 then g.lowFrom else d.now }
        else g
      g.tempTaken d.now sm.batTemp 10000000

/-- LODGE begins (R525, R526, R532): its first window ends a minute after the latest of SIPPING mode, or after the entry. -/
def Device.gaugeLodge (d : Device) : Device :=
  d.updGaugeHw fun g =>
    let last := if g.mode = .sipping then g.lastWindow else d.now
    { g with mode := if g.mode = .off then .off else .lodge, lodgeFast := false, lodgeWin := none, lastWindow := last,
             winNext := last + 60000000 }

/-- The mean current of `MIR.BAT_UA`: in SIPPING mode the latest window's mean, else as sampled. -/
def Device.batUa (d : Device) : Int := if d.gaugeHw.mode = .sipping then d.gaugeHw.lastMean else d.sample.batUa

/-! ### Model and capacity (R536 to R541) -/

/-- `L_cal` in 10⁻⁹ (R540): `cal_k` × √(E / 365) per cent. -/
def Device.lCal (d : Device) (e : Nat) : Nat := sqrtQuot 11 (d.fn Fld.gaugeCalK ^ 2 * 10 ^ 10 * e) 365000000

/-- `L_cyc` in 10⁻⁹ (R540). -/
def Device.lCyc (d : Device) (efc : Nat) : Nat := quot 12 (d.fn Fld.gaugeCycK * efc) 10000000000000

/-- The model value M in 10⁻⁹ (R540). -/
def Device.modelM (d : Device) (r : GaugeRec) : Nat := 1000000000 - (d.lCal r.e + d.lCyc r.efc)

/-- Internal state of charge, in parts of full scale. -/
def Gauge.soc (g : Gauge) : Nat := if g.fcc = 0 then 0 else quot 13 (g.q * socOne) g.fcc

/-- The design capacity in the units of Q. -/
def Device.design (d : Device) : Nat := mAh * d.fn Fld.gaugeDesignMah

/-- State of health in whole per cent (R541). -/
def Device.soh (d : Device) : Nat := quot 14 (100 * d.priv.gauge.fcc) d.design

/-- `GAUGE_SOH_LOW` is raised once (R541). -/
def Device.sohCheck (d : Device) : Device :=
  let low := decide (0 < d.fn Fld.gaugeSohWarn) && decide (100 * d.priv.gauge.fcc < d.fn Fld.gaugeSohWarn * d.design)
  if low ∧ d.priv.gauge.sohLow = false then
    (d.updGauge fun g => { g with sohLow := true }).raise (coded 0x0B 5 d.soh)
  else d

/-- FCC follows the model after a change of E or EFC, and Q with it (R540). -/
def Device.refit (d : Device) (r : GaugeRec) : Device :=
  (d.updGauge fun g =>
    let fcc := quot 15 (r.learned * d.modelM r) r.mRef
    if r.mRef = 0 then { g with record := r }
    else { g with record := r, fcc := fcc, q := if g.fcc = 0 then 0 else min fcc (quot 16 (g.q * fcc) g.fcc) }).sohCheck

/-- The equivalent age increases by a time at a temperature in 0.1 °C; `c` is the time in 10⁻⁶ days (R539, R552). -/
def Device.age (d : Device) (c : Nat) (temp10 : Int) : Device :=
  let r := d.priv.gauge.record
  d.refit { r with e := r.e + powTwo 17 c (temp10 - 250) (10 * d.fn Fld.gaugeCalDbl) }

/-- An hour of device time ends (R539): 1/24 day at the mean temperature of its samples. -/
def Device.ageHourEnd (d : Device) : Device :=
  let g := d.gaugeHw
  let t : Int := if g.tempN = 0 then d.sample.batTemp else quotInt 18 g.tempSum g.tempN
  let r := d.priv.gauge.record
  let x := powTwo 17 1000000 (t - 250) (10 * d.fn Fld.gaugeCalDbl)
  (d.updGaugeHw fun g => { g with tempSum := 0, tempN := 0, hourEnd := g.hourEnd + 3600000000 }).refit
    { r with e := r.e + quot 19 x 24 }

/-- The learning reference is taken anew with the present model (R537, R552). -/
def Device.learnRef (d : Device) (fcc learns : Nat) : Device :=
  (d.updGauge fun g => { g with fcc := fcc,
                                record := { g.record with learned := fcc, mRef := d.modelM g.record, learns := learns } }).sohCheck

/-- The measured capacity moves FCC (R537). -/
def Device.learned (d : Device) (fcc measured : Nat) : Nat :=
  let g : Int := d.fn Fld.gaugeLearnGain
  let step := quotInt 20 (g * ((measured : Int) - fcc)) 20
  let lim := (quot 21 (5 * fcc) 100 : Nat)
  let step := max (-(lim : Int)) (min (lim : Int) step)
  let x := ((fcc : Int) + step).toNat
  min (max x (d.design / 2)) (quot 22 (110 * d.design) 100)

/-- A learning point with its state of charge (R536, R537). -/
def Device.learnPoint (d : Device) (soc : Nat) : Device :=
  let g := d.priv.gauge
  let bad := !d.chg.zone.permits
  let span := match g.learnSoc with | some s0 => if s0 < soc then soc - s0 else s0 - soc | none => 0
  let extrap := (d.gaugeHw.extrap - g.learnExtrap) * uAs
  let extrapBad := decide (100 * extrap > d.fn Fld.gaugeLearnExtrap * g.learnNet.natAbs)
  let wide := g.learnSoc.isSome && decide (0 < span) && decide (100 * span ≥ d.fn Fld.gaugeLearnSpan * socOne)
  let d :=
    if wide then
      if extrapBad then d.raise (coded 0x0B 3 1)
      else if g.learnReseed then d.raise (coded 0x0B 3 2)
      else if g.learnZoneBad || bad then d.raise (coded 0x0B 3 3)
      else d.learnRef (d.learned g.fcc (quot 23 (g.learnNet.natAbs * socOne) span)) (sat 65535 (g.record.learns + 1))
    else d
  d.updGauge fun g => { g with learnSoc := some soc, learnTime := d.now, learnNet := 0,
                               learnExtrap := d.gaugeHw.extrap, learnReseed := false, learnZoneBad := bad,
                               record := { g.record with extrap := d.gaugeHw.extrap } }

/-! ### Anchors, seeds and the OCV (R530 to R535, R544, R546) -/

/-- The estimate is anchored once it has been seeded (R548). -/
def Validity.anchor : Validity → Validity
  | .none => .none
  | _ => .anchored

/-- A full anchor (R530). -/
def Device.fullAnchor (d : Device) : Device :=
  (d.learnPoint socOne).updGauge fun g => { g with q := g.fcc, validity := g.validity.anchor }

/-- An empty anchor (R531). -/
def Device.emptyAnchor (d : Device) : Device :=
  (d.learnPoint 0).updGauge fun g => { g with q := 0, validity := g.validity.anchor }

/-- Table point `i`, in µV. -/
def Device.ocvPoint (d : Device) (i : Nat) : Int := 1000 * d.fld Fld.gaugeOcv i

/-- The OCV in µV of a `BATSNS` value and a temperature in 0.1 °C (R534). -/
def Device.ocvOf (d : Device) (bat : Nat) (temp : Int) : Int := 1000 * bat - d.fld Fld.gaugeOcvTc * (temp - 250)

/-- The segment that brackets an OCV: at a point, the one below it (R534, R535). -/
def Device.ocvSegment (d : Device) (v : Int) : Nat :=
  ((List.range 20).find? fun i => decide (v ≤ d.ocvPoint (i + 1))).getD 19

/-- `SoC_ocv` in parts of full scale (R534). -/
def Device.socOcv (d : Device) (v : Int) : Nat :=
  let i := d.ocvSegment v
  let a := d.ocvPoint i
  let b := d.ocvPoint (i + 1)
  if v ≤ a then 3000000000 * i
  else if b ≤ v then 3000000000 * (i + 1)
  else 3000000000 * i + quot 24 (3000000000 * (v - a).toNat) (b - a).toNat

/-- The slope of the segment is steep enough (R535): mV per 5 % against 0.1 mV per 1 %. -/
def Device.ocvSteep (d : Device) (v : Int) : Bool :=
  let i := d.ocvSegment v
  decide (2 * (d.fld Fld.gaugeOcv (i + 1) - d.fld Fld.gaugeOcv i) ≥ (d.fn Fld.gaugeFlatSlope : Int))

/-- An OCV correction from a `BATSNS` value and a temperature (R533 to R537). -/
def Device.ocvCorrect (d : Device) (bat : Nat) (temp : Int) : Device :=
  let v := d.ocvOf bat temp
  let d := d.updGauge fun g => { g with ocvAt := d.now, lodgeOcv := false }
  if d.ocvSteep v then
    let soc := d.socOcv v
    (d.learnPoint soc).updGauge fun g =>
      let target := quot 25 (soc * g.fcc) socOne
      let q := (g.q : Int) + quotInt 26 ((d.fn Fld.gaugeOcvWeight : Int) * ((target : Int) - g.q)) 20
      { g with q := min g.fcc q.toNat, validity := g.validity.anchor }
  else d

/-- The cell is relaxed (R532). -/
def Device.relaxed (d : Device) : Bool := decide (d.gaugeHw.relaxTime ≥ 60000000 * d.fn Fld.gaugeRelaxMin)

/-- An OCV correction is due at device time `t` (R533): at relaxation, which lies at least `GAUGE.relax_min` behind any correction
of an earlier one, and after each further `GAUGE.relax_min`. -/
def Device.ocvDue (d : Device) (t : Nat) : Bool :=
  d.relaxed && decide (d.priv.gauge.ocvAt + 60000000 * d.fn Fld.gaugeRelaxMin ≤ t)

/-- The gauge is seeded from a `BATSNS` value taken as the OCV (R544). -/
def Device.gaugeSeed (d : Device) (bat : Nat) (temp : Int) : Device :=
  let soc := d.socOcv (d.ocvOf bat temp)
  (d.updGauge fun g => { g with q := quot 27 (soc * g.fcc) socOne, reported := soc, validity := .seeded, seedDue := false,
                                learnReseed := true, integUsed := d.gaugeHw.integ }).raise
    (coded 0x0B 2 (quot 28 (100 * soc) socOne))

/-- A seed of R544 or R546: at once with the FET closed and `BATSNS` at least 1.50 V, else when the FET closes. -/
def Device.seedOrWait (d : Device) (bat : Nat) (temp : Int) : Device :=
  if d.fetIsOff = false ∧ 1500 ≤ bat then d.gaugeSeed bat temp
  else d.updGauge fun g => { g with seedDue := true, validity := .none }

/-- Charging is permitted to restart after a removal: the gauge is reseeded (R511, R546). -/
def Device.gaugeRestart (d : Device) (bat : Nat) (temp : Int) : Device :=
  if d.restartPermitted then (d.updChg fun c => { c with removed := false }).seedOrWait bat temp else d

/-! ### Step 4 (R529, R538, R542, R545) -/

/-- Q takes the integrator's change, and EFC the charge counted out of the cell (R529, R538). -/
def Device.gaugeCount (d : Device) : Device :=
  let g := d.priv.gauge
  let delta : Int := (d.gaugeHw.integ - g.integUsed).toInt
  let d := d.updGauge fun g =>
    let q := (g.q : Int) + delta * uAs
    { g with q := min g.fcc q.toNat, integUsed := d.gaugeHw.integ, learnNet := g.learnNet + delta * uAs }
  if delta < 0 then
    let r := d.priv.gauge.record
    d.refit { r with efc := r.efc + quot 29 (delta.natAbs * uAs * 10 ^ 15) d.design }
  else d

/-- The reported value moves towards the internal one (R542). -/
def Device.gaugeSlew (d : Device) : Device :=
  d.updGauge fun g =>
    let step := d.fn Fld.gaugeSlew * (d.now - g.reportTime)
    let soc := g.soc
    { g with reportTime := d.now,
             reported := if g.reported ≤ soc then min soc (g.reported + step) else max soc (g.reported - step) }

/-- The snapshot in the KEEP domain (R545). -/
def Device.gaugeSnap (d : Device) : Device :=
  let g := d.priv.gauge
  { d with snap := { q := g.q, fcc := g.fcc, reported := g.reported, validity := g.validity, integ := g.integUsed } }

/-- Everything the gauge does at step 4 of a working Batch (R529, R533, R542, R544, R545). -/
def Device.gaugeStep4 (d : Device) : Device :=
  let d := d.gaugeCount
  let d := d.when (d.priv.gauge.seedDue && !d.fetIsOff) (·.gaugeSeed d.sample.batMv d.sample.batTemp)
  let d := match d.priv.gauge.lodgeOcv, d.gaugeHw.lodgeWin with
    | true, some w => d.ocvCorrect w.1 w.2
    | _, _ => d.when (d.ocvDue d.now) (·.ocvCorrect d.sample.batMv d.sample.batTemp)
  d.gaugeSlew.gaugeSnap

/-! ### Starts (R544, R545, R547) -/

/-- The copy of the gauge record in force: the valid one with the greater sequence number (R547). -/
def ConfigNvm.gaugeRec (c : ConfigNvm) : Option (Word × GaugeRec) :=
  match c.gauge0, c.gauge1 with
  | some a, some b => if a.1.toNat < b.1.toNat then some b else some a
  | some a, none => some a
  | none, b => b

/-- Writes a new copy of the gauge record over the one not in force (R547). -/
def Device.gaugeSave (d : Device) : Device :=
  let r := { d.priv.gauge.record with extrap := d.gaugeHw.extrap }
  let seq : Word := match d.cfg.gaugeRec with | some x => x.1 + 1 | none => 1
  let first := match d.cfg.gaugeRec, d.cfg.gauge0 with
    | some x, some a => decide (a.1 ≠ x.1)
    | _, _ => true
  let d := { d with cfg := if first then { d.cfg with gauge0 := some (seq, r) } else { d.cfg with gauge1 := some (seq, r) } }
  d.updGauge fun g => { g with record := r, recordTime := d.now }

/-- The gauge after POR or a SHIP exit takes its record (R547, R548). -/
def Device.gaugeLoad (d : Device) : Device :=
  match d.cfg.gaugeRec with
  | some (_, r) =>
    let fcc := if r.mRef = 0 then r.learned else quot 15 (r.learned * d.modelM r) r.mRef
    (d.updGauge fun _ => { Gauge.reset with record := r, fcc := fcc, recordTime := d.now,
                                            reportTime := d.now }).updGaugeHw fun g => { g with extrap := r.extrap }
  | none =>
    (d.updGauge fun _ => { Gauge.reset with
      fcc := d.design, recordTime := d.now, reportTime := d.now,
      record := { learned := d.design, mRef := 1000000000, e := 0, efc := 0, extrap := 0, learns := 0 } }).raise
      (coded 0x0B 4)

/-- The gauge after a brown-out, a chip restart or LODGE resumes from the snapshot (R545). -/
def Device.gaugeResume (d : Device) : Device :=
  let s := d.snap
  d.updGauge fun g => { g with q := s.q, fcc := s.fcc, reported := s.reported, validity := s.validity,
                               integUsed := s.integ, reportTime := d.now }

/-- Step 10 of a start (R526, R533, R542): the interval since the latest LODGE window is extrapolated, and FULL begins. -/
def Device.gaugeStep10 (d : Device) : Device :=
  let wasLodge := decide (d.gaugeHw.mode = .lodge)
  let d := d.when wasLodge (·.updGaugeHw fun g => g.extrapolate d.now)
  let d := d.when (wasLodge && d.gaugeHw.lodgeWin.isSome && d.relaxed) (·.updGauge fun g => { g with lodgeOcv := true })
  (d.updGaugeHw fun g => if wasLodge ∨ g.mode = .off then g.toFull d.now else g).updGauge fun g =>
    { g with reportTime := d.now }

/-! ### Commands (R551, R552) -/

/-- A state of charge in 0.01 %. -/
def soc100 (soc : Nat) : Nat := quot 30 (soc * 10000) socOne

/-- The result of `GAUGE_QUERY` (R551). -/
def Device.gaugeResult (d : Device) : List Byte :=
  let g := d.priv.gauge
  leBytes 2 (soc100 g.reported) ++ leBytes 2 (soc100 g.soc) ++ leBytes 2 (g.fcc / mAh) ++
    leBytes 1 ((match g.validity with | .none => 0 | .seeded => 1 | .anchored => 2) +
      16 * b2n (decide (d.gaugeHw.mode = .sipping)) + 32 * b2n d.relaxed) ++ leBytes 1 (sat 255 d.soh)

/-- Minutes since the latest learning point; with none since POR the record states no number, and it is a free value (R551, log
entry 100). -/
def Device.learnAge (d : Device) : Nat :=
  match d.priv.gauge.learnSoc with
  | some _ => sat 0xFFFFFFFF ((d.now - d.priv.gauge.learnTime) / 60000000)
  | none => Config.freeNat d.freeCtr

/-- The gauge record in the result buffer (R551). -/
def Device.gaugeRecord (d : Device) : List Byte :=
  let g := d.priv.gauge
  leBytes 4 (quot 31 (1000 * g.q) mAh) ++ leBytes 4 (quot 32 g.record.efc 10000000000000) ++
    leBytes 4 (quot 33 g.record.e 100000) ++ leBytes 2 (quot 34 (d.lCal g.record.e) 100000) ++
    leBytes 2 (quot 35 (d.lCyc g.record.efc) 100000) ++ leBytes 8 d.gaugeHw.integ.toNat ++
    leBytes 4 d.learnAge ++ leBytes 2 (quot 36 g.record.learned mAh) ++
    leBytes 2 (sat 65535 g.record.learns)

/-- `GAUGE_QUERY` (R551): its result holds what step 4 computed, which step 5 puts into it. -/
def cmdGaugeQuery : Cmd :=
  { op := 0x310, cls := .read, len := 0, safe := .all, argsOk := fun _ _ _ => true,
    run := fun d id _ => ((d.buffer id.room 0 d.gaugeRecord).free.2, ok d.gaugeResult),
    late := fun d _ _ => some d.gaugeResult }

/-- The result of `GAUGE_SET` (R552). -/
def Device.gaugeSetResult (d : Device) : List Byte :=
  leBytes 2 (quot 37 d.priv.gauge.fcc mAh) ++ leBytes 4 (quot 33 d.priv.gauge.record.e 100000)

/-- The arguments of `GAUGE_SET` (R552). -/
def gaugeSetOk (a : List Byte) : Bool :=
  let v := numAt a 2 2
  decide (byteAt a 1 = 0) &&
  match byteAt a 0 with
  | 1 => decide (v ≤ 10000) && decide (byteAt a 4 = 0)
  | 2 =>
    let t := toSigned 1 (byteAt a 4)
    decide (1 ≤ v) && decide (v ≤ 36500) && decide (-40 ≤ t) && decide (t ≤ 85)
  | 3 => zeroAt a 2 3
  | _ => false

/-- `GAUGE_SET` (R552). -/
def cmdGaugeSet : Cmd :=
  { op := 0x311, cls := .roomChange, feature := some 1, len := 5, safe := .owner,
    once := fun a => byteAt a 0 != 1, argsOk := fun _ _ a => gaugeSetOk a,
    run := fun d _ a =>
      let v := numAt a 2 2
      let d := match byteAt a 0 with
        | 1 => d.updGauge fun g => { g with q := quot 38 (v * g.fcc) 10000, validity := .seeded, learnReseed := true }
        | 2 => (d.age (v * 1000000) (10 * toSigned 1 (byteAt a 4))).gaugeSave
        | _ => (d.learnRef (quot 39 (d.design * d.modelM d.priv.gauge.record) 1000000000) 0).gaugeSave
      (d, ok d.gaugeSetResult) }

/-- `CHG_FAULTS` (R519): the gauge is reseeded when a read permits charging to restart (R546). -/
def cmdChgFaults : Cmd :=
  { op := 0x302, cls := .roomChange, feature := some 0, len := 1, safe := .owner, once := fun a => byteAt a 0 == 1,
    argsOk := fun _ _ a => decide (byteAt a 0 ≤ 1),
    run := fun d _ a =>
      let before := d.chg.latched
      let d := if byteAt a 0 = 1 then (d.chgRead 0xEF).gaugeRestart d.sample.batMv d.sample.batTemp else d
      (d, ok [before, d.chg.latched]) }

end Sys2Proof.Machine
end

