-- ==== Sys2Proof/Machine/Larder.lean ====
section
/-! DEFINITION. The Larder (R553 to R591): stores, the harvest forecast, admission, burst pairs and raw bursts, and the
`LARDER_` and `BURST_PAIR` commands. Energies are in 10⁻¹⁵ J. -/
namespace Sys2Proof.Machine

/-! ### Stores (R553) -/

/-- Energy available in the battery (R553), Q in 10⁻¹² A·s times mV, from what step 1 sampled and the internal estimate. -/
def Device.batEnergy (d : Device) : Nat :=
  let g := d.priv.gauge
  if d.polled.fetOff ∨ g.validity = .none then 0
  else (100 * g.q - d.fn Fld.larBatFloor * g.fcc) * d.sample.batMv / 100

/-- Energy of the reservoir at a voltage in mV (R553). -/
def Device.resEnergy (d : Device) (mv : Nat) : Nat :=
  if d.fn Fld.resPresent = 0 then 0
  else d.fn Fld.larResF * (mv ^ 2 - (50 * d.fn Fld.paCapMin) ^ 2) * 5000000

/-- Energy of a power in 0.1 mW over a time in µs. -/
def workOf (mw us : Nat) : Nat := mw * us * 100000

/-! ### The forecast (R555 to R560) -/

/-- A day and a bin in µs. -/
def dayUs : Nat := 86400000000
def binUs : Nat := 900000000

/-- The number of the bin that holds a device time, counted without end from time of day 0 (R555). While the time of day
is unknown, bins follow device time (log entry 22). -/
def Larder.binAt (l : Larder) (t : Nat) : Nat := (t + l.tod.getD 0) / binUs

/-- The device time at which the bin that holds `t` ends. -/
def Larder.binEnd (l : Larder) (t : Nat) : Nat := (l.binAt t + 1) * binUs - l.tod.getD 0

/-- The value of a bin by its number, times 96 (R558, R559): while the time of day is unknown, the mean of all. -/
def Larder.bin96 (l : Larder) (n : Nat) : Nat :=
  match l.tod with
  | some _ => 96 * l.bins.getD (n % 96) 0
  | none => l.bins.sum

/-- Sum over the bins that an interval overlaps of value times overlap. -/
def Larder.overlap (l : Larder) : (fuel : Nat) → (a b : Nat) → Nat
  | 0, _, _ => 0
  | fuel + 1, a, b =>
    if b ≤ a then 0
    else
      let e := min b (l.binEnd a)
      l.bin96 (l.binAt a) * (e - a) + Larder.overlap l fuel e b

/-- `H(a, b)` (R558). -/
def Device.harvest (d : Device) (a b : Nat) : Nat :=
  quot 40 (d.priv.larder.overlap 400 a b * d.fn Fld.larFcTrust * 1000000) (96 * binUs * 20)

/-- The seeds of R560 in nJ. -/
def Device.larSeeds (d : Device) : List Nat := (List.range 96).map fun i => 100000000 * d.fn Fld.larSeed i

/-- The copy of the Larder record in force (R560). -/
def ConfigNvm.larderRec (c : ConfigNvm) : Option (Word × List Nat) :=
  match c.larder0, c.larder1 with
  | some a, some b => if a.1.toNat < b.1.toNat then some b else some a
  | some a, none => some a
  | none, b => b

/-- Writes a new copy of the Larder record over the one not in force (R560). -/
def Device.larderSave (d : Device) : Device :=
  let seq : Word := match d.cfg.larderRec with | some x => x.1 + 1 | none => 1
  let first := match d.cfg.larderRec, d.cfg.larder0 with
    | some x, some a => decide (a.1 ≠ x.1)
    | _, _ => true
  let r := some (seq, d.priv.larder.bins)
  { d with cfg := if first then { d.cfg with larder0 := r } else { d.cfg with larder1 := r } }

/-- The Larder after POR or a SHIP exit (R559, R560). -/
def Device.larderLoad (d : Device) : Device :=
  match d.cfg.larderRec with
  | some (_, b) => d.updLarder fun _ => { Larder.reset with bins := b }
  | none => (d.updLarder fun _ => { Larder.reset with bins := d.larSeeds }).raise (coded 0x0C 3)

/-- Step 1: harvest since the previous addition joins the current bin (R556). -/
def Device.larderMeasure (d : Device) : Device :=
  d.updLarder fun l =>
    let dt := match l.lastAdd with | some t => d.now - t | none => 0
    { l with measured := l.measured + d.sample.harvestUw * dt, observed := l.observed + dt, lastAdd := some d.now }

/-- The time of a bubble counts as unobserved (R556). -/
def Device.larderSkip (d : Device) (dt : Nat) : Device :=
  d.updLarder fun l => { l with lastAdd := l.lastAdd.map fun t => t + dt }

/-- The forecast of a bin that has ended, and the day's record at the start of bin 0 (R557, R559, R560). -/
def Device.binRoll (d : Device) : Device :=
  let l := d.priv.larder
  let n := l.binAt d.now
  if n = l.curBin then d
  else
    let i := l.curBin % 96
    let ok := l.tod.isSome && decide (10000000 * d.fn Fld.larFcMinObs ≤ l.observed) && decide (0 < l.observed)
    let m := quot 41 (l.measured * binUs) (l.observed * 1000)
    let old := l.bins.getD i 0
    let new := ((old : Int) + quotInt 42 ((d.fn Fld.larFcAlpha : Int) * ((m : Int) - old)) 20).toNat
    let d := d.updLarder fun l => { l with curBin := n, measured := 0, observed := 0,
                                           bins := if ok then l.bins.set i new else l.bins }
    d.when (l.tod.isSome && decide (l.curBin / 96 < n / 96)) (·.larderSave)

/-! ### Admission (R554, R562 to R566) -/

/-- Committed energy of a reservation at a time (R562). -/
def Reservation.committed (r : Reservation) (t : Nat) : Nat := workOf r.mw (r.stop - max r.start t)

/-- The answer of an admission: its start in device time. -/
inductive Admit where
  | grant (start : Nat)
  | defer (start : Nat)
  | refuse

/-- The search of R563 from a start: `energy` of the activity lasting `dur`, with `r` from the reservoir. -/
def Device.admitFrom (d : Device) (energy dur r now latest t0 : Nat) : (fuel : Nat) → (s : Nat) → Admit
  | 0, _ => .refuse
  | fuel + 1, s =>
    if now + latest < s then .refuse
    else
      let e := s + dur
      let have_ := d.batEnergy + r + d.harvest now e
      let committed := ((d.priv.larder.reservations.filter fun x => decide (x.start < e)).map (·.committed now)).sum
      let need := energy + committed + workOf (d.fn Fld.larBaseMw) (e - now)
      if need ≤ have_ then (if s = t0 then .grant s else .defer s)
      else Device.admitFrom d energy dur r now latest t0 fuel (d.priv.larder.binEnd s)

/-- The reservoir level `V_t` of an energy, mV (R566). -/
def Device.levelFor (d : Device) (energy : Nat) : Nat :=
  let k := d.fn Fld.larResF * 10000000
  min (sqrtQuot 43 ((50 * d.fn Fld.paCapMin) ^ 2 * k + 2 * energy) k + 100) (50 * d.fn Fld.resVmax)

/-- The fill time to a level, µs (R566). -/
def Device.fillTime (d : Device) (vt : Nat) : Nat :=
  if vt ≤ d.sample.capMv then 0
  else quot 44 (d.fn Fld.larResF * (vt - d.sample.capMv) * 10000) (10 * d.fn Fld.resIchg)

/-- The decision of R563. `fill` is given when the source is PA and the reservoir is filled first. -/
def Device.admission (d : Device) (app energy dur earliest latest : Nat) (fill : Option Nat) (pa : Bool) : Admit :=
  let now := d.batch.nextEdge
  if d.path.priInUse then
    if d.fn Fld.larAppEssential app = 1 then .grant (now + earliest) else .refuse
  else
    let t0 := match fill with
      | some vt => max (now + earliest) (now + d.fillTime vt)
      | none => now + earliest
    let r := if pa then min energy (d.resEnergy (fill.getD d.sample.capMv)) else 0
    d.admitFrom energy dur r now latest t0 100 t0

/-- A handle that no reservation holds (R587). -/
def Larder.freeHandle (l : Larder) : (fuel : Nat) → (h : Nat) → Nat
  | 0, h => h
  | fuel + 1, h =>
    if l.reservations.any fun r => r.handle == h then Larder.freeHandle l fuel (if h ≥ 0xFFFF then 1 else h + 1) else h

/-- Enters a reservation for an activity that lasts `dur` (R562, R564). -/
def Device.larderEnter (d : Device) (room : Option RoomId) (app start stop dur : Nat) : Nat × Device :=
  let h := d.priv.larder.freeHandle 65 (max 1 d.priv.larder.nextHandle)
  (h, d.updLarder fun l => { l with
    nextHandle := if h ≥ 0xFFFF then 1 else h + 1,
    reservations := l.reservations ++
      [{ handle := h, room := room, app := app, start := start, stop := stop, mw := d.fn Fld.larAppMw app,
         energy := workOf (d.fn Fld.larAppMw app) dur, begun := false }] })

/-- No reservation is free (R562). -/
def Device.larderFull (d : Device) : Bool := decide (d.priv.larder.reservations.length ≥ 64)

/-! ### Reservations in time (R564) -/

/-- Sets the `LARDER` flag of a reservation's Room. -/
def Device.flagOwner (d : Device) (r : Reservation) : Device :=
  match r.room with
  | some n => d.flag n evLarder
  | none => d

/-- A reservation begins: the `LARDER` flag of its Room is set. -/
def Device.resBegin (d : Device) (h : Nat) : Device :=
  match d.priv.larder.reservations.find? fun r => r.handle == h && !r.begun with
  | some r => (d.updLarder fun l => { l with reservations := l.reservations.map fun x =>
      if x.handle = h then { x with begun := true } else x }).flagOwner r
  | none => d

/-- A reservation ends and is removed. -/
def Device.resEnd (d : Device) (h : Nat) : Device :=
  match d.priv.larder.reservations.find? fun r => r.handle == h with
  | some r => (d.updLarder fun l => { l with reservations := l.reservations.filter (·.handle ≠ h) }).flagOwner r
  | none => d

/-- A reservation ends by a request of Room `n`: the flag is for a Room to which no completion says so (R303, R564). -/
def Device.resRelease (d : Device) (h : Nat) (n : RoomId) : Device :=
  match d.priv.larder.reservations.find? fun r => r.handle == h with
  | some r =>
    let d := d.updLarder fun l => { l with reservations := l.reservations.filter (·.handle ≠ h) }
    d.when (decide (r.room ≠ some n)) (·.flagOwner r)
  | none => d

/-- Reservations whose start or end has come at a working Batch. -/
def Device.resTime (d : Device) : Device :=
  d.each d.priv.larder.reservations fun r d =>
    (d.when (decide (r.start ≤ d.now)) (·.resBegin r.handle)).when (decide (r.stop ≤ d.now)) (·.resEnd r.handle)

/-! ### Arming and cancelling (R570, R582) -/

/-- A pair or a raw burst is granted or running (R569). -/
def Device.burstHeld (d : Device) : Bool :=
  d.priv.larder.pair.isSome ||
    (match d.burst.first with | some e => decide (e.st = .armed) || decide (e.st = .running) | none => false)

/-- An entry as armed at the grant (R568, R570). -/
def armEntry (batch len mv sched : Nat) (p : Policy) : BurstEntry :=
  { batch := batch, len := len, mv := mv, policy := p, sched := sched, slip := 0, st := .armed }

/-- The Batch whose start edge is the first at or after a device time, and that edge: the grant holds Batches of 1.000 ms
from the next edge on (R568). -/
def Device.batchAt (d : Device) (t : Nat) : Nat × Nat :=
  let e := d.batch.nextEdge
  let k := (t - e + 999) / 1000
  (d.batch.number.toNat + 1 + k, e + 1000 * k)

/-- Cancels the entries of a Room's pair that have not started, with outcome 5; a running burst goes on (R582). -/
def Device.burstCancel (d : Device) : Device := d.updBurst fun b => b.cancelArmed d.now

/-- A Room loses its reservations and its pair (R564, R582): its pair's running burst goes on to its end. -/
def Device.larderReset (d : Device) (n : RoomId) : Device :=
  let mine := match d.priv.larder.pair with | some p => decide (p.room = n) | none => false
  let d := d.updLarder fun l => { l with reservations := l.reservations.filter (·.room ≠ some n),
                                         pair := match l.pair with
                                           | some p => some (if p.room = n then { p with req := none } else p)
                                           | none => none }
  d.when mine (·.burstCancel)

/-- Every reservation and every entry not started ends (R564, R582). -/
def Device.larderStop (d : Device) : Device :=
  (d.updLarder fun l => { l with reservations := [], lastAdd := none }).burstCancel

/-! ### The burst hardware at a start edge (R571, R576) -/

/-- An entry is dropped, by policy or slip (R575, R576). -/
def BurstHw.drop (b : BurstHw) (isFirst : Bool) (now : Nat) : BurstHw := b.resolve isFirst 3 now

/-- An entry is armed and its start Batch has come. -/
def BurstEntry.ready (e : BurstEntry) (n : Nat) : Bool := decide (e.st = .armed) && decide (e.batch ≤ n)

/-- The first entry of the pair at the start edge of Batch `n` (R571, R576). -/
def Device.firstEdge (d : Device) (n : Nat) (bubble : Option Nat) : Device :=
  match d.burst.first with
  | none => d
  | some e =>
    if e.ready n = false then d
    else
      let slip := (d.batch.edgeTime - e.sched) / 1000
      match bubble with
      | some c =>
        let d := d.updBurst fun b => { b with cause := c }
        d.when (decide (e.policy = .abandon)) (·.updBurst fun b =>
          let b := b.drop true d.now
          match b.second with
          | some x => if x.st = .armed then b.drop false d.now else b
          | none => b)
      | none =>
        if slip ≤ 50 then
          (d.updBurst fun b => { b with
            first := some { e with slip := slip, batch := n },
            second := b.second.map fun x => { x with batch := x.batch + (n - e.batch) } }).burstBegin true
        else d.updBurst fun b =>
          let b := b.drop true d.now
          match e.policy, b.second with
          | .either, _ => b
          | _, some x => if x.st = .armed then b.drop false d.now else b
          | _, none => b

/-- The first burst was DELIVERED. -/
def BurstHw.firstDelivered (b : BurstHw) : Bool :=
  match b.first with
  | some e => decide (e.st = .resolved 1) || decide (e.st = .resolved 2)
  | none => false

/-- The second entry at the start edge of Batch `n`, once the first is resolved (R571, R576). -/
def Device.secondEdge (d : Device) (n : Nat) (bubble : Option Nat) : Device :=
  match d.burst.second with
  | none => d
  | some e =>
    if e.ready n = false ∨ d.burst.running.isSome then d
    else
      let slip := (d.batch.edgeTime - e.sched) / 1000
      match bubble with
      | some c =>
        let d := d.updBurst fun b => { b with cause := c }
        d.when (decide (e.policy = .abandon) || (decide (e.policy = .either) && d.burst.firstDelivered))
          (·.updBurst fun b => b.drop false d.now)
      | none =>
        if slip ≤ 50 then
          (d.updBurst fun b => { b with second := some { e with slip := slip, batch := n } }).burstBegin false
        else d.updBurst fun b => b.drop false d.now

/-- The burst hardware at the start edge of the current Batch; `bubble` is its cause code. -/
def Device.burstEdge (d : Device) (bubble : Option Nat) : Device :=
  let n := d.batch.number.toNat
  (d.firstEdge n bubble).secondEdge n bubble

/-! ### Outcomes (R575, R577 to R579) -/

/-- An entry's outcome code, 0 while it is not resolved. -/
def outcome : Option BurstEntry → Nat
  | some e => match e.st with | .resolved c => c | _ => 0
  | none => 0

/-- The slip that a final completion reports (R576, R588): of a burst that never started the spec states none, and it is the free
value `x` (log entry 102). -/
def entrySlip (o : Option BurstEntry) (x : Nat) : Nat :=
  match o with
  | some e => if outcome o = 1 ∨ outcome o = 2 ∨ outcome o = 4 then e.slip else x
  | none => 0

/-- The pair outcome of two burst outcomes (R578). -/
def pairOutcome (policy : Policy) (a b : Nat) : Nat :=
  let good := fun c => decide (c = 1) || decide (c = 2)
  if good a && good b then 0
  else if policy = .either ∧ (good a || good b) ∧ a ≠ 5 ∧ b ≠ 5 then 1
  else if a = 4 ∨ b = 4 then 4
  else if a = 5 ∨ b = 5 then 5
  else if policy = .abandon then 3
  else 2

/-- The keeper reads the outcomes at step 1, and completes a pair whose last entry is resolved (R579). -/
def Device.burstRead (d : Device) : Device :=
  let n := d.burst.unread.length
  let d1 := d.updBurst fun b => { b with unread := [] }
  match d.priv.larder.pair with
  | none => d1
  | some p =>
    let d := d1.when (decide (0 < n)) (·.flag p.room evBurst)
    let a := outcome d.burst.first
    let b := outcome d.burst.second
    if a = 0 ∨ (d.burst.second.isSome ∧ b = 0) then d
    else
      let policy := match d.burst.first with | some e => e.policy | none => .abandon
      let slips := (entrySlip d.burst.first (Config.freeNat d.freeCtr), entrySlip d.burst.second (Config.freeNat (d.freeCtr + 1)))
      let d := d.free.2.free.2
      let o := pairOutcome policy a (if d.burst.second.isSome then b else a)
      let d := d.when (decide (a = 3) || decide (b = 3)) (·.raise (coded 0x0C 2 d.burst.cause))
      let slid := decide (a = 2) || decide (b = 2)
      let d := match p.req with
        | some id => d.complete id (if o ≤ 1 then stOk else stFault)
            ([BitVec.ofNat 8 o, BitVec.ofNat 8 a, BitVec.ofNat 8 b] ++ leBytes 2 slips.1 ++ leBytes 2 slips.2 ++ [0]) slid
        | none => d
      let d := if p.req.isSome then d.resRelease p.handle p.room else d.resEnd p.handle
      (d.updLarder fun l => { l with pair := none }).updBurst
        fun x => { x with first := none, second := none, raw := false }

/-- The Larder cap on harvest charging (R492, R567). -/
def Device.larderTargets (d : Device) : Device :=
  let cap := match d.priv.larder.pair with
    | some p => if d.sample.capMv + d.fn Fld.resHyst * 10 < p.vt then some (10 * d.fn Fld.larHvCapMa) else none
    | none => none
  d.updShadow fun t => { t with chgLarder := cap }

/-- The Room that a raw burst is credited to (R583): the one that holds `BURST`, Open or Parked. -/
def Device.breqRoom (d : Device) : Option RoomId :=
  all16.find? fun n => d.hasFeature n 3 && decide ((d.rooms.get n).st ≠ .closed)

/-- Step 4 decides a latched `BREQ` (R583); in Safe Hold (log entry 48) and with PA absent (DESIGN CHOICE, log entry 126) it is
refused. -/
def Device.breqDecide (d : Device) : Device :=
  if d.burst.breqLatched = false then d
  else
    let d := d.updBurst fun b => { b with breqLatched := false }
    let ms := d.fn Fld.larBreqMs
    let app := d.fn Fld.larBreqApp
    let no := d.updBurst fun b => { b with pulses := (6, pulseStart b.pulses d.now) :: b.pulses.take 3 }
    match d.breqRoom with
    | none => no
    | some n =>
      if ms = 0 ∨ d.burstHeld ∨ d.larderFull ∨ d.faults.safeHold ∨ d.railThere 3 = false then no
      else
        match d.admission app (workOf (d.fn Fld.larAppMw app) (1000 * ms)) (1000 * ms) 0 0 none
            (decide (d.fn Fld.larAppSrc app = 1)) with
        | .grant s =>
          let (h, d) := d.larderEnter (some n) app s (s + 1000 * ms) (1000 * ms)
          let e := armEntry (d.batch.number.toNat + 1) ms (d.fn Fld.railVdef 3) d.batch.nextEdge .abandon
          (d.updLarder fun l => { l with pair := some { room := n, req := none, handle := h, vt := 0 } }).updBurst
            fun b => { b with first := some e, second := none, raw := true }
        | _ => no

/-- What the Larder does at step 4 apart from commands. -/
def Device.larderStep4 (d : Device) : Device := d.binRoll.resTime.breqDecide

/-! ### Commands (R587 to R591) -/

/-- The earliest and latest starts of a request are in their ranges. -/
def windowOk (earliest latest : Nat) : Bool :=
  decide (earliest ≤ 86400) && decide (earliest ≤ latest) && decide (latest ≤ 86400)

/-- A `DEFERRED` answer and its buffer record (R587). -/
def Device.deferred (d : Device) (id : ReqId) (start : Nat) : Device × Answer :=
  ((d.buffer id.room 0 (leBytes 2 id.tag.toNat)).buffer id.room 8 (leBytes 8 start), fails stDeferred)

/-- A granted reservation is entered again by a replay, from what its record keeps (R341). -/
def Device.larderAgain (d : Device) (r : Rec) (app start stop dur : Nat) : Device :=
  let h := r.wait.getD 0 0
  d.when (decide (r.wait ≠ []) && !(d.priv.larder.reservations.any fun x => x.handle == h)) (·.updLarder fun l => { l with
    nextHandle := if h ≥ 0xFFFF then 1 else h + 1,
    reservations := l.reservations ++ [{ handle := h, room := some r.id.room, app := app, start := start, stop := stop,
                                         mw := d.fn Fld.larAppMw app, energy := workOf (d.fn Fld.larAppMw app) dur,
                                         begun := false }] })

/-- `LARDER_RESERVE` (R587). -/
def cmdLarderReserve : Cmd :=
  { op := 0x320, cls := .roomChange, feature := some 2, len := 16, safe := .owner, once := fun _ => true,
    redo := some fun d r a => d.larderAgain r (byteAt a 0) (r.wait.getD 1 0) (r.wait.getD 2 0) (1000000 * numAt a 4 4),
    argsOk := fun d _ a =>
      let t := numAt a 4 4
      decide (byteAt a 0 ≤ 15) && zeroAt a 1 3 && decide (1 ≤ t) && decide (t ≤ 86400) &&
        windowOk (numAt a 8 4) (numAt a 12 4) && decide (d.fn Fld.larAppSrc (byteAt a 0) = 0),
    run := fun d id a =>
      let app := byteAt a 0
      let dur := 1000000 * numAt a 4 4
      if d.larderFull then (d, fails stBusy)
      else
        match d.admission app (workOf (d.fn Fld.larAppMw app) dur) dur (1000000 * numAt a 8 4) (1000000 * numAt a 12 4) none
            false with
        | .grant s =>
          let (h, d) := d.larderEnter (some id.room) app s (s + dur) dur
          (d.updRec id fun r => { r with wait := [h, s, s + dur] }, ok (leBytes 2 h ++ leBytes 6 (quot 45 s 1000)))
        | .defer s => d.deferred id s
        | .refuse => (d, fails stRefusedEnergy) }

/-- `BURST_PAIR` (R566, R568 to R570, R588). -/
def cmdBurstPair : Cmd :=
  { op := 0x321, cls := .roomChange, feature := some 3, len := 20, safe := .never, once := fun _ => true,
    redo := some fun d r a =>
      let d := d.larderAgain r (byteAt a 0) (r.wait.getD 2 0) (r.wait.getD 3 0) (1000 * (numAt a 4 2 + numAt a 6 2))
      d.when (decide (r.st = .waiting) && decide (r.wait ≠ [])) (·.updLarder fun l =>
        { l with pair := some { room := r.id.room, req := some r.id, handle := r.wait.getD 0 0, vt := r.wait.getD 1 0 } }),
    argsOk := fun d _ a =>
      let l1 := numAt a 4 2
      let l2 := numAt a 6 2
      let sp := numAt a 8 4
      decide (byteAt a 0 ≤ 15) && decide (d.fn Fld.larAppSrc (byteAt a 0) = 1) && decide (byteAt a 1 ≤ 2) &&
        d.railThere 3 && d.voteMvOk 3 (numAt a 2 2) && decide (20 ≤ l1) && decide (l1 ≤ 2000) && decide (20 ≤ l2) &&
        decide (l2 ≤ 2000) && decide (1000 ≤ sp) && decide (sp ≤ 600000) && windowOk (numAt a 12 4) (numAt a 16 4),
    run := fun d id a =>
      let app := byteAt a 0
      let l1 := numAt a 4 2
      let l2 := numAt a 6 2
      let sp := numAt a 8 4
      let mv := if numAt a 2 2 = 0 then d.fn Fld.railVdef 3 else numAt a 2 2
      if d.burstHeld ∨ d.larderFull then (d, fails stBusy)
      else
        let energy := workOf (d.fn Fld.larAppMw app) (1000 * (l1 + l2))
        let vt := d.levelFor energy
        let dur := 1000 * (sp + l2)
        match d.admission app energy dur (1000000 * numAt a 12 4) (1000000 * numAt a 16 4) (some vt) true with
        | .grant s =>
          let (h, d) := d.larderEnter (some id.room) app s (s + dur) (1000 * (l1 + l2))
          let (s1, t1) := d.batchAt s
          let p : Policy := match byteAt a 1 with | 0 => .slide | 1 => .abandon | _ => .either
          let d := (d.updLarder fun l => { l with pair := some { room := id.room, req := some id, handle := h, vt := vt } }).updBurst
            fun b => { b with first := some (armEntry s1 l1 mv t1 p), raw := false,
                              second := some (armEntry (s1 + sp) l2 mv (t1 + 1000 * sp) p) }
          (d, .accept (leBytes 2 h ++ leBytes 6 s1) [h, vt, s, s + dur] .closed)
        | .defer s => d.deferred id s
        | .refuse => (d, fails stRefusedEnergy) }

/-- `LARDER_RELEASE` (R564, R582, R589). -/
def cmdLarderRelease : Cmd :=
  { op := 0x322, cls := .roomChange, len := 2, safe := .all,
    priv := fun d n a =>
      match d.priv.larder.reservations.find? fun r => r.handle == numAt a 0 2 with
      | some r => decide (r.room = some n) || decide (d.privOf n = 0)
      | none => true,
    argsOk := fun _ _ _ => true,
    run := fun d id a =>
      let h := numAt a 0 2
      let isPair := match d.priv.larder.pair with | some p => decide (p.handle = h) | none => false
      ((d.when isPair (·.burstCancel)).resRelease h id.room, ok) }

/-- The result of `LARDER_QUERY` (R590). -/
def Device.larderResult (d : Device) : List Byte :=
  let j := 10 ^ 15
  let now := d.batch.edgeTime
  leBytes 2 (sat 65535 (quot 46 d.batEnergy j)) ++ leBytes 2 (sat 65535 (quot 47 (10 * d.resEnergy d.sample.capMv) j)) ++
    leBytes 2 (sat 65535 (quot 48 (d.harvest now (now + dayUs)) j)) ++
    leBytes 1 d.priv.larder.reservations.length ++
    leBytes 1 (b2n (match d.burst.first, d.burst.second with
        | some a, some b => decide (a.st = .armed) || decide (b.st = .armed)
        | some a, none => decide (a.st = .armed)
        | _, _ => false) + 2 * b2n d.burst.running.isSome + 4 * b2n d.path.priInUse + 8 * b2n d.priv.larder.tod.isSome)

/-- The forecast as `LARDER_QUERY` writes it, 0.1 J. -/
def Device.larderRecordBytes (d : Device) : List Byte :=
  d.priv.larder.bins.flatMap fun x => leBytes 2 (sat 65535 (quot 49 x 100000000))

/-- `LARDER_QUERY` (R590). -/
def cmdLarderQuery : Cmd :=
  { op := 0x323, cls := .read, len := 0, safe := .all, argsOk := fun _ _ _ => true,
    run := fun d id _ => (d.buffer id.room 0 d.larderRecordBytes, ok d.larderResult) }

/-- `LARDER_SET` (R591). Bytes 3:1, and bytes 7:4 for FC_RESET, R591 neither uses nor calls RSV: as everywhere else they
must read 0 (DESIGN CHOICE, log entry 121). -/
def cmdLarderSet : Cmd :=
  { op := 0x324, cls := .deviceChange, len := 8, safe := .owner, once := fun a => byteAt a 0 == 2,
    argsOk := fun _ _ a => zeroAt a 1 3 &&
      match byteAt a 0 with
      | 1 => decide (numAt a 4 4 ≤ 86399)
      | 2 => zeroAt a 4 4
      | _ => false,
    run := fun d _ a =>
      if byteAt a 0 = 1 then
        let off := (1000000 * numAt a 4 4 + dayUs - d.batch.nextEdge % dayUs) % dayUs
        (d.updLarder fun l =>
          let l := { l with tod := some off }
          { l with curBin := l.binAt d.now, measured := 0, observed := 0 }, ok)
      else ((d.updLarder fun l => { l with bins := d.larSeeds }).larderSave, ok) }

end Sys2Proof.Machine
end

