-- ==== Sys2Proof/Machine/Digest.lean ====
section
/-! DEFINITION. The digest engine (R618 to R641): claims, messages, the device's own use and queued digests, and the
`DIG_` commands. -/
namespace Sys2Proof.Machine

/-! ### Claims (R624 to R627, R634) -/

/-- `DIG.CLAIM` reads free. -/
def Digest.free (g : Digest) : Bool := decide (g.claim = 0xFF)

/-- The Room that holds the engine by a register claim. -/
def Digest.guest (g : Digest) : Option RoomId := if g.claim.toNat < 16 then some (fin16 g.claim.toNat) else none

/-- `DIG.STATUS.slots` (R621). -/
def KeyStore.loaded (k : KeyStore) : Nat := maskOf 8 fun i => (k.slots.toList.getD i none).isSome

/-- A Room is bound to a port, by the entry copied at step 10 (R236, R262). -/
def RoomRegs.boundTo (r : RoomRegs) (p : Sys2Proof.Port) : Bool :=
  match p with
  | .spi => decide (r.idPort = 1)
  | .i2c => decide (r.idPort = 2)
  | .uart => decide (r.idPort = 3)

/-- A WAITING record that needs the engine to go on: its first kept number is 1 (R634). -/
def Rec.needsEngine (r : Rec) : Bool :=
  decide (r.st = .waiting) && decide (r.wait.head? = some 1) &&
    (r.opcode == 0x600 || r.opcode == 0xA00 || r.opcode == 0xA01)

/-- A part of a queued message as a record holds it (R640): identifier, index, `last`, mode, slot and data. -/
def Rec.part (r : Rec) : Nat × Nat × Bool × Nat × Nat × List Byte :=
  let a := r.args.getD []
  (numAt a 4 2, byteAt a 2, byteAt a 3 == 1, byteAt a 0, byteAt a 1, slice a 8 (r.len - 8))

/-- The held parts of an identifier of a Room, in the order taken. -/
def Device.parts (d : Device) (n : RoomId) (ident : Nat) : List Rec :=
  d.reqs.recs.filter fun r => r.opcode == 0x601 && r.st == .waiting && r.id.room == n && r.part.1 == ident

/-- A message is whole: its `last` part is held and every part before it (R640). -/
def wholeMessage (l : List Rec) : Bool :=
  match l.find? fun r => r.part.2.2.1 with
  | some z => (List.range (z.part.2.1 + 1)).all fun i => l.any fun r => r.part.2.1 == i
  | none => false

/-- The first whole queued message, as a part of it (R635). -/
def Device.queueReady (d : Device) : Option Rec :=
  d.reqs.recs.find? fun r => r.opcode == 0x601 && r.st == .waiting && wholeMessage (d.parts r.id.room r.part.1)

/-- A keeper restart is under way, whose image the Starter ROM digests (R213, R633). -/
def Device.restartRuns (d : Device) : Bool :=
  decide (d.keepers.a.offUse = .restarting) || decide (d.keepers.b.offUse = .restarting)

/-- What the device needs the engine for: the value `DIG.CLAIM` takes for it (R624, R634). -/
def Device.digWants (d : Device) : Option Byte :=
  if d.restartRuns || d.reqs.recs.any Rec.needsEngine || !d.sec.responses.isEmpty then some 0x80
  else (d.queueReady).map fun r => BitVec.ofNat 8 (0x40 + r.id.room.val)

/-- The device waits for the engine while a guest holds it: it sets its reservation (R634). -/
def Device.digReserve (d : Device) : Device :=
  d.when (d.dig.guest.isSome && d.digWants.isSome) (·.updDig fun g => { g with resv := true })

/-- A claim ends: the engine passes to the device when it is reserved and still needed, else it is free (R630, R634). -/
def Device.digRelease (d : Device) : Device :=
  let next : Byte := if d.dig.resv then d.digWants.getD 0xFF else 0xFF
  d.updDig fun g => { g with claim := next, running := false, resv := false, msg := [] }

/-- No guest holds the engine: it is free or has passed to the device (R634). -/
def Device.engineIdle (d : Device) : Bool := d.dig.guest.isNone

/-- The device has the engine for a use of its own other than the restart of a keeper, which comes first (R213, R634). -/
def Device.digOurs (d : Device) : Bool := d.engineIdle && !d.restartRuns

/-- The restarting keeper's Starter ROM asks for the engine, from the start of its restart on: it takes the free engine, or
reserves it against every claim to come (R213, R634; when it asks: log entry 118). -/
def Device.engineAsk (d : Device) : Device :=
  d.when d.restartRuns (·.updDig fun g =>
    if g.guest.isSome then { g with resv := true } else { g with claim := 0x80 })

/-- The device ends its use (R634). -/
def Device.digDone (d : Device) : Device :=
  d.when d.digOurs (·.updDig fun g => { g with claim := 0xFF })

/-- A Room's claim is aborted without a result (R631). -/
def Device.digAbortRoom (d : Device) (n : RoomId) : Device := d.when (d.dig.guest == some n) (·.digRelease)

/-- LODGE, SHIP and every start release the engine (R631). -/
def Device.digStop (d : Device) : Device :=
  d.updDig fun g => { g with claim := 0xFF, running := false, resv := false, msg := [] }

/-- The results of the latest start: none (R636). -/
def Device.digStep10 (d : Device) : Device :=
  d.digStop.updDig fun g => { g with rSeq := 0, rSource := 0xFF, rHmac := false, rSlot := 0, result := List.replicate 32 0,
                                     foreign := false, overrun := false, err := 0, count := 0, hmac := false, slot := 0 }

/-- A write to `DIG.CLAIM` (R625). -/
def Device.digClaim (d : Device) (p : Sys2Proof.Port) (n : RoomId) (v : Byte) : Device :=
  let r := d.rooms.get n
  if v.toNat = n.val ∧ r.boundTo p ∧ r.st = .opened ∧ d.hasFeature n 8 ∧ d.dig.free ∧ d.dig.resv = false then
    d.updDig fun g => { g with claim := v, claimTime := d.now, lastWrite := d.now, running := false, msg := [] }
  else d

/-- A write to `DIG.CTRL` or `DIG.DATA` (R627): it takes effect from the holder through its port; a write of another Room
sets `foreign`; with the engine free or taken by the device it is discarded. -/
def Device.digFrom (d : Device) (p : Sys2Proof.Port) (n : RoomId) (f : Device → Device) : Device :=
  match d.dig.guest with
  | none => d
  | some h =>
    if h = n ∧ (d.rooms.get n).boundTo p then f (d.updDig fun g => { g with lastWrite := d.now })
    else d.updDig fun g => { g with foreign := true }

/-- START (R628). -/
def Device.digStartMsg (d : Device) (n : RoomId) (mac : Bool) (slot : Nat) : Device :=
  let e := if mac then
      (if d.mayKey n slot = false then 1 else if (d.keys.slots.toList.getD slot none).isSome then 0 else 2)
    else 0
  d.updDig fun g =>
    let g := { g with foreign := false, err := e }
    if e = 0 then { g with running := true, hmac := mac, slot := if mac then slot else 0, count := 0, msg := [], overrun := false }
    else g

/-- Bytes of `DIG.DATA` from an offset (R629). -/
def Device.digData (d : Device) (off : Nat) (l : List Byte) : Device :=
  d.updDig fun g =>
    if off + l.length ≤ 0xF00 ∧ g.running then
      { g with msg := g.msg ++ l, count := g.count + BitVec.ofNat 48 l.length }
    else { g with err := 5 }

/-- The digest of a message in a mode: HMAC under a loaded slot, or PLAIN (R618). The manual gives no result under a slot
that is no longer loaded: a free value (log entry 2). -/
def Device.digest (d : Device) (mac : Bool) (slot : Nat) (m : List Byte) : List Byte :=
  if mac then
    match d.keys.slots.toList.getD slot none with
    | some k => Sys2Proof.Machine.hmac k m
    | none => leBytes 32 (Config.freeNat d.freeCtr)
  else sha256 m

/-- A guest result replaces the former one as one unit (R630, R636, R637). -/
def Device.digPublish (d : Device) (source : Byte) (mac : Bool) (slot : Nat) (r : List Byte) : Device :=
  ({ d with freeCtr := d.freeCtr + 1 } : Device).updDig fun g =>
    { g with rSeq := if g.rSeq = 65535 then 1 else g.rSeq + 1, rSource := source, rHmac := mac, rSlot := slot,
             result := r }

/-- FINISH (R630). -/
def Device.digFinishMsg (d : Device) (n : RoomId) : Device :=
  let g := d.dig
  if g.running ∧ (g.err = 0 ∨ g.err = 1) then
    (d.digPublish (BitVec.ofNat 8 n.val) g.hmac g.slot (d.digest g.hmac g.slot g.msg)).digRelease
  else d.digRelease

/-- A claim times out: `idle` or maximum (R631, R642). -/
def Device.digTimeout (d : Device) (maximum : Bool) : Device :=
  match d.dig.guest with
  | some n => ((d.digRelease).updDig fun g => { g with err := 4 }).raise (coded 0x0E 1 (256 * n.val + b2n maximum))
  | none => d

/-- A word written to `DIG.CTRL` (R637). -/
def Device.digCtrl (d : Device) (n : RoomId) (w : Word) : Device :=
  let v := w.toNat
  match v % 8 with
  | 1 => d.digStartMsg n (w.getLsbD 3) (v / 16 % 8)
  | 2 => d.digFinishMsg n
  | 3 => d.digRelease
  | _ => d.updDig fun g => { g with err := 5 }

/-! ### Queued work and keys at step 4 (R634, R635, R639, R640) -/

/-- Digests the first whole queued message and completes its parts (R635, R640). -/
def Device.digQueueOne (d : Device) : Device :=
  match d.queueReady with
  | none => d
  | some r0 =>
    if d.digOurs = false then d
    else
      let n := r0.id.room
      let l := d.parts n r0.part.1
      let z := ((l.find? fun r => r.part.2.2.1).map fun r => r.part.2.1).getD 0
      let m := (List.range (z + 1)).flatMap fun i => ((l.find? fun r => r.part.2.1 == i).map fun r => r.part.2.2.2.2.2).getD []
      let mac := decide (r0.part.2.2.2.1 = 1)
      let slot := r0.part.2.2.2.2.1
      let x := d.digest mac slot m
      let d := (d.digPublish (BitVec.ofNat 8 (0x40 + n.val)) mac slot x).buffer n 0 x
      d.each l fun r d => d.complete r.id stOk (if r.part.2.2.1 then x.take 8 else [])

/-- Begins the key store write of a `DIG_KEYLOAD` (R639): the states are computed, and the write waits for its end. -/
def Device.keyBegin (d : Device) (r : Rec) : Device :=
  let a := r.args.getD []
  let n := byteAt a 1
  let keys := if n = 0 then none else some (slotKeys (slice a 8 n))
  (d.updKeys fun k => { k with loading := some (r.id, Fin.ofNat 8 (byteAt a 0), keys) }).updRec r.id
    fun r => { r with wait := [2], intent := .open true }

/-- Key loads that waited for the engine begin once it is the device's. -/
def Device.keyWaiters (d : Device) : Device :=
  d.each d.reqs.recs fun r d =>
    d.when (r.opcode == 0x600 && r.needsEngine && d.digOurs && d.keys.loading.isNone) (·.keyBegin r)

/-- The key store write ends (R639, R642). -/
def Device.keyDone (d : Device) (ok_ : Bool) : Device :=
  match d.keys.loading with
  | none => d
  | some (id, slot, keys) =>
    let d := d.updKeys fun k => { k with loading := none, slots := if ok_ then vput k.slots slot keys else k.slots }
    let d := d.when ok_ (·.raise (coded 0x0E 2 (256 * slot.val + b2n keys.isSome)))
    d.complete id (if ok_ then stOk else stFault)
      (if ok_ then leBytes 1 slot.val ++ leBytes 1 d.keys.loaded else [])

/-- The parts of an identifier that are held complete with `FAULT` (R641). -/
def Device.queueFail (d : Device) (n : RoomId) (ident : Nat) : Device :=
  d.each (d.parts n ident) fun r d => d.complete r.id stFault []

/-- Identifiers whose parts are incomplete 10 s after the first: kept number 0 of a part is its execution time (R641). -/
def Device.queueAged (d : Device) : Device :=
  d.each d.reqs.recs fun r d =>
    d.when (r.opcode == 0x601 && r.st == .waiting && decide (r.wait.getD 0 0 + 10000000 ≤ d.now) &&
      !wholeMessage (d.parts r.id.room r.part.1)) (·.queueFail r.id.room r.part.1)

/-- The digest engine at step 4 of a working Batch. -/
def Device.digStep4 (d : Device) : Device :=
  ((((d.queueAged.keyWaiters).digQueueOne).digDone).digReserve).engineAsk

/-! ### Commands (R639, R640) -/

/-- The lifecycle words hold RETURNED (R701, R705). -/
def Device.isReturned (d : Device) : Bool :=
  let k := fun (v : Vector Word 4) => (v.toList.filter fun w => decide (w ≠ 0xFFFFFFFF)).length
  decide (max (k d.sec.copyA) (k d.sec.copyB) = 3)

/-- `DIG_KEYLOAD` (R639, R705). -/
def cmdDigKeyload : Cmd :=
  { op := 0x600, cls := .roomChange, feature := some 8, len := 56, exact := fun a => some (8 + byteAt a 1), safe := .owner,
    once := fun _ => true,
    allot := fun d n a => decide (7 < byteAt a 0) || d.mayKey n (byteAt a 0),
    argsOk := fun _ _ a => decide (2 ≤ byteAt a 0) && decide (byteAt a 0 ≤ 7) && decide (byteAt a 1 ≤ 48) && zeroAt a 2 6,
    run := fun d id a =>
      if d.isReturned then (d, fails stFault)
      else if d.digOurs ∧ d.keys.loading.isNone then
        let n := byteAt a 1
        let keys := if n = 0 then none else some (slotKeys (slice a 8 n))
        (d.updKeys fun k => { k with loading := some (id, Fin.ofNat 8 (byteAt a 0), keys) }, .wait [2] (.open true))
      else (d.digReserve, .wait [1] (.open false)) }

/-- `DIG_QUEUE` (R640, R641). -/
def cmdDigQueue : Cmd :=
  { op := 0x601, cls := .roomChange, feature := some 8, len := 56, minLen := 8, safe := .owner,
    allot := fun d n a => byteAt a 0 != 1 || decide (7 < byteAt a 1) || d.mayKey n (byteAt a 1),
    argsOk := fun _ _ a => decide (byteAt a 0 ≤ 1) && (decide (byteAt a 0 = 1) || decide (byteAt a 1 = 0)) &&
      decide (byteAt a 1 ≤ 7) && decide (byteAt a 2 ≤ 63) && decide (byteAt a 3 ≤ 1) && zeroAt a 6 2,
    run := fun d id a =>
      let ident := numAt a 4 2
      let held := (d.parts id.room ident).filter fun r => r.id != id
      let last := byteAt a 3 == 1
      if held.any fun r => r.part.2.1 == byteAt a 2 || r.part.2.2.2.1 != byteAt a 0 || r.part.2.2.2.2.1 != byteAt a 1 then
        (d, fails stBadArg)
      else if last && held.any fun r => r.part.2.2.1 then
        (d.each held fun r d => d.complete r.id stFault [], fails stFault)
      else
        let first := (held.head?.map fun r => r.wait.getD 0 0).getD d.now
        if last then (d, .wait [first]) else (d, .accept [] [first]) }

end Sys2Proof.Machine
end

