-- ==== Sys2Proof/Machine/Keepers.lean ====
section
/-! DEFINITION. The two keepers (R157 to R202): roles, failures, restarts, checkpoints and hot copies, the swap arbiter,
and the image format that pairing and boot rest on (R203 to R220). -/
namespace Sys2Proof.Machine

/-! ### Keepers by name -/

/-- The other keeper. -/
def otherKeeper : Sys2Proof.Keeper → Sys2Proof.Keeper
  | .a => .b
  | .b => .a

/-- The keeper that an argument byte names (R200). -/
def keeperOf (v : Nat) : Sys2Proof.Keeper := if v = 0 then .a else .b

/-- State of a keeper. -/
def Keepers.get (k : Keepers) (x : Sys2Proof.Keeper) : KeeperState := match x with | .a => k.a | .b => k.b

/-- Changes one keeper. -/
def Device.updKeeper (d : Device) (x : Sys2Proof.Keeper) (f : KeeperState → KeeperState) : Device :=
  d.updKeepers fun k => match x with | .a => { k with a := f k.a } | .b => { k with b := f k.b }

/-- State of a keeper of the device. -/
def Device.keeper (d : Device) (x : Sys2Proof.Keeper) : KeeperState := d.keepers.get x

/-- The ACTIVE keeper (R158). -/
def Device.activeKeeper (d : Device) : Option Sys2Proof.Keeper :=
  if d.keepers.a.role = .active then some .a else if d.keepers.b.role = .active then some .b else none

/-- The keeper beside the ACTIVE one. -/
def Device.standby (d : Device) : Option Sys2Proof.Keeper := d.activeKeeper.map otherKeeper

/-- STANDBY_HOT or STANDBY_COLD, which may take over (R177). -/
def Role.able : Role → Bool
  | .standbyHot | .standbyCold => true
  | _ => false

/-- Role codes (R157). -/
def Role.code : Role → Nat
  | .offline => 0 | .active => 1 | .standbyHot => 2 | .standbyCold => 3 | .quarantined => 4

/-- A standby is able to take over. -/
def Device.standbyAble (d : Device) : Bool :=
  match d.standby with
  | some k => (d.keeper k).role.able
  | none => false

/-! ### Images (R204 to R211, R217, R218) -/

/-- NVM address of slot `s` (R203). -/
def slotBase (s : Nat) : Nat := 0x30000 * s

/-- The 256-byte header in a slot (R208). -/
def Device.slotHeader (d : Device) (s : Nat) : List Byte := d.nvmRead (slotBase s) 256

/-- The silicon revision (R1). -/
def revByte : Nat := 0xB0

/-- The magic "VLIM" (R208). -/
def imgMagic (h : List Byte) : Bool := numAt h 0 4 == 0x4D494C56

/-- Check 2 of R211: format, ranges, reserved bytes and pairing entries (R208, R210). -/
def imgFormed (h : List Byte) : Bool :=
  let n := byteAt h 0x13
  numAt h 4 2 == 1 && numAt h 6 2 == 0x100 && decide (numAt h 0x0E 2 ≤ numAt h 0x10 2) &&
    decide (1 ≤ n) && decide (n ≤ 16) && decide (4 ≤ numAt h 0x14 4) && decide (numAt h 0x14 4 ≤ 73728) &&
    decide (numAt h 0x14 4 % 4 = 0) && decide (numAt h 0x18 4 < numAt h 0x14 4) && decide (numAt h 0x18 4 % 4 = 0) &&
    decide (byteAt h 0x1E ≤ 1) && zeroAt h 0x1F 33 &&
    (List.range 16).all fun i =>
      let o := 0x40 + 12 * i
      if i < n then zeroAt h (o + 1) 3 && decide (numAt h (o + 4) 4 ≤ numAt h (o + 8) 4) else zeroAt h o 12

/-- The pairing entries of a header: revision and peer range (R210). -/
def imgPairs (h : List Byte) : List (Nat × Nat × Nat) :=
  (List.range (min 16 (byteAt h 0x13))).map fun i =>
    let o := 0x40 + 12 * i
    (byteAt h o, numAt h (o + 4) 4, numAt h (o + 8) 4)

/-- `image_version`, `schema`, and the SMP range of a header. -/
def imgVersion (h : List Byte) : Nat := numAt h 8 4
def imgSchema (h : List Byte) : Nat := numAt h 0x0C 2
def imgSmpMin (h : List Byte) : Nat := numAt h 0x0E 2
def imgSmpMax (h : List Byte) : Nat := numAt h 0x10 2
def imgBody (h : List Byte) : Nat := numAt h 0x14 4
def imgSec (h : List Byte) : Nat := numAt h 0x1C 2

/-- The 32 bytes of a manifest copy (R204). -/
def Manifest.bytes (m : Manifest) : List Byte :=
  let b := leBytes 4 m.seq.toNat ++ leBytes 1 m.aPrimary.val ++ leBytes 1 m.aFallback.val ++ leBytes 1 m.bPrimary.val ++
    leBytes 1 m.bFallback.val ++ leBytes 2 m.floor.toNat ++ List.replicate 18 0
  b ++ leBytes 4 (crc32 b).toNat

/-- The manifest in a copy, where the copy is valid: its `crc`, reserved bytes and slot fields hold (R205). -/
def copyManifest (b : List Byte) : Option Manifest :=
  let slots := (List.range 4).map fun i => byteAt b (4 + i)
  let slot := fun (i : Nat) => Fin.ofNat 4 (slots.getD i 0)
  if zeroAt b 10 18 && slots.all (fun s => decide (s < 4)) && decide slots.Nodup &&
      decide (numAt b 28 4 = (crc32 (slice b 0 28)).toNat) then
    some { seq := BitVec.ofNat 32 (numAt b 0 4), aPrimary := slot 0, aFallback := slot 1, bPrimary := slot 2,
           bFallback := slot 3, floor := BitVec.ofNat 16 (numAt b 8 2) }
  else none

/-- Copy 1 holds the manifest in force (R205): copy 0 is not valid, or has the smaller `seq`. -/
def ConfigNvm.second (c : ConfigNvm) : Bool :=
  match copyManifest c.manifest0, copyManifest c.manifest1 with
  | some x, some y => decide (x.seq.toNat < y.seq.toNat)
  | none, some _ => true
  | _, none => false

/-- The manifest in force: the valid copy with the greater `seq` (R205). -/
def ConfigNvm.manifest (c : ConfigNvm) : Option Manifest := copyManifest (if c.second then c.manifest1 else c.manifest0)

/-- The rollback floor in force. -/
def Device.imgFloor (d : Device) : Nat := match d.cfg.manifest with | some m => m.floor.toNat | none => 0

/-- The verdict of R211 on a slot. -/
def Device.imgVerdict (d : Device) (s : Nat) : Nat :=
  let h := d.slotHeader s
  if imgMagic h = false then 1
  else if imgFormed h = false then 2
  else if revByte < byteAt h 0x12 then 3
  else if (imgPairs h).all fun p => p.1 != revByte then 4
  else if imgSec h < d.imgFloor then 5
  else match d.keys.pubKeys.toList.getD (byteAt h 0x1E) none with
    | none => 7
    | some key =>
      let n := 256 + imgBody h
      if ecdsaVerifies key (sha256 (d.nvmRead (slotBase s) n)) (d.nvmRead (slotBase s + n) 64) then 0 else 6

/-- Primary and fallback slot of a keeper. -/
def Manifest.slots (m : Manifest) (k : Sys2Proof.Keeper) : Nat × Nat :=
  match k with
  | .a => (m.aPrimary.val, m.aFallback.val)
  | .b => (m.bPrimary.val, m.bFallback.val)

/-- A trial is armed for a keeper (R215). -/
def Images.trial (i : Images) (k : Sys2Proof.Keeper) : Bool := match k with | .a => i.trialA | .b => i.trialB

/-- Sets a keeper's trial flag. -/
def Images.setTrial (i : Images) (k : Sys2Proof.Keeper) (v : Bool) : Images :=
  match k with | .a => { i with trialA := v } | .b => { i with trialB := v }

/-- Records the verdict on a slot (R232). -/
def Device.recordVerdict (d : Device) (s v : Nat) : Device :=
  d.updImages fun i => { i with verdicts := i.verdicts.set! s (some v) }

/-- Tries slots in order: the first accepted one, with every verdict recorded and every refusal raised (R214, R215). -/
def Device.bootSlots (d : Device) (k : Sys2Proof.Keeper) : List (Nat × Bool) → Option Nat × Device
  | [] => (none, d.raise (coded 3 2 (keeperCode k)))
  | (s, isTrial) :: rest =>
    let v := d.imgVerdict s
    let d := d.recordVerdict s v
    if v = 0 then (some s, d)
    else
      let d := d.raise (coded 3 1 (256 * s + v))
      Device.bootSlots (d.when isTrial (·.updImages (·.setTrial k false))) k rest

/-- The slots that a keeper tries (R214). -/
def Device.bootOrder (d : Device) (k : Sys2Proof.Keeper) (restart : Bool) : List (Nat × Bool) :=
  match d.cfg.manifest with
  | some m =>
    let p := m.slots k
    (if restart && d.images.trial k then [(p.2, true)] else []) ++ [(p.1, false), (p.2, false)]
  | none => []

/-- Two images are paired (R217). -/
def imgPaired (a b : List Byte) : Bool :=
  let ok := fun (x y : List Byte) => (imgPairs x).any fun p =>
    p.1 == revByte && decide (p.2.1 ≤ imgVersion y) && decide (imgVersion y ≤ p.2.2)
  decide (imgVersion a = imgVersion b) || (ok a b && ok b a)

/-- Two schema versions are compatible (R218). -/
def schemaOk (a b : Nat) : Bool := decide (a / 256 = b / 256)

/-- A keeper takes the image of a slot into its private SRAM, header and body, and runs it from there (R22, R212). -/
def Device.loadImage (d : Device) (k : Sys2Proof.Keeper) (s : Nat) : Device :=
  let image := d.nvmRead (slotBase s) (256 + imgBody (d.slotHeader s))
  d.updKeeper k fun x => { x with slot := some s, image := image }

/-- The slot whose image a keeper runs: in a self-test it runs the Starter ROM (R157, R196). -/
def KeeperState.runs (s : KeeperState) : Option Nat := if s.offUse = .selfTest then none else s.slot

/-- The header of the image that a keeper runs, from its SRAM. -/
def Device.runHeader (d : Device) (k : Sys2Proof.Keeper) : Option (List Byte) :=
  (d.keeper k).runs.map fun _ => slice (d.keeper k).image 0 256

/-- Both keepers run images that are not paired or not compatible: `KEEPER.ROLES.cold` (R219, R220). -/
def Device.coldPair (d : Device) : Bool :=
  match d.runHeader .a, d.runHeader .b with
  | some a, some b => !(imgPaired a b && schemaOk (imgSchema a) (imgSchema b))
  | _, _ => false

/-- The SMP range of the ACTIVE image; in ROM Safe Hold 3.0 to 3.0 (R221, R773). -/
def Device.smpRange (d : Device) : Nat × Nat :=
  if d.romHold then (0x300, 0x300)
  else match d.activeKeeper.bind d.runHeader with
    | some h => (imgSmpMin h, imgSmpMax h)
    | none => (0x300, 0x300)

/-- `KEEPER.ROLES.cold` follows the images that run (R220). -/
def Device.coldFix (d : Device) : Device :=
  let c := d.coldPair
  d.updKeepers fun k => { k with cold := c }

/-! ### Watchdogs of a keeper as roles change (R681, R682) -/

/-- Changes the watchdog of a keeper. -/
def Device.updKwd (d : Device) (k : Sys2Proof.Keeper) (f : KeeperWd → KeeperWd) : Device :=
  d.updWd fun w => match k with | .a => { w with a := f w.a } | .b => { w with b := f w.b }

/-- The watchdog of a keeper. -/
def Device.kwd (d : Device) (k : Sys2Proof.Keeper) : KeeperWd := match k with | .a => d.wd.a | .b => d.wd.b

/-- The Starter ROM begins on a keeper: the ROM limit counts (R681). -/
def Device.wdRom (d : Device) (k : Sys2Proof.Keeper) : Device :=
  d.updKwd k fun w => { w with mode := .rom d.now, newPeriod := none }

/-- A keeper enters the Innkeeper: the period in force, count 0 (R682). -/
def Device.wdEnter (d : Device) (k : Sys2Proof.Keeper) : Device :=
  d.updKwd k fun w => { w with period := d.wd.inForce, count := 0, mode := .counting, newPeriod := none }

/-- A keeper is held in reset, OFFLINE or QUARANTINED: its watchdog stops (R684). -/
def Device.wdStop (d : Device) (k : Sys2Proof.Keeper) : Device :=
  d.updKwd k fun w => { w with mode := .stopped, count := 0, newPeriod := none }

/-! ### Failures and restarts (R190 to R194) -/

/-- A keeper restart begins (R191). -/
def Device.keeperRestart (d : Device) (k : Sys2Proof.Keeper) : Device :=
  ((d.updKeeper k fun s => { s with role := .offline, offUse := .restarting, slot := none, image := [],
                                    hot := none, powered := true }).coldFix.wdRom k).engineAsk

/-- Three failures lie within 24 h (R193). -/
def KeeperState.thirdFailure (s : KeeperState) : Bool :=
  match s.failTimes with
  | [a, _, c] => decide (a ≤ c + 86400000000)
  | _ => false

/-- A waiting record of an opcode in a phase. -/
def Device.waitingPhase (d : Device) (op phase : Nat) : Option Rec :=
  d.reqs.recs.find? fun r => r.opcode == op && r.st == .waiting && r.wait.head? == some phase

/-- The result of CLOSE (R227). -/
def Device.closeResult (d : Device) (k : Sys2Proof.Keeper) (slot verdict : Nat) : List Byte :=
  leBytes 1 verdict ++ leBytes 1 (d.keeper k).role.code ++ leBytes 4 (imgVersion (d.slotHeader slot))

/-- A CLOSE that waits for keeper `k` completes with the verdict on the trial slot: `OK` with 0, `FAULT` otherwise (R227). -/
def Device.closeOver (d : Device) (k : Sys2Proof.Keeper) (verdict : Nat) : Device :=
  match d.images.closeWait with
  | some (x, slot) =>
    if x = k then
      let res := d.closeResult k slot verdict
      let d := d.updImages fun i => { i with closeWait := none, stage := none }
      match d.waitingPhase 0x910 103 with
      | some r => d.complete r.id (if verdict = 0 then stOk else stFault) res
      | none => d
    else d
  | none => d

/-- An ABORT that waits for keeper `k` completes (R230). -/
def Device.abortOver (d : Device) (k : Sys2Proof.Keeper) : Device :=
  if d.images.abortWait = some k then
    let d := d.updImages fun i => { i with abortWait := none }
    match d.waitingPhase 0x911 2 with
    | some r => d.complete r.id stOk []
    | none => d
  else d

/-- The verdict that a CLOSE reports when its trial slot was not verified: the code of a slot without a verdict (log entry 106). -/
def noVerdict : Nat := 0xFF

/-- A keeper is QUARANTINED and powered off (R193); what waits for its restart ends with it (log entry 106). -/
def Device.quarantine (d : Device) (k : Sys2Proof.Keeper) : Device :=
  (((d.updKeeper k fun s => { s with role := .quarantined, offUse := .nothing, slot := none, image := [], hot := none,
                                     powered := false, halted := false }).coldFix.wdStop k).closeOver k noVerdict).abortOver k

/-- Records a failure with its cause, 1 to 5 in the order of R190; a third one within 24 h is reported, and so is a second
keeper's quarantine (R192 to R194, R215). -/
def Device.failRecord (d : Device) (k : Sys2Proof.Keeper) (cause : Nat) : Device :=
  let d := (d.updKeeper k fun s => { s with failTimes := (d.now :: s.failTimes).take 3 }).updImages (·.setTrial k false)
  let d := d.raise (coded 2 7 (256 * keeperCode k + cause))
  if (d.keeper k).thirdFailure then
    let d := d.raise (coded 2 8 (keeperCode k))
    d.when (decide ((d.keeper (otherKeeper k)).role = .quarantined)) (·.raise (coded 2 9))
  else d

/-- What follows a failure of a keeper that is not, or is no longer, ACTIVE (R191, R193). -/
def Device.failAway (d : Device) (k : Sys2Proof.Keeper) : Device :=
  if (d.keeper k).thirdFailure then d.quarantine k else d.keeperRestart k

/-- The other keeper has a failure at most 60 s earlier (R686). -/
def Device.ladderTwo (d : Device) (k : Sys2Proof.Keeper) : Bool :=
  match (d.keeper (otherKeeper k)).failTimes with
  | t :: _ => decide (d.now ≤ t + 60000000)
  | [] => false

/-- Number of failures within the last 24 h (R197). -/
def Device.failCount (d : Device) (k : Sys2Proof.Keeper) : Nat :=
  ((d.keeper k).failTimes.filter fun t => decide (d.now ≤ t + 86400000000)).length

/-! ### Checkpoint buffers (R161 to R165) -/

/-- The buffer of the latest accepted commit, or the other one. -/
def Device.ckpt (d : Device) (which : Bool) : Ckpt := if which then d.ckpt1 else d.ckpt0

/-- Changes a buffer. -/
def Device.updCkpt (d : Device) (which : Bool) (f : Ckpt → Ckpt) : Device :=
  if which then { d with ckpt1 := f d.ckpt1 } else { d with ckpt0 := f d.ckpt0 }

/-- Where the commit word stands in a buffer (R161). -/
def commitOff : Nat := 0x3FF0

/-- The 16 bytes of a commit word (R161). -/
def Ckpt.commitWord (c : Ckpt) : List Byte :=
  leBytes 6 c.batch.toNat ++ leBytes 2 c.length ++ leBytes 4 c.crc.toNat ++ leBytes 2 c.schema.toNat ++
    leBytes 1 (keeperCode c.writer) ++ [c.mark]

/-- Byte `o` of a buffer: the payload as the image codes it, the commit word, and 0 in the reserved part (R161). -/
def Ckpt.byte (c : Ckpt) (o : Nat) : Byte :=
  match c.pokes.find? fun p => p.1 == o with
  | some p => p.2
  | none =>
    if o < 0x3000 then Config.payloadByte c.stamp o
    else if commitOff ≤ o then c.commitWord.getD (o - commitOff) 0 else 0

/-- The payload bytes that the commit word covers. -/
def Ckpt.payloadBytes (c : Ckpt) : List Byte := (List.range (16 * c.length)).map c.byte

/-- A marked buffer whose payload verifies against `crc` (R168, R182); what the port wrote itself verifies by R163. -/
def Ckpt.verifies (c : Ckpt) : Bool :=
  decide (c.mark = 0xA5) && (c.pokes.isEmpty || decide (crc32 c.payloadBytes = c.crc))

/-- The debug port writes a byte of a buffer; in the commit word it changes the field it lies in (R161, R724). -/
def Ckpt.poke (c : Ckpt) (o : Nat) (b : Byte) : Ckpt :=
  let c := { c with pokes := (o, b) :: c.pokes.filter fun p => p.1 != o }
  let w := (List.range 16).map fun i => c.byte (commitOff + i)
  { c with batch := BitVec.ofNat 48 (numAt w 0 6), length := numAt w 6 2, crc := BitVec.ofNat 32 (numAt w 8 4),
           schema := BitVec.ofNat 16 (numAt w 12 2), writer := if byteAt w 14 % 2 = 1 then .b else .a,
           mark := w.getD 15 0 }

/-- The closing window opens: the first payload write clears the idle buffer's `mark`, and the copy of the private state
stands in it (R162, R163). -/
def Device.windowOpen (d : Device) : Device :=
  ({ d with freeCtr := d.freeCtr + 1 }).updCkpt (!d.keepers.ckptBuffer) fun c =>
    { c with mark := 0, stamp := d.freeCtr, pokes := [], payload := d.priv }

/-- The commit word that the Innkeeper of keeper `k` writes; how long its payload is the image decides (R161, R164). -/
def Device.ownCommit (d : Device) (k : Sys2Proof.Keeper) : Sys2Proof.CommitTry :=
  let n := 1 + Config.freeNat d.freeCtr % 768
  { batch := d.batch.number, writer := k, length := n, written := 16 * n, ordered := true }

/-- Hardware accepts a commit word written before the deadline (R164). -/
def Device.commitOk (d : Device) (k : Sys2Proof.Keeper) (w : Sys2Proof.CommitTry) : Bool :=
  decide (w.batch = d.batch.number) && decide (w.writer = k) && decide (16 * w.length = w.written) && w.ordered

/-- An accepted commit (R164): the checkpoint stands, the heartbeat cause clears (R175), the standby of REST is off (R172),
and argument blocks are released (R321). -/
def Device.accept (d : Device) (k : Sys2Proof.Keeper) (w : Sys2Proof.CommitTry) : Device :=
  let which := !d.keepers.ckptBuffer
  let schema : Half := match d.runHeader k with | some h => BitVec.ofNat 16 (imgSchema h) | none => 0
  let d := d.updCkpt which fun c =>
    let c := { c with length := w.length }
    { c with mark := 0xA5, batch := w.batch, crc := crc32 c.payloadBytes, schema := schema, writer := w.writer }
  let d := d.updKeepers fun x => { x with ckptBatch := d.batch.number, ckptBuffer := which, heartbeat := false }
  let d := d.updSup fun s => { s with committed := true, missed := 0 }
  let d := d.updKeeper (otherKeeper k) fun x => { x with powered := x.powered && !(d.batch.rest && x.role.able) }
  d.releaseBlocks

/-- The active keeper writes a commit word in its window: accepted, or a checkpoint-order fault that leaves the buffer
invalidated (R164). -/
def Device.commitWith (d : Device) (w : Sys2Proof.CommitTry) : Device :=
  match d.activeKeeper with
  | none => d
  | some k => if d.commitOk k w then d.accept k w else d.raise (coded 2 4 (b2n (!d.keepers.ckptBuffer)))

/-- The active keeper commits its private state in the current Batch. -/
def Device.commit (d : Device) : Device :=
  match d.activeKeeper with
  | none => d
  | some k => ({ d with freeCtr := d.freeCtr + 1 }).commitWith (d.ownCommit k)

/-- A write by keeper `k` to a shadow target, the request table RAM or mirror RAM: without access it is discarded and reported
(R160). -/
def Device.writeAs (d : Device) (k : Sys2Proof.Keeper) (f : Device → Device) : Device :=
  if d.activeKeeper = some k then f d else d.raise (coded 2 5 (keeperCode k))

/-! ### The hot copy (R166 to R168) -/

/-- Keeper `k`'s hot copy holds the latest accepted checkpoint (R167). -/
def Device.hotCurrent (d : Device) (k : Sys2Proof.Keeper) : Bool :=
  (d.ckpt d.keepers.ckptBuffer).verifies && decide ((d.keeper k).hot = some (d.ckpt d.keepers.ckptBuffer).batch)

/-- Keeper `k` reads the latest committed buffer: it takes a payload that verifies, with which a restarted keeper becomes
STANDBY_HOT and a CLOSE that waits for it completes, and discards and reports one that does not (R157, R166, R168, R227). -/
def Device.hotRead (d : Device) (k : Sys2Proof.Keeper) : Device :=
  let c := d.ckpt d.keepers.ckptBuffer
  if c.verifies then
    let d := d.updKeeper k fun s => { s with hot := some c.batch }
    if (d.keeper k).offUse = .absorbing then
      (d.updKeeper k fun s => { s with role := .standbyHot, offUse := .nothing }).closeOver k 0
    else d
  else (d.updKeeper k fun s => { s with hot := none }).raise (coded 2 6 (keeperCode k))

/-- The standby reads in this Batch the buffer committed in the former one, where it runs and is not halted (R166). -/
def Device.hotCopy (d : Device) (committed : Bool) : Device :=
  match d.standby with
  | some k =>
    let s := d.keeper k
    let reads := s.powered && !s.halted && committed &&
      ((decide (s.role = .standbyHot) && !d.batch.rest) || decide (s.offUse = .absorbing))
    d.when reads (·.hotRead k)
  | none => d

/-- A keeper whose image has been accepted, or whose self-test has passed, enters its standby role (R157, R191, R219, R220):
STANDBY_COLD at once, STANDBY_HOT with its first hot copy, for which it waits where no committed buffer verifies. -/
def Device.enterStandby (d : Device) (k : Sys2Proof.Keeper) : Device :=
  let d := (d.updKeeper k fun s => { s with offUse := .absorbing, powered := true }).wdEnter k
  let cold := d.coldPair
  let d := d.updKeepers fun x => { x with cold := cold }
  if cold then (d.updKeeper k fun s => { s with role := .standbyCold, offUse := .nothing }).closeOver k 0
  else d.when (decide ((d.ckpt d.keepers.ckptBuffer).mark = 0xA5)) (·.hotRead k)

/-- The checkpoint that a keeper with a schema adopts (R182 step 1). -/
def Device.ckptChoice (d : Device) (schema : Nat) : Option Ckpt :=
  let ok := fun (c : Ckpt) => c.verifies && schemaOk c.schema.toNat schema
  if ok d.ckpt0 then (if ok d.ckpt1 && decide (d.ckpt0.batch < d.ckpt1.batch) then some d.ckpt1 else some d.ckpt0)
  else if ok d.ckpt1 then some d.ckpt1 else none

/-- The private state that an image of schema `own` makes of a checkpoint's payload (R218): a field that a checkpoint of a lower
minor version lacks takes its cold value. -/
def Ckpt.restored (c : Ckpt) (own : Nat) : Priv :=
  let p := c.payload
  let z := Priv.reset
  let lacks := fun (i : Nat) => decide (c.schema.toNat < own) && Config.schemaLacks own c.schema.toNat i
  let pick := fun {α : Type} (i : Nat) (a b : α) => if lacks i then b else a
  { votes := pick 0 p.votes z.votes, floors := pick 1 p.floors z.floors, scheds := pick 2 p.scheds z.scheds,
    seqRun := pick 3 p.seqRun z.seqRun, oldBase := pick 4 p.oldBase z.oldBase, lodge := pick 5 p.lodge z.lodge,
    restart := pick 6 p.restart z.restart, shipArmed := pick 7 p.shipArmed z.shipArmed,
    chgSets := pick 8 p.chgSets z.chgSets, dcLimits := pick 9 p.dcLimits z.dcLimits,
    kinSets := pick 10 p.kinSets z.kinSets, kinUsers := pick 11 p.kinUsers z.kinUsers, pvSet := pick 12 p.pvSet z.pvSet,
    adcHolds := pick 13 p.adcHolds z.adcHolds, gauge := pick 14 p.gauge z.gauge, larder := pick 15 p.larder z.larder,
    gwds := pick 16 p.gwds z.gwds }

/-! ### The arbiter (R173 to R181) -/

/-- What the arbiter decides at an edge. -/
inductive ArbOut where
  | grant (kind : SwapKind)
  /-- Row 2: no standby able to take over; true when a TAKEOVER was raised. -/
  | noStandby (takeover : Bool)
  /-- Row 3. -/
  | holdOff
  /-- Row 4. -/
  | contended
  | nothing
  deriving DecidableEq, Repr

/-- HANDOVER is eligible at an edge (R174). -/
def Device.handoverOk (d : Device) : Bool := d.keepers.handover.isSome && d.sup.committed

/-- The decision of R177 at the edge that begins Batch `n`. -/
def Device.arbitrate (d : Device) (n : Nat) : ArbOut :=
  let k := d.keepers
  let any := k.hwTakeover || !k.commanded.isEmpty || d.handoverOk || k.heartbeat ||
    d.reqs.recs.any fun r => r.opcode == 0x900 && r.st == .waiting && decide (r.wait.length = 1)
  if k.hwTakeover && d.standbyAble then .grant .hwTakeover
  else if any && !d.standbyAble then .noStandby (k.hwTakeover || k.heartbeat)
  else if (!k.commanded.isEmpty || d.handoverOk || k.heartbeat) && decide (n < k.holdoffEnd) then .holdOff
  else if decide (2 ≤ k.commanded.length) then .contended
  else if decide (k.commanded.length = 1) then .grant .commanded
  else if d.handoverOk then .grant .handover
  else if k.heartbeat then .grant .heartbeat
  else .nothing

/-- The codes of `KEEPER.LAST_SWAP.kind` (R197). -/
def SwapKind.code : SwapKind → Nat
  | .hwTakeover => 1 | .commanded => 2 | .handover => 3 | .heartbeat => 4

/-- What a `KEEPER_SWAP` record that waits for the arbiter is to complete with: kept after the named keeper (R177, R200). -/
def swapStatus (out : ArbOut) (toStandby : Bool) : Nat :=
  match out with
  | .grant .hwTakeover => if toStandby then stOk else stSwapContended
  | .grant .commanded => stOk
  | .grant _ => stOk
  | .noStandby _ => stFault
  | .holdOff => stBusy
  | .contended => stSwapContended
  | .nothing => stOk

/-- Notes the arbiter's answer in every waiting `KEEPER_SWAP` record. -/
def Device.swapNote (d : Device) (out : ArbOut) (active : Option Sys2Proof.Keeper) (n : Nat) : Device :=
  d.updReqs fun q => { q with recs := q.recs.map fun r =>
    if r.opcode = 0x900 ∧ r.st = .waiting ∧ r.wait.length = 1 then
      { r with wait := [r.wait.getD 0 0,
                        swapStatus out (match active with | some x => decide (keeperOf (r.wait.getD 0 0) ≠ x) | none => true), n] }
    else r }

/-- Completes the `KEEPER_SWAP` records that the arbiter has answered, in a working Batch (R200, R763). -/
def Device.swapAnswers (d : Device) : Device :=
  d.each d.reqs.recs fun r d =>
    d.when (r.opcode == 0x900 && r.st == .waiting && decide (r.wait.length = 3)) fun d =>
      d.complete r.id (r.wait.getD 1 0)
        (if r.wait.getD 1 0 = stOk then
          leBytes 6 (r.wait.getD 2 0) ++ leBytes 1 (match d.activeKeeper with | some k => keeperCode k | none => 0)
         else [])

/-- A swap is granted at the edge that begins Batch `n` (R178, R180, R181): roles, the length of the takeover bubble,
counters, and the old keeper's fate. `offBefore` says that the new keeper was off at the start of the Batch that ends. A keeper
that gives up the ACTIVE role while hot mirroring is forbidden between the two images becomes STANDBY_COLD (DESIGN CHOICE, log
entry 105; the transition table names STANDBY_HOT alone). -/
def Device.grantSwap (d : Device) (kind : SwapKind) (n : Nat) (offBefore : Bool) : Device :=
  match d.activeKeeper with
  | none => d
  | some old =>
    let new := otherKeeper old
    let schema := match d.runHeader new with | some h => imgSchema h | none => 0
    let cold := decide ((d.keeper new).role = .standbyCold) || (d.ckptChoice schema).isNone
    let open_ := d.reqs.recs.any fun r => match r.intent with | .open _ => true | _ => false
    let two := open_ || offBefore || cold
    let selfTest := decide (d.keepers.handover = some true)
    let d := d.updKeeper new fun s => { s with role := .active, powered := true, hot := none }
    let d := match kind with
      | .hwTakeover => (d.updKeeper old fun s => { s with halted := false }).failAway old
      | .heartbeat => ((d.updKeeper old fun s => { s with halted := false }).failRecord old 3).failAway old
      | .commanded => d.updKeeper old fun s => { s with role := .standbyHot, hot := none }
      | .handover =>
        if selfTest then
          ((d.updKeeper old fun s => { s with role := .offline, offUse := .selfTest, hot := none }).wdRom
            old).updKeepers fun x => { x with selfTestStart := d.now, selfTestWanted := false,
                                              selfTestDue := d.now + 3600000000 * d.fn Fld.kprSelftest }
        else d.updKeeper old fun s => { s with role := .standbyHot, hot := none }
    let d := d.coldFix
    let d := d.updKeeper old fun s => if d.keepers.cold ∧ s.role = .standbyHot then { s with role := .standbyCold } else s
    let d := d.updKeepers fun x => { x with
      activeKeeper := new, busy := true, swapSeq := sat 65535 (x.swapSeq + 1), hwTakeover := false, heartbeat := false,
      lastSwap := { grantBatch := BitVec.ofNat 48 n, kind := some kind, cold := cold, bubbles := if two then 2 else 1,
                    newActive := new },
      holdoffEnd := if kind = .hwTakeover then x.holdoffEnd else n + 64 }
    let d := d.updSup fun s => { s with workDone := false, missed := 0, takeoverLeft := if two then 2 else 1,
                                        stage := .takeover, haltCut := false }
    let d := d.raise (coded 2 10 (256 * kind.code + keeperCode new))
    d.when cold (·.raise (coded 2 11 (keeperCode new)))

/-! ### Registers (R197) -/

/-- `KEEPER.ROLES`. -/
def Device.regRoles (d : Device) : Nat :=
  let k := d.keepers
  k.a.role.code + 8 * k.b.role.code + 64 * keeperCode k.activeKeeper + 128 * b2n k.busy + 256 * b2n k.cold +
    65536 * k.swapSeq

/-- `KEEPER.FAILS`. -/
def Device.regFails (d : Device) : Nat :=
  d.failCount .a + 4 * d.failCount .b + 16 * b2n (decide (d.keepers.a.role = .quarantined)) +
    32 * b2n (decide (d.keepers.b.role = .quarantined)) + 64 * sat 2 d.sup.missed

/-- `KEEPER.LAST_SWAP`. -/
def Device.regLastSwap (d : Device) : Nat :=
  let l := d.keepers.lastSwap
  l.grantBatch.toNat + 2 ^ 48 * ((match l.kind with | some k => k.code | none => 0) + 8 * b2n l.cold + 16 * l.bubbles +
    64 * keeperCode l.newActive)

/-- `KEEPER.CKPT`. -/
def Device.regCkpt (d : Device) : Nat := d.keepers.ckptBatch.toNat + 2 ^ 48 * b2n d.keepers.ckptBuffer

/-! ### Commands (R200 to R202) -/

/-- `KEEPER_SWAP` (R200). -/
def cmdKeeperSwap : Cmd :=
  { op := 0x900, cls := .deviceChange, len := 1, safe := .owner, argsOk := fun _ _ a => decide (byteAt a 0 ≤ 1),
    run := fun d id a =>
      let k := keeperOf (byteAt a 0)
      if d.activeKeeper = some k then
        if d.keepers.hwTakeover then (d, .wait [byteAt a 0])
        else (d, ok (leBytes 6 d.keepers.lastSwap.grantBatch.toNat ++ leBytes 1 (keeperCode k)))
      else (d.updKeepers fun x => { x with
              commanded := if x.commanded.contains id.room then x.commanded else x.commanded ++ [id.room] },
            .wait [byteAt a 0]) }

/-- `KEEPER_QUERY` (R201). -/
def cmdKeeperQuery : Cmd :=
  { op := 0x901, cls := .read, len := 0, safe := .all, argsOk := fun _ _ _ => true,
    run := fun d _ _ =>
      (d, ok (leBytes 2 (d.regRoles % 65536) ++ leBytes 1 (d.regFails % 256) ++
        leBytes 1 (d.regLastSwap / 2 ^ 48 % 128) ++ leBytes 4 d.keepers.ckptBatch.toNat)) }

/-- `KEEPER_REVIVE` (R202): the keeper is OFFLINE with its failure history cleared, and its restart begins. -/
def cmdKeeperRevive : Cmd :=
  { op := 0x902, cls := .deviceChange, len := 1, safe := .owner, once := fun _ => true,
    argsOk := fun d _ a => decide (byteAt a 0 ≤ 1) && decide ((d.keeper (keeperOf (byteAt a 0))).role = .quarantined),
    run := fun d _ a =>
      let k := keeperOf (byteAt a 0)
      if (d.keeper k).role = .quarantined then ((d.updKeeper k fun s => { s with failTimes := [] }).keeperRestart k, ok)
      else (d, fails stBadArg) }

end Sys2Proof.Machine
end

