-- ==== Sys2Proof/Machine/Images.lean ====
section
/-! DEFINITION. Image stages, trials, the manifest and the `IMAGE_` commands (R206, R213 to R216, R223 to R232), and the
end of a keeper restart. -/
namespace Sys2Proof.Machine

/-! ### The manifest (R206) -/

/-- The manifest that a change starts from: the one in force, or the factory's where no copy is valid (log entry 107). -/
def ConfigNvm.base (c : ConfigNvm) : Manifest := c.manifest.getD Manifest.factory

/-- A manifest with the next `seq`. -/
def ConfigNvm.nextSeq (c : ConfigNvm) (m : Manifest) : Manifest :=
  { m with seq := match c.manifest with | some x => x.seq + 1 | none => 1 }

/-- Writes a manifest copy over the copy that is not in force (R206). -/
def Device.writeCopy (d : Device) (b : List Byte) : Device :=
  { d with cfg := if d.cfg.second || d.cfg.manifest.isNone then { d.cfg with manifest0 := b } else { d.cfg with manifest1 := b } }

/-- Writes a manifest with the next `seq`. -/
def Device.writeManifest (d : Device) (m : Manifest) : Device := d.writeCopy (d.cfg.nextSeq m).bytes

/-- A manifest with the slots of one keeper exchanged: fallback becomes primary (R222, R229). -/
def Manifest.swapSlots (m : Manifest) (k : Sys2Proof.Keeper) : Manifest :=
  match k with
  | .a => { m with aPrimary := m.aFallback, aFallback := m.aPrimary }
  | .b => { m with bPrimary := m.bFallback, bFallback := m.bPrimary }

/-! ### Staged bytes (R224, R225) -/

/-- The fallback slot of a keeper. -/
def Device.fallback (d : Device) (k : Sys2Proof.Keeper) : Nat := (d.cfg.base.slots k).2

/-- A DATA record of `IMAGE_STAGE` or `RECIPE_WRITE` that waits to be programmed: offset and bytes. -/
def Rec.staged (r : Rec) : Nat × List Byte :=
  let a := r.args.getD []
  (numAt a 4 4, slice a 8 (byteAt a 2))

/-- The records of an opcode whose bytes wait to be programmed, in the order taken: kept number 0 counts the bytes done. -/
def Device.stagedRecs (d : Device) (op : Nat) : List Rec :=
  d.reqs.recs.filter fun r => r.opcode == op && r.st == .waiting && byteAt (r.args.getD []) 0 == 2 && !r.wait.isEmpty

/-- The word at an offset, as written or as a waiting record other than `id`'s will write it. -/
def Device.stagedWord (d : Device) (op base : Nat) (written : List Nat) (id : ReqId) (off : Nat) : Option (List Byte) :=
  if written.contains off then some (d.nvmRead (base + off) 4)
  else ((d.stagedRecs op).find? fun r => r.id != id && decide (r.staged.1 ≤ off) &&
    decide (off < r.staged.1 + r.staged.2.length)).map fun r => slice r.staged.2 (off - r.staged.1) 4

/-- What a DATA request meets in its range: words already written with the same bytes, or a conflict (R225). -/
def Device.stagedRange (d : Device) (op base : Nat) (written : List Nat) (id : ReqId) (off : Nat) (l : List Byte) : Bool × Bool :=
  let words := (List.range (l.length / 4)).map fun i =>
    (d.stagedWord op base written id (off + 4 * i)).map fun w => decide (w = slice l (4 * i) 4)
  (words.any fun x => x == some false, words.all fun x => x == some true)

/-- Programs up to `left` bytes of the waiting DATA records of an opcode, completing those that end (R225). `note` marks
words written. -/
def Device.program (d : Device) (op base : Nat) (note : Nat → Device → Device) : Device :=
  ((d.stagedRecs op).foldl (fun (acc : Device × Nat) r =>
    if acc.2 = 0 then acc
    else
      let done := r.wait.getD 0 0
      let n := min acc.2 (r.staged.2.length - done)
      let d := acc.1.nvmWrite (base + r.staged.1 + done) (slice r.staged.2 done n)
      let d := d.each (List.range (n / 4)) fun i d => note (r.staged.1 + done + 4 * i) d
      let d := if done + n = r.staged.2.length then d.complete r.id stOk [] else d.updRec r.id fun x => { x with wait := [done + n] }
      (d, acc.2 - n)) (d, 256)).1

/-- Programs staged image bytes of one Batch (R225). -/
def Device.imageProgram (d : Device) : Device :=
  match d.images.stage with
  | none => d
  | some s =>
    d.program 0x910 (slotBase s.slot) fun off d =>
      d.updImages fun i => { i with stage := i.stage.map fun x => { x with written := x.written ++ [off] } }

/-! ### OPEN, CLOSE and their ends (R224, R226, R227, R230) -/

/-- The DATA requests of an opcode that still wait have no stage or write left to go to: they complete as a DATA request with none
open does (log entry 108). -/
def Device.dataDrop (d : Device) (op : Nat) : Device := d.each (d.stagedRecs op) fun r d => d.complete r.id stBadArg []

/-- The erase of the fallback slot ends, and OPEN completes (R224). -/
def Device.imageErased (d : Device) : Device :=
  match d.images.erasing with
  | none => d
  | some s =>
    let d := d.updImages fun i => { i with erasing := none, stage := some { s with lastUse := d.now } }
    match d.waitingPhase 0x910 101 with
    | some r => d.complete r.id stOk []
    | none => d

/-- A stage with no request for 60 s is abandoned (R226). -/
def Device.stageAbandon (d : Device) : Device :=
  match d.images.stage with
  | none => d
  | some s =>
    if s.lastUse + 60000000 ≤ d.now then
      ((d.updImages fun i => { i with stage := none }).raise (coded 3 4 (keeperCode s.keeper))).dataDrop 0x910
    else d

/-- The trial slot that a CLOSE waits for keeper `k` to run (R227). -/
def Images.closing (i : Images) (k : Sys2Proof.Keeper) : Option Nat :=
  match i.closeWait with
  | some (x, slot) => if x = k then some slot else none
  | none => none

/-- Where a CLOSE waits and the keeper does not run its trial slot, the verdict that it reports: that of this restart where the
trial was still armed (R227). -/
def Device.trialFailed (d : Device) (k : Sys2Proof.Keeper) (tried : Bool) (runs : Option Nat) : Option Nat :=
  match d.images.closing k with
  | some slot => if runs = some slot then none else some (if tried then (d.images.verdicts.toList.getD slot none).getD noVerdict else noVerdict)
  | none => none

/-- A keeper restart ends (R191, R213, R214, R227): image verification, then the standby role. A guest that holds the digest
engine keeps it waiting. -/
def Device.restartEnd (d : Device) (k : Sys2Proof.Keeper) : Device :=
  if (d.keeper k).offUse = .restarting ∧ d.engineIdle then
    let tried := d.images.trial k
    let (s, d) := d.bootSlots k (d.bootOrder k true)
    let d := match s with
      | some n => ((d.loadImage k n).updKeeper k fun x => { x with romOk := true }).enterStandby k
      | none => (d.updKeeper k fun x => { x with offUse := .nothing, powered := false, slot := none, image := [] }).coldFix.wdStop k
    let d := match d.trialFailed k tried s with
      | some v => d.closeOver k v
      | none => d
    (d.abortOver k).digDone
  else d

/-- A trial is armed and run by a keeper (R229). -/
def Device.runsTrial (d : Device) (k : Sys2Proof.Keeper) : Bool :=
  d.images.trial k && decide ((d.keeper k).slot = some (d.fallback k))

/-! ### Commands (R223 to R232) -/

/-- The arguments of `IMAGE_STAGE` (R223). -/
def imageStageOk (a : List Byte) : Bool :=
  decide (byteAt a 1 ≤ 1) &&
  match byteAt a 0 with
  | 1 => let t := numAt a 4 4
         zeroAt a 2 2 && decide (324 ≤ t) && decide (t ≤ 74048)
  | 2 => let n := byteAt a 2
         decide (4 ≤ n) && decide (n ≤ 48) && decide (n % 4 = 0) && decide (byteAt a 3 = 0) && decide (numAt a 4 4 % 4 = 0)
  | 3 => zeroAt a 2 6
  | _ => false

/-- OPEN (R224): in ROM Safe Hold no keeper is ACTIVE. -/
def Device.imageOpen (d : Device) (k : Sys2Proof.Keeper) (total : Nat) : Device × Answer :=
  let s := d.keeper k
  let slot := d.fallback k
  if d.images.stage.isSome ∨ d.images.erasing.isSome ∨ s.role = .active ∨ s.role = .quarantined ∨ s.slot = some slot then
    (d, fails stBusy)
  else
    ((d.nvmErase (slotBase slot) 0x30000).updImages fun i =>
      { i with erasing := some { keeper := k, slot := slot, total := total, written := [], lastUse := d.now } },
     .wait [101] (.open true))

/-- DATA (R225). One with no stage open, or that names another keeper than the stage's, is `BAD_ARG` (DESIGN CHOICE, log entry
108: the spec states no status). -/
def Device.imageData (d : Device) (id : ReqId) (k : Sys2Proof.Keeper) (off : Nat) (l : List Byte) : Device × Answer :=
  match d.images.stage with
  | none => (d, fails stBadArg)
  | some s =>
    if s.keeper ≠ k then (d, fails stBadArg)
    else
      let d := d.updImages fun i => { i with stage := some { s with lastUse := d.now } }
      let m := d.stagedRange 0x910 (slotBase s.slot) s.written id off l
      if s.total < off + l.length ∨ m.1 then (d, fails stBadArg)
      else if m.2 then (d, ok)
      else (d, .wait [0])

/-- CLOSE (R222, R227). One with no stage open, or that names another keeper than the stage's, is `BAD_ARG`, and one whose
keeper has become ACTIVE or QUARANTINED since OPEN is `BUSY`, as OPEN would be (DESIGN CHOICE, log entry 108: the spec states no
status). -/
def Device.imageClose (d : Device) (k : Sys2Proof.Keeper) : Device × Answer :=
  match d.images.stage with
  | none => (d, fails stBadArg)
  | some s =>
    if s.keeper ≠ k then (d, fails stBadArg)
    else
      let d := d.updImages fun i => { i with stage := some { s with lastUse := d.now } }
      let whole := (List.range ((s.total + 3) / 4)).all fun i => s.written.contains (4 * i)
      if whole = false ∨ s.total ≠ 256 + imgBody (d.slotHeader s.slot) + 64 then (d, fails stBadArg)
      else if d.romHold then
        let v := d.imgVerdict s.slot
        let d := (d.recordVerdict s.slot v).updImages fun i => { i with stage := none }
        let d := d.when (decide (v = 0)) (·.writeManifest (d.cfg.base.swapSlots k))
        (d, .done (if v = 0 then stOk else stFault) (d.closeResult k s.slot v))
      else if (d.keeper k).role = .active ∨ (d.keeper k).role = .quarantined ∨ d.images.closeWait.isSome then (d, fails stBusy)
      else
        let d := d.updImages fun i => { i.setTrial k true with closeWait := some (k, s.slot) }
        (d.keeperRestart k, .wait [103] (.open true))

/-- `IMAGE_STAGE` (R223 to R227). -/
def cmdImageStage : Cmd :=
  { op := 0x910, cls := .deviceChange, len := 8,
    exact := fun a => if byteAt a 0 = 2 then some (8 + byteAt a 2) else none,
    safe := .owner, once := fun a => byteAt a 0 != 2, argsOk := fun _ _ a => imageStageOk a,
    run := fun d id a =>
      let k := keeperOf (byteAt a 1)
      match byteAt a 0 with
      | 1 => d.imageOpen k (numAt a 4 4)
      | 2 => d.imageData id k (numAt a 4 4) (slice a 8 (byteAt a 2))
      | _ => d.imageClose k }

/-- The manifest that COMMIT writes over `m` (R229). -/
def Device.commitManifest (d : Device) (m : Manifest) (raiseFloor : Bool) : Manifest :=
  let m := if d.runsTrial .a then m.swapSlots .a else m
  let m := if d.runsTrial .b then m.swapSlots .b else m
  let low := min (imgSec (d.slotHeader m.aPrimary.val)) (imgSec (d.slotHeader m.bPrimary.val))
  if raiseFloor then { m with floor := BitVec.ofNat 16 (max low m.floor.toNat) } else m

/-- The copy named by a COMMIT is in force: the request completes, with the trials disarmed (R229, R231). -/
def Device.commitDone (d : Device) (id : ReqId) : Device :=
  let seq := match d.cfg.manifest with | some x => x.seq.toNat | none => 0
  let d := (d.updImages fun i => { i with trialA := false, trialB := false, commit := none }).raise (coded 3 5 (seq % 65536))
  d.complete id stOk (leBytes 4 seq ++ leBytes 2 d.imgFloor)

/-- The manifest copy of a COMMIT is written, and the COMMIT completes (R229). -/
def Device.commitWrite (d : Device) : Device :=
  match d.images.commit with
  | some (b, id) => (d.writeCopy b).commitDone id
  | none => d

/-- A takeover meets an open COMMIT (R231): it completes when the copy it names, by its `seq`, is valid and in force; otherwise
the copy is not written and the trials stay as they stood. -/
def Device.commitResolve (d : Device) (id : ReqId) (seq : Nat) : Device :=
  match d.cfg.manifest with
  | some m =>
    if m.seq.toNat = seq then d.commitDone id
    else (d.updImages fun i => { i with commit := none }).complete id stRolledBack []
  | none => (d.updImages fun i => { i with commit := none }).complete id stRolledBack []

/-- COMMIT (R229): its manifest copy is written later in step 4 of the Batch, and its intent stays open until then. -/
def Device.imageCommit (d : Device) (id : ReqId) (raiseFloor : Bool) : Device × Answer :=
  let d := d.commitWrite
  match d.cfg.manifest with
  | none => (d, fails stBadArg)
  | some m =>
    if !(d.runsTrial .a || d.runsTrial .b) then (d, fails stBadArg)
    else
      let m := d.cfg.nextSeq (d.commitManifest m raiseFloor)
      (d.updImages fun i => { i with commit := some (m.bytes, id) }, .wait [1, m.seq.toNat] (.open false))

/-- ABORT (R230): a COMMIT executed before it is written first. -/
def Device.imageAbort (d : Device) : Device × Answer :=
  let d := d.commitWrite
  match d.activeKeeper with
  | none => (d, ok)
  | some k =>
    if d.runsTrial k then (d, fails stBusy)
    else
      let s := otherKeeper k
      let restart := d.runsTrial s
      let d := (d.updImages fun i => { i with stage := none, trialA := false, trialB := false }).dataDrop 0x910
      if restart then
        ((d.updImages fun i => { i with abortWait := some s }).keeperRestart s, .wait [2] (.open true))
      else (d, ok)

/-- `IMAGE_COMMIT` (R228 to R230). -/
def cmdImageCommit : Cmd :=
  { op := 0x911, cls := .deviceChange, len := 2, safe := .owner, once := fun _ => true,
    argsOk := fun _ _ a => (decide (byteAt a 0 = 1) && decide (byteAt a 1 ≤ 1)) ||
      (decide (byteAt a 0 = 2) && decide (byteAt a 1 = 0)),
    run := fun d id a => if byteAt a 0 = 1 then d.imageCommit id (byteAt a 1 == 1) else d.imageAbort }

/-- The use bits of a slot (R232). -/
def Device.slotUse (d : Device) (s : Nat) : Nat :=
  match d.cfg.manifest with
  | none => 0
  | some m =>
    b2n (m.aPrimary.val == s) + 2 * b2n (m.aFallback.val == s) + 4 * b2n (m.bPrimary.val == s) +
      8 * b2n (m.bFallback.val == s) +
      16 * b2n ((d.images.trialA && m.aFallback.val == s) || (d.images.trialB && m.bFallback.val == s)) +
      32 * b2n (d.keepers.a.runs == some s) + 64 * b2n (d.keepers.b.runs == some s)

/-- A slot record (R232). The version reads 0 where no well-formed header stands; of an absent header the spec states none of the
other fields, and they are free values (log entry 100). -/
def Device.slotRecord (d : Device) (s : Nat) : List Byte :=
  let h := d.slotHeader s
  let v := (d.images.verdicts.toList.getD s none).getD 0xFF
  let x := fun (i n : Nat) => if imgMagic h then n else Config.freeNat (d.freeCtr + 8 * s + i)
  leBytes 4 (if imgMagic h && imgFormed h then imgVersion h else 0) ++ leBytes 2 (x 0 (imgSchema h)) ++
    leBytes 2 (x 1 (imgSmpMin h)) ++ leBytes 2 (x 2 (imgSmpMax h)) ++ leBytes 2 (x 3 (imgSec h)) ++
    leBytes 1 v ++ leBytes 1 (x 4 (byteAt h 0x12)) ++ leBytes 1 (d.slotUse s) ++ [0]

/-- `IMAGE_QUERY` (R232). -/
def cmdImageQuery : Cmd :=
  { op := 0x912, cls := .read, len := 0, safe := .all, argsOk := fun _ _ _ => true,
    run := fun d id _ =>
      let seq := match d.cfg.manifest with | some m => m.seq.toNat | none => 0
      ((d.buffer id.room 0 ((List.range 4).flatMap d.slotRecord)).freeSkip 32,
       ok (leBytes 1 (d.keepers.a.runs.getD 0xFF) ++ leBytes 1 (d.keepers.b.runs.getD 0xFF) ++ leBytes 2 d.imgFloor ++
         leBytes 4 seq)) }

end Sys2Proof.Machine
end

