-- ==== Sys2Proof/Machine/RecipeVerify.lean ====
section
/-! DEFINITION. Verification of a Recipe slot (R733 to R742): layout, tag, field ranges and the rules between fields. -/
namespace Sys2Proof.Machine

/-! ### Header and directory (R734, R735, R739) -/

/-- The check that `n` bytes from `o` are 0, at the first that is not. -/
def zeroCheck (b : List Byte) (o n : Nat) : Nat × Bool :=
  match (slice b o n).findIdx? (· ≠ 0) with
  | some k => (o + k, false)
  | none => (o, true)

/-- Fields of the header that must hold a fixed or bounded value: offset and whether it holds (R734). -/
def rcpHeaderChecks (slot : Nat) (b : List Byte) : List (Nat × Bool) :=
  let total := numAt b 8 4
  [(4, numAt b 4 2 == 1), (6, numAt b 6 2 == 0x40),
   (8, decide (0xB8 ≤ total) && decide (total ≤ 0x1FE0) && decide (total % 8 = 0)),
   (12, byteAt b 12 == slot), (13, byteAt b 13 == 15), zeroCheck b 14 2, zeroCheck b 20 44]

/-- Identifier, reserved bytes, offset and length of directory entry `i`. -/
def rcpEntry (b : List Byte) (i : Nat) : Nat × Nat × Nat × Nat :=
  let o := 0x40 + 8 * i
  (numAt b o 2, numAt b (o + 2) 2, numAt b (o + 4) 2, numAt b (o + 6) 2)

/-- The directory's checks, entry by entry and field by field (R735, R739). -/
def rcpDirChecks (b : List Byte) : List (Nat × Bool) :=
  let total := numAt b 8 4
  (List.range 15).flatMap fun i =>
    let e := rcpEntry b i
    let o := 0x40 + 8 * i
    let prevEnd := if i = 0 then 0xB8 else (rcpEntry b (i - 1)).2.2.1 + (rcpEntry b (i - 1)).2.2.2
    [(o, decide (e.1 = i + 1)), zeroCheck b (o + 2) 2, (o + 4, decide (e.2.2.1 % 8 = 0) && decide (prevEnd ≤ e.2.2.1)),
     (o + 6, decide (e.2.2.1 + e.2.2.2 ≤ total) && decide (e.2.2.2 = sectionLen (sectionFields.getD i [])))]

/-- Bytes outside every section that are not 0 (R735): the gap before each section, and behind the last. -/
def rcpGapChecks (b : List Byte) : List (Nat × Bool) :=
  let total := numAt b 8 4
  (List.range 16).map fun i =>
    let from_ := if i = 0 then 0xB8 else (rcpEntry b (i - 1)).2.2.1 + (rcpEntry b (i - 1)).2.2.2
    let upto := if i = 15 then total else (rcpEntry b i).2.2.1
    zeroCheck b from_ (upto - from_)

/-- The offset of the first check that fails. -/
def firstBad (l : List (Nat × Bool)) : Option Nat := (l.find? fun x => !x.2).map (·.1)

/-! ### Fields (R736 to R738) -/

/-- The elements of a section: field, element number, offset in the slot and stored value. -/
def sectionElems (b : List Byte) (base : Nat) (fs : List FieldSpec) : List (FieldSpec × Nat × Nat × Int) :=
  let offs := (fieldOffsets fs 0).1
  (fs.zip offs).flatMap fun p => (List.range p.1.count).map fun i =>
    let o := base + p.2 + i * p.1.width
    let v := numAt b o p.1.width
    (p.1, i, o, if p.1.signed then toSigned p.1.width v else (v : Int))

/-- The values of every section in order. -/
def rcpValues (b : List Byte) : List (List Int) :=
  (List.range 15).map fun i => (sectionElems b (rcpEntry b i).2.2.1 (sectionFields.getD i [])).map (·.2.2.2)

/-- The Recipe that a slot's bytes spell. -/
def decodeRecipe (b : List Byte) : Recipe :=
  { number := byteAt b 12, version := BitVec.ofNat 32 (numAt b 16 4), sections := rcpValues b }

/-- Check 5 on one section: every element in its range, and padding 0 as the encoding of the values shows it. -/
def sectionBad (b : List Byte) (i : Nat) : Option Nat :=
  let fs := sectionFields.getD i []
  let e := rcpEntry b i
  let el := sectionElems b e.2.2.1 fs
  let range := (el.find? fun x => !(x.1.ok x.2.1 x.2.2.2)).map (·.2.2.1)
  let again := encodeSection fs (el.map (·.2.2.2))
  let pad := ((List.range e.2.2.2).find? fun k => decide (again.getD k 0 ≠ b.getD (e.2.2.1 + k) 0)).map (e.2.2.1 + ·)
  match range, pad with
  | some x, some y => some (min x y)
  | some x, none => some x
  | none, y => y

/-- The first step behind an END that is not 0, in the SEQ section (R738). -/
def stepsBad (b : List Byte) : Option Nat :=
  let el := (sectionElems b (rcpEntry b 4).2.2.1 (sectionFields.getD 4 [])).filter fun x => decide (x.1.count = 256)
  (el.find? fun x => decide (x.2.2.2 ≠ 0) &&
    el.any fun y => decide (y.2.1 / 32 = x.2.1 / 32) && decide (y.2.1 < x.2.1) && decide (fieldByte y.2.2.2 0 = 0)).map
    (·.2.2.1)

/-- A charge voltage lies in the range of its chemistry (R489, R516). -/
def cvOfChem (chem cv : Nat) : Bool :=
  match chem with
  | 0 => decide (cv = 4100) || decide (cv = 4200) || decide (cv = 4350)
  | 1 => decide (cv = 3600)
  | _ => decide (2700 ≤ cv) && decide (cv ≤ 2850) && decide (cv % 10 = 0)

/-- The offset of a `CHG.cv` outside the range of `CHG.chem`: bytes 1 and 3:2 of the CHG section (R489, R736). -/
def cvBad (b : List Byte) : Option Nat :=
  let base := (rcpEntry b 7).2.2.1
  if cvOfChem (byteAt b (base + 1)) (numAt b (base + 2) 2) then none else some (base + 2)

/-- Check 5: the offset of the first byte at fault in slot order (R741, R742). -/
def rcpFieldBad (b : List Byte) : Option Nat :=
  (List.range 15).findSome? fun i =>
    match sectionBad b i, (if i = 4 then stepsBad b else if i = 7 then cvBad b else none) with
    | some x, some y => some (min x y)
    | some x, none => some x
    | none, y => y

/-! ### Rules between fields (R741) -/

section
variable (r : Recipe)
/-- Element `e` of a field as a number. -/
def Recipe.num (f : FieldId) (e : Nat := 0) : Nat := (r.get f e).toNat

/-- R237, R247: an OWNER Room bound to a port, and the sum of the quotas. -/
def Recipe.ruleRooms : Bool :=
  (List.range 16).any (fun n => decide (r.num Fld.roomPriv n = 0) && decide (1 ≤ r.num Fld.roomPort n)) &&
  decide (((List.range 16).map fun n => if 1 ≤ r.num Fld.roomPort n then r.num Fld.roomQuota n else 0).sum ≤ 32768)

/-- R244, R253: keys, `BURST`, and `gwd_rails` within `rails`. -/
def Recipe.ruleAllot : Bool :=
  (List.range 16).all (fun n => decide (r.num Fld.roomKeys n % 4 = 0) &&
    decide (r.num Fld.roomGwdRails n &&& r.num Fld.roomRails n = r.num Fld.roomGwdRails n)) &&
  (List.range 8).all (fun k => decide (((List.range 16).filter fun n => bit (r.num Fld.roomKeys n) k).length ≤ 1)) &&
  decide (((List.range 16).filter fun n => bit (r.num Fld.roomFeatures n) 3).length ≤ 1)

/-- A supply field names VSYS or a present rail; LDO5 is always present (R348, R354). -/
def Recipe.supplyThere (v : Nat) : Bool :=
  decide (v = 255) || decide (v = 8) || decide (r.num Fld.railPresent v = 1)

/-- R348, R376: supplies, `vmin` at most `vmax`, non-decreasing retry delays. -/
def Recipe.ruleRails : Bool :=
  r.supplyThere (r.num Fld.railLdo12) && r.supplyThere (r.num Fld.railLdo34) &&
  (List.range 16).all fun n =>
    (decide (n < 10) || r.supplyThere (r.num Fld.railSupply n)) &&
    decide (r.num Fld.railVmin n ≤ r.num Fld.railVmax n) &&
    (List.range 3).all fun k => decide (r.num Fld.railRetryMs (4 * n + k) ≤ r.num Fld.railRetryMs (4 * n + k + 1))

/-- The highest output of a rail in mV, VSYS as 5.5 V (R364). -/
def Recipe.topMv (n : Nat) : Nat :=
  if adjustable n then r.num Fld.railVmax n
  else if n = 5 ∨ n = 8 then 1800
  else if n = 9 then r.num Fld.railVset9
  else 5500

/-- The voltage that a rail ramps to at most (R364). -/
def Recipe.rampMv (n : Nat) : Nat := if n ≥ 10 then r.topMv (r.num Fld.railSupply n) else r.topMv n

/-- R364: `proof_us` of 50 µs units against 1.5 ramp times at `slew` of 0.5 mV/µs units. -/
def Recipe.ruleProof : Bool :=
  (List.range 16).all fun n => decide (n = 8) ||
    decide (50 * r.num Fld.railProofUs n * r.num Fld.railSlew n ≥ 3 * r.rampMv n)

/-- The 32 steps of sequence `s`. -/
def Recipe.steps (s : Nat) : List Int := (List.range 32).map fun i => r.get Fld.seqSteps (32 * s + i)

/-- An ENABLE or DISABLE step may stand in a sequence (R386, R388, R404). -/
def Recipe.stepAllowed (v : Int) : Bool :=
  let op := fieldByte v 0
  let n := fieldByte v 1
  let mv := fieldByte v 4 + 256 * fieldByte v 5
  if op = 1 then
    decide (n ≠ 8) && decide (r.num Fld.railPresent n = 1) &&
      (decide (mv = 0) ||
       (if adjustable n then decide (r.num Fld.railVmin n ≤ mv) && decide (mv ≤ r.num Fld.railVmax n)
        else if n = 5 then decide (mv = 1800) else if n = 9 then decide (mv = r.num Fld.railVset9) else false))
  else if op = 2 then decide (n ≠ 8)
  else true

/-- R386, R387, R388, R404: an END within the 32 steps, nothing behind it, allowed steps before it, and `vdef`. -/
def Recipe.ruleSeq : Bool :=
  (List.range 8).all (fun s =>
    let l := r.steps s
    let act := l.takeWhile fun v => decide (fieldByte v 0 ≠ 0)
    decide (act.length < 32) && act.all r.stepAllowed) &&
  (List.range 16).all fun n => !adjustable n ||
    (decide (r.num Fld.railVmin n ≤ r.num Fld.railVdef n) && decide (r.num Fld.railVdef n ≤ r.num Fld.railVmax n))

/-- R411, R449, R516: spacing of the path's and the charger's voltages and thresholds. -/
def Recipe.rulePower : Bool :=
  let cv := r.num Fld.chgCv
  decide (20 * r.num Fld.pathVsysCeiling ≥ 20 * r.num Fld.pathVsysDc + 100) &&
    decide (20 * r.num Fld.pathVsysDc ≥ cv + 150) &&
    decide (r.num Fld.pathBatRecover ≥ r.num Fld.pathBatUv + 5) &&
    decide (r.num Fld.resVkeep ≤ r.num Fld.resVmax) &&
    decide (10 * r.num Fld.chgVPre + 200 ≤ cv) &&
    decide (r.get Fld.chgT1 + 3 ≤ r.get Fld.chgT2) && decide (r.get Fld.chgT2 + 3 ≤ r.get Fld.chgT3) &&
    decide (r.get Fld.chgT3 + 3 ≤ r.get Fld.chgT4)

/-- R550: the OCV table increases strictly. -/
def Recipe.ruleOcv : Bool := (List.range 20).all fun i => decide (r.get Fld.gaugeOcv i < r.get Fld.gaugeOcv (i + 1))

/-- R596, R597, R605, R614: the ADC groups. -/
def Recipe.ruleAdc : Bool :=
  (List.range 4).all fun g =>
    let mask := r.num Fld.adcMask g
    let other := r.num Fld.adcCmpSrc g
    (List.range 16).all (fun k => rowOk mask (BitVec.ofInt 32 (r.get Fld.adcRow (16 * g + k)))) &&
      decide (r.num Fld.adcLimRow g < r.num Fld.adcRows g) && bit mask (r.num Fld.adcLimConv g) &&
      decide (r.num Fld.adcLimLo g ≤ r.num Fld.adcLimHi g) &&
      !(decide (r.num Fld.adcTrig g = 5) && decide (r.num Fld.adcTrig other = 5) && decide (r.num Fld.adcCmpSrc other = g))

/-- R728: the appetite of the debug reservation. -/
def Recipe.ruleDbg : Bool := decide (r.num Fld.larAppSrc (r.num Fld.dbgApp) = 0)

/-- Check 6 of R741. -/
def Recipe.rules : Bool :=
  r.ruleRooms && r.ruleAllot && r.ruleRails && r.ruleProof && r.ruleSeq && r.rulePower && r.ruleOcv && r.ruleAdc &&
    r.ruleDbg
end

/-! ### The verdict (R741, R742) -/

/-- The bytes of a Recipe slot. -/
def Device.rcpBytes (d : Device) (n : Nat) : List Byte := d.nvmRead (rcpBase n) 0x2000

/-- The tag of R740 on a slot's bytes under loaded keys. -/
def rcpTag (k : SlotKeys) (b : List Byte) : List Byte := hmac k (b.take (numAt b 8 4))

/-- The verdict on a slot and the offset of R742. For a rule between fields the manual does not name one byte: a free
value (log entry 2). -/
def Device.rcpVerdict (d : Device) (n : Nat) : Nat × Nat :=
  let b := d.rcpBytes n
  if numAt b 0 4 ≠ 0x43524C56 then (1, 0)
  else match firstBad (rcpHeaderChecks n b) with
    | some o => (2, o)
    | none => match firstBad (rcpDirChecks b ++ rcpGapChecks b) with
      | some o => (2, o)
      | none => match d.keys.slots.toList.getD 0 none with
        | none => (3, 0)
        | some k =>
          if rcpTag k b ≠ slice b 0x1FE0 32 then (4, 0)
          else match rcpFieldBad b with
            | some o => (5, o)
            | none => if (decodeRecipe b).rules then (0, 0) else (6, Config.freeNat d.freeCtr % 0x2000)

/-- Verifies a slot: the verdict is kept and a failure raised (R742). -/
def Device.rcpVerify (d : Device) (n : Nat) : Nat × Device :=
  let v := d.rcpVerdict n
  let d := { d with freeCtr := d.freeCtr + 1 }
  let d := d.updRcp fun r => { r with verdicts := r.verdicts.set! n (some v) }
  (v.1, d.when (decide (v.1 ≠ 0)) (·.raise (coded 5 1 n)))

end Sys2Proof.Machine
end

