-- ==== Sys2Proof/Machine/Recipes.lean ====
section
/-! DEFINITION. Selecting and writing Recipes (R742, R749, R753 to R759) and the `RECIPE_` commands. The transition of a
switch stands with the keepers' work. -/
namespace Sys2Proof.Machine

/-! ### Selecting (R749, R753, R758) -/

/-- A LODGE or a restart is pending (R92, R772). -/
def Device.leavePending (d : Device) : Bool := d.priv.lodge.isSome || d.priv.restart.isSome

/-- `RECIPE_SELECT` is BUSY (R758). -/
def Device.selectBusy (d : Device) : Bool :=
  d.rcp.switch.isSome || d.rcp.write.isSome || d.rcp.erasing.isSome || d.images.stage.isSome || d.images.erasing.isSome ||
    d.priv.seqRun.isSome || d.leavePending

/-- The result of `RECIPE_SELECT` (R758). -/
def selectResult (verdict slot batch : Nat) : List Byte := leBytes 1 verdict ++ leBytes 1 slot ++ leBytes 6 batch

/-- Verification with the engine at hand, and the switch scheduled for the next Batch (R749): the record keeps 3 while it
waits for the switch. -/
def Device.selectRun (d : Device) (id : ReqId) (slot : Nat) : Device × Answer :=
  let (v, d) := d.rcpVerify slot
  if v ≠ 0 then (d, .done stFault (leBytes 1 v))
  else
    (d.updRcp fun r => { r with switch := some { recipe := decodeRecipe (d.rcpBytes slot),
                                                 batch := d.batch.number.toNat + 1, req := id, now := false,
                                                 passed := false } },
     .wait [3] (.open false))

/-- Applies an answer to a record that waited for the engine. -/
def Device.answerRec (d : Device) (id : ReqId) (x : Device × Answer) : Device :=
  match x.2 with
  | .done st res slid dup => x.1.complete id st res slid dup
  | .wait keep i => x.1.updRec id fun r => { r with wait := keep, intent := i }
  | _ => d

/-- `RECIPE_SELECT` (R749, R758). -/
def cmdRecipeSelect : Cmd :=
  { op := 0xA00, cls := .deviceChange, len := 2, safe := .never, once := fun _ => true,
    argsOk := fun _ _ a => decide (byteAt a 0 ≤ 7) && decide (byteAt a 1 = 0xA5),
    run := fun d id a =>
      let n := byteAt a 0
      if (d.rcp.inForce.map (·.number)) = some n then (d, ok (selectResult 0 n 0))
      else if d.selectBusy then (d, fails stBusy)
      else if d.digOurs then d.selectRun id n
      else (d.digReserve, .wait [1] (.open false)) }

/-- The number of the Batch of the switch bubble that a record's switch took: kept behind 4 once the switch has passed. -/
def Device.selectDone (d : Device) : Device :=
  d.each d.reqs.recs fun r d =>
    d.when (r.opcode == 0xA00 && r.st == .waiting && r.wait.head? == some 4) fun d =>
      d.complete r.id stOk (selectResult 0 (byteAt (r.args.getD []) 0) (r.wait.getD 1 0))

/-! ### Writing (R754 to R757) -/

/-- Every byte that CLOSE asks for is written (R757). -/
def RcpWrite.whole (w : RcpWrite) : Bool :=
  (List.range ((w.total + 3) / 4)).all (fun i => w.written.contains (4 * i)) &&
    (List.range 8).all fun i => w.written.contains (0x1FE0 + 4 * i)

/-- Programs staged Recipe bytes of one Batch (R756). -/
def Device.rcpProgram (d : Device) : Device :=
  match d.rcp.write with
  | none => d
  | some w =>
    d.program 0xA01 (rcpBase w.slot) fun off d =>
      d.updRcp fun r => { r with write := r.write.map fun x => { x with written := x.written ++ [off] } }

/-- The erase of a slot ends, and OPEN completes (R755). -/
def Device.rcpErased (d : Device) : Device :=
  match d.rcp.erasing with
  | none => d
  | some (w, id) =>
    (d.updRcp fun r => { r with erasing := none, write := some { w with lastUse := d.now } }).complete id stOk []

/-- A write with no request for 60 s is abandoned (R755). -/
def Device.rcpAbandon (d : Device) : Device :=
  match d.rcp.write with
  | some w => if w.lastUse + 60000000 ≤ d.now then (d.updRcp fun r => { r with write := none }).dataDrop 0xA01 else d
  | none => d

/-- OPEN (R755). -/
def Device.rcpOpen (d : Device) (id : ReqId) (slot total : Nat) : Device × Answer :=
  if (d.rcp.inForce.map (·.number)) = some slot ∨ d.rcp.write.isSome ∨ d.rcp.erasing.isSome ∨ d.rcp.switch.isSome then
    (d, fails stBusy)
  else
    ((d.nvmErase (rcpBase slot) 0x2000).updRcp fun r =>
      { r with erasing := some ({ slot := slot, total := total, written := [], lastUse := d.now }, id) },
     .wait [101] (.open true))

/-- DATA (R756). One with no write open, or that names another slot, is `BAD_ARG` (DESIGN CHOICE, log entry 108). -/
def Device.rcpData (d : Device) (id : ReqId) (slot off : Nat) (l : List Byte) : Device × Answer :=
  match d.rcp.write with
  | none => (d, fails stBadArg)
  | some w =>
    if w.slot ≠ slot then (d, fails stBadArg)
    else
      let d := d.updRcp fun r => { r with write := some { w with lastUse := d.now } }
      let within := decide (off + l.length ≤ w.total) || (decide (0x1FE0 ≤ off) && decide (off + l.length ≤ 0x2000))
      let m := d.stagedRange 0xA01 (rcpBase w.slot) w.written id off l
      if within = false ∨ m.1 then (d, fails stBadArg)
      else if m.2 then (d, ok)
      else (d, .wait [0])

/-- The verification of CLOSE with the engine at hand (R757). -/
def Device.closeRun (d : Device) (slot : Nat) : Device × Answer :=
  let (v, d) := d.rcpVerify slot
  let off := match d.rcp.verdicts.toList.getD slot none with
    | some x => if x.1 = 2 ∨ x.1 = 5 ∨ x.1 = 6 then x.2 else 0
    | none => 0
  let ver := numAt (d.rcpBytes slot) 16 4
  (d.updRcp fun r => { r with write := none },
   .done (if v = 0 then stOk else stFault) (leBytes 1 v ++ [0] ++ leBytes 2 off ++ leBytes 4 ver))

/-- CLOSE (R757). One with no write open, or that names another slot, is `BAD_ARG` (DESIGN CHOICE, log entry 108). -/
def Device.rcpClose (d : Device) (slot : Nat) : Device × Answer :=
  match d.rcp.write with
  | none => (d, fails stBadArg)
  | some w =>
    let d := d.when (decide (w.slot = slot)) (·.updRcp fun r => { r with write := some { w with lastUse := d.now } })
    if w.slot ≠ slot ∨ w.whole = false then (d, fails stBadArg)
    else if d.digOurs then d.closeRun slot
    else (d.digReserve, .wait [1])

/-- `RECIPE_WRITE` (R754). -/
def cmdRecipeWrite : Cmd :=
  { op := 0xA01, cls := .deviceChange, len := 8,
    exact := fun a => if byteAt a 0 = 2 then some (8 + byteAt a 2) else none,
    safe := .owner, once := fun a => byteAt a 0 == 1,
    argsOk := fun _ _ a =>
      decide (byteAt a 1 ≤ 6) &&
      match byteAt a 0 with
      | 1 => let t := numAt a 4 4
             zeroAt a 2 2 && decide (0xB8 ≤ t) && decide (t ≤ 0x1FE0) && decide (t % 8 = 0)
      | 2 => let n := byteAt a 2
             decide (4 ≤ n) && decide (n ≤ 48) && decide (n % 4 = 0) && decide (byteAt a 3 = 0) && decide (numAt a 4 4 % 4 = 0)
      | 3 => zeroAt a 2 6
      | _ => false,
    run := fun d id a =>
      let s := byteAt a 1
      match byteAt a 0 with
      | 1 => d.rcpOpen id s (numAt a 4 4)
      | 2 => d.rcpData id s (numAt a 4 4) (slice a 8 (byteAt a 2))
      | _ => d.rcpClose s }

/-- Verifications that waited for the engine are made once it is the device's (R634, R749, R757); a switch that another request has
scheduled by then makes `RECIPE_SELECT` BUSY (R758). -/
def Device.rcpWaiters (d : Device) : Device :=
  d.each d.reqs.recs fun r d =>
    if r.needsEngine && d.digOurs then
      let a := r.args.getD []
      if r.opcode = 0xA00 then d.answerRec r.id (if d.rcp.switch.isSome then (d, fails stBusy) else d.selectRun r.id (byteAt a 0))
      else if r.opcode = 0xA01 then d.answerRec r.id (d.closeRun (byteAt a 1))
      else d
    else d

/-! ### `RECIPE_QUERY` (R759) -/

/-- The record of a slot. -/
def Device.rcpRecord (d : Device) (n : Nat) : List Byte :=
  match d.rcp.verdicts.toList.getD n none with
  | some (v, off) =>
    leBytes 1 v ++ [0] ++ leBytes 2 (if v = 2 ∨ v = 5 ∨ v = 6 then off else 0) ++
      leBytes 4 (if v = 1 then 0 else numAt (d.nvmRead (rcpBase n) 20) 16 4)
  | none => [0xFF, 0, 0, 0, 0, 0, 0, 0]

/-- `RECIPE_QUERY` (R759). -/
def cmdRecipeQuery : Cmd :=
  { op := 0xA02, cls := .read, len := 0, safe := .all, argsOk := fun _ _ _ => true,
    run := fun d id _ =>
      let f := d.rcp.inForce
      (d.buffer id.room 0 ((List.range 8).flatMap d.rcpRecord),
       ok (leBytes 1 ((f.map (·.number)).getD 0xFF) ++ leBytes 1 d.rcp.rsel ++
         leBytes 1 (b2n d.rcp.fallback + 2 * b2n d.rcp.switch.isSome) ++ [0] ++
         leBytes 4 ((f.map (·.version.toNat)).getD 0))) }

end Sys2Proof.Machine
end

