-- ==== Sys2Proof/Machine/Watchdogs.lean ====
section
/-! DEFINITION. Keeper watchdogs, the count of chip restarts, guest watchdogs (R675 to R700) and their commands. -/
namespace Sys2Proof.Machine

/-! ### Keeper watchdogs (R675 to R685) -/

/-- `DBG_WDHALT` is in effect: set, with debug authenticated (R685, R713). -/
def Device.wdhaltOn (d : Device) : Bool := d.sec.wdhalt && decide (d.sec.level ≠ .closed)

/-- The window is open (R676). -/
def KeeperWd.isOpen (w : KeeperWd) : Bool := decide (2 * w.count ≥ w.period)

/-- The watchdog of a keeper counts at this edge (R684, R685). -/
def Device.wdCounts (d : Device) (k : Sys2Proof.Keeper) : Bool :=
  let s := d.keeper k
  decide ((d.kwd k).mode = .counting) && !(s.halted && d.wdhaltOn) && (decide (s.role = .active) || s.powered)

/-- The Batch edge on one watchdog (R675). -/
def Device.wdTick (d : Device) (k : Sys2Proof.Keeper) : Device :=
  d.when (d.wdCounts k) (·.updKwd k fun w => { w with count := w.count + 1 })

/-- A watchdog has reached its period (R676). -/
def Device.wdExpired (d : Device) (k : Sys2Proof.Keeper) : Bool :=
  decide ((d.kwd k).mode = .counting) && decide ((d.kwd k).period ≤ (d.kwd k).count)

/-- A keeper can write to its watchdog: it runs the Innkeeper and is not halted. -/
def Device.wdWrites (d : Device) (k : Sys2Proof.Keeper) : Bool :=
  decide ((d.kwd k).mode = .counting) && !(d.keeper k).halted && (d.keeper k).powered

/-- The closing window: a kick in an open window (R680). -/
def Device.wdClosing (d : Device) (k : Sys2Proof.Keeper) : Device :=
  d.when (d.wdWrites k && (d.kwd k).isOpen) (·.updKwd k fun w => { w with count := 0 })

/-- A pending period is applied in an open window (R678, R682, R698). -/
def Device.wdPeriod (d : Device) (k : Sys2Proof.Keeper) : Device :=
  match (d.kwd k).newPeriod with
  | some p =>
    d.when (d.wdWrites k && (d.kwd k).isOpen)
      (·.updKwd k fun w => { w with period := p, count := 0, newPeriod := none })
  | none => d

/-- Counted chip restarts in the preceding 24 h (R687). -/
def Device.restartCount (d : Device) : Nat :=
  (d.wd.restarts.filter fun t => decide (d.now ≤ t + 86400000000)).length

/-- The result of `WD_SET` (R698). -/
def Device.wdSetResult (d : Device) : List Byte := leBytes 2 d.wd.inForce ++ leBytes 1 d.restartCount

/-- The active keeper at step 4: a pending period change, and the completion of every `WD_SET` PERIOD record once it is
accepted (R698). -/
def Device.wdStep4 (d : Device) : Device :=
  match d.activeKeeper with
  | none => d
  | some k =>
    let d := d.wdPeriod k
    if (d.kwd k).newPeriod.isNone then
      d.each d.reqs.recs fun r d =>
        d.when (r.opcode == 0x800 && r.st == .waiting) (·.complete r.id stOk d.wdSetResult)
    else d

/-- `WD_SET` (R698). -/
def cmdWdSet : Cmd :=
  { op := 0x800, cls := .deviceChange, len := 4, safe := .owner, once := fun a => byteAt a 0 == 2,
    argsOk := fun _ _ a =>
      let p := numAt a 2 2
      decide (byteAt a 1 = 0) &&
      match byteAt a 0 with
      | 1 => decide (4 ≤ p) && decide (p ≤ 4096)
      | 2 => decide (p = 0)
      | _ => false,
    run := fun d _ a =>
      if byteAt a 0 = 1 then
        let p := numAt a 2 2
        (d.updWd fun w => { w with inForce := p, a := { w.a with newPeriod := some p }, b := { w.b with newPeriod := some p } },
         .wait [])
      else
        let d := d.updWd fun w => { w with restarts := [] }
        (d, ok d.wdSetResult) }

/-! ### Guest watchdogs (R690 to R695) -/

/-- Changes a Room's guest watchdog. -/
def Device.updGwd (d : Device) (n : RoomId) (f : GuestWd → GuestWd) : Device :=
  d.updPriv fun p => { p with gwds := vmod p.gwds n f }

/-- A Room's ladder step as reported, 3 when disarmed (R699). -/
def GuestWd.code (g : GuestWd) : Nat := if g.t = 0 then 3 else g.step

/-- Disarms a Room's guest watchdog (R252). -/
def Device.gwdOff (d : Device) (n : RoomId) : Device := d.updGwd n fun _ => { t := 0, deadline := 0, step := 0 }

/-- Rail `r` is supplied from a rail of `l` directly or through other rails (R694). -/
def Device.suppliedFrom (d : Device) (l : List RailId) : (fuel : Nat) → RailId → Bool
  | 0, _ => false
  | fuel + 1, r =>
    match d.supplyOf r with
    | some s => l.contains s || Device.suppliedFrom d l fuel s
    | none => false

/-- The gated set of a Room's cycle step (R694). -/
def Device.gatedSet (d : Device) (n : RoomId) : List RailId :=
  let own := all16.filter fun r => bit (d.fn Fld.roomGwdRails n.val) r.val && decide (r.val ≠ 8)
  all16.filter fun r => decide (r.val ≠ 8) && (own.contains r || d.suppliedFrom own 16 r)

/-- Rails of a gated set that are due for gating: what they supply in the set shows OFF or HELD (R694). -/
def Device.gatingDue (d : Device) (set_ : List RailId) (r : RailId) : Bool :=
  set_.all fun x => decide (d.supplyOf x ≠ some r) || (d.railSt x).isDown

/-- The rails of one Room's step. -/
def Device.gatingOf (d : Device) (n : RoomId) : List RailId := (d.wd.gating.filter (·.room = n)).map (·.rail)

/-- Rails that wait are chosen at a Batch whose step 1 sample shows what they supply OFF or HELD (R694). -/
def Device.gatingChoose (d : Device) : Device :=
  d.updWd fun w => { w with gating := w.gating.map fun g =>
    if g.ends = none ∧ g.chosen = false ∧ d.gatingDue (d.gatingOf g.room) g.rail then { g with chosen := true } else g }

/-- The last gating of a Room's step has ended: `GWD_CYCLE` leaves the active table (R694). -/
def Device.gatingClear (d : Device) (before : List Gating) : Device :=
  d.each (before.map (·.room)) fun n d =>
    d.when (!(d.wd.gating.any fun g => g.room == n)) (·.clearActive 0x10 8 (some n.val))

/-- Gatings whose time has come end (R694). -/
def Device.gatingEnd (d : Device) (t : Nat) (p : Gating → Bool) : Device :=
  let before := d.wd.gating
  (d.updWd fun w => { w with gating := w.gating.filter fun g =>
    !(p g && (match g.ends with | some e => decide (e ≤ t) | none => false)) }).gatingClear before

/-- The Batch edge at `t` on the gating: ends, then the chosen rails begin, PA only once no burst runs (R694). -/
def Device.gatingEdge (d : Device) (t : Nat) : Device :=
  let d := d.gatingEnd t fun _ => true
  d.updWd fun w => { w with gating := w.gating.map fun g =>
    if g.ends = none ∧ g.chosen ∧ !(decide (g.rail.val = 3) && d.burst.running.isSome) then
      { g with ends := some (t + 1000 * d.fn Fld.gwdOffMs) } else g }

/-- A guest watchdog takes its next ladder step (R692 to R694). -/
def Device.gwdStep (d : Device) (n : RoomId) : Device :=
  let g := d.priv.gwds.get n
  let next := d.updGwd n fun g => { g with step := g.step + 1, deadline := d.batch.edgeTime + 1000 * g.t }
  match g.step with
  | 0 => (next.flag n evGwd).raise (coded 0x10 6 n.val)
  | 1 => (next.updVotes fun vs => dropHolder vs (.room n)).raise (coded 0x10 7 n.val)
  | _ =>
    let d := d.gwdOff n
    let d := d.updWd fun w => { w with gating := w.gating ++ (d.gatedSet n).map fun r =>
      { room := n, rail := r, ends := none, chosen := false } }
    d.gatingChoose.raise (coded 0x10 8 n.val)

/-- A guest watchdog is due in the current Batch. -/
def Device.gwdDue (d : Device) (n : RoomId) : Bool :=
  let g := d.priv.gwds.get n
  decide (g.t ≠ 0) && decide (g.deadline ≤ d.batch.edgeTime)

/-- A `GWD_KICK` of the Room is among the requests taken in the current Batch's intake (R150, log entry 99). -/
def Device.kickTaken (d : Device) (n : RoomId) : Bool :=
  d.reqs.recs.any fun r => r.id.room == n && r.opcode == 0x811 && r.takenBatch == d.batch.number

/-- Every guest watchdog after the intake of a working Batch (R692). -/
def Device.gwdAll (d : Device) : Device := d.each all16 fun n d => d.when (d.gwdDue n && !d.kickTaken n) (·.gwdStep n)

/-! ### Commands (R699, R700) -/

/-- `GWD_ARM` (R690, R700). -/
def cmdGwdArm : Cmd :=
  { op := 0x810, cls := .roomChange, len := 4, safe := .all,
    argsOk := fun _ _ a =>
      let t := numAt a 0 4
      decide (t = 0) || (decide (10 ≤ t) && decide (t ≤ 60000)),
    run := fun d id a =>
      let t := numAt a 0 4
      let old := d.priv.gwds.get id.room
      let dl := if t = 0 then 0 else d.batch.edgeTime + 1000 * t
      (d.updGwd id.room fun _ => { t := t, deadline := dl, step := 0 }, ok (leBytes 1 old.code ++ leBytes 4 dl)) }

/-- `WD_KICK` (R691, R700). -/
def cmdWdKick : Cmd :=
  { op := 0x811, cls := .roomChange, len := 0, safe := .all, argsOk := fun _ _ _ => true,
    run := fun d id _ =>
      let g := d.priv.gwds.get id.room
      if g.t = 0 then (d, fails stFault)
      else
        let dl := d.batch.edgeTime + 1000 * g.t
        (d.updGwd id.room fun g => { g with step := 0, deadline := dl }, ok (leBytes 1 g.code ++ leBytes 4 dl)) }

/-- The result of `WD_QUERY` (R699). -/
def Device.wdResult (d : Device) (n : RoomId) : List Byte :=
  let g := d.priv.gwds.get n
  let act := match d.activeKeeper with | some k => d.kwd k | none => d.wd.a
  let sb := match d.standby with
    | some k => if (d.keeper k).role.able then (d.kwd k).count else 0xFFFF
    | none => 0xFFFF
  leBytes 2 d.wd.inForce ++ leBytes 2 act.count ++ leBytes 2 sb ++ leBytes 1 d.restartCount ++
    leBytes 1 (g.code + 4 * b2n act.isOpen + 8 * b2n d.wdhaltOn)

/-- The watchdog record of `WD_QUERY` (R699). -/
def Device.wdRecord (d : Device) (n : RoomId) : List Byte :=
  let g := d.priv.gwds.get n
  leBytes 4 g.t ++ leBytes 4 (if g.t = 0 then 0 else quot 50 (g.deadline - d.now) 1000) ++
    (List.range 7).flatMap fun i => leBytes 8 (d.wd.restarts.getD i 0)

/-- `WD_QUERY` (R699). -/
def cmdWdQuery : Cmd :=
  { op := 0x801, cls := .read, len := 0, safe := .all, argsOk := fun _ _ _ => true,
    run := fun d id _ => (d.buffer id.room 0 (d.polled.wd.get id.room).2, ok (d.polled.wd.get id.room).1) }

end Sys2Proof.Machine
end

