-- ==== Sys2Proof/Machine/Security.lean ====
section
/-! DEFINITION. Lifecycle, debug levels, challenge and response, attach, and the TAP's operations (R701 to R732). -/
namespace Sys2Proof.Machine

/-! ### Lifecycle (R701 to R704) -/

/-- Programmed words of a copy (R703). -/
def programmed (v : Vector Word 4) : Nat := (v.toList.filter fun w => decide (w ≠ 0xFFFFFFFF)).length

/-- A copy is valid: no programmed word follows an erased one (R703). -/
def copyValid (v : Vector Word 4) : Bool :=
  ((v.toList.drop (programmed v)).all fun w => decide (w = 0xFFFFFFFF))

/-- The lifecycle code (R701, R703): the higher of the two copies. -/
def Device.lifecycle (d : Device) : Nat := max (programmed d.sec.copyA) (programmed d.sec.copyB)

/-- The lifecycle words are corrupt (R703). -/
def Device.lifecycleBad (d : Device) : Bool :=
  let a := programmed d.sec.copyA
  let b := programmed d.sec.copyB
  !(copyValid d.sec.copyA && copyValid d.sec.copyB && decide (a ≤ b + 1) && decide (b ≤ a + 1))

/-- Both copies hold state `k` (R702). -/
def Device.programLifecycle (d : Device) (k : Nat) : Device :=
  d.updSec fun s => { s with copyA := lifecycleWords k, copyB := lifecycleWords k }

/-! ### Debug levels (R710 to R714) -/

/-- Level codes (R710). -/
def Level.code : Level → Nat
  | .opened => 0 | .auth => 1 | .closed => 2

/-- Releases the halts of both keepers (R712). -/
def Device.haltRelease (d : Device) : Device :=
  ((d.updSec fun s => { s with haltA := false, haltB := false }).updKeeper .a fun k => { k with halted := false }).updKeeper .b
    fun k => { k with halted := false }

/-- The debug reservation ends (R712, R725). -/
def Device.attachRelease (d : Device) : Device :=
  let h := d.sec.attHandle
  (d.updLarder fun l => { l with reservations := l.reservations.filter fun r => decide (some r.handle ≠ h) }).updSec
    fun s => { s with attHandle := none, attState := 0, retryAt := none, attachDrop := false }

/-- A fall of the level releases everything that the port holds (R712). -/
def Device.levelFall (d : Device) : Device :=
  (d.haltRelease.attachRelease).updSec fun s => { s with
    wdhalt := false, attach := false, memDenied := s.memDenied || s.memBusy, memBusy := false }

/-- The level changes, and is reported (R710, R712, R714). -/
def Device.setLevel (d : Device) (l : Level) : Device :=
  if d.sec.level = l then d
  else
    let fell := decide (d.sec.level.code < l.code)
    ((d.updSec fun s => { s with level := l }).when fell (·.levelFall)).raise (coded 0x11 2 l.code)

/-- AUTH ends at LODGE entry, SHIP entry and energy exhaustion (R711), one that is to begin at the next edge with it. -/
def Device.authEnd (d : Device) : Device :=
  let d := d.when (decide (d.sec.nextLevel = some .auth)) (·.updSec fun s => { s with nextLevel := none })
  d.when (decide (d.sec.level = .auth)) (·.setLevel .closed)

/-- DROP (R710): BLANK and RETIRED stay at OPEN. -/
def Device.dropLevel (d : Device) : Device :=
  if d.sec.level = .opened ∧ d.lifecycle ≠ 1 then d else d.setLevel .closed

/-- Energy exhaustion ends AUTH and releases every halt at once, before the keeper handles it (R711, R712). -/
def Device.exhaustRelease (d : Device) : Device := d.when d.exhausted (·.authEnd.haltRelease)

/-- The edge that ends a Batch applies a level that waits for it (R710, R715); the level falls to CLOSED there by a lifecycle
advance, which is reported with it (R731). -/
def Device.secEdge (d : Device) : Device :=
  match d.sec.nextLevel with
  | some l =>
    let d := d.updSec fun s => { s with nextLevel := none }
    (d.when (decide (l = .closed)) (·.raise (coded 0x11 4 d.lifecycle))).setLevel l
  | none => d

/-- The debug port works: the TAP's balls are active (R80, R727). -/
def Device.tapLive (d : Device) : Bool := d.pins.vioGood && (d.isOpen || d.romHold)

/-- OPEN or AUTH (R721). -/
def Device.portOpen (d : Device) : Bool := d.tapLive && decide (d.sec.level ≠ .closed)

/-- A keeper sleeps, so that a halt waits for its wake at the next edge (R724): in DOZE and REST, from the end of the closing
window. -/
def Device.asleep (d : Device) : Bool :=
  decide (d.power.state ≠ .run) && (decide (d.sup.stage = .idle) || d.sup.deadlinePassed)

/-- The active keeper is halted by the debug port. -/
def Device.activeHalted (d : Device) : Bool :=
  match d.activeKeeper with
  | some k => (d.keeper k).halted
  | none => false

/-- A halt of the active keeper cuts the work of a Batch that is not done: it waits for the first Batch after the release
(R149). -/
def Device.noteCut (d : Device) : Device :=
  d.when (d.activeHalted && !d.sup.workDone) (·.updSup fun s => { s with haltCut := true })

/-- The halts asked for take hold (R724): a keeper that is powered off has nothing to halt. -/
def Device.haltApply (d : Device) : Device :=
  ((d.updKeeper .a fun k => { k with halted := d.sec.haltA && (k.powered || decide (k.role = .active)) }).updKeeper .b
    fun k => { k with halted := d.sec.haltB && (k.powered || decide (k.role = .active)) }).noteCut

/-- A write of the halt bits (R722, R724): a release is immediate. -/
def Device.halt (d : Device) (a b : Bool) : Device :=
  let d := d.updSec fun s => { s with haltA := a, haltB := b }
  if d.asleep then
    (d.updKeeper .a fun k => { k with halted := k.halted && a }).updKeeper .b fun k => { k with halted := k.halted && b }
  else d.haltApply

/-! ### Challenge and response (R715 to R718) -/

/-- The outstanding challenge: none once 10 s have passed since its issue (R716). -/
def Device.challenge (d : Device) : Option (List Byte × Nat) := d.sec.challenge.filter fun c => decide (d.now < c.2 + 10000000)

/-- A lockout runs (R717). -/
def Device.locked (d : Device) : Bool := match d.sec.lockEnd with | some t => decide (d.now < t) | none => false

/-- An issued challenge (R715). -/
def Device.challengeBytes (d : Device) (count : Nat) : List Byte :=
  slice d.keys.deviceId 0 8 ++ leBytes 8 count ++ leBytes 8 d.now ++ leBytes 1 d.lifecycle ++ [1] ++ leBytes 6 0

/-- Issues a challenge: the counter is programmed first (R715, R716). -/
def Device.issue (d : Device) : Device :=
  let n := d.keys.challenges + 1
  let d := d.updKeys fun k => { k with challenges := n }
  d.updSec fun s => { s with challenge := some (d.challengeBytes n.toNat, d.now), chalReq := false }

/-- Key slot 1 is loaded. -/
def Device.debugKey (d : Device) : Option SlotKeys := d.keys.slots.toList.getD 1 none

/-- Step 4: a challenge asked for through the TAP is issued unless a lockout runs or no key is loaded. -/
def Device.chalStep4 (d : Device) : Device :=
  if d.sec.chalReq then
    if d.locked ∨ d.debugKey.isNone then d.updSec fun s => { s with chalReq := false } else d.issue
  else d

/-- The challenge expires (R716). -/
def Device.chalExpire (d : Device) : Device :=
  match d.sec.challenge with
  | some c => if c.2 + 10000000 ≤ d.now then d.updSec fun s => { s with challenge := none } else d
  | none => d

/-- The lockout has run out (R717). -/
def Device.lockExpire (d : Device) : Device :=
  match d.sec.lockEnd with
  | some t => if t ≤ d.now then d.updSec fun s => { s with lockEnd := none } else d
  | none => d

/-- A response consumes the outstanding challenge and waits for its verification (R715, R716). -/
def Device.respond (d : Device) (l : List Byte) (req : Option ReqId) : Device :=
  match d.challenge with
  | some c => d.updSec fun s => { s with challenge := none,
                                         responses := s.responses ++ [{ bytes := l, challenge := c.1, req := req }] }
  | none => d

/-- One response is verified (R715, R717): AUTH follows from the edge that ends the Batch, where the level is CLOSED. -/
def Device.verifyOne (d : Device) (r : Response) : Device × Bool :=
  let good := match d.debugKey with | some k => decide (hmac k r.challenge = r.bytes) | none => false
  if good then
    (d.updSec fun s => { s with authFail := false,
                                nextLevel := if s.level = .closed ∧ 1 ≤ d.lifecycle ∧ d.lifecycle ≤ 3 then some .auth
                                  else s.nextLevel }, true)
  else
    let n := d.sec.failures + 1
    let lock := min 3600 (10 * 2 ^ (n - 1)) * 1000000
    ((d.updSec fun s => { s with authFail := true, failures := n, lockEnd := some (d.now + lock) }).raise
      (coded 0x11 3 (sat 65535 n)), false)

/-- The level in force after the current Batch. -/
def Device.levelAfter (d : Device) : Level := d.sec.nextLevel.getD d.sec.level

/-- Step 4: the responses that have arrived are verified once the engine is the device's (R633, R715). -/
def Device.respStep4 (d : Device) : Device :=
  if d.digOurs then
    let l := d.sec.responses
    (d.updSec fun s => { s with responses := [] }).each l fun r d =>
      let (d, good) := d.verifyOne r
      match r.req with
      | some id => d.complete id (if good then stOk else stFault) (if good then leBytes 1 d.levelAfter.code else [])
      | none => d
  else d.digReserve

/-! ### Attach (R725) -/

/-- Step 4: a withdrawn attach is handled, a reservation that has ended is followed by a new admission. -/
def Device.attachStep4 (d : Device) : Device :=
  let d := d.when d.sec.attachDrop (·.attachRelease)
  if d.sec.attach = false ∨ d.sec.level ≠ .auth then d
  else
    let standing := match d.sec.attHandle with
      | some h => d.priv.larder.reservations.any fun r => r.handle == h
      | none => false
    let due := match d.sec.retryAt with | some t => decide (t ≤ d.now) | none => true
    if (standing || !due) = true then d
    else
      let app := d.fn Fld.dbgApp
      let dur := 1000000 * d.fn Fld.dbgAttachS
      let refused := d.updSec fun s => { s with attHandle := none, attState := 2,
                                                retryAt := some (d.now + 1000000 * d.fn Fld.dbgRetryS) }
      if d.larderFull then refused
      else match d.admission app (workOf (d.fn Fld.larAppMw app) dur) dur 0 0 none false with
        | .grant t =>
          let (h, d) := d.larderEnter none app t (t + dur) dur
          d.updSec fun s => { s with attHandle := some h, attState := 1, retryAt := none }
        | _ => refused

/-- The attach holds the RUN floor (R90, R725). -/
def Device.attachFloor (d : Device) : Bool :=
  d.sec.attach &&
  match d.sec.level with
  | .opened => true
  | .auth => match d.sec.attHandle with
    | some h => d.priv.larder.reservations.any fun r => r.handle == h
    | none => false
  | .closed => false

/-- A write of the attach request (R722, R725). -/
def Device.attachWrite (d : Device) (on : Bool) : Device :=
  if d.sec.attach = on then d
  else (d.updSec fun s => { s with attach := on, attachDrop := !on,
                                   attState := if on && decide (s.level = .opened) then 1 else if on then s.attState else 0 }).raise
    (coded 0x11 2 d.sec.level.code)

/-! ### Provisioning (R709, R744) -/

/-- The tag that slot 7 gets when it holds the factory Recipe (R744). -/
def Device.factoryTag (d : Device) (k : SlotKeys) : Device :=
  let b := d.rcpBytes 7
  if sha256 (b.take (numAt b 8 4)) = sha256 factoryBytes then
    d.nvmWrite (rcpBase 7 + 0x1FE0) (rcpTag k b)
  else d

/-- `KEYPROG` (R709): 2 done, 3 refused. -/
def Device.keyProgram (d : Device) (target : Nat) (l : List Byte) : Device :=
  if !(d.tapLive && decide (d.sec.level = .opened) && decide (d.lifecycle ≤ 1)) then d
  else if 3 < target then d.updSec fun s => { s with prog := 3 }
  else
    let d := d.updSec fun s => { s with prog := 2 }
    if target ≤ 1 then
      let k := slotKeys (slice l 0 32)
      let d := (d.updKeys fun x => { x with slots := x.slots.set! target (some k) }).raise (coded 0x0E 2 (256 * target + 1))
      d.when (decide (target = 0)) (·.factoryTag k)
    else d.updKeys fun x => { x with pubKeys := x.pubKeys.set! (target - 2) (some (slice l 0 64)) }

/-! ### `DBG_MEM` (R721, R724) -/

/-- NVM that the level lets the port write or erase (R721). -/
def Device.nvmWritable (d : Device) (a : Nat) : Bool :=
  let images := decide (a < 0xC0000)
  let ledger := decide (0xC0000 ≤ a) && decide (a < 0xE0000)
  let rcp := decide (0xE0000 ≤ a) && decide (a < 0xEE000)
  let seven := decide (0xEE000 ≤ a) && decide (a < 0xF0000)
  match d.sec.level with
  | .opened => images || ledger || rcp || (seven && decide (d.lifecycle < 2))
  | .auth => images || rcp
  | .closed => false

/-- The address lies in its space, and is word-aligned (R724): none of the gaps, RAM, Starter ROM, or NVM. -/
def memKind (space : Sys2Proof.MemSpace) (a : Nat) : Nat :=
  if a % 4 ≠ 0 then 0
  else match space with
    | .sramA | .sramB => if a < 0x18000 then 1 else 0
    | .shared => if a < 0xE0000 ∨ (0x100000 ≤ a ∧ a < 0x108000) then 1 else if 0x120000 ≤ a ∧ a < 0x128000 then 2 else 0
    | .nvm => if a < 0x100000 then 3 else 0

/-- Codes of the spaces. -/
def spaceCode : Sys2Proof.MemSpace → Nat
  | .sramA => 0 | .sramB => 1 | .shared => 2 | .nvm => 3

/-- The four bytes of a word. -/
def wordOf (f : Nat → Byte) : Word := BitVec.ofNat 32 (leNat ((List.range 4).map f))

/-- The word that a read returns (R721, R724). Mirror RAM holds the checkpoint buffers (R161); the rest of the RAM and the Config
region below the key store are free values, since the manual gives no layout of their contents (log entry 5). -/
def Device.memWord (d : Device) (space : Sys2Proof.MemSpace) (a : Nat) : Word :=
  match memKind space a with
  | 2 => wordOf fun i => Config.romByte (a - 0x120000 + i)
  | 3 =>
    if 0xFF000 ≤ a then 0
    else if 0xF0000 ≤ a then wordOf fun i => Config.debugByte 3 (a + i) d.freeCtr
    else BitVec.ofNat 32 (leNat (d.nvmRead a 4))
  | _ =>
    if space = .shared ∧ 0x100000 ≤ a then wordOf fun i => (d.ckpt (decide (0x104000 ≤ a))).byte (a % 0x4000 + i)
    else wordOf fun i => Config.debugByte (spaceCode space) (a + i) d.freeCtr

/-- The status of an operation that has ended. -/
def Device.memStatus (d : Device) (denied : Bool) : Device :=
  d.updSec fun s => { s with memDone := true, memDenied := denied, memBusy := false }

/-- A read. -/
def Device.memRead (d : Device) (space : Sys2Proof.MemSpace) (a : Nat) : Device :=
  if d.portOpen = false then d
  else if memKind space a = 0 then d.memStatus true
  else
    let w := d.memWord space a
    ({ d with freeCtr := d.freeCtr + 1 }.updSec fun s => { s with memData := w }).memStatus false

/-- A write to mirror RAM changes four bytes of a checkpoint buffer (R161). -/
def Device.mirrorPoke (d : Device) (a : Nat) (w : Word) : Device :=
  d.updCkpt (decide (0x104000 ≤ a)) fun c =>
    (List.range 4).foldl (fun c i => c.poke (a % 0x4000 + i) ((leBytes 4 w.toNat).getD i 0)) c

/-- A write: RAM outside the mirror is not addressed by the model (log entry 5). -/
def Device.memWrite (d : Device) (space : Sys2Proof.MemSpace) (a : Nat) (w : Word) : Device :=
  if d.portOpen = false then d
  else match memKind space a with
    | 1 => (d.when (decide (space = .shared) && decide (0x100000 ≤ a)) (·.mirrorPoke a w)).memStatus false
    | 3 => if d.nvmWritable a then (d.nvmWrite a (leBytes 4 w.toNat)).memStatus false else d.memStatus true
    | _ => d.memStatus true

/-- An erase of the sector that holds an address. -/
def Device.memErase (d : Device) (space : Sys2Proof.MemSpace) (a : Nat) : Device :=
  if d.portOpen = false then d
  else if memKind space a = 3 ∧ d.nvmWritable a then (d.nvmErase (a / 4096 * 4096) 4096).memStatus false
  else d.memStatus true

/-! ### Lifecycle advances (R704, R731) -/

/-- A precondition of R704 holds for the advance to `k`. -/
def Device.advanceOk (d : Device) (k : Nat) : Bool :=
  match k with
  | 2 => decide ((d.rcpVerdict 7).1 = 0) && (match d.cfg.manifest with
      | some m => decide (d.keepers.a.slot = some m.aPrimary.val) && decide (d.keepers.b.slot = some m.bPrimary.val)
      | none => false)
  | 3 => decide (d.sec.level = .auth)
  | 4 => decide (d.sec.level = .auth)
  | _ => false

/-- `LCADV` (R704). -/
def Device.lcAdvance (d : Device) : Device :=
  if !(d.tapLive && decide (d.sec.level = .opened) && decide (d.lifecycle = 0) && d.sec.advance.isNone) then d
  else if (d.keys.slots.toList.getD 0 none).isSome ∧ d.debugKey.isSome ∧ d.keys.pubKeys.toList.any (·.isSome) then
    d.updSec fun s => { s with prog := 1, advance := some { target := 1, req := none } }
  else d.updSec fun s => { s with prog := 3 }

/-- Loaded key slots from `lo` on are erased, each with its message (R642, R704 to R706). -/
def Device.eraseKeys (d : Device) (lo : Nat) : Device :=
  d.each ((List.range 8).filter fun i => decide (lo ≤ i) && (d.keys.slots.toList.getD i none).isSome) fun i d =>
    (d.updKeys fun k => { k with slots := k.slots.set! i none }).raise (coded 0x0E 2 (256 * i))

/-- Both copies are programmed, the command completes, and its effects follow at the edge that ends the Batch (R704,
R731). -/
def Device.advanceDone (d : Device) (a : Advance) : Device :=
  let d := (d.programLifecycle a.target).updSec fun s => { s with advance := none, challenge := none,
                                                                  prog := if a.req.isNone then 2 else s.prog }
  let d := d.when (decide (a.target = 3)) (·.eraseKeys 2)
  let d := d.when a.req.isNone (·.raise (coded 0x11 4 a.target))
  match a.req with
  | some id =>
    let d := (d.complete id stOk (leBytes 1 a.target)).updSec fun s => { s with nextLevel := some .closed }
    d.when (decide (a.target = 4)) (·.updPriv fun p => { p with restart := some (d.batch.number.toNat, 8) })
  | none => d

/-! ### Commands (R729 to R732) -/

/-- `DBG_CHALLENGE` (R729). -/
def cmdDbgChallenge : Cmd :=
  { op := 0xB00, cls := .deviceChange, len := 0, safe := .owner, once := fun _ => true, argsOk := fun _ _ _ => true,
    run := fun d id _ =>
      if d.locked then (d, fails stBusy)
      else if d.debugKey.isNone then (d, fails stFault)
      else
        let d := d.issue
        let c := match d.sec.challenge with | some x => x.1 | none => []
        (d.buffer id.room 0 (slice c 0 32), ok (leBytes 8 d.keys.challenges.toNat)) }

/-- `DBG_RESPOND` (R730). -/
def cmdDbgRespond : Cmd :=
  { op := 0xB01, cls := .deviceChange, len := 40, exact := fun a => some (if byteAt a 0 = 1 then 40 else 8),
    safe := .owner, once := fun _ => true,
    argsOk := fun d _ a => zeroAt a 1 7 &&
      (decide (byteAt a 0 = 2) || (decide (byteAt a 0 = 1) && (d.challenge.isSome || d.locked))),
    run := fun d id a =>
      if byteAt a 0 = 2 then
        let d := d.dropLevel
        (d, ok (leBytes 1 d.levelAfter.code))
      else if d.locked then (d, fails stBusy)
      else match d.challenge with
        | none => (d, fails stBadArg)
        | some c =>
          if d.digOurs then
            let (d, good) := (d.updSec fun s => { s with challenge := none }).verifyOne
              { bytes := slice a 8 32, challenge := c.1, req := some id }
            (d, if good then ok (leBytes 1 d.levelAfter.code) else fails stFault)
          else ((d.respond (slice a 8 32) (some id)).digReserve, .wait [] (.open true)) }

/-- `LIFECYCLE_ADVANCE` (R731). -/
def cmdLifecycleAdvance : Cmd :=
  { op := 0xB02, cls := .deviceChange, len := 2, safe := .never, once := fun _ => true,
    argsOk := fun d _ a => decide (byteAt a 0 = d.lifecycle + 1) && decide (2 ≤ byteAt a 0) && decide (byteAt a 1 = 0xA5),
    run := fun d id a =>
      if d.keepers.a.halted ∨ d.keepers.b.halted ∨ d.images.stage.isSome ∨ d.images.erasing.isSome ∨
          d.rcp.switch.isSome ∨ d.leavePending ∨ d.sec.advance.isSome then (d, fails stBusy)
      else if d.advanceOk (byteAt a 0) then
        (d.updSec fun s => { s with advance := some { target := byteAt a 0, req := some id } }, .wait [] (.open true))
      else (d, fails stFault) }

/-- Seconds of lockout remaining (R732). -/
def Device.lockLeft (d : Device) : Nat := match d.sec.lockEnd with | some t => quot 51 (t - d.now) 1000000 | none => 0

/-- `SEC_QUERY` (R732). -/
def cmdSecQuery : Cmd :=
  { op := 0xB03, cls := .read, len := 0, safe := .all, argsOk := fun _ _ _ => true,
    run := fun d _ _ =>
      let s := d.sec
      (d, ok (leBytes 1 d.lifecycle ++ leBytes 1 s.level.code ++ leBytes 1 s.attState ++
        leBytes 1 (b2n d.keepers.a.halted + 2 * b2n d.keepers.b.halted + 4 * b2n s.wdhalt + 8 * b2n d.challenge.isSome +
          16 * b2n d.locked) ++
        leBytes 2 (sat 65535 s.failures) ++ leBytes 2 (sat 65535 d.lockLeft))) }

end Sys2Proof.Machine
end

