-- ==== Sys2Proof/Machine/Rooms.lean ====
section
/-! DEFINITION. The life of a Room (R252 to R267): intents resolved, opening, closing, parking and resetting, and the
session commands. -/
namespace Sys2Proof.Machine

/-! ### Intents (R337 to R340) -/

/-- An intent is open. -/
def Intent.isOpen : Intent → Bool
  | .open _ => true
  | _ => false

/-- The commit point has been passed. -/
def Intent.isPassed : Intent → Bool
  | .open p => p
  | _ => true

/-- The effects made before the commit point are undone (R339). -/
def Device.undoIntent (d : Device) (r : Rec) : Device :=
  match r.opcode with
  | 0xA00 => match d.rcp.switch with
    | some s => d.when (decide (s.req = r.id)) (·.updRcp fun x => { x with switch := none })
    | none => d
  | 0x012 => (d.updPriv fun p => { p with lodge := none }).updPower fun p => { p with wakeArmed := false, wakeLatched := [] }
  | 0x014 => d.updPriv fun p => { p with restart := none }
  | 0x911 => d.updImages fun i => { i with commit := none }
  | 0x501 => d.updShadow fun t => { t with adcTrig := t.adcTrig &&& ~~~(BitVec.twoPow 4 (byteAt (r.args.getD []) 0)) }
  | _ => d

/-- The Ledger records how an intent was resolved (R339). -/
def Device.intentNote (d : Device) (r : Rec) : Device :=
  d.raise (coded 2 12 (256 * r.id.room.val + b2n r.intent.isPassed))

/-- An open intent of a record whose completion is discarded is resolved (R340): finished, or undone. -/
def Device.intentDrop (d : Device) (r : Rec) : Device :=
  if r.intent.isOpen then (d.when (!r.intent.isPassed) (·.undoIntent r)).intentNote r else d

/-- Every open intent of a Room's records that `p` picks is resolved (R256, R259). -/
def Device.resolveRoom (d : Device) (n : RoomId) (p : Rec → Bool) : Device :=
  d.each (d.reqs.recs.filter fun r => r.id.room == n && p r) fun r d => d.intentDrop r

/-! ### What a session leaves (R256, R257, R259) -/

/-- A Room's guest sequence ends without unwind (R397). -/
def Device.seqStopOf (d : Device) (n : RoomId) : Device :=
  match d.priv.seqRun with
  | some s => match s.origin with
    | .guest id => d.when (decide (id.room = n)) (·.seqStop)
    | _ => d
  | none => d

/-- A Room's floor vote (R86). -/
def Device.setFloor (d : Device) (n : RoomId) (f : Option PowerState) : Device :=
  d.updPriv fun p => { p with floors := vput p.floors n f }

/-- Floors by their codes (R119). -/
def floorOf : Nat → PowerState
  | 0 => .run | 1 => .doze | _ => .rest

/-- The dedup memory of a Room is cleared (R334). -/
def Device.clearDedup (d : Device) (n : RoomId) : Device := d.updReqs fun q => { q with dedup := vput q.dedup n [] }

/-- A session's pending schedules and sequence end with their records (R397, R403). -/
def Device.dropWork (d : Device) (n : RoomId) : Device :=
  (d.seqStopOf n).updPriv fun p => { p with scheds := p.scheds.filter fun s => s.id.room ≠ n }

/-- A session's votes are withdrawn. -/
def Device.dropVotes (d : Device) (n : RoomId) : Device := d.updVotes fun vs => dropHolder vs (.room n)

/-- What a Room reset clears but for rail votes (R259, R452, R486, R487, R518, R608). -/
def Device.roomClear (d : Device) (n : RoomId) : Device :=
  let d := ((((d.resolveRoom n fun _ => true).discardRecs n fun _ => true).dropWork n).gwdOff n).setFloor n none
  let d := (((d.clearDedup n).larderReset n).digAbortRoom n).updPriv fun p =>
    { p.adcRelease n with chgSets := p.chgSets.filter fun x => x.room ≠ n,
                          dcLimits := p.dcLimits.filter fun x => x.1 ≠ n,
                          kinSets := p.kinSets.filter fun x => x.1 ≠ n,
                          kinUsers := p.kinUsers.filter fun x => x.room ≠ n }
  let d := d.updRoom n fun r => { r with sqTail := 0, sqHead := 0, cqHead := 0, cqTail := 0, cqWait := false, evFlags := 0 }
  d.winWrite n 0xF00 (List.replicate 256 0)

/-- A Room becomes Closed or Parked (R291, R304). -/
def RoomRegs.shut (r : RoomRegs) (st : RoomSt) : RoomRegs :=
  { r with st := st, version := 0, session := if st = .closed then 0 else r.session, closing := none,
           evFlags := if st = .closed then 0 else r.evFlags, evEnable := if st = .closed then 0 else r.evEnable }

/-- The Batch edge closes or parks the Rooms that wait for it (R257, R259). -/
def Device.closeRooms (d : Device) : Device :=
  { d with rooms := d.rooms.map fun r => match r.closing with | some st => r.shut st | none => r }

/-- A Room reset with its cause (R259): of a Closed Room no vote is withdrawn (R266). -/
def Device.roomReset (d : Device) (n : RoomId) (cause : Nat) : Device :=
  let shut := decide ((d.rooms.get n).st = .closed)
  ((((d.roomClear n).when (!shut) (·.dropVotes n)).updRoom n fun r => { r with closing := some .closed }).raise
    (coded 4 2 (256 * n.val + cause)))

/-- A cold takeover closes a Room at once, its rail votes kept (R187). -/
def Device.roomColdClose (d : Device) (n : RoomId) : Device := (d.roomClear n).updRoom n fun r => r.shut .closed

/-- A swap to an image that excludes the Room's version closes it with its votes held (R221). -/
def Device.roomVersionClose (d : Device) (n : RoomId) : Device :=
  ((d.roomClear n).holdRoomVotes n).updRoom n fun r => { r with closing := some .closed }

/-- Every Room is closed and every request discarded: LODGE, SHIP and every start (R94, R100, R113, R302). -/
def Device.roomsEnd (d : Device) : Device :=
  let d := d.each all16 fun n d => (d.roomClear n).updRoom n fun r => r.shut .closed
  d.updReqs fun _ => { recs := [], dedup := Vector.replicate 16 [], produced := Vector.replicate 16 0, waiting := [] }

/-! ### `HELLO` (R254 to R256, R263) -/

/-- The SMP version that a host range agrees on (R255): the highest of 3.0 to 3.2 within both ranges. -/
def Device.agree (d : Device) (lo hi : Nat) : Option Nat :=
  let s := d.smpRange
  [0x302, 0x301, 0x300].find? fun v => decide (lo ≤ v) && decide (v ≤ hi) && decide (s.1 ≤ v) && decide (v ≤ s.2)

/-- The quota of a Room, 64 in ROM Safe Hold (R222). -/
def Device.quotaOf (d : Device) (n : RoomId) : Nat := if d.romHold then 64 else (d.rooms.get n).quota

/-- The result of `HELLO` (R263). -/
def Device.helloResult (d : Device) (n : RoomId) (kept : Bool) : List Byte :=
  let r := d.rooms.get n
  leBytes 2 r.version ++ leBytes 1 n.val ++ leBytes 1 (d.privOf n) ++ leBytes 2 (d.quotaOf n) ++
    leBytes 1 (if r.idIrq < 4 then r.idIrq else 0xFF) ++
    leBytes 1 (b2n kept + 2 * b2n d.faults.safeHold + 4 * b2n d.keepers.cold)

/-- What opening or reopening does to the keeper's state (R86, R252, R254, R256). -/
def Device.helloPriv (d : Device) (n : RoomId) (keep : Bool) : Device :=
  ((((d.dropWork n).gwdOff n).when (!keep) (·.dropVotes n)).setFloor n (some (floorOf (d.fn Fld.pwrRoomFloor))))

/-- Opens or reopens a Room (R254, R256, R292, R302). -/
def Device.helloOpen (d : Device) (id : ReqId) (version : Nat) (session : Word) (keep : Bool) : Device × Answer :=
  let n := id.room
  let was := decide ((d.rooms.get n).st ≠ .closed)
  let other := fun (r : Rec) => r.id != id
  let d := (((d.resolveRoom n other).discardRecs n other).clearDedup n).helloPriv n keep
  let d := d.updRoom n fun r => { r with
    st := .opened, version := version, session := session, cqHead := r.cqTail, cqWait := false, crcErrs := 0,
    frameErrs := 0, ringErrs := 0, linkErr := false, closing := none }
  (d, ok (d.helloResult n (was && keep)))

/-- `HELLO` (R263). -/
def cmdHello : Cmd :=
  { op := 0x000, cls := .session, len := 9, safe := .all, once := fun _ => true,
    argsOk := fun _ _ a => decide (numAt a 0 2 ≤ numAt a 2 2) && decide (byteAt a 8 ≤ 1),
    run := fun d id a =>
      let r := d.rooms.get id.room
      let session : Word := BitVec.ofNat 32 (numAt a 4 4)
      if r.st = .opened ∧ r.session = session ∧ r.closing.isNone then
        (d, .done stOk (d.helloResult id.room true) false true)
      else match d.agree (numAt a 0 2) (numAt a 2 2) with
        | none => (d, fails stVersion)
        | some v => d.helloOpen id v session (byteAt a 8 == 1),
    redo := some fun d r a =>
      match r.compl with
      | some c => d.when (c.status == 0 && !c.dup) (·.helloPriv r.id.room (byteAt a 8 == 1))
      | none => d }

/-! ### The other session commands -/

/-- What closing by `BYE` does to the keeper's state (R257). -/
def Device.byePriv (d : Device) (n : RoomId) (keep : Bool) : Device :=
  ((d.gwdOff n).setFloor n none).when (!keep) (·.dropVotes n)

/-- `BYE` (R257, R264). -/
def cmdBye : Cmd :=
  { op := 0x001, cls := .session, len := 1, safe := .all, argsOk := fun _ _ a => decide (byteAt a 0 ≤ 1),
    run := fun d id a =>
      let n := id.room
      let keep := byteAt a 0 == 1
      if d.reqs.recs.any fun r => r.id.room == n && r.id != id && r.st != .done then (d, fails stBusy)
      else
        ((((d.byePriv n keep).clearDedup n).digAbortRoom n).updRoom n fun r =>
          { r with closing := some (if keep then .parked else .closed) }, ok),
    redo := some fun d r a =>
      match r.compl with
      | some c => d.when (c.status == 0) (·.byePriv r.id.room (byteAt a 0 == 1))
      | none => d }

/-- `PING` (R265). -/
def cmdPing : Cmd :=
  { op := 0x002, cls := .session, len := 8, safe := .all, argsOk := fun _ _ _ => true,
    run := fun d _ a => (d, ok (slice a 0 8)) }

/-- `TIME` (R155). -/
def cmdTime : Cmd :=
  { op := 0x003, cls := .session, len := 0, safe := .all, argsOk := fun _ _ _ => true,
    run := fun d _ _ => (d, ok (leBytes 8 d.batch.edgeTime)) }

/-- The state byte of `ROOM_QUERY` (R267). -/
def RoomRegs.queryState (r : RoomRegs) : Nat :=
  if r.idPort = 0 then 3 else match r.st with | .closed => 0 | .opened => 1 | .parked => 2

/-- `ROOM_QUERY` (R267). -/
def cmdRoomQuery : Cmd :=
  { op := 0x004, cls := .session, len := 1, safe := .all, argsOk := fun _ _ a => decide (byteAt a 0 ≤ 15),
    run := fun d _ a =>
      let n := fin16 (byteAt a 0)
      let r := d.rooms.get n
      (d, ok (leBytes 1 r.queryState ++ leBytes 1 (d.privOf n) ++ leBytes 2 r.version ++ leBytes 2 (d.quotaOf n) ++
        leBytes 2 (d.held n))) }

/-- `ROOM_RESET` (R266). -/
def cmdRoomReset : Cmd :=
  { op := 0x005, cls := .session, len := 2, safe := .all, once := fun _ => true,
    priv := fun d n a => decide (byteAt a 0 = n.val) || decide (d.privOf n = 0),
    argsOk := fun d _ a => decide (byteAt a 0 ≤ 15) && decide (byteAt a 1 = 0xA5) &&
      decide ((d.rooms.get (fin16 (byteAt a 0))).idPort ≠ 0),
    run := fun d id a =>
      let n := fin16 (byteAt a 0)
      let d := (d.updRec id fun r => { r with intent := .closed }).roomReset n 1
      if n = id.room then (d, .gone) else (d, ok),
    redo := some fun d _ a =>
      let n := fin16 (byteAt a 0)
      ((d.dropVotes n).byePriv n false).dropWork n }

end Sys2Proof.Machine
end

