-- ==== Sys2Proof/Machine/Power.lean ====
section
/-! DEFINITION. Power states (R83 to R103): floors, LODGE and SHIP, wake events, and the `PWR_` commands. -/
namespace Sys2Proof.Machine

/-! ### Floors (R86 to R90) -/

/-- Codes of the power states, the shallowest first (R119). -/
def PowerState.code : PowerState → Nat
  | .run => 0 | .doze => 1 | .rest => 2

/-- The shallower of two floors. -/
def shallower (a b : PowerState) : PowerState := if a.code ≤ b.code then a else b

/-- An image stage or commit, an NVM erase, a keeper swap or a Recipe switch is in progress (R90). -/
def Device.swapOrStore (d : Device) : Bool :=
  d.images.stage.isSome || d.images.erasing.isSome || d.images.closeWait.isSome || d.images.abortWait.isSome ||
    d.images.commit.isSome || d.rcp.erasing.isSome || d.rcp.switch.isSome || d.keepers.busy ||
    (match d.keys.loading with | some (_, _, none) => true | _ => false)

/-- The conditions that hold DOZE (R90). -/
def Device.holdsDoze (d : Device) : Bool :=
  d.power.bootFloor || (d.kinPresent && !d.kin.stopped) || d.burstHeld || d.chg.phase.charging || d.path.dcValid ||
    d.faults.safeHold

/-- The internal floors that are active (R90, R725). -/
def Device.internalFloors (d : Device) : List PowerState :=
  (if d.holdsDoze then [PowerState.doze] else []) ++
    (if d.swapOrStore || d.attachFloor then [PowerState.run] else [])

/-- The combined floor (R87). -/
def Device.floorNow (d : Device) : PowerState :=
  match d.priv.floors.toList.filterMap id ++ d.internalFloors with
  | [] => floorOf (d.fn Fld.pwrIdleFloor)
  | f :: l => l.foldl shallower f

/-! ### Wake events (R95, R96) -/

/-- Number of the KEEP clock period that device time lies in. -/
def keepPeriod (t : Nat) : Nat := t * 512 / 15625

/-- A wake event is enabled: the alarm when armed with one, the others by their mask bit. -/
def Power.wakes (p : Power) (code : Nat) : Bool :=
  p.wakeArmed && (if code = 1 then decide (p.wakeAlarm ≠ 0) else bit p.wakeMask (code - 2))

/-- A comparator is set up in the Recipe in force (R97, R738). -/
def Device.cmpOn (d : Device) (k : Nat) : Bool :=
  decide (fieldByte (d.fld (if k = 0 then Fld.pwrCmp0 else Fld.pwrCmp1)) 0 ≠ 0)

/-- The charger does not run from here to step 10: its FET follows (R107, R491, R494, R514). -/
def Device.chgPause (d : Device) : Device :=
  if d.chg.phase = .precharge ∧ d.chg.preFetOff then d.updPath fun p => { p with fet := .off }
  else if d.path.fet = .off then d else d.updPath fun p => { p with fet := .supply }

/-- The start gate begins timing (R106). -/
def Device.gateBegin (d : Device) : Device := d.updPower fun p => { p with phase := .gate, gateSince := d.now }

/-- LODGE is left for a wake code of KEEP clock period `period`: the start gate comes first (R98). -/
def Device.lodgeLeave (d : Device) (code period : Nat) : Device :=
  (d.chgPause.gateBegin).updPower fun p => { p with
    resetCause := 6, wakeCause := code, sampleRsel := false, wakeLatched := [], exitPeriod := some period }

/-- The exit from LODGE is logged with its wake cause, once no event of its period can lower that any more (R96, R651). -/
def Device.exitLog (d : Device) : Device :=
  match d.power.exitPeriod with
  | some _ => (d.raise (coded 0x13 2 (256 * d.power.wakeCause))).updPower fun p => { p with exitPeriod := none }
  | none => d

/-- A wake event (R95, R96): in LODGE the device leaves it; before that the event is latched; within the KEEP clock period of the
exit the lowest code counts. -/
def Device.wakeEvent (d : Device) (code : Nat) : Device :=
  if d.power.wakes code then
    match d.power.phase with
    | .lodge => d.lodgeLeave code (keepPeriod d.now)
    | .open | .lodgeDown =>
      d.updPower fun p => { p with wakeLatched := p.wakeLatched ++ [16 * keepPeriod d.now + code] }
    | .gate =>
      d.when (decide (d.power.exitPeriod = some (keepPeriod d.now)) && decide (code < d.power.wakeCause))
        (·.updPower fun p => { p with wakeCause := code })
    | _ => d
  else d

/-! ### LODGE and SHIP (R91 to R102, R399) -/

/-- A forced entry at the edge that ends the Batch in which its cause is handled (R93). -/
def Device.forceLodge (d : Device) : Device :=
  d.updPriv fun p => { p with lodge := some {
    batch := d.batch.number.toNat, alarm := d.fn Fld.pwrLodgeAlarm, mask := d.fn Fld.pwrLodgeWake, forced := true } }

/-- The Batch at whose end LODGE begins (R92, R93). -/
def Device.lodgeBatch (d : Device) (l : LodgePlan) : Nat := if l.forced then l.batch else l.batch + d.fn Fld.pwrGrace

/-- LODGE begins at the edge that ends the current Batch. -/
def Device.lodgeDue (d : Device) : Bool :=
  match d.priv.lodge with
  | some l => decide (d.lodgeBatch l ≤ d.batch.number.toNat)
  | none => false

/-- A restart begins at the edge that ends the current Batch, with its start cause (R122, R704). -/
def Device.restartDue (d : Device) : Option Nat :=
  match d.priv.restart with
  | some (b, cause) =>
    if b + (if cause = 4 then d.fn Fld.pwrGrace else 0) ≤ d.batch.number.toNat then some cause else none
  | none => none

/-- The conditions of SHIP entry at a Batch edge at time `t` (R99). -/
def Device.shipDue (d : Device) (t : Nat) : Bool :=
  d.priv.shipArmed && !d.path.dcValid && decide (d.path.dcSince + 1000 * d.fn Fld.pwrShipDelay ≤ t) &&
    d.burst.running.isNone

/-- Wake sources are armed with a plan's alarm and mask. -/
def Device.wakeArm (d : Device) (l : LodgePlan) : Device :=
  d.updPower fun p => { p with wakeArmed := true, wakeMask := l.mask, wakeAlarm := l.alarm }

/-- The Batch after a `PWR_LODGE` arms the wake sources (R95). -/
def Device.wakeArmEdge (d : Device) : Device :=
  match d.priv.lodge with
  | some l => if d.power.wakeArmed then d else d.wakeArm l
  | none => d

/-- What LODGE and SHIP entry end: Rooms and requests, stages, writes and a switch, AUTH, the angle engine, the sampling
groups, the digest engine, and reservations and bursts that have not started (R94, R100, R226, R481, R582, R608, R631,
R711). -/
def Device.entryEnds (d : Device) : Device :=
  let d := ((((((d.roomsEnd).larderStop).authEnd).kinStop).adcStop).digStop).chgWithdraw
  ((d.updImages fun i => { i with erasing := none, stage := none, closeWait := none, abortWait := none, commit := none }).updRcp fun r =>
    { r with erasing := none, write := none, switch := none }).updPriv fun p =>
      { p with lodge := none, restart := none, shipArmed := false, pvSet := none, scheds := [] }

/-- LODGE begins at an edge at time `t`: `HRST_N` is asserted, and the power-down sequence starts (R94, R399). -/
def Device.lodgeBegin (d : Device) (t : Nat) : Device :=
  match d.priv.lodge with
  | none => d
  | some l =>
    let d := if d.power.wakeArmed && !l.forced then d else d.wakeArm l
    let d := (d.updPower fun p => { p with phase := .lodgeDown, lodgeStart := t }).updPins fun p => { p with hrstLow := true }
    let (x, d) := d.free
    let noSet := fun (g : Targets) => { g with chgInhibit := false, chgCap := none }
    (((d.entryEnds.gaugeLodge.downBegin).updShadow noSet).updActive noSet).raise (coded 0x13 2 (256 * (x % 256) + 1))

/-- SHIP entry begins at an edge (R100). -/
def Device.shipBegin (d : Device) : Device :=
  (d.entryEnds.downBegin).updPower fun p => { p with phase := .shipDown }

/-- Every rail but LDO5 turns off at once, and every vote ends (R399). -/
def Device.allRailsOff (d : Device) : Device :=
  let d := { d with rails := { d.rails with
    rails := Vector.ofFn fun r => if r.val = 8 then d.rails.rails.get r else (d.rails.rails.get r).turnOff } }
  let off := fun (t : Targets) => { t with rails := t.rails.map fun x => { x with en := false } }
  ((d.updShadow off).updActive off).updVotes fun _ => []

/-- A keeper turns off. -/
def Device.keeperOff (d : Device) (k : Sys2Proof.Keeper) : Device :=
  let f := fun (s : KeeperState) =>
    { s with role := if s.role = .quarantined then Role.quarantined else Role.offline,
             offUse := .nothing, slot := none, image := [], hot := none, powered := false, halted := false }
  (d.updKeeper k f).wdStop k

/-- Both keepers turn off (R94, R100). -/
def Device.keepersOff (d : Device) : Device := (d.keeperOff .a).keeperOff .b

/-- LODGE is reached when the power-down sequence has ended: a latched wake event leaves it at once (R94 to R96). -/
def Device.lodgeReached (d : Device) : Device :=
  let d := (d.allRailsOff.keepersOff).updPower fun p => { p with phase := .lodge }
  match d.power.wakeLatched with
  | [] => d
  | x :: l => let e := l.foldl min x
              d.lodgeLeave (e % 16) (e / 16)

/-- The AON node, fed from `BAT`, holds the battery FET in SUPPLY at 2.20 V or more, else OFF, with cause 1 (R105, R417). -/
def Device.aonFet (d : Device) (batMv : Nat) : Device :=
  (d.updPath fun p => { p with fet := if batMv ≥ 2200 then .supply else .off,
                               fetCause := if batMv ≥ 2200 then 0 else 1 }).updPower fun p => { p with aonMv := batMv }

/-- The AON node has its supply, so `BTN_N` is active (R37). -/
def Power.aonLive (p : Power) : Bool := decide (1500 ≤ p.aonMv)

/-- What the keeper's step 1 samples, and BAT as the AON node sees it. -/
def Device.sampled (d : Device) (sm : Sys2Proof.Sample) : Device :=
  { d with sample := sm, power := { d.power with aonMv := sm.batMv } }

/-- The Ledger writer writes what the FIFO holds. -/
def Device.ledgerDrain (d : Device) : Device := (List.range 80).foldl (fun x _ => x.ledgerStep) d

/-- The SHIP latch clears: POR, in which the AON node decides the battery FET, and from which a cold start follows (R101,
R105). -/
def Device.shipLeave (d : Device) : Device :=
  if d.power.phase = .ship then
    (d.updPower fun p => { p with phase := .por, shipLatch := false, resetCause := 7 }).aonFet d.power.aonMv
  else d

/-- SHIP is reached: the Ledger entry, the records that are kept over it, then the latch and the battery FET (R100, R547,
R560); a DCIN that is valid by now clears the latch (R101, R125). -/
def Device.shipReached (d : Device) : Device :=
  let d := ((d.allRailsOff.gaugeSave).larderSave).raise (coded 0x13 3)
  let z := (d.ledgerDrain).porReset
  let z := { z with power := { z.power with phase := .ship, shipLatch := true, resetCause := 7 } }
  z.when z.path.dcValid (·.shipLeave)

/-! ### Commands (R119 to R123) -/

/-- A burst is granted or running, or another reason for which `PWR_LODGE` is `BUSY` (R120). -/
def Device.lodgeBusy (d : Device) : Bool :=
  d.burstHeld || d.images.stage.isSome || d.images.erasing.isSome || d.images.closeWait.isSome ||
    d.images.abortWait.isSome || d.images.commit.isSome || d.priv.shipArmed || d.leavePending

/-- `PWR_QUERY` (R123). -/
def cmdPwrQuery : Cmd :=
  { op := 0x010, cls := .read, len := 0, safe := .all, argsOk := fun _ _ _ => true,
    run := fun d id _ =>
      let p := d.power
      (d, ok (leBytes 1 p.state.code ++
        leBytes 1 (b2n d.faults.safeHold + 2 * b2n d.priv.shipArmed + 4 * b2n d.leavePending) ++
        leBytes 1 p.resetCause ++ leBytes 1 p.wakeCause ++ leBytes 1 d.floorNow.code ++
        leBytes 1 (match d.priv.floors.get id.room with | some f => f.code | none => floorOf (d.fn Fld.pwrIdleFloor) |>.code) ++
        leBytes 2 p.bootSeq)) }

/-- `PWR_FLOOR` (R119). -/
def cmdPwrFloor : Cmd :=
  { op := 0x011, cls := .roomChange, len := 1, safe := .owner, argsOk := fun _ _ a => decide (byteAt a 0 ≤ 2),
    run := fun d id a => (d.setFloor id.room (some (floorOf (byteAt a 0))), ok),
    late := fun d _ _ => some (leBytes 1 d.floorNow.code) }

/-- The plan of a `PWR_LODGE` executed in a Batch. -/
def lodgePlan (batch : Nat) (a : List Byte) : LodgePlan :=
  { batch := batch, alarm := numAt a 0 4, mask := byteAt a 4, forced := false }

/-- `PWR_LODGE` (R120). -/
def cmdPwrLodge : Cmd :=
  { op := 0x012, cls := .deviceChange, len := 5, safe := .never, once := fun _ => true,
    argsOk := fun d _ a =>
      let m := byteAt a 4
      decide (numAt a 0 4 ≤ 31536000) && (decide (numAt a 0 4 ≠ 0) || decide (m ≠ 0)) && decide (m < 32) &&
        (!bit m 3 || d.cmpOn 0) && (!bit m 4 || d.cmpOn 1),
    run := fun d _ a =>
      if d.lodgeBusy then (d, fails stBusy)
      else (d.updPriv fun p => { p with lodge := some (lodgePlan d.batch.number.toNat a) }, ok),
    redo := some fun d r a =>
      match r.compl, r.execBatch with
      | some c, some b => d.when (c.status == 0) (·.updPriv fun p => { p with lodge := some (lodgePlan b.toNat a) })
      | _, _ => d }

/-- `PWR_SHIP` (R121). -/
def cmdPwrShip : Cmd :=
  { op := 0x013, cls := .deviceChange, len := 1, safe := .owner,
    argsOk := fun _ _ a => decide (byteAt a 0 = 1) || decide (byteAt a 0 = 2),
    run := fun d _ a =>
      if byteAt a 0 = 2 then (d.updPriv fun p => { p with shipArmed := false }, ok)
      else if d.leavePending then (d, fails stBusy)
      else (d.updPriv fun p => { p with shipArmed := true }, ok) }

/-- `PWR_RESTART` (R122). -/
def cmdPwrRestart : Cmd :=
  { op := 0x014, cls := .deviceChange, len := 1, safe := .owner, once := fun _ => true,
    argsOk := fun _ _ a => decide (byteAt a 0 = 0x5A),
    run := fun d _ _ =>
      if d.leavePending then (d, fails stBusy)
      else (d.updPriv fun p => { p with restart := some (d.batch.number.toNat, 4) }, ok),
    redo := some fun d r _ =>
      match r.compl, r.execBatch with
      | some c, some b => d.when (c.status == 0) (·.updPriv fun p => { p with restart := some (b.toNat, 4) })
      | _, _ => d }

end Sys2Proof.Machine
end

