-- ==== Sys2Proof/Machine/FaultCmds.lean ====
section
/-! DEFINITION. Leaving Safe Hold (R658), the pair table (R645), the Ledger as a reader sees it (R665), and the `FAULT_` and
`LEDGER_` commands (R671 to R674). -/
namespace Sys2Proof.Machine

/-! ### Safe Hold (R656, R658) -/

/-- In the first working Batch after entry, the keeper places the hold votes on the safe rails (R656); LDO5 takes none. -/
def Device.safeVotes (d : Device) : Device :=
  if d.faults.safeHold ∧ d.faults.gating ∧ d.faults.holdVotes = false ∧ d.faults.leaving = false then
    let rails := all16.filter fun r => bit (d.fn Fld.fltSafeRails) r.val && decide (r.val ≠ 8) && d.railThere r
    (d.updVotes fun vs => dropHolder vs .safe ++ rails.map fun r =>
      ({ holder := .safe, rail := r, mv := 0, code := 0 } : Vote)).updFaults fun f => { f with holdVotes := true }
  else d

/-- Every C3 entry of the active table becomes C2 (R654). -/
def Faults.holdToTrip (f : Faults) : Faults :=
  { f with active := f.active.map fun a => if a.cls = .hold then { a with cls := .trip } else a }

/-- Safe Hold ends (R658). -/
def Faults.endHold (f : Faults) : Faults :=
  { f.holdToTrip with safeHold := false, gating := false, holdVotes := false, leaving := false }

/-- A Batch edge on Safe Hold: it is left, or its gating begins (R656, R658). -/
def Device.safeEdge (d : Device) : Device :=
  if d.faults.leaving then ((d.updFaults Faults.endHold).raise (coded 0x0F 4 0))
  else d.when d.faults.safeHold (·.updFaults fun f => { f with gating := true })

/-- Safe Hold is to be left at the edge that ends the Batch: its hold votes are withdrawn (R658). -/
def Device.safeLeave (d : Device) : Bool × Device :=
  if d.faults.safeHold ∧ d.faults.leaving = false then
    (true, (d.updVotes fun vs => dropHolder vs .safe).updFaults fun f => { f with leaving := true })
  else (false, d)

/-! ### The Ledger as read (R663 to R665) -/

/-- Slots of the Ledger with a programmed byte, in ascending order. -/
def Device.ledgerSlots (d : Device) : List Nat :=
  (d.nvm.foldl (fun (acc : List Nat) c =>
    if 0xC0000 ≤ c.1 ∧ c.1 < 0xE0000 then
      let s := (c.1 - 0xC0000) / 16
      if acc.head? = some s then acc else s :: acc
    else acc) []).reverse

/-- The entries whose `check` verifies: `seq`, slot and bytes, in ascending `seq`. -/
def Device.ledgerEntries (d : Device) : List (Nat × Nat × List Byte) :=
  sortBy (·.1) (d.ledgerSlots.filterMap fun s =>
    let b := d.nvmRead (ledgerAddr s) 16
    let q := numAt b 0 4
    if crc8 (slice b 0 15) = b.getD 15 0 ∧ 1 ≤ q ∧ q ≤ 0xFFFFFFFE then some (q, s, b) else none)

/-- `seq` of the latest `LEDGER_MARK` entry. -/
def lastMark (l : List (Nat × Nat × List Byte)) : Option Nat :=
  ((l.filter fun e => numAt e.2.2 6 2 == 0x0F06).getLast?).map (·.1)

/-- The `seq` at which `LEDGER_READ` starts (R672); without a mark, with the oldest entry (log entry 30). -/
def ledgerStart (l : List (Nat × Nat × List Byte)) (start : Nat) : Nat :=
  if start ≠ 0 then start else match lastMark l with | some m => m + 1 | none => 0

/-! ### Commands -/

/-- An active entry as `FAULT_READ` returns it (R671). -/
def ActiveEntry.bytes (a : ActiveEntry) : List Byte :=
  leBytes 4 a.msg.toNat ++ leBytes 6 a.batch.toNat ++ leBytes 1 a.cls.code ++ leBytes 1 a.occurrences ++
    leBytes 4 a.ledgerSeq.toNat

/-- `FAULT_READ` (R671). -/
def cmdFaultRead : Cmd :=
  { op := 0x700, cls := .read, feature := some 9, len := 2, safe := .all,
    argsOk := fun _ _ a => decide (byteAt a 0 ≤ 31) && decide (byteAt a 1 ≤ 1),
    run := fun d id a =>
      let first := byteAt a 0
      let got := (d.faults.active.drop first).take 16
      let res := leBytes 1 d.faults.active.length ++ leBytes 1 got.length ++ leBytes 1 (d.mirFault / 256) ++
        leBytes 1 (d.mirFault % 256) ++ leBytes 4 d.faults.seq.toNat
      let d := d.buffer id.room 0 (slice (got.flatMap ActiveEntry.bytes) 0 256)
      let d := d.when (byteAt a 1 == 1) (·.updFaults fun f => { f with
        active := (f.active.take first) ++ ((f.active.drop first).take 16).map (fun e => { e with read := true }) ++
          f.active.drop (first + 16) })
      (d, ok res) }

/-- `LEDGER_READ` (R672). -/
def cmdLedgerRead : Cmd :=
  { op := 0x701, cls := .read, feature := some 9, len := 5, safe := .all,
    argsOk := fun _ _ a => decide (1 ≤ byteAt a 4) && decide (byteAt a 4 ≤ 16),
    run := fun d id a =>
      let l := d.ledgerEntries
      let start := ledgerStart l (numAt a 0 4)
      let got := (l.filter fun e => decide (start ≤ e.1)).take (byteAt a 4)
      let oldest := match l.head? with | some e => e.1 | none => 0
      let latest := match l.getLast? with | some e => e.1 | none => 0
      (d.buffer id.room 0 (slice (got.flatMap fun e => e.2.2) 0 256), ok (leBytes 4 oldest ++ leBytes 4 latest)) }

/-- The change that an action of `FAULT_CLEAR` makes (R673). -/
def Device.faultClear (d : Device) (action target : Nat) : Bool × Device :=
  match action with
  | 1 => d.safeLeave
  | 2 =>
    let r := fin16 target
    (decide (d.railSt r = .held), d.releaseHeld r)
  | 3 => (all16.any fun r => decide (d.railSt r = .held), d.each all16 fun r d => d.releaseHeld r)
  | 4 => (d.path.ocHeld, d.updPath fun p => { p with ocHeld := false })
  | 5 => (!d.faults.active.isEmpty, d.updFaults fun f => { f with active := [] })
  | _ => (true, d)

/-- The message that `FAULT_CLEAR` logs (R651, R673). -/
def clearMessage (room : RoomId) (action target : Nat) : Word :=
  if action = 6 then coded 0x0F 6 room.val else coded 0x0F 5 (256 * action + target)

/-- `MIR.FAULT` as after the edge that ends the Batch (R673). -/
def Device.mirFaultAfter (d : Device) : Nat :=
  (if d.faults.leaving then d.updFaults Faults.endHold else d).mirFault

/-- `FAULT_CLEAR` (R673). -/
def cmdFaultClear : Cmd :=
  { op := 0x702, cls := .deviceChange, feature := some 10, len := 2, safe := .owner, once := fun _ => true,
    argsOk := fun _ _ a =>
      let x := byteAt a 0
      decide (1 ≤ x) && decide (x ≤ 6) && (if x = 2 then decide (byteAt a 1 ≤ 15) else decide (byteAt a 1 = 0)),
    run := fun d id a =>
      let (changed, d) := d.faultClear (byteAt a 0) (byteAt a 1)
      let d := d.raise (clearMessage id.room (byteAt a 0) (byteAt a 1))
      (d, ok (leBytes 1 (b2n changed) ++ leBytes 1 (d.mirFaultAfter % 256) ++ leBytes 2 0 ++ leBytes 4 d.lastSeq)),
    late := fun d id _ =>
      match (d.reqs.recs.find? fun r => r.id == id).bind (·.compl) with
      | some c => some (slice c.result 0 1 ++ leBytes 1 (d.mirFaultAfter % 256) ++ slice c.result 2 6)
      | none => none }

/-- The wires of the 24 pairs as `FAULT_PROBE` returns them: bit 2p is pair p's first wire (R674). -/
def Device.probeWires (d : Device) : Nat := maskOf 48 fun i =>
  match d.faults.pairs.toList[i / 2]? with
  | some p => if i % 2 = 0 then p.wireT else p.wireC
  | none => false

/-- What `FAULT_PROBE` has gathered since the previous one (R674). -/
def Faults.probeReport (f : Faults) : List Byte :=
  leBytes 2 f.probeLimit.toNat ++ leBytes 2 f.probeOv.toNat ++ leBytes 2 f.probePg.toNat ++ leBytes 1 f.probeMisc.toNat ++
    leBytes 1 f.probeTherm.toNat

/-- `FAULT_PROBE` (R674). -/
def cmdFaultProbe : Cmd :=
  { op := 0x703, cls := .deviceChange, len := 0, safe := .owner, argsOk := fun _ _ _ => true,
    priv := fun d n _ => decide ((d.rooms.get n).idPort = 3),
    run := fun d id _ =>
      let f := d.faults
      let d := d.updFaults fun f => { f with probeLimit := 0, probeOv := 0, probePg := 0, probeMisc := 0, probeTherm := 0 }
      (d.buffer id.room 0 (slice f.probeReport 0 256), ok (leBytes 6 d.probeWires)) }

/-! ### The pair table (R644 to R646) -/

/-- The message of a pair at fault: for pairs 6 to 13, and where two kinds share a pair, `cause` is the kind. -/
def pairMessage (p : Nat) (cause qual : Nat) : Word :=
  if p < 6 then coded 2 (p % 3 + 1) (p / 3)
  else if p < 14 then coded 6 cause qual
  else match p with
    | 14 => coded 8 5 qual
    | 15 => coded 0x0A (if cause = 5 then 5 else 4) qual
    | 16 => coded 8 3 qual
    | 17 => coded 8 1 qual
    | 18 => coded 8 (if cause = 10 then 10 else 11) qual
    | 19 => coded 0x12 (if cause = 2 then 2 else 1) qual
    | 20 => coded 0x12 3 qual
    | 21 => coded 0x12 4 qual
    | 22 => coded 0x12 5
    | _ => coded 0x11 1

/-- The keeper whose failure a pair shows (R190). -/
def pairKeeper (p : Nat) : Option Sys2Proof.Keeper := if p < 3 then some .a else if p < 6 then some .b else none

/-- A second fault on pair 19 lies within 10 s of the first (R646). -/
def Device.dieAgain (d : Device) : Bool :=
  match d.faults.dieTime with
  | some t => decide (d.now ≤ t + 10000000)
  | none => false

/-- The collector's action on a die fault (R646): the charge current stops with `dieHot`. -/
def Device.dieFault (d : Device) : Device :=
  let was := (d.railSt 9).isOn
  ((d.updFaults fun f => { f with dieHot := true, dieTime := some d.now,
                                  probeMisc := f.probeMisc ||| 0x20 }).tripDie).when was (·.ldo6Left)

/-- The collector's action on a pair that is the hardware's own: the die, the struck record of the request table RAM
(R767), and the mirror RAM's buffer (R645). -/
def Device.pairAction (d : Device) (p qual : Nat) : Device :=
  if p = 19 then d.dieFault
  else if p = 20 then d.eccHit qual
  else if p = 21 then d.updCkpt (decide (qual ≠ 0)) fun c => { c with mark := 0 }
  else d

/-- The wires of a pair. -/
def Device.pairWires (d : Device) (p : Fin 24) (t c treated : Bool) : Device :=
  d.updFaults fun f => { f with pairs := vput f.pairs p { wireT := t, wireC := c, treated := treated } }

/-- A pair back in state 01 for 1 ms (R644). A hardware-evidenced TAKEOVER that the pair raised stays raised until it is granted
(DESIGN CHOICE, log entry 110: R175 does not say whether this clears its cause). -/
def Device.pairReturn (d : Device) (p : Fin 24) : Device := d.pairWires p false true false

/-- The die has cooled below 120 °C (R646). -/
def Device.dieCool (d : Device) : Device := d.updFaults fun f => { f with dieHot := false }

end Sys2Proof.Machine
end

