-- ==== Sys2Proof/Machine/RailCmds.lean ====
section
/-! DEFINITION. The `RAIL_` and `SEQ_` commands (R378, R402 to R408). -/
namespace Sys2Proof.Machine

/-! ### `RAIL_VOTE` (R405) -/

/-- The vote that the arguments of `RAIL_VOTE` carry. -/
def voteArgs (n : RoomId) (a : List Byte) : Vote :=
  { holder := .room n, rail := fin16 (byteAt a 0), mv := numAt a 4 2, code := byteAt a 2 }

/-- The arguments of `RAIL_VOTE` but for byte 1. -/
def voteOk (d : Device) (a : List Byte) : Bool :=
  let r := fin16 (byteAt a 0)
  let code := byteAt a 2
  let mv := numAt a 4 2
  decide (byteAt a 0 ≤ 15) && decide (r.val ≠ 8) && d.railThere r && decide (code ≠ 1) && decide (code ≤ 25) &&
    decide (byteAt a 3 = 0) && zeroAt a 6 2 && d.voteMvOk r mv &&
    (bit (byteAt a 1) 0 || (decide (code = 0) && decide (mv = 0)))

/-- Places or withdraws a Room's vote; one that a running sequence placed is then no longer that run's (R250, R396). -/
def Device.voteChange (d : Device) (v : Vote) (enable : Bool) : Device :=
  let run := d.priv.seqRun.map fun s =>
    if d.seqHolder s = v.holder then { s with placed := s.placed.filter (· != v.rail) } else s
  (d.updVotes fun vs => if enable then placeVote vs v else dropVote vs v.holder v.rail).updPriv fun p => { p with seqRun := run }

/-- The result of `RAIL_VOTE` at step 5. -/
def Device.voteResult (d : Device) (v : Vote) (enable : Bool) : List Byte :=
  let t := d.shadow.rails.get v.rail
  let st := d.railSt v.rail
  leBytes 1 (b2n t.en + 2 * b2n (enable && d.clipped v.rail v.mv) + 4 * b2n (decide (st = .tripped) || decide (st = .held))) ++
    leBytes 2 (if t.en && !isSwitch v.rail then t.mv else 0) ++ leBytes 1 (if t.en then t.ilim else 0) ++
    leBytes 1 (d.priv.votes.filter fun x => x.rail == v.rail).length

/-- `RAIL_VOTE` (R405). -/
def cmdRailVote : Cmd :=
  { op := 0x100, cls := .roomChange, len := 8, safe := .owner, allot := fun d n a => decide (15 < byteAt a 0) || d.mayRail n (byteAt a 0),
    argsOk := fun d _ a => decide (byteAt a 1 ≤ 1) && voteOk d a,
    run := fun d id a => (d.voteChange (voteArgs id.room a) (bit (byteAt a 1) 0), ok),
    late := fun d id a => some (d.voteResult (voteArgs id.room a) (bit (byteAt a 1) 0)) }

/-! ### `RAIL_QUERY` (R378) -/

/-- `RAIL_EN` of a rail (R357): for a rail that is shut down, the combined enable in force. -/
def Device.railEnabled (d : Device) (r : RailId) : Bool :=
  (d.railSt r).isOn || (decide (d.railSt r ≠ .off) && (d.railTarget r).en)

/-- `RAIL_QUERY` (R378): what step 1 sampled. -/
def cmdRailQuery : Cmd :=
  { op := 0x101, cls := .read, len := 1, safe := .all, argsOk := fun _ _ a => decide (byteAt a 0 ≤ 15),
    run := fun d _ a => (d, ok (d.rails.query.get (fin16 (byteAt a 0)))) }

/-! ### `RAIL_SCHED` (R402, R403, R406) -/

/-- The result of a schedule: Batch and bits. -/
def schedResult (batch bits : Nat) : List Byte := leBytes 6 batch ++ leBytes 1 bits

/-- A pending schedule of a Room for a rail ends without its change; the Batch of the result has no value (log entry 2). -/
def Device.schedDrop (d : Device) (n : RoomId) (r : RailId) (bits : Nat) : Device :=
  match d.priv.scheds.find? fun s => s.id.room == n && s.rail == r with
  | none => d
  | some s =>
    let (x, d) := d.free
    (d.updPriv fun p => { p with scheds := p.scheds.filter fun x => x.id != s.id }).complete s.id stOk (schedResult (x % 2 ^ 48) bits)

/-- Makes a scheduled change in the current Batch: it applies at the edge that ends it. -/
def Device.schedMake (d : Device) (s : Sched) : Device :=
  let b := d.batch.number.toNat + 1
  let d := d.updPriv fun p => { p with scheds := p.scheds.filter fun x => x.id != s.id }
  (d.voteChange { holder := .room s.id.room, rail := s.rail, mv := s.mv, code := s.code } s.enable).complete s.id stOk
    (schedResult b (b2n (decide (b ≠ s.batch))))

/-- Step 4 makes every change that is due in the Batch whose work it is (R402, R142). -/
def Device.schedStep (d : Device) : Device :=
  d.each d.priv.scheds fun s d => d.when (decide (s.batch ≤ d.sup.workBatch.toNat + 1)) (·.schedMake s)

/-- `RAIL_SCHED` (R406). -/
def cmdRailSched : Cmd :=
  { op := 0x102, cls := .roomChange, feature := some 7, len := 14, exact := fun _ => some 14, safe := .owner,
    allot := fun d n a => decide (15 < byteAt a 0) || d.mayRail n (byteAt a 0),
    argsOk := fun d _ a => decide (byteAt a 1 ≤ 3) && voteOk d a &&
      decide (numAt a 8 6 ≤ d.batch.number.toNat + 4294967295),
    run := fun d id a =>
      let v := voteArgs id.room a
      if bit (byteAt a 1) 1 then
        let (x, d) := (d.schedDrop id.room v.rail 4).free
        (d, ok (schedResult (x % 2 ^ 48) 0))
      else if (d.priv.scheds.filter fun s => s.id.room == id.room).length ≥ 8 then (d, fails stBusy)
      else
        let d := d.schedDrop id.room v.rail 2
        (d.updPriv fun p => { p with scheds := p.scheds ++
          [{ id := id, rail := v.rail, enable := bit (byteAt a 1) 0, mv := v.mv, code := v.code, batch := numAt a 8 6 }] },
         .wait []) }

/-! ### `SEQ_RUN` and `SEQ_ABORT` (R407, R408) -/

/-- Rails that ENABLE and DISABLE steps of a sequence name. -/
def Device.seqRails (d : Device) (num : Nat) : List RailId :=
  (((List.range 32).map (d.seqStep num)).takeWhile fun s => s.op != .ended).filterMap fun s =>
    if s.op = .enable ∨ s.op = .disable then some s.rail else none

/-- A guest sequence has BASE scope. -/
def Device.seqIsBase (d : Device) (num : Nat) : Bool :=
  decide (2 ≤ num) && decide (num ≤ 7) && decide (d.fn Fld.seqScope (num - 2) ≠ 0)

/-- Starts a guest sequence, whose first steps run at step 4 of the same Batch (R390). -/
def Device.seqBegin (d : Device) (num : Nat) (id : ReqId) : Device :=
  d.updPriv fun p => { p with seqRun := some (SeqRun.start num (.guest id)) }

/-- `SEQ_RUN` (R407). -/
def cmdSeqRun : Cmd :=
  { op := 0x200, cls := .roomChange, feature := some 6, len := 1, safe := .owner, once := fun _ => true,
    priv := fun d n a => !d.seqIsBase (byteAt a 0) || decide (d.privOf n = 0),
    allot := fun d n a => let s := byteAt a 0
      !(decide (2 ≤ s) && decide (s ≤ 7)) || d.seqIsBase s || (d.seqRails s).all fun r => d.mayRail n r.val,
    argsOk := fun _ _ a => decide (2 ≤ byteAt a 0) && decide (byteAt a 0 ≤ 7),
    run := fun d id a =>
      if d.priv.seqRun.isSome ∨ d.leavePending = true then (d, fails stBusy)
      else (d.seqBegin (byteAt a 0) id, .wait [] .closed),
    redo := some fun d r a =>
      match r.compl with
      | none => d.seqBegin (byteAt a 0) r.id
      | some c => if c.status == 0x20 then d
                  else { d with priv := ((d.seqBegin (byteAt a 0) r.id).seqBatch d.batch.edgeTime).priv } }

/-- `SEQ_ABORT` (R408): the unwind's first withdrawal follows at step 4 of the same Batch. -/
def cmdSeqAbort : Cmd :=
  { op := 0x201, cls := .roomChange, feature := some 6, len := 1, safe := .owner,
    priv := fun d n _ => match d.guestRun with
      | some (_, id) => decide (id.room = n) || decide (d.privOf n = 0)
      | none => true,
    argsOk := fun _ _ a => decide (byteAt a 0 ≤ 1),
    run := fun d _ a =>
      match d.guestRun with
      | none => (d, ok [0])
      | some (s, _) =>
        let d := d.raise (coded 7 2 s.qual)
        if byteAt a 0 = 1 ∧ (d.seqStanding s).isEmpty = false then
          (d.updPriv fun p => { p with seqRun := some { s with unwinding := some 5 } }, ok [1])
        else (d.seqFinish s (if byteAt a 0 = 1 then 5 else 4), ok [1]) }

end Sys2Proof.Machine
end

