-- ==== Sys2Proof/Machine/Work.lean ====
section
/-! DEFINITION. The active keeper's work: the table of commands, the steps of a working Batch (R25 to R30, R138 to R143,
R318), the takeover procedure (R182 to R188), the transition of a Recipe switch (R750), and one request executed in the
current Batch. -/
namespace Sys2Proof.Machine

/-! ### The listed opcodes (R768) -/

/-- The command of a listed opcode. -/
def cmdOf (op : Nat) : Option Cmd :=
  match op with
  | 0x000 => some cmdHello | 0x001 => some cmdBye | 0x002 => some cmdPing | 0x003 => some cmdTime
  | 0x004 => some cmdRoomQuery | 0x005 => some cmdRoomReset
  | 0x010 => some cmdPwrQuery | 0x011 => some cmdPwrFloor | 0x012 => some cmdPwrLodge | 0x013 => some cmdPwrShip
  | 0x014 => some cmdPwrRestart
  | 0x100 => some cmdRailVote | 0x101 => some cmdRailQuery | 0x102 => some cmdRailSched
  | 0x200 => some cmdSeqRun | 0x201 => some cmdSeqAbort
  | 0x300 => some cmdChgQuery | 0x301 => some cmdChgSet | 0x302 => some cmdChgFaults
  | 0x310 => some cmdGaugeQuery | 0x311 => some cmdGaugeSet
  | 0x320 => some cmdLarderReserve | 0x321 => some cmdBurstPair | 0x322 => some cmdLarderRelease
  | 0x323 => some cmdLarderQuery | 0x324 => some cmdLarderSet
  | 0x330 => some cmdPathQuery | 0x331 => some cmdDcLimit | 0x332 => some cmdPriPulse
  | 0x400 => some cmdPvSet | 0x410 => some cmdKinQuery | 0x411 => some cmdKinSet | 0x412 => some cmdKinUser
  | 0x500 => some cmdAdcPlan | 0x501 => some cmdAdcGroup | 0x502 => some cmdAdcRead
  | 0x600 => some cmdDigKeyload | 0x601 => some cmdDigQueue
  | 0x700 => some cmdFaultRead | 0x701 => some cmdLedgerRead | 0x702 => some cmdFaultClear | 0x703 => some cmdFaultProbe
  | 0x800 => some cmdWdSet | 0x801 => some cmdWdQuery | 0x810 => some cmdGwdArm | 0x811 => some cmdWdKick
  | 0x900 => some cmdKeeperSwap | 0x901 => some cmdKeeperQuery | 0x902 => some cmdKeeperRevive
  | 0x910 => some cmdImageStage | 0x911 => some cmdImageCommit | 0x912 => some cmdImageQuery
  | 0xA00 => some cmdRecipeSelect | 0xA01 => some cmdRecipeWrite | 0xA02 => some cmdRecipeQuery
  | 0xB00 => some cmdDbgChallenge | 0xB01 => some cmdDbgRespond | 0xB02 => some cmdLifecycleAdvance
  | 0xB03 => some cmdSecQuery
  | _ => none

/-! ### Step 1 and the status mirror (R293) -/

/-- A rail mask. -/
def railMask (p : RailId → Bool) : BitVec 16 := BitVec.ofNat 16 (maskOf 16 fun i => p (fin16 i))

/-- `MIR.SRC` (R293, R416, R432, R444, R482). -/
def Device.mirSrc (d : Device) : Nat :=
  b2n d.path.dcValid + 2 * b2n d.pvHarvests + 4 * b2n (d.kinPresent && !d.kin.stopped) + 8 * b2n d.path.priInUse +
    16 * b2n (decide (d.path.fet ≠ .off)) +
    32 * b2n (decide (d.fn Fld.resPresent = 1) && decide (d.resTarget ≤ d.sample.capMv + 10 * d.fn Fld.resHyst))

/-- `MIR.COND`, as `PWR_QUERY` byte 1 (R123). -/
def Device.mirCond (d : Device) : Nat :=
  b2n d.faults.safeHold + 2 * b2n d.priv.shipArmed + 4 * b2n d.leavePending

/-- The status as step 1 samples it. -/
def Device.mirrorNow (d : Device) : Mirror :=
  { batch := d.batch.number, written := d.batch.number,
    railEn := railMask d.railEnabled,
    railPg := railMask fun r => decide (d.railSt r = .proofed),
    railProof := railMask fun r => decide (d.railSt r = .proofing),
    railOff := railMask fun r => decide (d.railSt r = .tripped) || decide (d.railSt r = .held),
    railMv := Vector.ofFn d.queryMv,
    batMv := d.sample.batMv, vsysMv := d.sample.vsysMv, batUa := d.batUa, soc := soc100 d.priv.gauge.reported,
    batTemp := if d.chg.ntcOpen ∨ d.chg.ntcShort then -32768 else d.sample.batTemp, chg := d.chg.phase.code, src := d.mirSrc, capMv := d.sample.capMv,
    pwr := d.power.state.code, cond := d.mirCond, fault := d.mirFault, ledger := d.faults.seq }

/-- What step 1 samples for the queries and for the Innkeeper's table. -/
def Device.polledNow (d : Device) : Polled :=
  { path := d.pathResult, pathRec := d.pathRecord, chg := d.chgResult, chgRec := d.chgRecord, kin := d.kinResult,
    kinRec := d.kinRecord, wd := Vector.ofFn fun n => (d.wdResult n, d.wdRecord n), adc := d.adc.groups,
    speed := d.kin.speed, rev := d.kin.rev, angle := d.kin.counter.toNat % 4096, fetOff := d.fetIsOff }

/-- Step 1 of a working Batch: the status, the rails and what the queries report are sampled, harvest added, burst outcomes read, and
gating chosen (R293, R450, R485, R517, R556, R579, R617, R694, R699). -/
def Device.step1 (d : Device) (sm : Sample) : Device :=
  let d := ((((d.sampled sm).railsMeasure sm).larderMeasure).burstRead).gatingChoose.railsSeen
  ({ d with staged := d.mirrorNow, polled := d.polledNow } : Device).free.2

/-- Step 2: the keeper reads the messages that have entered the FIFO (R649). -/
def Device.step2 (d : Device) : Device := d.updFaults fun f => { f with unread := [] }

/-! ### Step 3: intake (R318, R319, R327) -/

/-- A request with `ORDER` holds back its Room until it is DONE (R327). -/
def Device.orderHolds (d : Device) (n : RoomId) : Bool :=
  d.reqs.recs.any fun r => r.id.room == n && bit r.flags 0 && r.st != .done

/-- A `HELLO` of the Room is taken and not yet executed: the requests behind it are taken after it (R256). -/
def Device.helloHolds (d : Device) (n : RoomId) : Bool :=
  d.reqs.recs.any fun r => r.id.room == n && r.opcode == 0 && r.st == .taken

/-- Takes the request at the head of a Room's ring: none when the ring is empty or the request stays in its slot. -/
def Device.takeOne (d : Device) (n : RoomId) : Option Device :=
  let r := d.rooms.get n
  if r.sqUsed = 0 ∨ d.orderHolds n ∨ d.helloHolds n then none
  else
    let h := parseSlot n ((List.range 64).map fun i => d.winRead n (0x200 + 64 * (r.sqHead.toNat % 32) + i))
    let adv := fun (d : Device) => d.updRoom n fun r => { r with sqHead := r.sqHead + 1 }
    match d.take cmdOf h with
    | .stays => none
    | .answered d => some (adv d)
    | .entered d => some (adv d)

/-- Takes up to `k` requests of a Room in a pass: the requests still to be taken in the Batch, and the Rooms whose intake
has ended. -/
def intakeRoom (n : RoomId) : (k : Nat) → Device × Nat × List RoomId → Device × Nat × List RoomId
  | 0, s => s
  | k + 1, (d, left, ended) =>
    if left = 0 ∨ ended.contains n then (d, left, ended)
    else match d.takeOne n with
      | some d => intakeRoom n k (d, left - 1, ended)
      | none => (d, left, n :: ended)

/-- The Rooms in the order of a pass (R318). -/
def passOrder (start : Nat) : List RoomId := (List.range 16).map fun i => fin16 (start + i)

/-- Passes until every Room's intake has ended. -/
def intakePasses (start : Nat) : (fuel : Nat) → Device × Nat × List RoomId → Device × Nat
  | 0, s => (s.1, s.2.1)
  | fuel + 1, s =>
    if s.2.1 = 0 ∨ s.2.2.length = 16 then (s.1, s.2.1)
    else intakePasses start fuel ((passOrder start).foldl (fun s n => intakeRoom n 4 s) s)

/-- The intake of at most `k` requests from some Rooms, and how many more may follow; a ring holds at most 32, so 10 passes
see every ring's end. -/
def Device.intake (d : Device) (rooms : List RoomId) (k : Nat) : Device × Nat :=
  intakePasses (d.batch.number.toNat % 16) 10 (d, k, all16.filter fun n => !rooms.contains n)

/-! ### Step 4 -/

/-- DCIN has been lost: the open Rooms on UART are reset in the next Batch that is not a bubble (R238). -/
def Device.uartLost (d : Device) : Device :=
  if d.path.dcLost ∧ d.batch.bubble.isNone then
    (d.each (all16.filter fun n => (d.rooms.get n).idPort == 3 && decide ((d.rooms.get n).st = .opened))
      fun n d => d.roomReset n 2).updPath fun p => { p with dcLost := false }
  else d

/-- Open Rooms whose version the ACTIVE image does not serve are closed with their votes held (R221). -/
def Device.versionCloses (d : Device) : Device :=
  let s := d.smpRange
  d.each (all16.filter fun n =>
    let r := d.rooms.get n
    decide (r.st = .opened) && r.closing.isNone && !(decide (s.1 ≤ r.version) && decide (r.version ≤ s.2)))
    fun n d => d.roomVersionClose n

/-- Energy is exhausted: the forced LODGE entry, with AUTH and every halt ended (R93, R447, R711, R712). -/
def Device.exhaustStep (d : Device) : Device :=
  let already := match d.priv.lodge with | some l => l.forced | none => false
  if d.exhausted && !already then ((d.raise (coded 8 12 d.path.fetCause)).forceLodge).authEnd.haltRelease else d

/-- What step 4 does before the requests' executions: Rooms that end, hold periods, Safe Hold's votes (R188, R221, R238,
R656). -/
def Device.step4Rooms (d : Device) : Device := ((((d.uartLost).versionCloses).holdStart).holdEnd).safeVotes

/-- Every request that may begin; those that stand behind a `HELLO` are taken after it, within the `left` requests that the
Batch may still take, and begin in the same Batch (R256, log entry 12). -/
def Device.execRounds (d : Device) : (fuel left : Nat) → Device
  | 0, _ => d.execAll cmdOf
  | fuel + 1, left =>
    let rooms := all16.filter d.helloHolds
    let d := d.execAll cmdOf
    if rooms.isEmpty ∨ left = 0 then d
    else
      let x := d.intake rooms left
      x.1.execRounds fuel x.2

/-- The first part of step 4: every request that may begin. `left` is how many requests may still be taken. -/
def Device.step4Exec (d : Device) (left : Nat) : Device :=
  (((d.step4Rooms.eccStep4).swapAnswers).selectDone).execRounds 32 left

/-- The rest of step 4: what waits for the keeper, sequences and schedules among it, as of the Batch whose work it is (R142,
R390, R402). -/
def Device.step4Rest (d : Device) : Device :=
  let d := d.rcpWaiters.wdStep4.commitWrite
  let d := d.chalStep4.respStep4.attachStep4
  let d := ((d.adcWaiters).seqBatch d.sup.workEdge).schedStep
  let d := d.gaugeStep4.larderStep4.digStep4
  let d := d.imageProgram.rcpProgram.stageAbandon.rcpAbandon
  d.exhaustStep

/-! ### Step 5: targets and their publication (R27, R138, R381) -/

/-- The shadow targets that the keeper forms (R381, R469, R492, R609, R87). -/
def Device.formTargets (d : Device) : Device :=
  let d := d.combineRails.chgTargets.larderTargets
  let d := d.kinTargets.adcTargets
  let (m, k, v) := d.pvTarget
  let lim := d.lowestDcLimit
  let fl := d.floorNow
  d.updShadow fun t => { t with pvMode := m, pvK := k, pvVfix := v, dcLimit := lim, floor := fl }

/-- The results that step 5 computes are put into their completions (R405, R119, R452, R673). -/
def Device.latePatch (d : Device) : Device :=
  d.each (d.reqs.waiting.filter fun w => w.final && w.compl.status == 0 && !w.compl.dup) fun w d =>
    match d.reqs.recs.find? fun r => r.id == w.id && r.compl.isSome && r.postedAt.isNone with
    | none => d
    | some r =>
      match r.args, cmdOf r.opcode with
      | a, some c =>
        if (match r.execBatch with | some b => decide (d.sup.workBatch ≤ b) | none => false) then
          match c.late d r.id (a.getD (List.replicate 56 0)) with
          | some res =>
            let new := fun (x : Compl) => { x with result := slice res 0 8 }
            d.updReqs fun q => { q with
              recs := q.recs.map fun x => if x.id = r.id ∧ x.postedAt.isNone then { x with compl := x.compl.map new } else x,
              waiting := q.waiting.map fun x => if x.id = r.id ∧ x.final then { x with compl := new x.compl } else x }
          | none => d
        else d
      | _, none => d

/-- Step 5 but for the publication. -/
def Device.step5 (d : Device) : Device := d.formTargets.latePatch

/-- The publication, before the budget mark or held for the following edge (R138); an ADC trigger in the set passes its
commit point with it (R616). -/
def Device.publish (d : Device) (held : Bool) : Device :=
  let d := d.updSup fun s => if held then { s with publishHeld := true } else { s with published := true }
  d.updReqs fun q => { q with recs := q.recs.map fun r =>
    if r.commitsAtPublish ∧ r.intent.isOpen then { r with intent := .closed } else r }

/-! ### Steps 6 and 7, and the closing window -/

/-- Step 7: the mirror is written, and the flags that its changes set (R143, R293, R303). -/
def Device.mirrorWrite (d : Device) : Device :=
  let m := { d.staged with written := d.batch.number }
  let old := d.mirror
  let rails := ((old.railEn ^^^ m.railEn) ||| (old.railPg ^^^ m.railPg) ||| (old.railOff ^^^ m.railOff)).toNat
  let d := { d with mirror := m }
  let d := d.each all16 fun n d => d.when (decide (rails &&& d.allotMask Fld.roomRails n ≠ 0)) (·.flag n evRail)
  d.when (decide (old.pwr ≠ m.pwr) || decide (old.cond ≠ m.cond)) (·.flagAll evPower)

/-- Steps 6 and 7: completions and the mirror, while Rooms are open. -/
def Device.steps67 (d : Device) : Device := d.when d.isOpen fun d => d.postAll.mirrorWrite

/-! ### A Batch's work by its extent (R137 to R144) -/

/-- Every step ends before the budget mark. -/
def extentEnds : Sys2Proof.WorkExtent → Bool
  | .full | .strayWrite | .commitAs _ | .lateCommit => true
  | _ => false

/-- The shadow set is published before the budget mark. -/
def extentPublishes (e : Sys2Proof.WorkExtent) : Bool :=
  extentEnds e || match e with | .stopAfterPublish => true | _ => false

/-- The active keeper works: it runs, has not failed, and no halt has cut the work of this Batch (R142, R149, R175). -/
def Device.keeperWorks (d : Device) : Bool :=
  d.activeKeeper.isSome && !d.activeHalted && !d.keepers.hwTakeover && !d.sup.haltCut

/-- The work goes on from a stage. -/
def Device.stageAt (d : Device) (st : WorkStage) : Device := d.updSup fun s => { s with stage := st }

/-- The work of a Batch begins at a stage, for the Batch that begins now. -/
def Device.workBegin (d : Device) (st : WorkStage) : Device :=
  d.updSup fun s => { s with workDone := false, stage := st, workBatch := d.batch.number, workEdge := d.batch.edgeTime }

/-- The work of a Batch that is not a bubble, up to the executions of step 4; the rest of step 4 and all that follows come at
the budget mark, so that the Batch's later requests are part of it (log entry 12). -/
def Device.workNormal (d : Device) (sm : Sample) : Device :=
  let d := ((d.workBegin .targets).step1 sm).step2
  match d.sup.ext with
  | .stopAtIntake k => (d.intake all16 (min k 128)).1.gwdAll.stageAt .execute
  | _ =>
    let x := d.intake all16 128
    (x.1.gwdAll).step4Exec x.2

/-- What an overrun bubble, or the debug-halt bubble that follows a release, executes of the interrupted work at its start edge
(R142, R149): it takes no request. -/
def Device.workRest (d : Device) : Device :=
  match d.sup.stage, d.sup.ext with
  | .execute, .stopAtIntake _ => d
  | .execute, _ => (d.step4Exec 0).stageAt .targets
  | _, _ => d

/-! ### The takeover procedure (R182 to R188, R339 to R342) -/

/-- The request executed again on the restored state, as far as a replay goes (R336, R341): its completion stands. -/
def Device.replayOne (d : Device) (r : Rec) : Device :=
  match cmdOf r.opcode with
  | none => d
  | some c =>
    let a := r.args.getD (List.replicate 56 0)
    let good := match r.compl with | some x => decide (x.status = 0) | none => true
    if r.intent.isOpen ∨ good = false ∨ (r.opcode = 0x900 ∧ r.st = .waiting) then d
    else match c.redo with
      | some f => f d r a
      | none =>
        let (x, ans) := c.run d r.id a
        if c.once a then { d with priv := x.priv, shadow := x.shadow }
        else if r.st = .done then x
        else match ans with
          | .done st res slid dup => x.complete r.id st res slid dup
          | .wait keep _ => x.updRec r.id fun r => { r with wait := keep }
          | .accept _ keep _ => x.updRec r.id fun r => { r with wait := keep }
          | .gone => x

/-- Every record executed later than the checkpoint, in its execution order (R182 step 3). -/
def Device.replayAll (d : Device) (batch : Nat) : Device :=
  let l := d.reqs.recs.filter fun r => match r.execBatch with | some b => decide (batch < b.toNat) | none => false
  d.each (sortBy (fun r => match r.execBatch with | some b => b.toNat | none => 0) l) fun r d => d.replayOne r

/-- An open intent is resolved (R339): before its commit point the effects are undone and the request rolled back; a COMMIT of
images by the copy that it names (R231). -/
def Device.resolveIntent (d : Device) (r : Rec) : Device :=
  let d := d.intentNote r
  if r.intent.isPassed then d
  else if r.opcode = 0x911 ∧ r.st = .waiting ∧ r.wait.head? = some 1 then d.commitResolve r.id (r.wait.getD 1 0)
  else
    let d := d.undoIntent r
    if r.st = .done then
      let back : Compl := { status := BitVec.ofNat 8 stRolledBack, slid := false, dup := false, result := List.replicate 8 0 }
      d.updReqs fun q => { q with
        recs := q.recs.map fun x => if x.id = r.id ∧ x.postedAt.isNone then { x with compl := some back, intent := .closed } else x,
        waiting := q.waiting.map fun x => if x.id = r.id ∧ x.final then { x with compl := back } else x }
    else d.complete r.id stRolledBack []

/-- Every open intent (R182 step 4). -/
def Device.resolveAll (d : Device) : Device :=
  d.each (d.reqs.recs.filter fun r => r.intent.isOpen) fun r d => d.resolveIntent r

/-- Steps 2 to 5 of a hot takeover from a checkpoint, under the schema of the new keeper's image. Every request that the old keeper
executed and whose completion is not posted completes with `LATE` (R317, R342, log entry 14). -/
def Device.hotTakeover (d : Device) (c : Ckpt) (schema : Nat) : Device :=
  let d := d.updReqs fun q => { q with recs := q.recs.map fun r =>
    if r.execBatch.isSome ∧ r.postedAt.isNone then { r with late := true } else r }
  let d := ({ d with priv := c.restored schema }.replayAll c.batch.toNat).resolveAll
  (if d.sup.published then d else { d with shadow := d.active }).postAll

/-- A cold takeover (R187, R188): intents resolved, Rooms closed, requests and the dedup memory gone, and the enabled rails
under hold votes, which replace those of an earlier hold period; the Rooms' rail votes stand (log entry 111). -/
def Device.coldTakeover (d : Device) : Device :=
  let d := d.each (d.reqs.recs.filter fun r => r.intent.isOpen) fun r d => d.intentDrop r
  let d := d.each all16 fun n d => d.roomColdClose n
  let d := d.updReqs fun q => { q with recs := [], waiting := [], dedup := Vector.replicate 16 [] }
  let d := d.seqStop
  let on := all16.filter fun r => decide (r.val ≠ 8) && (d.railTarget r).en
  let d := (d.updVotes fun vs => vs.filter fun v => match v.holder with
    | .hold _ => false
    | _ => true).holdRails on
  let bins := match d.cfg.larderRec with | some x => x.2 | none => d.larSeeds
  let d := (d.gaugeResume).updLarder fun l => { l with bins := bins, measured := 0, observed := 0, lastAdd := none }
  if d.sup.published then d else { d with shadow := d.active }

/-- The Recipe in force is verified before a cold takeover loads it (R748): false where the device restarts instead. -/
def Device.coldVerify (d : Device) : Bool × Device :=
  match d.rcp.inForce with
  | some r => let (v, d) := d.rcpVerify r.number
              (decide (v = 0), d)
  | none => (true, d)

/-- The takeover procedure in the first bubble Batch; false when R748 asks for a chip restart. -/
def Device.takeover (d : Device) : Bool × Device :=
  let schema := match d.activeKeeper.bind d.runHeader with | some h => imgSchema h | none => 0
  match d.keepers.lastSwap.cold, d.ckptChoice schema with
  | false, some c => (true, d.hotTakeover c schema)
  | _, _ =>
    let (good, d) := d.coldVerify
    (good, if good then d.coldTakeover else d)

/-! ### The transition of a Recipe switch (R750 to R752) -/

/-- A Room's entry differs between two Recipes, or the `LINK` fields of its port do (R261, R750). -/
def roomDiffers (a b : Recipe) (n : RoomId) : Bool :=
  let f := fun (x : FieldId) => decide (a.get x n.val ≠ b.get x n.val)
  let l := fun (x : FieldId) => decide (a.get x ≠ b.get x)
  f Fld.roomPort || f Fld.roomPriv || f Fld.roomQuota || f Fld.roomIrq || f Fld.roomRails || f Fld.roomChannels ||
    f Fld.roomKeys || f Fld.roomFeatures || f Fld.roomGwdRails ||
    (match a.get Fld.roomPort n.val with
      | 1 => l Fld.linkSpiCrc
      | 2 => l Fld.linkI2cCrc || l Fld.linkI2cAddr
      | 3 => l Fld.linkUartBaud
      | _ => false)

/-- A device that reads the fields of another Recipe. -/
def Device.underRecipe (d : Device) (r : Option Recipe) : Device := d.updRcp fun x => { x with inForce := r }

/-- A granted pair that keeps its Room is cancelled when the new Recipe does not allow its burst (R581). -/
def Device.switchBurst (d : Device) (r : Recipe) : Device :=
  let bad := fun (o : Option BurstEntry) => match o with
    | some e => decide (r.get Fld.railPresent 3 = 0) || decide ((e.mv : Int) < r.get Fld.railVmin 3) ||
        decide (r.get Fld.railVmax 3 < (e.mv : Int))
    | none => false
  d.when (bad d.burst.first || bad d.burst.second) (·.burstCancel)

/-- The transition (R750), published before its Rooms are reset, or held for the following edge where the publish comes late (R138);
the record waits for the first Batch after it (R753). -/
def Device.switchRun (d : Device) (held : Bool) : Device :=
  match d.rcp.switch with
  | none => d
  | some s =>
    let old := d.rcp.inForce
    let o := old.getD factoryRecipe
    let resets := all16.filter fun n => roomDiffers o s.recipe n
    -- Combine and publish under the new Recipe.
    let d := d.updPriv fun p => { p with
      votes := p.votes.filter (fun v => s.recipe.get Fld.railPresent v.rail.val ≠ 0 &&
        (match v.holder with | .room n => !resets.contains n | _ => true)),
      kinUsers := [], adcHolds := Vector.replicate 4 none, pvSet := none }
    let d := (((d.underRecipe (some s.recipe)).formTargets).underRecipe old).publish held
    let d := (d.updRcp fun r => { r with switch := some { s with passed := true, batch := d.batch.number.toNat } }).updRec s.req
      fun r => { r with intent := .open true, wait := [4, d.batch.number.toNat] }
    -- Reset Rooms, settle bursts and the watchdog period.
    let d := d.each resets fun n d => d.roomReset n 3
    let p := (s.recipe.get Fld.wdPeriod).toNat
    (d.switchBurst s.recipe).updWd fun w => { w with
      inForce := p, a := { w.a with newPeriod := some p }, b := { w.b with newPeriod := some p } }

/-- Room entries are copied into the windows at step 10 and at a switch (R292). -/
def Device.copyIdent (d : Device) : Device :=
  { d with rooms := Vector.ofFn fun n =>
      let r := d.rooms.get n
      { r with idPort := d.fn Fld.roomPort n.val, idPriv := d.fn Fld.roomPriv n.val,
               idIrq := if d.fn Fld.roomIrq n.val < 4 then d.fn Fld.roomIrq n.val else 7,
               quota := d.fn Fld.roomQuota n.val } }

/-- The edge at which a switch's set has been applied: the new Recipe is in force, another cell begins at IDLE, and sequence 0
follows (R515, R750 to R752). -/
def Device.switchEdge (d : Device) : Device :=
  match d.rcp.switch with
  | none => d
  | some s =>
    if s.passed ∧ d.sup.published = false then
      let oldNum := (d.rcp.inForce.map (·.number)).getD 0xFF
      let o := d.rcp.inForce.getD factoryRecipe
      let cell := [Fld.chgChem, Fld.chgCv, Fld.chgBatid].any fun f => decide (o.get f ≠ s.recipe.get f)
      let d := d.updRcp fun r => { r with inForce := some s.recipe, switch := none, fallback := false }
      let d := d.when (cell && decide (d.chg.phase ≠ .fault)) fun d => (d.chgEnter .idle).chgSettle
      let d := d.copyIdent.raise (coded 5 2 (256 * oldNum + s.recipe.number))
      d.updPriv fun p => { p with seqRun := some (SeqRun.start 0 .switch),
                                  oldBase := (p.votes.filter fun v => v.holder == .base).map (·.rail) }
    else d

/-- A switch bubble has begun and its transition is not carried out. -/
def Device.switchOpen (d : Device) : Bool :=
  match d.rcp.switch with
  | some s => s.now && !s.passed
  | none => false

/-! ### The marks of a Batch (R137, R141, R169 to R172) -/

/-- Every step has ended: the closing window opens (R137). A write of the other keeper to what it has no access to falls before it
(R160). -/
def Device.stepsEnd (d : Device) : Device :=
  let d := match d.sup.ext, d.activeKeeper with
    | .strayWrite, some k => d.writeAs (otherKeeper k) id
    | _, _ => d
  d.windowOpen.updSup fun s => { s with workDone := true, stage := .commit }

/-- What remains of a Batch's steps when its set is published. -/
def Device.afterPublish (d : Device) : Device := if extentEnds d.sup.ext then d.steps67.stepsEnd else d.stageAt .complete

/-- The set that a Batch publishes: of a LODGE or SHIP power-down the rails by its sequence, else all (R399). -/
def Device.formSet (d : Device) : Device :=
  if d.isOpen then d.step4Rest.step5 else (d.seqBatch d.sup.workEdge).combineRails

/-- The active keeper's work up to the budget mark, as far as the Batch's extent lets it come (R137, R142, R148, R182). -/
def Device.workToMark (d : Device) : Device :=
  let ends := extentEnds d.sup.ext
  match d.sup.stage with
  | .takeover =>
    if d.sup.takeoverLeft ≠ 0 then d.updSup fun s => { s with workDone := true }
    else if ends then d.stepsEnd else d.stageAt .commit
  | .targets =>
    if extentPublishes d.sup.ext = false then d
    else if d.switchOpen then
      let d := d.switchRun false
      if ends then d.stepsEnd else d.stageAt .commit
    else ((d.formSet).publish false).afterPublish
  | .complete => if ends then d.steps67.stepsEnd else d
  | .commit => if ends ∧ d.sup.workDone = false then d.stepsEnd else d
  | .execute | .idle => d

/-- The budget mark (R141, R145): an overrun is reported once a run, and never while the active keeper is halted, nor for work that
a halt has cut (log entry 112). -/
def Device.budgetAt (d : Device) : Device :=
  if d.sup.budgetPassed then d
  else
    let d := (d.when d.keeperWorks (·.workToMark)).updSup fun s => { s with budgetPassed := true }
    if d.sup.workDone = false ∧ d.sup.overrunReported = false ∧ d.activeHalted = false ∧ d.sup.haltCut = false then
      (d.updSup fun s => { s with overrunReported := true }).raise (coded 1 1)
    else d

/-- The active keeper's work up to the commit deadline: the commit as the Batch's extent says, with its kick (R140, R164, R680),
or a publish that is held for the following edge (R138). -/
def Device.workToDeadline (d : Device) : Device :=
  if d.sup.stage = .commit ∧ d.sup.workDone then
    let d := match d.sup.ext with
      | .commitAs w => d.commitWith w
      | .lateCommit => d.raise (coded 1 3)
      | _ => d.commit
    let d := match d.activeKeeper with
      | some k => d.wdClosing k
      | none => d
    d.stageAt .idle
  else if d.sup.stage = .targets ∧ d.sup.ext = .latePublish then
    if d.switchOpen then (d.switchRun true).stageAt .commit else ((d.formSet).publish true).stageAt .complete
  else d

/-- The standby's closing window: a period change, and its kick (R680, R682). -/
def Device.standbyWindow (d : Device) : Device :=
  match d.standby with
  | some k => (d.wdPeriod k).wdClosing k
  | none => d

/-- The standby core is powered on (R172). -/
def Device.standbyOn (d : Device) : Device :=
  match d.standby with
  | some k => if (d.keeper k).role.able then d.updKeeper k fun s => { s with powered := true } else d
  | none => d

/-- A Batch has come to its deadline without a commit: it counts, takeover bubbles and a frozen halt apart (R169 to R172). -/
def Device.missedCommit (d : Device) : Device :=
  let d := d.when d.batch.rest (·.standbyOn)
  if d.batch.bubble = some .takeover ∨ (d.activeHalted ∧ d.wdhaltOn) then d
  else
    let d := d.updSup fun s => { s with missed := sat 3 (s.missed + 1) }
    d.when (decide (2 ≤ d.sup.missed)) (·.updKeepers fun k => { k with heartbeat := true })

/-- The closing window is the active keeper's: it works, or its halt began after the work-done flag was set and does not affect this
Batch (R149). -/
def Device.windowWorks (d : Device) : Bool :=
  d.keeperWorks || (d.activeKeeper.isSome && !d.keepers.hwTakeover && !d.sup.haltCut && d.sup.workDone)

/-- The commit deadline (R137, R169). -/
def Device.deadlineAt (d : Device) : Device :=
  if d.sup.deadlinePassed then d
  else
    let d := ((d.when d.windowWorks (·.workToDeadline)).standbyWindow).updSup fun s => { s with deadlinePassed := true }
    if d.sup.committed then d else d.missedCommit

/-- The marks of the current Batch that device time has passed. -/
def Device.catchUp (d : Device) : Device :=
  if d.power.phase.batchRuns then
    let d := if d.budgetTime ≤ d.now then d.budgetAt else d
    if d.deadlineTime ≤ d.now then d.deadlineAt else d
  else d

/-- An event due at device time `t`: it happens at that instant, behind the marks that come before it, when the current Batch still
reaches it; otherwise its time has not come and nothing happens. -/
def Device.dueAt (d : Device) (t : Nat) (f : Device → Device) : Device :=
  if d.reaches t then f (d.moveTo t).catchUp else d

/-! ### One request in the current Batch -/

/-- The active keeper serves requests in the current Batch (R26, R142, R149), or the Starter ROM does in ROM Safe Hold
(R222). -/
def Device.serving (d : Device) : Bool :=
  d.romHold || (d.isOpen && d.batch.bubble.isNone && decide (d.sup.stage = .targets) && d.keeperWorks &&
    !d.sup.budgetPassed && decide (d.now < d.budgetTime))

/-- The 64 bytes of a request's submission slot (R310, R311). -/
def Req.slotBytes (r : Sys2Proof.Req) (op : Nat) : List Byte :=
  let head := leBytes 4 (r.tag.toNat + 2 ^ 16 * (op % 4096) + 2 ^ 28 * (r.flags.toNat % 16)) ++ leBytes 2 r.seq.toNat ++ leBytes 1 r.len
  head ++ [crc8 head] ++ slice r.args 0 56

/-- A request's slot is filled and its doorbell rung (R296, R297). -/
def Device.ringPut (d : Device) (r : Sys2Proof.Req) (op : Nat) : Device :=
  (d.winWrite r.room (0x200 + 64 * ((d.rooms.get r.room).sqTail.toNat % 32)) (Req.slotBytes r op)).updRoom r.room
    fun x => { x with sqTail := x.sqTail + 1 }

/-- A request's slot, filled and taken at once (R26, R299). -/
def Device.ringPass (d : Device) (r : Sys2Proof.Req) (op : Nat) : Device :=
  (d.ringPut r op).updRoom r.room fun x => { x with sqHead := x.sqHead + 1 }

/-- The record just entered begins, unless `ORDER` holds it. -/
def Device.beginNow (d : Device) (c : Cmd) (id : ReqId) : Device :=
  match d.findRec id with
  | none => d
  | some r => d.when (d.mayBegin r) (·.execRec c r)

/-- A Room's request may be taken at once: the keeper serves, and nothing of the Room stands before it (R299, R256, R327); in ROM
Safe Hold the Starter ROM serves Room 15 while DCIN is valid (R222, R773). -/
def Device.takesNow (d : Device) (n : RoomId) : Bool :=
  d.serving && decide ((d.rooms.get n).sqUsed = 0) && !d.orderHolds n && !d.helloHolds n &&
    (!d.romHold || (decide (n = 15) && d.path.dcValid))

/-- One request of a command: it passes through its Room's ring, and is taken and executed in the current Batch where the keeper
still serves; otherwise it stands in its slot for an intake to come (log entry 12). A full ring takes none. -/
def Device.runReq (d : Device) (c : Cmd) (r : Sys2Proof.Req) : Device :=
  if !(d.isOpen || d.romHold) || decide ((d.rooms.get r.room).sqUsed ≥ 32) then d
  else if !d.takesNow r.room then d.ringPut r c.op
  else match d.take cmdOf (Req.hdr r c.op) with
    | .stays => d.ringPut r c.op
    | .answered x => x.ringPass r c.op
    | .entered x =>
      let y := (x.ringPass r c.op).beginNow c { room := r.room, tag := r.tag, seq := r.seq }
      if d.romHold then y.postAll else y

/-- A request whose action byte is fixed by its row: `len` covers that byte. -/
def withAction (r : Sys2Proof.Req) (i v : Nat) : Sys2Proof.Req :=
  { r with len := max r.len (i + 1), args := slice r.args 0 i ++ [BitVec.ofNat 8 v] ++ r.args.drop (i + 1) }

end Sys2Proof.Machine
end

