-- ==== Sys2Proof/Machine/Start.lean ====
section
/-! DEFINITION. Starts (R104 to R116): what a reset leaves, the steps of a cold start, ROM Safe Hold, the chip restart, and
the escalation of keeper failures (R686 to R689). -/
namespace Sys2Proof.Machine

/-! ### What a start leaves (R113) -/

/-- The debug level of the lifecycle state (R701). -/
def Device.levelAtStart (d : Device) : Level :=
  match d.lifecycle with
  | 2 | 3 => .closed
  | _ => .opened

/-- The security block at any start (R701, R711, R712, R717). -/
def Device.secStart (d : Device) : Device :=
  let l := d.levelAtStart
  d.updSec fun s => { s with
    level := l, nextLevel := none, attach := false, attachDrop := false, attState := 0, attHandle := none,
    retryAt := none, wdhalt := false, haltA := false, haltB := false, chalReq := false, challenge := none,
    responses := [], authFail := false, failures := 0, lockEnd := none, prog := 0, memDone := false,
    memDenied := false, memBusy := false, advance := none, tapIr := 1 }

/-- A rail keeps its state through a chip restart: on the hold list, or LDO5 (R111, R354). -/
def Device.onHold (d : Device) (r : RailId) : Bool := decide (r.val = 8) || bit (d.fn Fld.pwrHoldList) r.val

/-- Rails that a reset does not keep turn off, and none but those kept counts as enabled since the start (R388); the copies of the targets are those of reset but for the rails kept (R111,
R113). -/
def Device.railsStart (d : Device) (keep : RailId → Bool) : Device :=
  let tg := fun (t : Targets) => { Targets.reset with
    rails := Vector.ofFn fun r => if keep r then t.rails.get r else Targets.reset.rails.get r }
  let d := (d.updShadow tg).updActive tg
  d.updRails fun b => { b with
    rails := Vector.ofFn fun r =>
      let h := b.rails.get r
      if keep r then { h with everOn := decide (h.st ≠ .off) } else { h.turnOff with everOn := false },
    twDuty := false, paReservoir := b.paReservoir && keep 3 }

/-- Every Room closed, and the request table empty with the dedup memory: nothing is resolved, the table is gone (R113,
R302, R334). -/
def Device.roomsStart (d : Device) : Device :=
  let d := d.each all16 fun n d => (d.updRoom n fun r => { RoomRegs.reset with
    idPort := r.idPort, idPriv := r.idPriv, idIrq := r.idIrq, quota := r.quota }).winWrite n 0xF00 (List.replicate 256 0)
  d.updReqs fun _ => { recs := [], dedup := Vector.replicate 16 [], produced := Vector.replicate 16 0, waiting := [] }

/-- The keepers' private state is lost; the gauge resumes from its snapshot, and the forecast and the time of day stand
(R113, R545, R559, R564). -/
def Device.privStart (d : Device) (votes : List Vote) : Device :=
  let g := d.priv.gauge
  let l := d.priv.larder
  ({ d with priv := { Priv.reset with
      votes := votes, gauge := g, larder := { l with reservations := [], pair := none, lastAdd := none } } }).gaugeResume

/-- The keepers' registers that a reset clears; failure times, QUARANTINED and the missed-heartbeat count stay (R192, R193,
R198). -/
def Device.keepersStart (d : Device) : Device :=
  let off := fun (s : KeeperState) => { s with romOk := false }
  let d := (((d.keepersOff).updKeeper .a off).updKeeper .b off).updKeepers fun k => { k with
    busy := false, cold := false, commanded := [], handover := none, hwTakeover := false, heartbeat := false,
    selfTestWanted := false }
  { d with ckpt0 := Ckpt.reset, ckpt1 := Ckpt.reset, sup := { Device.reset.sup with missed := d.sup.missed } }

/-- The charger resumes with its phase (R514). -/
def Device.chgResume (d : Device) : Device :=
  if d.chg.phase = .precharge ∧ d.chg.preFetOff then d.updPath fun p => { p with fet := .charge } else d.chgFet

/-- Digital state that a brown-out, a chip restart or a LODGE exit clears, with the rails that it keeps and the votes that
stand on them (R81, R102, R113, R397, R582). The collector's FIFO and active table run on (R643). -/
def Device.startClear (d : Device) (keep : RailId → Bool) (votes : List Vote) : Device :=
  let d := ((((d.seqStop.advanceCut).railsStart keep).roomsStart).privStart votes).keepersStart
  let d := (((d.kinStop).adcStop).digStop).secStart
  let d := { d with
    images := { verdicts := Vector.replicate 4 none, trialA := false, trialB := false, erasing := none, stage := none,
                closeWait := none, abortWait := none, commit := none }
    link := { spiErr := false, i2cErr := false, i2cNext := 0, svResponse := [], spiSdo := [], i2cAcks := [], i2cData := [] }
    mirror := Mirror.reset, staged := Mirror.reset
    burst := Device.reset.burst
    keys := { d.keys with loading := none } }
  let d := d.updRcp fun r => { r with verdicts := Vector.replicate 8 none, erasing := none, write := none, switch := none }
  let d := d.updWd fun w => { w with gating := [] }
  let d := d.updFaults fun f => { f with unread := [] }
  let d := d.updPath fun p => { p with
    pulse := p.pulse.map fun q => { q with req := none }, dcLost := false, ocHeld := false, resCharging := false }
  let d := d.updPins fun p => { p with bgnt := false, tapReset := true }
  let d := d.updBatch fun b => { b with bubble := none }
  (d.updPower fun p => { p with state := .run, wakeArmed := false, wakeLatched := [], bootFloor := false,
                                       btnFresh := false }).chgPause.priUpdate

/-- Safe Hold does not survive a brown-out or a chip restart (R113, R654). -/
def Device.holdLost (d : Device) : Device := d.updFaults Faults.endHold

/-! ### Step 2 and step 3 (R114, R665, R702 to R706) -/

/-- Step 2: the Starter ROM on each keeper that is not QUARANTINED; one that fails stays OFFLINE. -/
def Device.startStep2 (d : Device) (ss : Sys2Proof.StartSense) : Device :=
  let one := fun (k : Sys2Proof.Keeper) (good : Bool) (d : Device) =>
    if (d.keeper k).role = .quarantined then d
    else if good then (d.updKeeper k fun s => { s with romOk := true, powered := true }).wdRom k
    else d.updKeeper k fun s => { s with romOk := false }
  one .b ss.romOkB (one .a ss.romOkA d)

/-- No keeper has passed step 2: the device stays dark until POR (R114). -/
def Device.noRom (d : Device) : Bool := !d.keepers.a.romOk && !d.keepers.b.romOk

/-- The Ledger index found at step 3 (R665). -/
def Device.ledgerIndex (d : Device) : Device :=
  match d.ledgerEntries.getLast? with
  | some (q, s, b) => d.updFaults fun f => { f with seq := BitVec.ofNat 32 q, slot := (s + 1) % 8192, epoch := numAt b 12 2 }
  | none => d.updFaults fun f => { f with seq := 0, slot := 0, epoch := 0 }

/-- The exit from SEALED is logged once the Ledger is writable (R661). -/
def Device.graveLogged (d : Device) : Device :=
  if d.power.graveExit = 0 then d
  else (d.raise (coded 0x0F 7 d.power.graveExit)).updPower fun p => { p with graveExit := 0 }

/-- The zeroisation of a RETIRED device (R706). -/
def Device.zeroise (d : Device) : Device :=
  let d := (d.eraseKeys 0).updKeys fun k => { k with pubKeys := Vector.replicate 2 none }
  (d.nvmErase 0xC0000 0x20000).updFaults fun f => { f with seq := 0, slot := 0, epoch := 0 }

/-- Step 3, but for the Grave fault of a corrupt key store: the device, and whether ROM Safe Hold follows. -/
def Device.startStep3 (d : Device) (ss : Sys2Proof.StartSense) : Bool × Device :=
  let d := d.ledgerIndex.graveLogged
  let badLife := d.lifecycleBad
  let badManifest := d.cfg.manifest.isNone
  let d := if badLife then d.raise (coded 0x12 7 2) else d.programLifecycle d.lifecycle
  let d := d.when badManifest (·.raise (coded 0x12 7 1))
  let d := d.when (!ss.calOk) (·.raise (coded 0x12 6))
  let d := d.when (!ss.keystoreOk) (·.raiseOn 23 (coded 0x11 1))
  if badLife then (true, d)
  else
    let d := d.when (decide (d.lifecycle = 3)) (·.eraseKeys 2)
    let d := d.when (decide (d.lifecycle = 4)) (·.zeroise)
    (badManifest || decide (d.lifecycle = 0) || decide (d.lifecycle = 4), d)

/-! ### Steps 4 to 7 (R56, R214, R219, R746) -/

/-- Step 4: the straps are sampled after POR, brown-out or a SHIP exit, and when no Recipe was in force (R57, R746); a ball whose
reading is undefined reads a free bit (R54). -/
def Device.startStep4 (d : Device) (ss : Sys2Proof.StartSense) : Device :=
  if d.power.sampleRsel ∨ d.rcp.inForce.isNone then
    let (x, d) := d.free
    let strap := fun (i : Nat) (s : Option Bool) => 2 ^ i * b2n (s.getD (bit x i))
    let v := strap 0 ss.rsel0 + strap 1 ss.rsel1 + strap 2 ss.rsel2
    (d.updPower fun p => { p with sampleRsel := true }).updRcp fun r => { r with rsel := v }
  else d

/-- Verifies one Recipe and brings it into force when it is valid. -/
def Device.recipeTry (d : Device) (n : Nat) (fallback : Bool) : Bool × Device :=
  let (v, d) := d.rcpVerify n
  if v = 0 then
    (true, (d.updRcp fun r => { r with inForce := some (decodeRecipe (d.rcpBytes n)), fallback := fallback }).updPins fun p =>
      { p with pgHeld := false })
  else (false, d.updRcp fun r => { r with inForce := none, fallback := false })

/-- Step 5 (R746): the candidate, else Recipe 7. -/
def Device.startStep5 (d : Device) : Bool × Device :=
  let n := match d.rcp.inForce with
    | some r => if d.power.sampleRsel then d.rcp.rsel else r.number
    | none => d.rcp.rsel
  let x := d.recipeTry n false
  if x.1 ∨ n = 7 then x else x.2.recipeTry 7 true

/-- Step 6 for one keeper: none when it runs no image. -/
def Device.startStep6 (d : Device) (k : Sys2Proof.Keeper) : Option Nat × Device :=
  if (d.keeper k).romOk ∧ (d.keeper k).role ≠ .quarantined then d.bootSlots k (d.bootOrder k false) else (none, d)

/-- A keeper's place at role election (R114, R219). -/
def Device.placeKeeper (d : Device) (k : Sys2Proof.Keeper) (slot : Option Nat) (active cold : Bool) : Device :=
  match slot with
  | some s =>
    ((d.updKeeper k fun x => { x with
      role := if active then Role.active else if cold then Role.standbyCold else Role.standbyHot,
      powered := true }).loadImage k s).wdEnter k
  | none => (d.updKeeper k fun x => { x with slot := none, image := [], powered := false }).wdStop k

/-- Step 7: Keeper A when it has a valid image, else Keeper B; the other one is standby (R114, R220). -/
def Device.startStep7 (d : Device) (a b : Option Nat) : Device :=
  let cold := match a, b with
    | some x, some y => !(imgPaired (d.slotHeader x) (d.slotHeader y) &&
        schemaOk (imgSchema (d.slotHeader x)) (imgSchema (d.slotHeader y)))
    | _, _ => false
  let d := (d.placeKeeper .a a true cold).placeKeeper .b b a.isNone cold
  d.updKeepers fun k => { k with activeKeeper := if a.isSome then .a else .b, cold := cold }

/-- The boot entry of the Ledger with the slots that the keepers run, written by the Starter ROM (R56, R216, R664). -/
def Device.bootEntry (d : Device) (a b : Option Nat) : Device :=
  let nib := fun (s : Option Nat) => s.getD 15
  let t := Config.romVersion.toNat + 2 ^ 8 * d.rcp.rsel + 2 ^ 16 * d.power.resetCause + 2 ^ 24 * (nib a + 16 * nib b)
  d.raiseAs (coded 0x13 1 d.power.bootSeq) false false t

/-! ### ROM Safe Hold (R222, R773) -/

/-- ROM Safe Hold: the safe rails of the Recipe in force, the host released, and Room 15 on the service port. -/
def Device.romSafe (d : Device) : Device :=
  let d := (((d.keepersOff).updPower fun p => { p with phase := .romSafeHold }).updPins fun p => { p with hrstLow := false })
  let d := ({ d with rooms := Vector.ofFn fun n =>
      { RoomRegs.reset with idPort := if n.val = 15 then 3 else 0, quota := if n.val = 15 then 64 else 0 } })
  let d := (d.bootEntry d.keepers.a.slot d.keepers.b.slot).raise (coded 3 3)
  let rails := all16.filter fun r => d.rcp.inForce.isSome && bit (d.fn Fld.fltSafeRails) r.val && decide (r.val ≠ 8) &&
    d.railThere r
  let d := d.updVotes fun _ => rails.map fun r => ({ holder := .safe, rail := r, mv := 0, code := 0 } : Vote)
  let d := d.updShadow fun t => { t with rails := Vector.ofFn fun r => d.combine d.priv.votes (t.rails.get r) r }
  (d.updSup fun s => { s with published := true }).updPower fun p => { p with tickAt := d.now }

/-! ### Step 8 (R391, R400) -/

/-- Steps 1, 4 and 5 of an interval of step 8, which begins at the latest tick, and the publication of its targets (R391). -/
def Device.startInterval (d : Device) : Device :=
  ((d.railsSeen.seqBatch d.power.tickAt).combineRails).updSup fun s => { s with published := true }

/-- The gauge at step 2 or after: a new estimate at the first start after POR or a SHIP exit, where the cell was sampled
(R544, R547); a start cut short before this point leaves no estimate, and the next one makes it. -/
def Device.gaugeStart (d : Device) (ss : Sys2Proof.StartSense) : Device :=
  if d.power.resetCause = 1 ∨ d.power.resetCause = 7 ∨ d.priv.gauge.fcc = 0 then ((d.gaugeLoad).seedOrWait ss.batMv ss.batTemp).larderLoad else d

/-- Steps 2 to 7, and the first interval of step 8. -/
def Device.startSteps (d : Device) (ss : Sys2Proof.StartSense) : Device :=
  let d := d.startStep2 ss
  if d.noRom then (((d.railsStart fun r => decide (r.val = 8)).updVotes fun _ => []).updPins fun p =>
    { p with hrstLow := true }).updPower fun p => { p with phase := .dark }
  else
    let d := d.updPower fun p => { p with phase := .starting }
    let (hold, d) := d.startStep3 ss
    let d := d.secStart
    if d.faults.graveDue.isSome then d
    else if hold then
      (if d.lifecycle = 0 ∨ d.lifecycle = 4 then d.updRcp fun r => { r with inForce := none } else d).romSafe
    else
      let (good, d) := (d.startStep4 ss).startStep5
      if good = false then d.romSafe
      else
        let (a, d) := d.startStep6 .a
        let (b, d) := d.startStep6 .b
        if a.isNone ∧ b.isNone then d.romSafe
        else
          let d := (((d.updWd fun w => { w with inForce := d.fn Fld.wdPeriod }).bootEntry a b).startStep7 a b).gaugeStart ss
          ((d.updPriv fun p => { p with seqRun := some (SeqRun.start 0 .start) }).updPower fun p => { p with tickAt := d.now }).startInterval

/-- Form A of the start gate applies; otherwise form H does (R106). -/
def Device.gateFormA (d : Device) (priMv : Nat) : Bool := decide (d.path.fet ≠ .off) || d.path.dcValid || decide (2200 ≤ priMv)

/-- HARVEST START (R107): the start gate waits in form H. -/
def Device.harvestStart (d : Device) : Bool := decide (d.power.phase = .gate) && !d.gateFormA d.sample.priMv

/-- The level that VSYS must hold for the start gate, in mV, and for how long, in µs (R106). -/
def Device.gateNeeds (d : Device) (priMv : Nat) : Nat × Nat := if d.gateFormA priMv then (2200, 5000) else (2400, 50000)

/-- The start gate passes (R106), with VSYS at a level at which LDO5 regulates (R354): after POR and a SHIP exit
nothing but what POR leaves stands; after a brown-out and LODGE, what R113 keeps. `boot_seq` increases by 1 and stays at its
largest value (R123; DESIGN CHOICE, log entry 113). -/
def Device.gatePass (d : Device) (ss : Sys2Proof.StartSense) : Device :=
  if d.power.testHigh then d.updPower fun p => { p with phase := .dark }
  else
    let d := ({ d.exitLog with sample := { d.sample with
      vsysMv := ss.vsysMv, priMv := ss.priMv, batMv := ss.batMv, batTemp := ss.batTemp } }).updRail 8 fun h => { h with st := .proofed }
    let d := d.updPower fun p => { p with aonMv := ss.batMv, btnFresh := false }
    if d.power.resetCause = 1 ∨ d.power.resetCause = 7 then d.startSteps ss
    else
      let d := d.updPower fun p => { p with bootSeq := sat 65535 (p.bootSeq + 1) }
      (d.when (decide (d.power.resetCause = 6)) (·.startClear (fun r => decide (r.val = 8)) [])).startSteps ss

/-! ### Steps 9 and 10 (R65, R115, R116, R152, R292) -/

/-- The start under way is a chip restart: no step 9 (R108). -/
def Power.warm (p : Power) : Bool :=
  decide (p.resetCause = 3) || decide (p.resetCause = 4) || decide (p.resetCause = 5) || decide (p.resetCause = 8)

/-- The Batch supervisor and the keeper registers at step 10 (R112, R127, R128, R152, R198). -/
def Device.batchStart (d : Device) : Device :=
  let fresh := decide (d.power.resetCause = 1) || decide (d.power.resetCause = 2) || decide (d.power.resetCause = 7)
  let d := d.updBatch fun b =>
    let mode := if fresh then TimingMode.free else b.mode
    { b with number := if b.used then b.number + 1 else 0, used := true, edgeTime := b.time, timeFrac := 0, rest := false,
             mode := mode, qualifyPending := b.xtalQualified && decide (mode ≠ .disciplined),
             okSaid := b.okSaid && !fresh, bubble := none, bubbles := 0,
             maxRun := 0, curRun := 0, lastBubble := 0, cntTakeover := 0, cntOverrun := 0, cntRecipe := 0, cntDebug := 0 }
  d.updKeepers fun k => { k with
    swapSeq := 0, lastSwap := { grantBatch := 0, kind := none, cold := false, bubbles := 0, newActive := .a },
    ckptBatch := 0, ckptBuffer := false, holdoffEnd := 0, selfTestDue := d.now + 3600000000 * d.fn Fld.kprSelftest }

/-- What waits for step 10: crystal changes and charger faults of LODGE, a pulse that fell due, and the hold of the
escalation ladder (R133, R439, R513, R688). -/
def Device.startReports (d : Device) (sm : Sys2Proof.Sample) : Device :=
  let l := d.batch.xtalReports
  let d := (d.updBatch fun b => { b with xtalReports := [] }).each l fun good d => d.raise (coded 1 (if good then 5 else 4))
  let d := d.chgReport
  let d := d.when (d.path.pulseDue && d.pulseFree) fun d =>
    match d.path.repeatAt with
    | some (t, ma, ms) => if t ≤ d.now then d.pulseBegin none sm.priMv ma ms true else d.pulsePlain sm.priMv
    | none => d.pulsePlain sm.priMv
  match d.wd.holdDue with
  | some n => (d.updWd fun w => { w with holdDue := none }).raise (coded 0x10 5 n)
  | none => d

/-- Steps 9 and 10, and the work of the first Batch (R114 to R116). -/
def Device.step10 (d : Device) (sm : Sys2Proof.Sample) : Device :=
  let d := d.updPins fun p => { p with hrstLow := p.hrstLow && d.power.warm, tapReset := false }
  let d := d.updPower fun p => { p with phase := .open, state := .run, sampleRsel := false }
  let d := d.batchStart.copyIdent
  let d := d.updPower fun p => { p with
    bootFloor := decide (d.fn Fld.pwrBootFloor ≠ 0), bootFloorEnd := d.batch.number.toNat + d.fn Fld.pwrBootFloor }
  let d := (((d.kinStep10).adcStep10).digStep10).gaugeStep10
  let d := ((((d.chgResume).fetEdge).chgSettle).updChg fun c => { c with lastBatsns := sm.batMv }).priUpdate
  ((d.startReports sm).updSup fun s => { s with ext := .full }).workNormal sm

/-- The next 1.000 ms tick comes: ticks follow one another exactly, while device time stands at the latest step of the KEEP clock
(R135, R391, log entry 31). -/
def Device.tickOn (d : Device) : Device :=
  let t := d.power.tickAt + 1000
  (d.elapse (if d.now ≤ t then d.batch.keepBefore t else d.batch)).updPower fun p => { p with tickAt := t }

/-- A tick of step 8 (R391): the published targets apply, then the interval's work; the tick after the sequence has ended
is step 10. -/
def Device.startTick (d : Device) (sm : Sys2Proof.Sample) : Device :=
  if d.power.phase ≠ .starting then d
  else
    let d := d.tickOn.sampled sm
    let d := d.when d.sup.published fun d =>
      (d.updActive fun t => { t with rails := d.shadow.rails }).updSup fun s => { s with published := false }
    let d := ((d.railsEdge d.now).railsMeasure sm).gaugeEdge sm 1000
    if d.priv.seqRun.isSome then d.startInterval else d.step10 sm

/-! ### Chip restarts and brown-out (R108 to R111, R385, R687) -/

/-- A counted restart (R687, R688). -/
def Device.restartCounted (d : Device) : Device :=
  let d := d.updWd fun w => { w with restarts := (d.now :: w.restarts).take 7 }
  let n := d.restartCount
  let d := d.raise (coded 0x10 4 n)
  d.when (decide (d.fn Fld.wdRestartLimit ≤ n)) (·.updWd fun w => { w with holdDue := some n })

/-- A chip restart with its start cause (R108 to R111): a held rail whose supplying rail turns off is tripped (R357). `boot_seq`
increases by 1 and stays at its largest value (R123; DESIGN CHOICE, log entry 113). -/
def Device.chipRestart (d : Device) (cause : Nat) (ss : Sys2Proof.StartSense) : Device :=
  let d := if cause = 3 then d.restartCounted else d.raise (coded 0x13 4 cause)
  let held := all16.filter fun r => d.onHold r && decide (r.val ≠ 8) && (d.railTarget r).en
  let votes := held.map (d.appliedVote (.hold 0))
  let d := (d.updPower fun p => { p with phase := .starting, resetCause := cause, bootSeq := sat 65535 (p.bootSeq + 1),
                                         sampleRsel := false }).holdLost
  ((d.startClear d.onHold votes).tripUnsupplied d).startSteps ss

/-- A brown-out (R108, R113): the KEEP domain stays, no Recipe is in force, PG0 to PG3 are held low until one is verified (R80), and
the start gate follows. -/
def Device.brownOut (d : Device) : Device :=
  match d.power.phase with
  | .por | .ship | .sealed => d
  | .dark => d.railsStart fun r => decide (r.val = 8)
  | _ =>
    let d := ((d.exitLog.gateBegin).updPower fun p => { p with resetCause := 2, sampleRsel := true }).holdLost
    let d := d.startClear (fun r => decide (r.val = 8)) []
    let d := d.updChg fun c => { c with phase := .idle, preFetOff := false, tPre := 0, tFast := 0, tTop := 0, harvest := false }
    (d.updRcp fun r => { r with inForce := none, fallback := false }).updPins fun p => { p with hrstLow := true, pgHeld := true }

/-! ### Keeper failures (R176, R190 to R195, R686, R689) -/

/-- A keeper failure with its cause, 1 to 5 in the order of R190, while keepers run. A failed ACTIVE keeper asks for the
takeover, and where no standby is able the arbiter's row 2 restarts the chip at the edge (R177, R195). What it did up to the
present instant stands. -/
def Device.keeperFail (d : Device) (k : Sys2Proof.Keeper) (cause : Nat) (ss : Sys2Proof.StartSense) : Device :=
  let d := d.catchUp
  let s := d.keeper k
  if s.role = .quarantined ∨ (s.role = .offline ∧ s.offUse = .nothing) then d
  else
    let act := decide (d.activeKeeper = some k)
    let d := d.failRecord k cause
    if d.faults.graveDue.isSome then d
    else if d.ladderTwo k ∨ (act ∧ d.isOpen = false) then
      (d.when (d.keeper k).thirdFailure (·.quarantine k)).chipRestart 3 ss
    else if act then d.updKeepers fun x => { x with hwTakeover := true }
    else d.failAway k

end Sys2Proof.Machine
end

