-- ==== Sys2Proof/Machine/Batch.lean ====
section
/-! DEFINITION. The Batch edge (R126 to R152): the instants of a Batch, what its start edge does in hardware, the
classification of bubbles, the arbiter's grants, and the edges of a LODGE or SHIP power-down and of ROM Safe Hold. -/
namespace Sys2Proof.Machine

/-! ### The end of a Batch (R145, R185, R556, R602) -/

/-- The Batch that ends: instants not yet passed, a stalled bubble, ADC overlaps, and the end of a busy takeover. No halt keeps a
stall from being reported (R145). -/
def Device.closeBatch (d : Device) : Device :=
  let d := (d.budgetAt).deadlineAt
  let d := d.when (decide (d.batch.bubble = some .overrun) && !d.sup.workDone) (·.raise (coded 1 2))
  let d := d.when d.batch.bubble.isSome (·.larderSkip d.batch.period)
  let d := d.adcOverlaps
  if d.keepers.busy ∧ d.batch.bubble ≠ some .takeover ∧ d.sup.takeoverLeft = 0 then
    (d.updKeepers fun k => { k with busy := false }).flagAll evKeeper
  else d

/-! ### Targets at an edge (R27, R88, R138) -/

/-- The published set applies. -/
def Device.applyShadow (d : Device) : Device :=
  if d.sup.published then
    let t := d.shadow
    let off := fun (x : Targets) => { x with adcTrig := 0 }
    let d := ((({ d with active := t }.updActive off).updShadow off).adcApply t).kinEdge t.table
    d.adcTriggerAll 4 d.edgeC fun g _ => t.adcTrig.getLsbD g.val
  else d.kinEdge none

/-- The standby core is powered off with its SRAM retained (R83, R157); after a missed heartbeat it stays on until the next
accepted commit (R172). -/
def Device.standbyRest (d : Device) : Device :=
  match d.standby with
  | some k => if (d.keeper k).role.able ∧ d.sup.missed = 0 then d.updKeeper k fun s => { s with powered := false } else d
  | none => d

/-- The power state follows the floor in force (R88, R116, R172): in RUN and DOZE the standby runs. -/
def Device.stateEdge (d : Device) : Device :=
  let d := (d.updPower fun p => { p with state := d.active.floor }).updBatch fun b =>
    { b with rest := decide (d.active.floor = .rest) }
  if d.batch.rest then d.standbyRest else d.standbyOn

/-- A new Batch begins at the present device time (R134, R137). -/
def Device.nextBatch (d : Device) : Device :=
  let off := match d.standby with
    | some k => (d.keeper k).role.able && !(d.keeper k).powered
    | none => false
  let d := d.updBatch fun b => { b with number := b.number + 1, edgeTime := b.time, bubble := none }
  d.updSup fun s => { s with
    published := s.publishHeld, publishHeld := false, committed := false, budgetPassed := false, deadlinePassed := false,
    overrunReported := s.overrunReported && !s.workDone, standbyOff := off }

/-- The crystal has qualified: the mode becomes DISCIPLINED (R128, R130), reported here unless it is reported already (R133). -/
def Device.modeEdge (d : Device) : Device :=
  if d.batch.qualifyPending then
    let said := d.batch.okSaid
    (d.updBatch fun b => { b with
      mode := .disciplined, qualifyPending := false, okSaid := false, divider := b.newDivider }).when (!said) (·.raise (coded 1 5))
  else d

/-- The boot floor ends (R90). -/
def Device.bootFloorEdge (d : Device) : Device :=
  if d.power.bootFloor ∧ d.power.bootFloorEnd ≤ d.batch.number.toNat then d.updPower fun p => { p with bootFloor := false }
  else d

/-- What an edge does in the shared logic (R257, R656, R658, R694, R710, R724, R750). -/
def Device.logicEdge (d : Device) : Device :=
  (((((((d.modeEdge).bootFloorEdge).safeEdge).secEdge).haltApply).switchEdge).wakeArmEdge).closeRooms

/-- The hardware at an edge: bursts, gating, rails, triggers and the charger, with what the sample measures, and what exhausted
energy ends at once (R711, R712). -/
def Device.hardwareEdge (d : Device) (sm : Sys2Proof.Sample) (dt : Nat) : Device :=
  let code := d.batch.bubble.map fun c => match c with | .takeover => 1 | .overrun => 2 | .recipe => 3 | .debugHalt => 4
  let d := d.sampled sm
  let d := ((((d.burstEdge code).gatingEdge d.now).railsEdge d.now).twLeft d).railsMeasure sm
  let d := d.when d.isOpen (·.adcTriggerAll 1 d.edgeC fun _ a => decide (d.batch.number.toNat % max 1 a.cfg.div = 0))
  let d := ((d.fetEdge).gaugeEdge sm dt).chgTerminateEnd
  let d := ((d.stepRemoval sm).chgSettle).priUpdate
  ((d.resEdge).pvRegulate).exhaustRelease

/-! ### Watchdogs and the arbiter at an edge (R177, R679) -/

/-- Both watchdogs count, and one that reaches its period expires (R675, R676). -/
def Device.wdEdge (d : Device) (ss : Sys2Proof.StartSense) : Device :=
  let one := fun (k : Sys2Proof.Keeper) (d : Device) =>
    if d.power.phase.batchRuns && d.wdExpired k then (d.raise (coded 0x10 1 (keeperCode k))).keeperFail k 1 ss else d
  one .b (one .a ((d.wdTick .a).wdTick .b))

/-- The Innkeeper asks for the self-test when it is due and R174 and the hold-off allow it (R196); one that falls due while the
standby is not STANDBY_HOT stays wanted until it is (DESIGN CHOICE, log entry 114). -/
def Device.selfTestAsk (d : Device) : Device :=
  let n := d.batch.number.toNat + 1
  let hot := match d.standby with | some k => decide ((d.keeper k).role = .standbyHot) | none => false
  let d := d.when (decide (d.fn Fld.kprSelftest ≠ 0) && decide (d.keepers.selfTestDue ≤ d.now)) (·.updKeepers fun k => { k with selfTestWanted := true })
  d.when (d.keepers.selfTestWanted && hot && d.sup.committed && decide (d.keepers.holdoffEnd ≤ n))
    (·.updKeepers fun k => { k with handover := some true })

/-- A keeper whose self-test has not passed 50 ms after the grant edge fails (R196). -/
def Device.selfTestLate (d : Device) (ss : Sys2Proof.StartSense) : Device :=
  let one := fun (k : Sys2Proof.Keeper) (d : Device) =>
    if d.isOpen && decide ((d.keeper k).offUse = .selfTest) && decide (d.keepers.selfTestStart + 50000 < d.now) then
      d.keeperFail k 4 ss
    else d
  one .b (one .a d)

/-- The arbiter at the edge that begins the next Batch: true when a swap is granted (R177, R195, R686). -/
def Device.arbiterEdge (d : Device) (ss : Sys2Proof.StartSense) : Bool × Device :=
  let d := d.selfTestAsk
  let n := d.batch.number.toNat + 1
  let out := d.arbitrate n
  let act := d.activeKeeper
  let d := d.swapNote out act n
  let clear := fun (d : Device) => d.updKeepers fun k => { k with commanded := [], handover := none }
  match out, act with
  | .grant kind, some k =>
    let d := ((d.grantSwap kind n d.sup.standbyOff).flagAll evKeeper)
    let d := clear d
    (true, if kind = .heartbeat ∧ d.faults.graveDue.isNone ∧ d.ladderTwo k then d.chipRestart 3 ss else d)
  | .noStandby true, some k =>
    let d := clear (d.when (!d.keepers.hwTakeover) (·.failRecord k 3))
    (false, if d.faults.graveDue.isSome then d
      else (d.when (d.keeper k).thirdFailure (·.quarantine k)).chipRestart 3 ss)
  | _, _ => (false, clear d)

/-! ### Bubbles (R146 to R152) -/

/-- A scheduled switch may take its bubble in the current Batch (R148, R749). -/
def Device.switchReady (d : Device) : Bool :=
  let n := d.batch.number.toNat
  match d.rcp.switch with
  | some s =>
    decide (s.batch ≤ n) && !s.passed && d.burst.running.isNone &&
      !(match d.burst.first with | some e => e.ready n | none => false) &&
      !(match d.burst.second with | some e => e.ready n | none => false)
  | none => false

/-- The cause of the bubble that the current Batch is (R146 to R149): work that a halt has cut is finished in a debug-halt bubble,
the first Batch after the release. -/
def Device.bubbleFor (d : Device) : Option BubbleCause :=
  if d.sup.takeoverLeft ≠ 0 then some .takeover
  else if d.activeHalted || (d.sup.haltCut && !d.sup.workDone) then some .debugHalt
  else if !d.sup.workDone then some .overrun
  else if d.switchReady then some .recipe
  else none

/-- The Batch supervisor records a bubble (R152). -/
def BatchTimer.noteBubble (b : BatchTimer) (c : Option BubbleCause) : BatchTimer :=
  match c with
  | none => { b with bubble := none, curRun := 0 }
  | some k =>
    let run := sat 65535 (b.curRun + 1)
    { b with
      bubble := some k, curRun := run, maxRun := max b.maxRun run, bubbles := sat 0xFFFFFFFF (b.bubbles + 1),
      lastBubble := b.number,
      cntTakeover := if k = .takeover then sat 65535 (b.cntTakeover + 1) else b.cntTakeover,
      cntOverrun := if k = .overrun then sat 65535 (b.cntOverrun + 1) else b.cntOverrun,
      cntRecipe := if k = .recipe then sat 65535 (b.cntRecipe + 1) else b.cntRecipe,
      cntDebug := if k = .debugHalt then sat 65535 (b.cntDebug + 1) else b.cntDebug }

/-- The current Batch is classified at its start edge (R146, R152); a debug-halt bubble without a halt ends the cut (R149). -/
def Device.classifyBatch (d : Device) : Device :=
  let c := d.bubbleFor
  let d := d.updBatch (·.noteBubble c)
  match c with
  | some .takeover => d.updSup fun s => { s with takeoverLeft := s.takeoverLeft - 1 }
  | some .recipe => d.updRcp fun r => { r with switch := r.switch.map fun s => { s with now := true } }
  | some .debugHalt => if d.activeHalted then d else d.updSup fun s => { s with haltCut := false }
  | _ => d

/-! ### The work of the Batch that begins -/

/-- The keeper work at the start edge of the current Batch by its class (R142, R149, R182, R750). `granted` says that the takeover
bubble begins with it; a takeover and a switch publish before the budget mark. -/
def Device.batchWork (d : Device) (sm : Sys2Proof.Sample) (ext : Sys2Proof.WorkExtent) (ss : Sys2Proof.StartSense)
    (granted : Bool) : Device :=
  let d := d.updSup fun s => { s with ext := ext }
  match d.batch.bubble with
  | none => d.workNormal sm
  | some .takeover =>
    if granted then
      let (good, d) := d.takeover
      if good then d else d.chipRestart 3 ss
    else d
  | some .recipe => (d.workBegin .targets).railsSeen
  | some .overrun | some .debugHalt => if d.activeHalted then d else d.workRest

/-! ### LODGE and SHIP power-down (R94, R100, R399) -/

/-- The work of a Batch of the power-down: where it is no bubble the sequence goes on, and else what is left of the interrupted
Batch, whose requests are gone, is its commit. -/
def Device.downWork (d : Device) (ext : Sys2Proof.WorkExtent) : Device :=
  let d := d.updSup fun s => { s with ext := ext }
  match d.batch.bubble with
  | none => (d.workBegin .targets).railsSeen
  | some .takeover => d
  | _ => d.stageAt (if d.sup.workDone then .idle else .commit)

/-- Where LODGE or SHIP begins at an edge, the Batch that begins is the first of the power-down. Its period, and that of those after
it, is the one of the floor in force at this edge, since no target but the rails' is published any more (DESIGN CHOICE, log
entry 115). -/
def Device.leaveEdge (d : Device) (sm : Sys2Proof.Sample) (ext : Sys2Proof.WorkExtent) (dt : Nat) (begin_ : Device → Device) :
    Device :=
  let was := d.sup.committed
  let d := d.updRcp fun r => { r with switch := r.switch.filter (·.passed) }
  let d := (((d.stateEdge).nextBatch).logicEdge.hotCopy was).classifyBatch
  (begin_ (d.hardwareEdge sm dt)).downWork ext

/-- An edge of the power-down: the sequence goes on, or has ended and LODGE or SHIP is reached. -/
def Device.downEdge (d : Device) (sm : Sys2Proof.Sample) (ext : Sys2Proof.WorkExtent) (ss : Sys2Proof.StartSense) : Device :=
  let dt := d.batch.period
  let d := (d.closeBatch).moveTo d.batch.nextEdge
  let d := d.when d.sup.published fun d => d.updActive fun t => { t with rails := d.shadow.rails }
  let d := (d.wdEdge ss).selfTestLate ss
  if d.power.phase.batchRuns = false ∨ d.faults.graveDue.isSome then d
  else if d.downRuns then
    let was := d.sup.committed
    let d := ((((((d.nextBatch).modeEdge).safeEdge).secEdge).haltApply).hotCopy was).classifyBatch
    (d.hardwareEdge sm dt).downWork ext
  else
    let d := d.hardwareEdge sm dt
    if d.power.phase = .lodgeDown then d.lodgeReached else d.shipReached

/-! ### The edges -/

/-- The rest of an edge in RUN, DOZE or REST after the arbiter. -/
def Device.beginBatch (d : Device) (sm : Sys2Proof.Sample) (ext : Sys2Proof.WorkExtent) (ss : Sys2Proof.StartSense)
    (dt : Nat) (granted : Bool) : Device :=
  let was := d.sup.committed
  let d := (((d.stateEdge).nextBatch).logicEdge.hotCopy was).classifyBatch
  (d.hardwareEdge sm dt).batchWork sm ext ss granted

/-- The frame tick in RUN, DOZE and REST (R137). -/
def Device.openEdge (d : Device) (sm : Sys2Proof.Sample) (ext : Sys2Proof.WorkExtent) (ss : Sys2Proof.StartSense) : Device :=
  let dt := d.batch.period
  let d := ((d.closeBatch).moveTo d.batch.nextEdge).applyShadow
  let d := (d.wdEdge ss).selfTestLate ss
  if d.isOpen = false ∨ d.faults.graveDue.isSome then d
  else match d.restartDue with
    | some cause => d.chipRestart cause ss
    | none =>
      if d.lodgeDue then d.leaveEdge sm ext dt (·.lodgeBegin d.now)
      else if d.shipDue d.now then d.leaveEdge sm ext dt (·.shipBegin)
      else
        let (granted, d) := d.arbiterEdge ss
        if d.isOpen = false ∨ d.faults.graveDue.isSome then d else d.beginBatch sm ext ss dt granted

/-- A tick in ROM Safe Hold, where no Batch runs and device time advances from the KEEP clock (R112, R135, R222, log entry 32): published rails apply, the requests of
Room 15 are taken and executed, staged bytes are programmed, completions are posted, and a restart asked for is made. -/
def Device.romEdge (d : Device) (sm : Sys2Proof.Sample) (ss : Sys2Proof.StartSense) : Device :=
  let d := d.tickOn.sampled sm
  let d := d.when d.sup.published fun d =>
    (d.updActive fun t => { t with rails := d.shadow.rails }).updSup fun s => { s with published := false }
  let d := (((d.safeEdge).secEdge).railsEdge d.now).railsMeasure sm
  let x := d.intake (if d.path.dcValid then [15] else []) 128
  let d := (x.1.eccStep4.execRounds 32 x.2).imageProgram.stageAbandon.postAll
  match d.priv.restart with
  | some r => d.chipRestart r.2 ss
  | none => d

/-- The frame tick (R137). -/
def Device.batchEdge (d : Device) (sm : Sys2Proof.Sample) (ext : Sys2Proof.WorkExtent) (ss : Sys2Proof.StartSense) : Device :=
  match d.power.phase with
  | .open => d.openEdge sm ext ss
  | .lodgeDown | .shipDown => d.downEdge sm ext ss
  | .romSafeHold => d.romEdge sm ss
  | _ => d

/-- What a command needs for an edge that carries no sensing of a start: both keepers' ROM good and no strap read. A
command of this kind names an event, and its edge is taken with the last sample and full work (log entry 33). -/
def StartSense.plain (d : Device) : Sys2Proof.StartSense :=
  { romOkA := true, romOkB := true, keystoreOk := true, calOk := true, rsel0 := none, rsel1 := none, rsel2 := none,
    vsysMv := d.sample.vsysMv, priMv := d.sample.priMv, batMv := d.sample.batMv, batTemp := d.sample.batTemp }

/-- An event that falls on the edge that ends the current Batch is that edge, when it is due. -/
def Device.edgeIf (d : Device) (due : Bool) (ss : Sys2Proof.StartSense) : Device :=
  if due then d.batchEdge d.sample .full ss else d

/-- What time does to a device that no command moves on (log entry 10): 1 µs of a running Batch up to its end edge, with its marks;
one KEEP clock period while the Batch is stopped (R135), up to the next tick where ticks pace the device. -/
def Device.idleTick (d : Device) : Device :=
  if d.power.phase.timeRuns = false then d
  else if d.power.phase.batchRuns then (d.moveTo (min (d.now + 1) d.batch.nextEdge)).catchUp
  else
    let b := d.batch.keepSteps 1
    d.when (d.reaches b.time) (·.elapse b)

end Sys2Proof.Machine
end

