-- ==== Sys2Proof/Machine/Link.lean ====
section
/-! DEFINITION. The host link (chapter 08): what a Room window reads as, what a write frame does to it, and the framing of
the three ports. -/
namespace Sys2Proof.Machine

/-! ### Ports (R44, R51, R235, R286) -/

/-- A Room is bound to UART (R286). -/
def Device.anyUart (d : Device) : Bool := d.rooms.toList.any fun r => decide (r.idPort = 3)

/-- A port takes frames: SPI and I²C with Rooms open and VIO good, the service port while it is open (R44, R51, R286). -/
def Device.portActive (d : Device) (p : Sys2Proof.Port) : Bool :=
  match p with
  | .spi | .i2c => d.pins.vioGood && d.isOpen
  | .uart => d.path.dcValid && (d.romHold || (d.isOpen && d.anyUart))

/-- CRC is enabled for a port (R275, R288, R309). -/
def Device.crcOn (d : Device) (p : Sys2Proof.Port) : Bool :=
  match p with
  | .spi => decide (d.fn Fld.linkSpiCrc ≠ 0)
  | .i2c => decide (d.fn Fld.linkI2cCrc ≠ 0)
  | .uart => true

/-- A Room has an event flag set and enabled (R279, R303). -/
def RoomRegs.pends (r : RoomRegs) : Bool := decide (r.evFlags &&& r.evEnable ≠ 0)

/-- `err` of a port as its next status byte reports it: of the previous frame on SPI and I²C (R279, R280); a response of the service
port speaks of its own frame. -/
def LinkState.err (x : LinkState) (p : Sys2Proof.Port) : Bool :=
  match p with
  | .spi => x.spiErr
  | .i2c => x.i2cErr
  | .uart => false

/-- The link status byte (R279). -/
def Device.linkStatus (d : Device) (p : Sys2Proof.Port) (n : RoomId) (err : Bool) : Byte :=
  let r := d.rooms.get n
  BitVec.ofNat 8 (0xA0 + 8 * b2n (r.boundTo p) + 4 * b2n d.keepers.busy + 2 * b2n err + b2n r.pends)

/-! ### The Room window as read (R290 to R303) -/

/-- IDENT and STATUS, 0x000 to 0x017 (R291). -/
def Device.identBytes (d : Device) (n : RoomId) : List Byte :=
  let r := d.rooms.get n
  let st := match r.st with | .closed => 0 | .opened => 1 | .parked => 2
  leBytes 4 (n.val + 16 * r.idPort + 64 * r.idPriv + 256 * r.idIrq) ++
  leBytes 4 (if r.st = .opened then r.version else 0) ++
  leBytes 4 (r.quota + 65536 * d.held n) ++
  leBytes 4 (st + 4 * b2n d.keepers.busy + 8 * b2n d.faults.safeHold + 16 * b2n d.keepers.cold + 32 * b2n r.cqWait) ++
  leBytes 4 r.session.toNat ++
  leBytes 4 (r.crcErrs + 256 * r.frameErrs + 65536 * r.ringErrs + 2 ^ 24 * b2n r.linkErr + 2 ^ 25 * b2n r.pends)

/-- The status mirror, 0x040 to 0x09B (R293). -/
def Mirror.bytes (m : Mirror) : List Byte :=
  leBytes 8 m.batch.toNat ++ leBytes 8 m.written.toNat ++ leBytes 4 m.railEn.toNat ++ leBytes 4 m.railPg.toNat ++
  leBytes 4 m.railProof.toNat ++ leBytes 4 m.railOff.toNat ++ m.railMv.toList.flatMap (leBytes 2) ++
  leBytes 2 m.batMv ++ leBytes 2 m.vsysMv ++ leBytes 4 (ofSigned 4 m.batUa) ++ leBytes 2 m.soc ++
  leBytes 2 (ofSigned 2 m.batTemp) ++ leBytes 1 m.chg ++ leBytes 1 m.src ++ leBytes 2 m.capMv ++ leBytes 1 m.pwr ++
  leBytes 1 m.cond ++ leBytes 2 0 ++ leBytes 4 m.fault ++ leBytes 4 m.ledger.toNat

/-- The doorbells, 0x100 to 0x107 (R296). -/
def RoomRegs.doorbells (r : RoomRegs) : List Byte := [r.sqTail, 0, r.sqHead, 0, r.cqHead, 0, r.cqTail, 0]

/-- The event registers, 0x110 to 0x11B (R303). -/
def RoomRegs.events (r : RoomRegs) : List Byte :=
  leBytes 4 r.evFlags.toNat ++ leBytes 4 r.evEnable.toNat ++ leBytes 4 (r.evFlags &&& r.evEnable).toNat

/-- Bubble cause codes (R146). -/
def BubbleCause.code : BubbleCause → Nat
  | .takeover => 1 | .overrun => 2 | .recipe => 3 | .debugHalt => 4

/-- `BATCH.STATE` (R153). -/
def BatchTimer.regState (b : BatchTimer) : Nat :=
  b2n b.rest + (match b.bubble with | some c => 4 + 8 * c.code | none => 0) + 64 * b2n (decide (b.mode = .disciplined)) +
    128 * b2n b.xtalQualified + 256 * b2n (decide (b.mode = .holdover))

/-- The Batch registers, 0xE00 to 0xE37 (R153). -/
def BatchTimer.regBytes (b : BatchTimer) : List Byte :=
  leBytes 8 b.time ++ leBytes 8 b.number.toNat ++ leBytes 8 b.edgeTime ++ leBytes 4 b.regState ++ leBytes 4 b.bubbles ++
  leBytes 4 (b.maxRun % 65536) ++ leBytes 4 0 ++ leBytes 8 b.lastBubble.toNat ++
  leBytes 2 b.cntTakeover ++ leBytes 2 b.cntOverrun ++ leBytes 2 b.cntRecipe ++ leBytes 2 b.cntDebug

/-- State code of the engine in `DIG.STATUS` (R637). -/
def Digest.stateCode (g : Digest) : Nat :=
  if g.free then 0 else if g.guest.isNone then 3 else if g.running then 2 else 1

/-- `DIG.STATUS` (R637). -/
def Device.digStatus (d : Device) : Nat :=
  let g := d.dig
  g.stateCode + 4 * b2n g.hmac + 8 * g.slot + 64 * b2n g.foreign + 128 * b2n g.overrun + 256 * g.err +
    4096 * b2n g.resv + 65536 * d.keys.loaded

/-- The digest registers, 0xE80 to 0xEBF; `DIG.CTRL` and `DIG.DATA` read 0 (R637). -/
def Device.digBytes (d : Device) : List Byte :=
  let g := d.dig
  [g.claim, 0, 0, 0] ++ leBytes 4 0 ++ leBytes 4 d.digStatus ++ leBytes 4 0 ++ leBytes 8 g.count.toNat ++
  leBytes 4 (g.rSeq.toNat + 2 ^ 16 * g.rSource.toNat + 2 ^ 24 * b2n g.rHmac + 2 ^ 25 * g.rSlot) ++ leBytes 4 0 ++ g.result

/-- The common page, 0xE00 to 0xEFF (R295). -/
def Device.commonBytes (d : Device) : List Byte :=
  d.batch.regBytes ++ leBytes 2 0x4620 ++ leBytes 1 0xB0 ++ leBytes 5 0 ++ leBytes 4 d.regRoles ++ leBytes 4 d.regFails ++
  leBytes 8 d.regLastSwap ++ leBytes 8 d.regCkpt ++ leBytes 40 0 ++ d.digBytes

/-- A byte of a Room's window as its own port reads it (R290). -/
def Device.regByte (d : Device) (n : RoomId) (off : Nat) : Byte :=
  if off < 0x040 then (d.identBytes n).getD off 0
  else if off < 0x100 then d.mirror.bytes.getD (off - 0x040) 0
  else if off < 0x110 then (d.rooms.get n).doorbells.getD (off - 0x100) 0
  else if off < 0x140 then (d.rooms.get n).events.getD (off - 0x110) 0
  else if off < 0x200 then 0
  else if off < 0xE00 then d.winRead n off
  else if off < 0xF00 then d.commonBytes.getD (off - 0xE00) 0
  else if off < 0x1000 then d.winRead n off
  else 0

/-- A byte as a port reads it: through another port, only IDENT, STATUS and the common page (R236, R270). -/
def Device.portByte (d : Device) (p : Sys2Proof.Port) (n : RoomId) (off : Nat) : Byte :=
  if (d.rooms.get n).boundTo p ∨ off < 0x040 ∨ (0xE00 ≤ off ∧ off < 0xF00) then d.regByte n off else 0

/-- The data of a read (R269). -/
def Device.portRead (d : Device) (p : Sys2Proof.Port) (n : RoomId) (off len : Nat) : List Byte :=
  (List.range len).map fun i => d.portByte p n (off + i)

/-! ### What a write frame does (R236, R271, R290 to R303) -/

/-- The byte that a frame from `off` writes at `at_`. -/
def frameByte (off : Nat) (l : List Byte) (at_ : Nat) : Option Byte := if off ≤ at_ then l[at_ - off]? else none

/-- A 32-bit register with the bytes that the frame covers replaced. -/
def frameWord (off : Nat) (l : List Byte) (reg : Nat) (old : Word) : Word :=
  BitVec.ofNat 32 (leNat ((List.range 4).map fun i =>
    (frameByte off l (reg + i)).getD (BitVec.ofNat 8 (old.toNat / 2 ^ (8 * i)))))

/-- A ring protocol error (R291, R303). -/
def Device.ringErr (d : Device) (n : RoomId) : Device :=
  (d.updRoom n fun r => { r with ringErrs := sat 255 (r.ringErrs + 1) }).flag n evRingErr

/-- A slot is submitted and not yet taken (R298). -/
def RoomRegs.slotHeld (r : RoomRegs) (slot : Nat) : Bool := decide ((slot + 256 - r.sqHead.toNat) % 32 < r.sqUsed)

/-- A byte of the submission ring, if its slot is not held. -/
def Device.slotByte (d : Device) (n : RoomId) (at_ : Nat) (b : Byte) : Device :=
  if 0x200 ≤ at_ ∧ at_ < 0xA00 ∧ (d.rooms.get n).slotHeld ((at_ - 0x200) / 64) = false then d.winWrite n at_ [b] else d

/-- The slot bytes of a frame from `at_` upwards. -/
def Device.slotBytes (d : Device) (n : RoomId) (at_ : Nat) : List Byte → Device
  | [] => d
  | b :: l => (d.slotByte n at_ b).slotBytes n (at_ + 1) l

/-- The frame writes a byte of a held slot (R298). -/
def RoomRegs.slotClash (r : RoomRegs) (off : Nat) (l : List Byte) : Bool :=
  (List.range l.length).any fun i =>
    decide (0x200 ≤ off + i) && decide (off + i < 0xA00) && r.slotHeld ((off + i - 0x200) / 64)

/-- A write of `SQ_TAIL` (R297). -/
def Device.sqTailSet (d : Device) (n : RoomId) (v : Byte) : Device :=
  let r := d.rooms.get n
  let used := (v - r.sqHead).toNat
  if used ≤ 32 ∧ r.sqUsed ≤ used then d.updRoom n fun r => { r with sqTail := v } else d.ringErr n

/-- A write of `CQ_HEAD`: slots are released and their records retired (R301, R323). -/
def Device.cqHeadSet (d : Device) (n : RoomId) (v : Byte) : Device :=
  let r := d.rooms.get n
  if (v - r.cqHead).toNat ≤ r.cqUsed then (d.retire n r.cqHead v).updRoom n fun r => { r with cqHead := v }
  else d.ringErr n

/-- A W1C write of `EVT.FLAGS` (R17, R303). -/
def Device.evtClear (d : Device) (n : RoomId) (w : Word) : Device :=
  d.updRoom n fun r => { r with evFlags := r.evFlags &&& ~~~w }

/-- `EVT.ENABLE` after a frame: the bytes it covers are replaced, and bits 31:11 are RSV (R303). -/
def frameEnable (off : Nat) (l : List Byte) (old : Word) : Word :=
  if (List.range 4).any fun i => (frameByte off l (0x114 + i)).isSome then frameWord off l 0x114 old &&& 0x7FF else old

/-- What a frame through the Room's own port writes (R271, R290). -/
def Device.roomWrite (d : Device) (n : RoomId) (off : Nat) (l : List Byte) : Device :=
  let clash := (d.rooms.get n).slotClash off l
  let d := d.slotBytes n off l
  let d := d.evtClear n (frameWord off l 0x110 0)
  let d := d.updRoom n fun r => { r with evEnable := frameEnable off l r.evEnable }
  let d := match frameByte off l 0x100 with | some v => d.sqTailSet n v | none => d
  let d := match frameByte off l 0x104 with | some v => d.cqHeadSet n v | none => d
  d.when clash (·.ringErr n)

/-- The frame reaches `DIG.DATA` without lying wholly within it (R629). -/
def dataBad (off : Nat) (l : List Byte) : Bool :=
  decide (off < 0xF00) && decide (0xEC0 < off + l.length) && !(decide (0xEC0 ≤ off) && decide (off + l.length ≤ 0xF00))

/-- What a frame writes in the common page: the digest engine's registers, through any port by R627 (R236, R625). -/
def Device.commonWrite (d : Device) (p : Sys2Proof.Port) (n : RoomId) (off : Nat) (l : List Byte) : Device :=
  if dataBad off l then d.digFrom p n (·.digData 0xF00 l)
  else
    let d := match frameByte off l 0xE80 with | some v => d.digClaim p n v | none => d
    let d := match frameByte off l 0xE84 with
      | some _ => d.digFrom p n (·.digCtrl n (frameWord off l 0xE84 0))
      | none => d
    d.when (decide (0xEC0 ≤ off) && decide (off < 0xF00)) (·.digFrom p n (·.digData off l))

/-- A write frame's effect (R236, R271). -/
def Device.frameWrite (d : Device) (p : Sys2Proof.Port) (n : RoomId) (off : Nat) (l : List Byte) : Device :=
  (d.when ((d.rooms.get n).boundTo p) (·.roomWrite n off l)).commonWrite p n off l

/-! ### Discarded and accepted frames (R276, R279, R280, R288, R291) -/

/-- Why a frame is discarded: its CRC, or anything else (R291). -/
inductive Discard where
  | crc | other
  deriving DecidableEq, Repr

/-- A response on the service port: its bytes and their CRC (R288). -/
def Device.respond_ (d : Device) (l : List Byte) : Device :=
  let c := (crc16 l).toNat
  d.updLink fun x => { x with svResponse := l ++ [BitVec.ofNat 8 (c / 256), BitVec.ofNat 8 c] }

/-- `err` of a port after a frame (R279, R280). -/
def LinkState.setErr (x : LinkState) (p : Sys2Proof.Port) (e : Bool) : LinkState :=
  match p with
  | .spi => { x with spiErr := e }
  | .i2c => { x with i2cErr := e }
  | .uart => x

/-- A frame that names a Room is discarded (R276, R288, R291, R303). -/
def Device.frameBad (d : Device) (p : Sys2Proof.Port) (n : RoomId) (why : Discard) : Device :=
  let d := d.updLink (·.setErr p true)
  let d := d.when ((d.rooms.get n).boundTo p) fun d => (d.updRoom n fun r =>
    match why with
    | .crc => { r with linkErr := true, crcErrs := sat 255 (r.crcErrs + 1) }
    | .other => { r with linkErr := true, frameErrs := sat 255 (r.frameErrs + 1) }).flag n evLinkErr
  d.when (decide (p = .uart)) fun d => d.respond_ [d.linkStatus p n true]

/-- A good frame: `err` of the port and of the Room clear, `f` is its effect, and `len` bytes are read (R279, R288). -/
def Device.frameGood (d : Device) (p : Sys2Proof.Port) (n : RoomId) (f : Device → Device) (off len : Nat) : Device :=
  let d := f ((d.updLink (·.setErr p false)).when ((d.rooms.get n).boundTo p)
    (·.updRoom n fun r => { r with linkErr := false }))
  d.when (decide (p = .uart)) fun d => d.respond_ (d.linkStatus p n false :: d.portRead p n off len)

/-- In ROM Safe Hold, frames that name another Room than 15 are discarded (R286). -/
def Device.roomServed (d : Device) (n : RoomId) : Bool := !d.romHold || decide (n.val = 15)

/-- A write frame whose framing and CRC are right (R269, R270). -/
def Device.writeFrame (d : Device) (p : Sys2Proof.Port) (n : RoomId) (off : Nat) (l : List Byte) : Device :=
  if l.length = 0 ∨ 512 < l.length ∨ 0x1000 < off + l.length ∨ d.roomServed n = false then d.frameBad p n .other
  else d.frameGood p n (·.frameWrite p n off l) 0 0

/-! ### What the host sees on SPI and I²C (R42, R278, R281 to R284) -/

/-- A Room is bound to SPI (R42). -/
def Device.spiBound (d : Device) : Bool := d.rooms.toList.any fun r => decide (r.idPort = 1)

/-- `SDO` in a frame that names Room `n` and in which `k` bytes are clocked: the link status byte on the last header byte, and the data
of a read behind its turnaround byte (R278); nothing while no Room is bound to SPI (R42). -/
def Device.sdoSent (d : Device) (n : RoomId) (k : Nat) (data : List Byte) : Device :=
  let byte := fun (i : Nat) => if i = 3 then d.linkStatus .spi n (d.link.err .spi) else if i < 5 then 0 else data.getD (i - 5) 0
  d.updLink fun x => { x with spiSdo := if d.spiBound then (List.range k).map byte else [] }

/-- The device acknowledges a device address on I²C: its own 7-bit one, while the port is active (R44, R281). -/
def Device.i2cAcksAddr (d : Device) (a : Byte) : Bool := d.portActive .i2c && decide (a.toNat / 2 = d.fn Fld.linkI2cAddr)

/-- Bytes that CRC adds at the end of a write on a port (R275). -/
def Device.crcTail (d : Device) (p : Sys2Proof.Port) : Nat := if d.crcOn p then 2 else 0

/-- What the device answers to the bytes written behind an acknowledged device address: up to the 512th data byte, and the CRC behind
them, they are acknowledged (R284; DEDUCED, log entry 116). -/
def Device.i2cAnswers (d : Device) (k : Nat) (data : List Byte) : Device :=
  let most := 2 + 512 + d.crcTail .i2c
  d.updLink fun x => { x with i2cAcks := true :: (List.range k).map (fun i => decide (i < most)), i2cData := data }

/-- Where the next read without an address starts (R282). -/
def Device.i2cNextAt (d : Device) (n : RoomId) (off : Nat) : Device :=
  d.updLink fun x => { x with i2cNext := n.val + 16 * off }

/-- What a well-formed write frame of `k` data bytes at `off` leaves on its port but for its effect. -/
def Device.writeSeen (d : Device) (p : Sys2Proof.Port) (n : RoomId) (off k : Nat) : Device :=
  match p with
  | .spi => d.sdoSent n (4 + k + d.crcTail .spi) []
  | .i2c => (d.i2cAnswers (2 + k + d.crcTail .i2c) []).i2cNextAt n (off + k)
  | .uart => d

/-- A well-formed write frame of a row that names its register; the port takes it while it is active. -/
def Device.hostWrite (d : Device) (p : Sys2Proof.Port) (n : RoomId) (off : Nat) (l : List Byte) : Device :=
  d.when (d.portActive p) fun d => (d.writeSeen p n off l.length).writeFrame p n off l

/-- A fast doorbell (R274). -/
def Device.doorbellFrame (d : Device) (p : Sys2Proof.Port) (n : RoomId) (off : Nat) (high : Nat) (v : Byte) : Device :=
  if (off = 0x100 ∨ off = 0x104) ∧ high = 0 then d.writeFrame p n off [v] else d.frameBad p n .other

/-! ### SPI and the service port (R268 to R280, R286 to R289) -/

/-- The Room that a header names (R268). -/
def hdrRoom (l : List Byte) : RoomId := fin16 (byteAt l 0 / 4 % 16)

/-- The CRC at the end of a frame matches (R275). -/
def crcGood (l : List Byte) : Bool :=
  let n := l.length - 2
  decide ((crc16 (l.take n)).toNat = 256 * byteAt l n + byteAt l (n + 1))

/-- A whole frame with its header on SPI or the service port (R268 to R275, R288). -/
def Device.headedFrame (d : Device) (p : Sys2Proof.Port) (l : List Byte) : Device :=
  let n := hdrRoom l
  let op := byteAt l 0 / 64
  let off := byteAt l 1 * 16 + byteAt l 2 / 16
  let field := byteAt l 2 % 16 * 256 + byteAt l 3
  let len := if field = 0 then 4096 else field
  let tail := if d.crcOn p then 2 else 0
  if op = 3 ∨ byteAt l 0 % 4 ≠ 0 then d.frameBad p n .other
  else if op = 0 ∧ p ≠ .uart then d.frameGood p n id off len
  else if l.length ≠ 4 + (if op = 1 then len else 0) + tail then d.frameBad p n .other
  else if tail = 2 ∧ crcGood l = false then d.frameBad p n .crc
  else if op = 0 then (if d.roomServed n then d.frameGood p n id off len else d.frameBad p n .other)
  else if op = 1 then d.writeFrame p n off ((l.drop 4).take len)
  else d.doorbellFrame p n off (field / 256) (BitVec.ofNat 8 field)

/-- The bytes that a frame with a header reads: none of a write or of a discarded read, which returns 0 for each (R270). -/
def Device.headedData (d : Device) (l : List Byte) : List Byte :=
  let field := byteAt l 2 % 16 * 256 + byteAt l 3
  if byteAt l 0 / 64 = 0 ∧ byteAt l 0 % 4 = 0 then
    d.portRead .spi (hdrRoom l) (byteAt l 1 * 16 + byteAt l 2 / 16) (if field = 0 then 4096 else field)
  else []

/-- The bytes of a frame on SPI, as the host clocks them, those under which it reads among them: with a short header, an unfinished
write is discarded, and its Room is not known. A read that `SCS_N` cuts short has returned what was clocked (R278). -/
def Device.spiFrame (d : Device) (l : List Byte) : Device :=
  let d := d.sdoSent (hdrRoom l) l.length (d.headedData l)
  if l.length = 0 then d
  else if l.length < 4 then
    d.when (decide (byteAt l 0 / 64 ≠ 0) || decide (byteAt l 0 % 4 ≠ 0)) (·.updLink (·.setErr .spi true))
  else d.headedFrame .spi l

/-- A frame on the service port that ends without its header is one that the gap cut short (R289). -/
def Device.uartFrame (d : Device) (l : List Byte) : Device :=
  if l.length < 4 then d.respond_ [0xA2] else d.headedFrame .uart l

/-- A gap longer than 5 ms on the service port (R289). -/
def Device.uartGap (d : Device) (l : List Byte) : Device :=
  if d.portActive .uart = false ∨ l.length = 0 then d
  else if l.length < 4 then d.respond_ [0xA2]
  else d.frameBad .uart (hdrRoom l) .other

/-! ### I²C (R281 to R284) -/

/-- An I²C read of `k` bytes (R282, R283). -/
def Device.i2cRead (d : Device) (n : RoomId) (off k : Nat) : Device :=
  let data := d.portRead .i2c n off k
  ((d.frameGood .i2c n id off k).updLink fun x => { x with i2cData := data }).i2cNextAt n (off + k)

/-- An I²C write transfer with its two register address bytes and at least one more (R282 to R284). -/
def Device.i2cWrite (d : Device) (l : List Byte) : Device :=
  let a := 256 * byteAt l 0 + byteAt l 1
  let n := fin16 (a / 4096)
  let off := a % 4096
  let crc := d.crcOn .i2c
  let data := (l.drop 2).take (l.length - 2 - (if crc then 2 else 0))
  let d := d.i2cNextAt n (off + data.length)
  if l.length < (if crc then 5 else 3) then d.frameBad .i2c n .other
  else if crc ∧ crcGood l = false then d.frameBad .i2c n .crc
  else if off = 0x1FF ∧ data.length = 2 then
    d.doorbellFrame .i2c n (0x100 + byteAt data 0) (if byteAt data 0 = 0 ∨ byteAt data 0 = 4 then 0 else 1) (data.getD 1 0)
  else d.writeFrame .i2c n off data

/-- The part of a transfer that is written: `l` are the bytes behind the device address; one with the register address alone is no
frame (R282). -/
def Device.i2cSent (d : Device) (l : List Byte) : Device :=
  let a := 256 * byteAt l 0 + byteAt l 1
  if l.length < 2 then d
  else if l.length = 2 then d.i2cNextAt (fin16 (a / 4096)) (a % 4096)
  else d.i2cWrite l

/-- The part of a transfer that is read, from where the part before it left off (R282). -/
def Device.i2cGot (d : Device) (k : Nat) : Device :=
  d.when (decide (0 < k)) fun d => d.i2cRead (fin16 d.link.i2cNext) (d.link.i2cNext / 16) k

/-- An I²C transfer (R281 to R284): `l` are the bytes that the host sends, the device address with its direction first, and `k` is the
number of bytes that it then reads, after a repeated START where the direction was a write. -/
def Device.i2cTransfer (d : Device) (l : List Byte) (k : Nat) : Device :=
  match l with
  | [] => d
  | a :: l =>
    if d.i2cAcksAddr a = false then d.updLink fun x => { x with i2cAcks := [false], i2cData := [] }
    else if a.toNat % 2 = 1 then (d.i2cAnswers 0 []).i2cGot k
    else ((d.i2cAnswers l.length []).i2cSent l).i2cGot k

/-- An I²C transfer with the device's own address and a register address alone (R282). -/
def Device.i2cPoint (d : Device) (a : Nat) : Device :=
  d.when (d.portActive .i2c) fun d => (d.i2cAnswers 2 []).i2cSent (leBytes 2 a).reverse

/-- A frame as its port receives it (R268 to R289). -/
def Device.portFrame (d : Device) (p : Sys2Proof.Port) (l : List Byte) (k : Nat) : Device :=
  match p with
  | .spi => d.when (d.portActive .spi) (·.spiFrame l)
  | .i2c => d.i2cTransfer l k
  | .uart => d.when (d.portActive .uart) (·.uartFrame l)

/-! ### A frame and the edge (R272, R273) -/

/-- Device time stands at the edge that ends the current Batch, which has not been taken. -/
def Device.atTick (d : Device) : Bool := d.power.phase.batchRuns && decide (d.batch.nextEdge ≤ d.now)

/-- The outcome of a frame or a request: one that ends exactly at a Batch edge counts in the Batch that begins there (R25, R272), so that
edge is taken before it. -/
def State.onFrame (s : State) (f : Device → Device) : Res :=
  if s.dev.atTick then s.onClk fun d => f (d.batchEdge d.sample .full (StartSense.plain d)) else s.onDev f

/-- The outcome of a request row. -/
def State.request (s : State) (c : Cmd) (r : Sys2Proof.Req) : Res := s.onFrame (·.runReq c r)

end Sys2Proof.Machine
end

