-- ==== Sys2Proof/Machine/Pins.lean ====
section
/-! DEFINITION. The balls that the device drives, as the table of R80 gives them: each is a function of the state. -/
namespace Sys2Proof.Machine

/-- What a ball does: high-impedance (or released), driven low, driven high, or carrying the data of its port. -/
inductive Drive where
  | highZ | low | high | data
  deriving DecidableEq, Repr

/-- The device is unpowered, in POR, in SHIP or SEALED: every host ball but `HRST_N` is high-impedance (R80). -/
def Phase.silent : Phase → Bool
  | .por | .ship | .sealed => true
  | _ => false

/-- An open-drain ball of the VIO domain that is driven low when `c` holds (R80). -/
def Device.openDrain (d : Device) (c : Bool) : Drive := if d.pins.vioGood && c then .low else .highZ

/-- `IRQ0_N` to `IRQ3_N` (R249, R305). -/
def Device.ballIrq (d : Device) (k : Nat) : Drive :=
  d.openDrain (d.isOpen && d.rooms.toList.any fun r => decide (r.idIrq = k) && r.pends)

/-- `HRST_N` (R65). -/
def Device.ballHrst (d : Device) : Drive :=
  d.openDrain (d.pins.hrstLow && decide (d.power.phase ≠ .ship) && decide (d.power.phase ≠ .sealed))

/-- `PG0` to `PG3` (R66, R67): low until a Recipe has been verified. -/
def Device.ballPg (d : Device) (k : Nat) : Drive :=
  d.openDrain (!d.power.phase.silent && (d.pins.pgHeld || d.rcp.inForce.isNone || !d.allProofed (d.fn Fld.railPg k)))

/-- The discharge resistance of a rail's output is connected (R374): while the device is powered, of a rail that is OFF,
TRIPPED or HELD unless its Recipe field is 0; LDO5 has none. -/
def Device.discharging (d : Device) (r : RailId) : Bool :=
  !d.power.phase.silent && !(d.railSt r).isOn && decide (r.val ≠ 8) && decide (d.fn Fld.railDischarge r.val ≠ 0)

/-- A push-pull ball of the burst hardware, high when `c` holds while Rooms are open (R61, R63); high-impedance when `TEST`
was high at POR (R59). -/
def Device.pushPull (d : Device) (c : Bool) : Drive :=
  if d.pins.vioGood = false ∨ d.power.phase.silent ∨ d.power.testHigh then .highZ
  else if d.isOpen && c then .high else .low

/-- `BGNT` (R61, R573). -/
def Device.ballBgnt (d : Device) : Drive := d.pushPull d.pins.bgnt

/-- `BSTAT`: high for as many milliseconds as the outcome's code (R575). -/
def Device.ballBstat (d : Device) : Drive :=
  d.pushPull (d.burst.pulses.any fun p => decide (p.2 ≤ d.now) && decide (d.now < p.2 + 1000 * p.1))

/-- `SDO` with `SCS_N` low, that is within a frame, or high: driven only within a frame and with a Room bound to SPI (R42). -/
def Device.ballSdo (d : Device) (scsLow : Bool) : Drive :=
  if scsLow && d.portActive .spi && d.spiBound then .data else .highZ

/-- `SVTX` (R76, R286). -/
def Device.ballSvtx (d : Device) : Drive := if d.portActive .uart then .data else .highZ

/-- `TDO` with the TAP controller in Shift-IR or Shift-DR, or in another state: it is driven in those two alone (R72, R73, R80). A row of
the debug port is a whole scan, so between rows the controller is in neither. -/
def Device.ballTdo (d : Device) (shifting : Bool) : Drive :=
  if shifting && d.tapLive && !d.pins.tapReset then .data else .highZ

/-- `WAKE_N` and `BTN_N` are taken with Rooms open and in LODGE, of which the KEEP clock period of its exit is the last (R70, R80,
R96). -/
def Device.wakeInputs (d : Device) : Bool :=
  match d.power.phase with
  | .open | .lodgeDown | .lodge => true
  | .gate => decide (d.power.exitPeriod = some (keepPeriod d.now))
  | _ => false

end Sys2Proof.Machine
end

