-- ==== Sys2Proof/Machine/ExecPower.lean ====
section
/-! DEFINITION. The rows of power, resets and starts, of LODGE, SHIP and SEALED, of the VIO domain and of the crystal
(chapters 02, 03 and 04, R659 to R662). -/
namespace Sys2Proof.Machine

/-! ### POR and the AON node (R104, R105) -/

/-- VSYS falls below POR assert (R104, R108): in POR, SHIP and SEALED there is nothing left to reset. -/
def Device.porAssert (d : Device) (batMv : Nat) : Device :=
  match d.power.phase with
  | .ship | .sealed => d
  | .por => (d.updPins fun p => { p with hrstPowered := false, hrstLow := false }).aonFet batMv
  | _ => (d.porReset).aonFet batMv

/-- `POR` (R104). -/
def execPor (batMv : Nat) (s : State) : Res := s.onPor (·.porAssert batMv)

/-- VSYS reaches POR release (R59, R65, R104, R105, R112, R430): LDO5 follows it (R354), the MPPT boost takes over, and the
start gate begins timing. -/
def Device.porRelease (d : Device) (batMv : Nat) (test : Bool) : Device :=
  if d.power.phase = .por then
    let d := ((d.updPower fun p => { p with testHigh := test }).aonFet batMv).updPath fun p => { p with pvCold := false }
    let d := d.updPins fun p => { p with hrstPowered := true, hrstLow := true }
    ((d.updRail 8 fun h => { h with st := .sagging, mv := 1800, everOn := true }).updBatch fun _ => Device.reset.batch).gateBegin
  else d

/-- `POR_RELEASE` (R104). -/
def execPorRelease (batMv : Nat) (test : Bool) (s : State) : Res := s.onPor (·.porRelease batMv test)

/-- `HRST_N_HOLD_THRESHOLD` (R65). -/
def execHrstNHoldThreshold (s : State) : Res :=
  s.onDev fun d => d.when (decide (d.power.phase = .por)) (·.updPins fun p => { p with hrstPowered := true, hrstLow := true })

/-- `BATTERY_START_CROSSING` (R105). -/
def execBatteryStartCrossing (batMv : Nat) (s : State) : Res :=
  s.onDev fun d => d.when (decide (d.power.phase = .por)) (·.aonFet batMv)

/-- The AON node loses its supply: `BTN_N` is not active (R37); in SHIP or SEALED the latches are lost, and the device is in plain
POR, with the FET OFF (R101, R105, R662). -/
def Device.aonLoss (d : Device) : Device :=
  match d.power.phase with
  | .ship | .sealed =>
    (d.updPower fun p => { p with phase := .por, shipLatch := false, sealedLatch := false, resetCause := 1 }).aonFet 0
  | .por => d.aonFet 0
  | _ => d.updPower fun p => { p with aonMv := 0 }

/-- `AON_NODE_LOSS` (R662). -/
def execAonNodeLoss (s : State) : Res := s.onDev (·.aonLoss)

/-- An input that qualifies to leave SEALED, by the latched `FLT.grave_wake`, behind the first part of the power cycle (R661). -/
def Device.graveInputOk (d : Device) (i : Sys2Proof.GraveInput) : Bool :=
  d.faults.graveLow && match i with
  | .dcin => d.path.dcValid
  | .pv | .kinetic => decide (d.faults.graveWake = 1)

/-- Code of an input in `GRAVE_EXIT` (R651). -/
def graveInputCode : Sys2Proof.GraveInput → Nat
  | .dcin => 1 | .pv => 2 | .kinetic => 3

/-- The SEALED latch clears (R661): POR, in which the AON node decides the battery FET (R105). -/
def Device.graveLeave (d : Device) (i : Sys2Proof.GraveInput) : Device :=
  if d.power.phase = .sealed ∧ d.graveInputOk i then
    (d.updPower fun p => { p with phase := .por, sealedLatch := false, resetCause := 1, graveExit := graveInputCode i }).aonFet
      d.power.aonMv
  else d

/-- `GRAVE_EXIT` (R661). -/
def execGraveExit (input : Sys2Proof.GraveInput) (s : State) : Res := s.onDev (·.graveLeave input)

/-! ### Resets and starts (R106 to R116) -/

/-- `BROWN_OUT` (R108). -/
def execBrownOut (s : State) : Res := s.onClk (·.brownOut)

/-- `START_GATE_PASS` (R106): VSYS has been at the level of the form that applies for its hold time. -/
def execStartGatePass (ss : Sys2Proof.StartSense) (s : State) : Res :=
  s.onClk fun d =>
    let x := d.gateNeeds ss.priMv
    d.when (decide (d.power.phase = .gate) && decide (x.1 ≤ ss.vsysMv)) (·.dueAt (d.power.gateSince + x.2) (·.gatePass ss))

/-- `START_TICK` (R391). -/
def execStartTick (sm : Sys2Proof.Sample) (s : State) : Res := s.onClk (·.startTick sm)

/-- `RESTART_GRACE_END` (R122). -/
def execRestartGraceEnd (ss : Sys2Proof.StartSense) (s : State) : Res :=
  s.onClk fun d => d.edgeIf ((d.isOpen || d.romHold) && d.restartDue.isSome) ss

/-- A restart by `BTN_N` counts only a low that begins after step 10 of the latest start (R108, R109). -/
def Device.btnRestart (d : Device) (ss : Sys2Proof.StartSense) : Device :=
  if d.isOpen ∧ d.power.btnFresh ∧ d.power.aonLive ∧ d.fn Fld.pwrBtnRestart ≠ 0 then d.chipRestart 5 ss else d

/-- `BTN_RESTART_HOLD` (R108). -/
def execBtnRestartHold (ss : Sys2Proof.StartSense) (s : State) : Res := s.onClk (·.btnRestart ss)

/-- `BOOT_FLOOR_END` (R90). -/
def execBootFloorEnd (s : State) : Res :=
  s.onClk fun d =>
    d.edgeIf (d.isOpen && d.power.bootFloor && decide (d.power.bootFloorEnd ≤ d.batch.number.toNat + 1)) (StartSense.plain d)

/-! ### LODGE, SHIP and their wake events (R94 to R101) -/

/-- `LODGE_ENTRY` (R94). -/
def execLodgeEntry (s : State) : Res := s.onClk fun d => d.edgeIf (d.isOpen && d.lodgeDue) (StartSense.plain d)

/-- The alarm counts from the edge at which LODGE began (R96). -/
def Device.alarmAt (d : Device) : Device :=
  match d.power.phase with
  | .lodgeDown | .lodge =>
    d.when (d.power.wakes 1) fun d => d.dueAt (d.power.lodgeStart + 1000000 * d.power.wakeAlarm) (·.wakeEvent 1)
  | _ => d

/-- `LODGE_ALARM` (R96). -/
def execLodgeAlarm (s : State) : Res := s.onClk (·.alarmAt)

/-- `WAKE_N_REQUEST` (R69, R70, R96). -/
def execWakeNRequest (s : State) : Res := s.onDev fun d => d.when d.wakeInputs (·.wakeEvent 2)

/-- A low on `BTN_N` is recognised (R71), while the AON node has its supply (R37): one that begins before step 10 restarts nothing
(R109); with Rooms open and in LODGE it is a wake event (R96). -/
def Device.btnLow (d : Device) : Device :=
  let fresh := d.isOpen
  d.when d.power.aonLive fun d => (d.updPower fun p => { p with btnFresh := fresh }).when d.wakeInputs (·.wakeEvent 3)

/-- `BTN_N_PRESS` (R71). -/
def execBtnNPress (s : State) : Res := s.onDev (·.btnLow)

/-- `WAKE_COMPARATOR_FIRE` (R96, R97). -/
def execWakeComparatorFire (cmp : Fin 2) (s : State) : Res :=
  s.onDev fun d => d.when (d.cmpOn cmp.val) (·.wakeEvent (5 + cmp.val))

/-- `SHIP_ENTRY` (R99, R100). -/
def execShipEntry (s : State) : Res :=
  s.onClk fun d => d.edgeIf (d.isOpen && d.shipDue d.batch.nextEdge) (StartSense.plain d)

/-- `SHIP_BTN_HOLD` (R101). -/
def execShipBtnHold (s : State) : Res :=
  s.onDev fun d => d.when d.power.aonLive (·.shipLeave)

/-! ### The VIO domain (R48 to R52) -/

/-- `VIO_GOOD` (R48). -/
def execVioGood (s : State) : Res := s.onDev (·.updPins fun p => { p with vioGood := true })

/-- VIO ceases to be good: a powered device reports it (R51, R52). -/
def Device.vioLoss (d : Device) : Device :=
  if d.pins.vioGood then
    (d.updPins fun p => { p with vioGood := false }).when (!d.power.phase.silent) (·.raise (coded 4 1))
  else d

/-- `VIO_LOST` (R52). -/
def execVioLost (s : State) : Res := s.onDev (·.vioLoss)

/-! ### The crystal (R127 to R133) -/

/-- The crystal fails (R127, R128, R132, R133): while the Batch is stopped, the report waits for the first Batch. -/
def Device.xtalFail (d : Device) : Device :=
  if d.power.phase.silent then d
  else
    let d := d.updBatch fun b => { b with
      xtalQualified := false, qualifyPending := false, okSaid := false, rcClock := true,
      mode := if b.mode = .disciplined then .holdover else b.mode }
    if d.power.phase.batchRuns then d.raise (coded 1 4)
    else d.updBatch fun b => { b with xtalReports := b.xtalReports ++ [false] }

/-- `CRYSTAL_FAIL` (R128). -/
def execCrystalFail (s : State) : Res := s.onClk (·.xtalFail)

/-- The crystal qualifies at a measured rate: the mode changes, and is reported, at the next edge; in LODGE the report waits for the
first Batch after the exit (R128, R130, R133). A crystal that is qualified does not qualify again. -/
def Device.xtalGood (d : Device) (rate : Nat) : Device :=
  if d.power.phase.silent ∨ d.batch.xtalQualified then d
  else
    let lodge := decide (d.power.phase = .lodge)
    d.updBatch fun b => { b with
      xtalQualified := true, rcClock := false, newDivider := rate, qualifyPending := decide (b.mode ≠ .disciplined),
      okSaid := lodge, xtalReports := if lodge then b.xtalReports ++ [true] else b.xtalReports }

/-- `CRYSTAL_QUALIFY` (R128). -/
def execCrystalQualify (rate : Nat) (s : State) : Res := s.onClk (·.xtalGood rate)

/-- A divider within 100 ppm of the present one (R129). -/
def clampRate (old new : Nat) : Nat := max (old - old / 10000) (min (old + old / 10000) new)

/-- The disciplining loop updates the divider (R129). -/
def Device.dividerLoop (d : Device) (rate : Nat) : Device :=
  if d.power.phase.batchRuns ∧ d.batch.mode = .disciplined then
    d.updBatch fun b => { b with divider := clampRate b.divider rate }
  else d

/-- `DIVIDER_UPDATE` (R129). -/
def execDividerUpdate (rate : Nat) (s : State) : Res := s.onClk (·.dividerLoop rate)

end Sys2Proof.Machine
end

