-- ==== Sys2Proof/Machine/ExecBatch.lean ====
section
/-! DEFINITION. The rows of the Batch, the keepers and their watchdogs, sequences and schedules, and of stages and writes
that end by themselves (chapters 04, 05, 06, 11, 20 and 22). -/
namespace Sys2Proof.Machine

/-! ### The Batch (R137, R141, R169) -/

/-- `BATCH_EDGE` (R137). -/
def execBatchEdge (sm : Sys2Proof.Sample) (ext : Sys2Proof.WorkExtent) (ss : Sys2Proof.StartSense) (s : State) : Res :=
  s.onClk (·.batchEdge sm ext ss)

/-- `BUDGET_MARK` (R141): the mark of the present Batch is passed once. -/
def execBudgetMark (s : State) : Res :=
  s.onClk fun d => d.when (d.power.phase.batchRuns && !d.sup.budgetPassed) fun d => d.dueAt d.budgetTime (·.budgetAt)

/-- `COMMIT_DEADLINE` (R169). -/
def execCommitDeadline (s : State) : Res :=
  s.onClk fun d => d.when (d.power.phase.batchRuns && !d.sup.deadlinePassed) fun d =>
    d.dueAt d.deadlineTime (·.budgetAt.deadlineAt)

/-! ### Keepers (R188 to R196) -/

/-- `COLD_HOLD_END` (R188, R221, R385). -/
def execColdHoldEnd (s : State) : Res :=
  s.onClk fun d => d.edgeIf (d.isOpen && d.holdDue (d.batch.number.toNat + 1)) (StartSense.plain d)

/-- A pair of a keeper is treated as reporting fault: the keeper fails again when it restarts (R190, R644, R645). -/
def Device.keeperPairs (d : Device) (k : Sys2Proof.Keeper) : Bool :=
  let l := d.faults.pairs.toList
  ((match k with | .a => l.take 3 | .b => (l.drop 3).take 3)).any (·.treated)

/-- A keeper restart ends; where the Starter ROM's step 2 fails on it, that is a failure (R190, R191). -/
def Device.restartDone (d : Device) (k : Sys2Proof.Keeper) (romOk : Bool) : Device :=
  if d.isOpen ∧ (d.keeper k).offUse = .restarting then
    (if d.keeperPairs k then d.keeperFail k 2 (StartSense.plain d)
     else if romOk then d.restartEnd k else d.keeperFail k 5 (StartSense.plain d))
  else d

/-- `KEEPER_RESTART_DONE` (R191). -/
def execKeeperRestartDone (k : Sys2Proof.Keeper) (romOk : Bool) (s : State) : Res := s.onClk (·.restartDone k romOk)

/-- `SELF_TEST_DUE` (R196): 0 hours disable it. -/
def execSelfTestDue (s : State) : Res :=
  s.onClk fun d => d.when (d.isOpen && decide (d.fn Fld.kprSelftest ≠ 0)) fun d => d.dueAt d.keepers.selfTestDue (·.selfTestAsk)

/-- The keeper whose self-test runs. -/
def Device.testedKeeper (d : Device) : Option Sys2Proof.Keeper :=
  if d.keepers.a.offUse = .selfTest then some .a else if d.keepers.b.offUse = .selfTest then some .b else none

/-- A self-test ends: a pass within 50 ms returns the keeper to its standby role, all else is a failure (R190, R196). -/
def Device.selfTestEnds (d : Device) (pass : Bool) (ss : Sys2Proof.StartSense) : Device :=
  match d.testedKeeper with
  | none => d
  | some k =>
    if pass && decide (d.now ≤ d.keepers.selfTestStart + 50000) then d.enterStandby k else d.keeperFail k 4 ss

/-- `SELF_TEST_RESULT` (R196). -/
def execSelfTestResult (pass : Bool) (ss : Sys2Proof.StartSense) (s : State) : Res :=
  s.onClk fun d => d.when d.isOpen (·.selfTestEnds pass ss)

/-! ### Keeper watchdogs (R675 to R681) -/

/-- A kick: accepted in an open window, an early expiry otherwise (R676, R677). -/
def Device.wdKickAt (d : Device) (k : Sys2Proof.Keeper) (ss : Sys2Proof.StartSense) : Device :=
  if !(d.isOpen && d.wdWrites k) then d
  else if (d.kwd k).isOpen then d.updKwd k fun w => { w with count := 0 }
  else (d.raise (coded 0x10 2 (keeperCode k))).keeperFail k 1 ss

/-- `KEEPER_WD_KICK` (R676). -/
def execKeeperWdKick (k : Sys2Proof.Keeper) (ss : Sys2Proof.StartSense) (s : State) : Res := s.onClk (·.wdKickAt k ss)

/-- A period change, 4 to 4,096: accepted in an open window, rejected otherwise (R675, R678). -/
def Device.wdPeriodAt (d : Device) (k : Sys2Proof.Keeper) (p : Nat) : Device :=
  if !(d.isOpen && d.wdWrites k && decide (4 ≤ p) && decide (p ≤ 4096)) then d
  else if (d.kwd k).isOpen then d.updKwd k fun w => { w with period := p, count := 0 }
  else d.raise (coded 0x10 3 (keeperCode k))

/-- `KEEPER_WD_PERIOD_WRITE` (R678). -/
def execKeeperWdPeriodWrite (k : Sys2Proof.Keeper) (period : Nat) (s : State) : Res := s.onDev (·.wdPeriodAt k period)

/-- The count reaches P (R676, R679): the command says so, since the model's keepers kick in every closing window. -/
def Device.wdExpire (d : Device) (k : Sys2Proof.Keeper) (ss : Sys2Proof.StartSense) : Device :=
  if d.isOpen ∧ (d.kwd k).mode = .counting then (d.raise (coded 0x10 1 (keeperCode k))).keeperFail k 1 ss else d

/-- `KEEPER_WD_EXPIRY` (R676). -/
def execKeeperWdExpiry (k : Sys2Proof.Keeper) (ss : Sys2Proof.StartSense) (s : State) : Res := s.onClk (·.wdExpire k ss)

/-- The ROM limit of 12,000 ms (R681). -/
def Device.romLimit (d : Device) (k : Sys2Proof.Keeper) (ss : Sys2Proof.StartSense) : Device :=
  match (d.kwd k).mode with
  | .rom began => d.when d.isOpen fun d => d.dueAt (began + 12000000) fun d =>
      (d.raise (coded 0x10 1 (keeperCode k))).keeperFail k 1 ss
  | _ => d

/-- `ROM_LIMIT_EXPIRY` (R681). -/
def execRomLimitExpiry (k : Sys2Proof.Keeper) (ss : Sys2Proof.StartSense) (s : State) : Res := s.onClk (·.romLimit k ss)

/-! ### Guest watchdogs (R692, R694) -/

/-- `GUEST_WD_EXPIRY` (R692): the step is taken in the Batch that begins at the edge. -/
def execGuestWdExpiry (room : RoomId) (s : State) : Res :=
  s.onClk fun d =>
    let g := d.priv.gwds.get room
    d.edgeIf (d.isOpen && decide (g.t ≠ 0) && decide (g.deadline ≤ d.batch.nextEdge)) (StartSense.plain d)

/-- `GWD_GATING_END` (R694). -/
def execGwdGatingEnd (rail : RailId) (s : State) : Res :=
  s.onClk fun d =>
    d.edgeIf (d.isOpen && d.wd.gating.any fun g => g.rail == rail &&
      (match g.ends with | some e => decide (e ≤ d.batch.nextEdge) | none => false)) (StartSense.plain d)

/-! ### Schedules and sequences (R392, R393, R402) -/

/-- `SCHED_DUE` (R402): the change is made in Batch B − 1. -/
def execSchedDue (id : Sys2Proof.ReqId) (s : State) : Res :=
  s.onClk fun d =>
    d.edgeIf (d.isOpen && d.priv.scheds.any fun x => x.id == id && decide (x.batch ≤ d.batch.number.toNat + 2))
      (StartSense.plain d)

/-- The running sequence waits at a step of a kind whose time has passed by `t`. -/
def Device.seqStepDue (d : Device) (ops : List SeqOp) (t : Nat) : Bool :=
  match d.priv.seqRun with
  | some x =>
    let st := d.seqStep x.num x.pc
    ops.contains st.op && x.unwinding.isNone &&
      (match x.reached with | some t0 => decide (t0 + 1000 * st.value ≤ t) | none => false)
  | none => false

/-- A waiting step whose time has passed is followed at the next edge, or the next tick of a start (R391 to R393). -/
def Device.seqDueEdge (d : Device) (ops : List SeqOp) : Device :=
  if d.power.phase = .starting then (if d.seqStepDue ops (d.power.tickAt + 1000) then d.startTick d.sample else d)
  else d.edgeIf (d.power.phase.batchRuns && d.seqStepDue ops d.batch.nextEdge) (StartSense.plain d)

/-- `SEQ_DELAY_END` (R393). -/
def execSeqDelayEnd (s : State) : Res := s.onClk (·.seqDueEdge [.delay])

/-- `SEQ_WAIT_TIMEOUT` (R392). -/
def execSeqWaitTimeout (s : State) : Res := s.onClk (·.seqDueEdge [.waitPg, .waitLow])

/-! ### Image stages and Recipe writes (R224 to R226, R750, R755) -/

/-- Where the Starter ROM serves, a completion is posted at once (R222). -/
def Device.romPost (d : Device) : Device := d.when d.romHold (·.postAll)

/-- `IMAGE_ERASE_END` (R224). -/
def execImageEraseEnd (s : State) : Res := s.onDev fun d => d.imageErased.romPost

/-- `STAGED_BYTES_PROGRAMMED` (R225). -/
def execStagedBytesProgrammed (s : State) : Res :=
  s.onClk fun d => d.edgeIf ((d.isOpen || d.romHold) && !(d.stagedRecs 0x910).isEmpty) (StartSense.plain d)

/-- `IMAGE_STAGE_ABANDON` (R226). -/
def execImageStageAbandon (s : State) : Res :=
  s.onClk fun d => match d.images.stage with
    | some x => d.dueAt (x.lastUse + 60000000) (·.stageAbandon)
    | none => d

/-- The switch bubble's transition (R750): carried out in the bubble where it has begun and the budget mark has not passed, else at the
edge that begins it. -/
def Device.switchNow (d : Device) : Device :=
  let d := d.catchUp
  if d.isOpen ∧ d.switchOpen then
    d.when (d.keeperWorks && decide (d.sup.stage = .targets) && !d.sup.budgetPassed) fun d => (d.switchRun false).stageAt .commit
  else d.edgeIf (d.isOpen && (match d.rcp.switch with
    | some x => !x.passed && decide (x.batch ≤ d.batch.number.toNat + 1)
    | none => false)) (StartSense.plain d)

/-- `RECIPE_SWITCH` (R750). -/
def execRecipeSwitch (s : State) : Res := s.onClk (·.switchNow)

/-- `RECIPE_ERASE_END` (R755). -/
def execRecipeEraseEnd (s : State) : Res := s.onDev (·.rcpErased)

/-- `RECIPE_WRITE_ABANDON` (R755). -/
def execRecipeWriteAbandon (s : State) : Res :=
  s.onClk fun d => match d.rcp.write with
    | some w => d.dueAt (w.lastUse + 60000000) (·.rcpAbandon)
    | none => d

end Sys2Proof.Machine
end

