-- ==== Sys2Proof/Machine/ExecLink.lean ====
section
/-! DEFINITION. The rows of the host link and of the digest engine's registers (chapters 08 and 18). A row that names its
register is a well-formed frame that writes it (R271); through a port that is not active nothing arrives. -/
namespace Sys2Proof.Machine

/-- `SQ_TAIL_WRITE` (R297). -/
def execSqTailWrite (port : Sys2Proof.Port) (room : RoomId) (value : Byte) (s : State) : Res :=
  s.onFrame (·.hostWrite port room 0x100 [value])

/-- `CQ_HEAD_WRITE` (R301). -/
def execCqHeadWrite (port : Sys2Proof.Port) (room : RoomId) (value : Byte) (s : State) : Res :=
  s.onFrame (·.hostWrite port room 0x104 [value])

/-- `SUBMISSION_SLOT_WRITE` (R298): bytes within the submission ring, 0x200 to 0x9FF. -/
def execSubmissionSlotWrite (port : Sys2Proof.Port) (room : RoomId) (offset : Nat) (bytes : List Byte) (s : State) : Res :=
  s.onFrame fun d => d.when (decide (0x200 ≤ offset) && decide (offset + bytes.length ≤ 0xA00))
    (·.hostWrite port room offset bytes)

/-- `EVT_FLAGS_CLEAR` (R17, R303). -/
def execEvtFlagsClear (port : Sys2Proof.Port) (room : RoomId) (value : Word) (s : State) : Res :=
  s.onFrame (·.hostWrite port room 0x110 (leBytes 4 value.toNat))

/-- `REGISTER_WRITE` (R271): any frame, with its framing. -/
def execRegisterWrite (port : Sys2Proof.Port) (bytes : List Byte) (reads : Nat) (s : State) : Res :=
  s.onFrame (·.portFrame port bytes reads)

/-- `I2C_ADDRESS_SET` (R282). -/
def execI2cAddressSet (addr : Half) (s : State) : Res :=
  s.onFrame (·.i2cPoint addr.toNat)

/-- `SERVICE_PORT_GAP` (R289). -/
def execServicePortGap (bytes : List Byte) (s : State) : Res := s.onFrame (·.uartGap bytes)

/-- `DIG_CLAIM_WRITE` (R625). -/
def execDigClaimWrite (port : Sys2Proof.Port) (room : RoomId) (value : Byte) (s : State) : Res :=
  s.onFrame (·.hostWrite port room 0xE80 [value])

/-- The word of `DIG.CTRL` (R637). -/
def digCtrlWord (cmd : Nat) (hmac : Bool) (slot : Nat) : List Byte := leBytes 4 (cmd + 8 * b2n hmac + 16 * slot)

/-- `DIG_START` (R628). -/
def execDigStart (port : Sys2Proof.Port) (room : RoomId) (hmac : Bool) (slot : Fin 8) (s : State) : Res :=
  s.onFrame (·.hostWrite port room 0xE84 (digCtrlWord 1 hmac slot.val))

/-- `DIG_FINISH` (R630). -/
def execDigFinish (port : Sys2Proof.Port) (room : RoomId) (s : State) : Res :=
  s.onFrame (·.hostWrite port room 0xE84 (digCtrlWord 2 false 0))

/-- `DIG_ABORT` (R630). -/
def execDigAbort (port : Sys2Proof.Port) (room : RoomId) (s : State) : Res :=
  s.onFrame (·.hostWrite port room 0xE84 (digCtrlWord 3 false 0))

/-- `DIG_DATA_WRITE` (R629): bytes from a window offset within `DIG.DATA`. -/
def execDigDataWrite (port : Sys2Proof.Port) (room : RoomId) (offset : Nat) (bytes : List Byte) (s : State) : Res :=
  s.onFrame fun d => d.when (decide (0xEC0 ≤ offset) && decide (offset < 0xF00)) (·.hostWrite port room offset bytes)

/-- A claim that a guest holds times out at an instant (R631). -/
def Device.claimDue (d : Device) (t : Nat) (maximum : Bool) : Device :=
  d.when d.dig.guest.isSome fun d => d.dueAt t (·.digTimeout maximum)

/-- `DIG_CLAIM_IDLE` (R631). -/
def execDigClaimIdle (s : State) : Res :=
  s.onClk fun d => d.claimDue (d.dig.lastWrite + 1000 * d.fn Fld.digClaimIdle) false

/-- `DIG_CLAIM_MAX` (R631). -/
def execDigClaimMax (s : State) : Res :=
  s.onClk fun d => d.claimDue (d.dig.claimTime + 10000 * d.fn Fld.digClaimMax) true

/-- `KEYSTORE_WRITE_DONE` (R639). -/
def execKeystoreWriteDone (ok : Bool) (s : State) : Res := s.onDev (·.keyDone ok)

/-- The parts of an identifier are incomplete 10 s after its first part (R641). -/
def Device.queueLate (d : Device) (n : RoomId) (ident : Nat) : Device :=
  match (d.parts n ident).head? with
  | some r => d.when (!wholeMessage (d.parts n ident)) fun d => d.dueAt (r.wait.getD 0 0 + 10000000) (·.queueFail n ident)
  | none => d

/-- `DIG_QUEUE_TIMEOUT` (R641). -/
def execDigQueueTimeout (room : RoomId) (ident : Half) (s : State) : Res := s.onClk (·.queueLate room ident.toNat)

/-- A waiting read whose timeout has passed (R617). -/
def Device.adcTimeout (d : Device) (id : ReqId) : Device :=
  match d.findRec id with
  | some r =>
    if r.opcode = 0x502 ∧ r.st = .waiting then
      d.dueAt (r.wait.getD 2 0) (·.adcReadEnd id (fin4 (r.wait.getD 0 0)))
    else d
  | none => d

/-- `ADC_READ_TIMEOUT` (R617). -/
def execAdcReadTimeout (id : Sys2Proof.ReqId) (s : State) : Res := s.onClk (·.adcTimeout id)

end Sys2Proof.Machine
end

