-- ==== Sys2Proof/Machine/ExecRails.lean ====
section
/-! DEFINITION. The rows of the fault collector and of the rails (chapters 10 and 19, R643 to R666, R345 to R374). -/
namespace Sys2Proof.Machine

/-! ### Dual-rail pairs (R644 to R646) -/

/-- The kind code with which a pair reports: where its state decides between two kinds, that state (R513, R646). -/
def Device.pairCause (d : Device) (p : Fin 24) (cause : Nat) : Nat :=
  match p.val with
  | 15 => if d.path.fet = .off then 5 else 4
  | 19 => if d.dieAgain then 2 else 1
  | _ => cause

/-- What follows from a pair's fault beside its message: the collector's action, a keeper failure, a chip restart (R645,
R190, R646). `qual` names the buffer of pair 21. -/
def Device.pairActs (d : Device) (p : Fin 24) (qual : Nat) (ss : Sys2Proof.StartSense) : Device :=
  let d := d.pairAction p.val qual
  if d.faults.graveDue.isSome then d
  else match pairKeeper p.val with
    | some k => if d.power.phase.batchRuns then d.keeperFail k 2 ss else d
    | none => if p.val = 22 ∧ (d.power.phase.batchRuns || d.power.phase.ticks) = true then d.chipRestart 3 ss else d

/-- A pair's change into fault is accepted (R645): a pair already treated as reporting fault raises nothing again. -/
def Device.pairFault (d : Device) (p : Fin 24) (cause qual : Nat) (ss : Sys2Proof.StartSense) : Device :=
  if !d.collecting then d
  else
    let was := (d.faults.pairs.get p).treated
    let msg := pairMessage p.val (d.pairCause p cause) qual
    let d := d.pairWires p true false true
    if was then d else (d.raisePair msg).pairActs p qual ss

/-- `DUAL_RAIL_FAULT` (R645). -/
def execDualRailFault (pair : Fin 24) (cause qual : Half) (ss : Sys2Proof.StartSense) (s : State) : Res :=
  s.onClk (·.pairFault pair cause.toNat qual.toNat ss)

/-- The messages that a pair could report: at a line fault their class is acted on (R645). -/
def Device.pairKinds (d : Device) (p : Fin 24) : List Word :=
  if 6 ≤ p.val ∧ p.val < 14 then
    (all16.filter fun r => railPair r = p).flatMap fun r => [1, 2, 3, 5, 6].map fun k => coded 6 k r.val
  else if p.val = 18 then [coded 8 10, coded 8 11]
  else [pairMessage p.val (d.pairCause p 0) 0]

/-- A pair is held in state 00 or 11 for 10 µs (R644, R645): `LINE_FAULT` is raised, the kind is not, and a class of C3 or
above among the pair's kinds enters Safe Hold. No record is struck by a broken wire of pair 20; which buffer of the mirror
RAM pair 21 then means is left open: a free
value. -/
def Device.lineFaultAt (d : Device) (p : Fin 24) (high : Bool) (ss : Sys2Proof.StartSense) : Device :=
  if !d.collecting || d.pairCut p then d
  else
    let was := (d.faults.pairs.get p).treated
    let kinds := d.pairKinds p
    let d := d.pairWires p high high true
    let d := d.raiseAs (coded 0x0F 1 (p.val + 0x8000 * b2n high)) true true d.entryTime
    if was then d
    else
      let d := d.when (kinds.any fun m => decide (3 ≤ (d.classify m).code)) (·.enterSafeHold)
      let (v, d) := d.free
      d.pairActs p (if p.val = 20 then 0x10000 else v % 2) ss

/-- `LINE_FAULT` (R644). -/
def execLineFault (pair : Fin 24) (high : Bool) (ss : Sys2Proof.StartSense) (s : State) : Res :=
  s.onClk (·.lineFaultAt pair high ss)

/-- `DUAL_RAIL_RETURN` (R644). -/
def execDualRailReturn (pair : Fin 24) (s : State) : Res := s.onDev (·.pairReturn pair)

/-- The die has cooled (R646): tripped rails may be released, and the charger may resume. -/
def execDieCooled (s : State) : Res := s.onDev (·.dieCool)

/-! ### Messages and the Ledger (R647 to R666) -/

/-- `CODED_MESSAGE` (R647). -/
def execCodedMessage (msg : Word) (s : State) : Res := s.onDev (·.raise msg)

/-- The Ledger is writable: from step 3 of a start on (R661, R665). -/
def Device.writerOn (d : Device) : Bool := d.collecting && decide (d.power.phase ≠ .gate)

/-- `LEDGER_ENTRY_WRITE` (R649). -/
def execLedgerEntryWrite (s : State) : Res := s.onDev fun d => d.when d.writerOn (·.ledgerStep)

/-- A message whose entry the writer writes at once, past the FIFO (R666). -/
def Device.raiseNow (d : Device) (msg : Word) : Device :=
  let wait := d.faults.fifo
  let d := (d.updFaults fun f => { f with fifo := [] }).raise msg
  let d := d.each d.faults.fifo fun m d => d.ledgerWrite m false
  d.updFaults fun f => { f with fifo := wait }

/-- An hour of the rate limit ends (R666). -/
def Device.rateHour (d : Device) : Device :=
  let l := d.faults.rates.filter fun r => decide (0 < r.suppressed)
  let d := d.updFaults fun f => { f with rates := [], hourStart := f.hourStart + 3600000000 }
  d.each l fun r d => d.raiseNow (coded 0x0F 3 (256 * r.source + r.kind))

/-- `SUPPRESSION_HOUR_END` (R666). -/
def execSuppressionHourEnd (s : State) : Res :=
  s.onClk fun d => d.when d.writerOn fun d => d.dueAt (d.faults.hourStart + 3600000000) (·.rateHour)

/-- A C1 entry clears itself (R653). -/
def Device.warnEnd (d : Device) (msg : Word) : Device :=
  match d.faults.active.find? fun a => a.msg == msg && decide (a.cls = .warn) with
  | some a => d.dueAt (a.time + 10000000) fun d => d.updFaults fun f => { f with
      active := f.active.filter fun x => !(x.msg == msg && decide (x.cls = .warn)) }
  | none => d

/-- `WARN_EXPIRY` (R653). -/
def execWarnExpiry (msg : Word) (s : State) : Res := s.onClk (·.warnEnd msg)

/-! ### Rails (R351 to R374) -/

/-- What the monitor reads at an event of a rail. -/
def Device.railRead (d : Device) (r : RailId) (mv : Nat) : Device := d.updRail r fun h => { h with meas := mv }

/-- What `FAULT_PROBE` gathers of a rail's comparators (R674). -/
def Device.probeRail (d : Device) (r : RailId) (lim ov pg : Bool) : Device :=
  let m : BitVec 16 := BitVec.twoPow 16 r.val
  let add := fun (b : Bool) (x : BitVec 16) => if b then x ||| m else x
  d.updFaults fun f => { f with probeLimit := add lim f.probeLimit, probeOv := add ov f.probeOv, probePg := add pg f.probePg }

/-- LDO6 has left service on its own: the angle engine loses its sensors (R466). -/
def Device.afterTrip (d : Device) (r : RailId) : Device := d.when (decide (r.val = 9)) (·.ldo6Left)

/-- A rail is in service from now on. -/
def Device.railServes (d : Device) (r : RailId) (mv : Nat) : Device :=
  (d.railRead r mv).updRail r fun h => { h with st := .proofed, since := d.now, inLimit := false, foldback := false }

/-- How long power-good must have held since the state began: the settle time, with the deglitch of 20 µs in service; LDO5 has
none (R354, R359, R365). -/
def Device.pgHold (d : Device) (r : RailId) : Nat :=
  if r.val = 8 then 0 else if d.railSt r = .sagging then max 20 (d.settleUs r) else d.settleUs r

/-- Power-good has held for its time with an output of `mv` at the crossing, which in proofing lay within the window (R354, R357,
R359, R365): it holds at the first instant at which it can. -/
def Device.railGood (d : Device) (r : RailId) (mv : Nat) : Device :=
  let h := d.rails.rails.get r
  let hold := d.pgHold r
  let cross := max d.now (h.since + hold) - hold
  let within := decide (h.st = .sagging) || decide (cross ≤ h.since + d.proofUs r)
  if (h.st = .proofing ∨ h.st = .sagging) ∧ within ∧ d.aboveRising r cross mv then d.dueAt (h.since + hold) (·.railServes r mv) else d

/-- `RAIL_PROOFED` (R359). -/
def execRailProofed (rail : RailId) (mv : Nat) (s : State) : Res := s.onClk (·.railGood rail mv)

/-- Codes of proofing failures as last trips (R378). -/
def proofCode : Sys2Proof.ProofCause → Nat
  | .halfWindow => 1 | .foldback => 2 | .windowEnd => 3

/-- The first instant from now on at which proofing may fail by a cause (R361). -/
def Device.failAt (d : Device) (r : RailId) (cause : Sys2Proof.ProofCause) : Nat :=
  let since := (d.rails.rails.get r).since
  match cause with
  | .halfWindow => since + d.proofUs r / 2
  | .foldback => max d.now (since + foldUs r)
  | .windowEnd => max d.now (since + d.proofUs r)

/-- An output of `mv` makes proofing fail at device time `t` by a cause: at half the window below 30 %, in foldback below half of the
reference, at the window's end short of the rising threshold, and in a settle time that goes on past it below the falling one
(R361, R362). -/
def Device.failsBy (d : Device) (r : RailId) (cause : Sys2Proof.ProofCause) (t mv : Nat) : Bool :=
  let since := (d.rails.rails.get r).since
  let ends := since + d.proofUs r
  match cause with
  | .halfWindow => decide (d.now ≤ t) && decide (100 * mv < 30 * d.railGoal r)
  | .foldback => d.belowHalf r t mv
  | .windowEnd =>
    if t = ends then !d.aboveRising r t mv else decide (t ≤ ends + d.settleUs r) && d.belowFalling r t mv

/-- Proofing fails (R361, R367). -/
def Device.proofFails (d : Device) (r : RailId) (cause : Sys2Proof.ProofCause) (mv : Nat) : Device :=
  let t := d.failAt r cause
  if d.railSt r = .proofing ∧ d.failsBy r cause t mv then
    d.dueAt t fun d =>
      let d := (d.railRead r mv).probeRail r (decide (cause = .foldback)) false (d.belowFalling r t mv)
      (d.trip r (proofCode cause)).afterTrip r
  else d

/-- `PROOF_FAIL` (R361). -/
def execProofFail (rail : RailId) (cause : Sys2Proof.ProofCause) (mv : Nat) (s : State) : Res :=
  s.onClk (·.proofFails rail cause mv)

/-- A rail sags: LDO5 only shows it (R354, R367), PA fails a burst whose window has begun (R574). -/
def Device.railSagged (d : Device) (r : RailId) (mv : Nat) : Device :=
  let now := d.now
  let d := ((d.railRead r mv).probeRail r false false true).updRail r fun h => { h with st := .sagging, since := now }
  let d := d.when (decide (r.val ≠ 8)) (·.raise (coded 6 7 r.val))
  let d := d.when (decide (r.val = 3) && d.pins.bgnt) (·.burstPaFail)
  d.afterTrip r

/-- The output of a PROOFED rail has been below its falling threshold for 20 µs while it is not in current limit (R365). -/
def Device.railSags (d : Device) (r : RailId) (mv : Nat) : Device :=
  let h := d.rails.rails.get r
  let t := max d.now (h.since + 20)
  if h.st = .proofed ∧ h.inLimit = false ∧ d.belowFalling r t mv then d.dueAt t (·.railSagged r mv) else d

/-- `RAIL_SAG` (R365). -/
def execRailSag (rail : RailId) (mv : Nat) (s : State) : Res := s.onClk (·.railSags rail mv)

/-- A thermal sensor at 140 °C trips every rail on it that is on (R367, R368). -/
def Device.thermTrip (d : Device) (sensor : Fin 7) : Device :=
  let d := d.updFaults fun f => { f with probeTherm := f.probeTherm ||| BitVec.twoPow 8 sensor.val }
  (all16.filter fun r => decide (sensorOf r = some sensor)).foldl (fun (x : Device) r =>
    if (x.railSt r).isOn then x.trip r 6 true else x) d

/-- Over-current on a rail in service: in limit with the output below the falling threshold for the trip time; LDO5 only reports it
(R354, R367). -/
def Device.railOc (d : Device) (r : RailId) (mv : Nat) : Device :=
  let h := d.rails.rails.get r
  let t := max d.now (h.since + foldUs r)
  if r.val = 8 then ((d.railRead r mv).probeRail r true false false).raise (coded 6 2 8)
  else if h.st.inService ∧ d.belowFalling r t mv then
    d.dueAt t fun d => (((d.railRead r mv).probeRail r true false true).trip r 4).afterTrip r
  else d

/-- Over-voltage: the output above 110 % of the target for 10 µs, on rails 0 to 7 and 9, PA not in pass-through (R352, R367). -/
def Device.railOv (d : Device) (r : RailId) (mv : Nat) : Device :=
  let h := d.rails.rails.get r
  let t := max d.now (h.since + 10)
  if h.st.isOn ∧ r.val ≠ 8 ∧ isSwitch r = false ∧ ¬(r.val = 3 ∧ d.paThrough = true) ∧ d.overTop r t mv then
    d.dueAt t fun d => (((d.railRead r mv).probeRail r false true false).trip r 5).afterTrip r
  else d

/-- A protection shuts a rail down (R354, R367). -/
def Device.railTrips (d : Device) (r : RailId) (cause : Sys2Proof.TripCause) (mv : Nat) : Device :=
  match cause with
  | .overCurrent => d.railOc r mv
  | .overVoltage => d.railOv r mv
  | .thermal =>
    match sensorOf r with
    | some t => if (d.railSt r).isOn then (d.railRead r mv).thermTrip t else d
    | none => d

/-- `RAIL_TRIP` (R367). -/
def execRailTrip (rail : RailId) (cause : Sys2Proof.TripCause) (mv : Nat) (s : State) : Res :=
  s.onClk fun d => d.when d.collecting (·.railTrips rail cause mv)

/-- A thermal sensor reaches 125 °C: `RAIL_THERM_WARN` for every rail on it (R367). -/
def Device.thermWarns (d : Device) (sensor : Fin 7) : Device :=
  if !d.collecting || d.rails.thermWarn.getLsbD sensor.val then d
  else
    let d := d.updRails fun b => { b with thermWarn := b.thermWarn ||| BitVec.twoPow 7 sensor.val }
    d.each (all16.filter fun r => decide (sensorOf r = some sensor) && d.railThere r) fun r d => d.raise (coded 6 4 r.val)

/-- `THERMAL_WARNING` (R367). -/
def execThermalWarning (sensor : Fin 7) (s : State) : Res := s.onDev (·.thermWarns sensor)

/-- A thermal sensor falls below 120 °C (R367, R368): rails that wait for it may be released. -/
def Device.thermCools (d : Device) (sensor : Fin 7) : Device :=
  let d := d.updRails fun b => { b with thermWarn := b.thermWarn &&& ~~~(BitVec.twoPow 7 sensor.val) }
  d.each (all16.filter fun r => decide (sensorOf r = some sensor)) fun r d =>
    d.updRail r fun h => { h with thermalHold := false }

/-- `THERMAL_WARNING_CLEAR` (R367). -/
def execThermalWarningClear (sensor : Fin 7) (s : State) : Res := s.onDev (·.thermCools sensor)

/-- The retry delay of a TRIPPED rail passes (R370): the release itself comes with the next edge. -/
def Device.retryPasses (d : Device) (r : RailId) : Device :=
  d.when (decide (d.railSt r = .tripped)) fun d =>
    d.dueAt (d.rails.rails.get r).retryAt (·.updRail r fun h => { h with retryDue := true })

/-- `RETRY_RELEASE` (R370). -/
def execRetryRelease (rail : RailId) (s : State) : Res := s.onClk (·.retryPasses rail)

/-- A rail has stayed PROOFED for 10 s (R371). -/
def Device.ladderEnds (d : Device) (r : RailId) : Device :=
  d.when (decide (d.railSt r = .proofed)) fun d =>
    d.dueAt ((d.rails.rails.get r).since + 10000000) (·.updRail r fun h => { h with ladder := 0 })

/-- `LADDER_RESET` (R371). -/
def execLadderReset (rail : RailId) (s : State) : Res := s.onClk (·.ladderEnds rail)

/-- PA's input moves to VSYS during an enable under AUTO (R351). -/
def Device.paLeaves (d : Device) : Device :=
  d.when ((d.railSt 3).isOn && decide (d.fn Fld.paSrc = 0)) (·.updRails fun b => { b with paReservoir := false })

/-- `PA_SOURCE_SWITCH` (R351). -/
def execPaSourceSwitch (s : State) : Res := s.onDev (·.paLeaves)

end Sys2Proof.Machine
end

