-- ==== Sys2Proof/Machine/ExecEnergy.lean ====
section
/-! DEFINITION. The rows of the power path, the angle engine, the charger, the gauge, the Larder and its bursts, and of
measurement (chapters 12 to 17). -/
namespace Sys2Proof.Machine

/-- The device is powered past POR release: its hardware watches its inputs. -/
def Device.powered (d : Device) : Bool := !d.power.phase.silent

/-! ### The dock (R421 to R427) -/

/-- DCIN becomes valid: it ends SHIP, is a wake event, and is an input for the charger (R96, R101, R421, R495). -/
def Device.dcArrives (d : Device) : Device :=
  if d.path.dcValid then d
  else ((((d.dockArrives).shipLeave).wakeEvent 4).chgSettle).resCheck

/-- `DCIN_VALID` (R421). -/
def execDcinValid (s : State) : Res := s.onDev (·.dcArrives)

/-- DCIN ceases to be valid: what stands on it follows (R421, R443, R495, R711), and in SEALED the power cycle may begin (R661). -/
def Device.dcLeaves (d : Device) : Device :=
  ((((d.dockLeaves).chgSettle).resCheck).exhaustRelease).when (decide (d.power.phase = .sealed))
    (·.updFaults fun f => { f with graveLow := true })

/-- `DCIN_INVALID` (R421): the UART Rooms are reset at the next working Batch (R238). -/
def execDcinInvalid (s : State) : Res := s.onDev fun d => (d.updPath fun p => { p with dcOv := false }).dcLeaves

/-- DCIN over-voltage (R421, R422). -/
def Device.dcOver (d : Device) (mv : Nat) : Device :=
  if d.path.dcOv then d
  else ((d.updPath fun p => { p with dcOv := true }).dcLeaves.updFaults fun f =>
    { f with probeMisc := f.probeMisc ||| 8 }).raiseOn 17 (coded 8 1 (sat 65535 (mv / 100)))

/-- `DC_OV` (R422): above 6.80 V. -/
def execDcOv (dcinMv : Nat) (s : State) : Res := s.onDev fun d => d.when (decide (6800 < dcinMv)) (·.dcOver dcinMv)

/-- `DOCK_DETECTION_END` (R425, R426): not before the steps that lead to the result have run. -/
def execDockDetectionEnd (code : Nat) (cc2 : Bool) (s : State) : Res :=
  s.onClk fun d => d.when (d.path.dcValid && decide (d.path.dock = 1) && dockCodeOk code) fun d =>
    d.dueAt (d.path.dcSince + dockTime code) fun d =>
      ((d.dockResult code).updPath fun p => { p with cc2 := cc2 }).raise (coded 8 2 code)

/-- `CC_LEVEL_CHANGE` (R427). -/
def execCcLevelChange (level : Fin 4) (s : State) : Res :=
  s.onDev fun d => d.when (d.path.dcValid && decide (d.path.dock ≠ 1)) (·.ccLevel level.val)

/-! ### VSYS (R414) -/

/-- VSYS over-voltage: the PV boost, the dock input switch and the kinetic clamp act (R414). -/
def Device.vsysOver (d : Device) : Device :=
  if d.path.vsysOv || !d.powered then d
  else (((d.updPath fun p => { p with vsysOv := true }).kinMode).updFaults fun f =>
    { f with probeMisc := f.probeMisc ||| 4 }).raiseOn 16 (coded 8 3)

/-- `VSYS_OV` (R414). -/
def execVsysOv (s : State) : Res := s.onDev (·.vsysOver)

/-- `VSYS_OV_CLEAR` (R414). -/
def execVsysOvClear (s : State) : Res := s.onDev fun d => (d.updPath fun p => { p with vsysOv := false }).kinMode

/-! ### The battery FET (R417 to R420, R531) -/

/-- The gauge takes an anchor: the charge counted so far first, and in LODGE, where no keeper runs, the snapshot follows
(R529, R530, R531, R545). -/
def Device.anchorBy (d : Device) (f : Device → Device) : Device :=
  let d := f d.gaugeCount
  d.when (!d.isOpen) (·.gaugeSnap)

/-- The hardware may open the FET: it conducts, and the start gate is past. -/
def Device.fetWatched (d : Device) : Bool := d.powered && decide (d.power.phase ≠ .gate) && !d.fetIsOff

/-- `BATFET_UV_OPEN` (R417, R531). -/
def execBatfetUvOpen (batMv : Nat) (s : State) : Res :=
  s.onDev fun d => d.when (d.fetWatched && !d.path.dcValid && decide (batMv < 10 * d.fn Fld.pathBatUv)) fun d =>
    (((d.fetOpen 2).raise (coded 8 4 (mv10 batMv))).anchorBy (·.emptyAnchor)).exhaustRelease

/-- The FET opens for over-current; the third opening within 60 s holds it (R417, R419). -/
def Device.fetOverCurrent (d : Device) : Device :=
  let l := d.path.ocWithin d.now
  let d := d.updPath fun p => { p with ocTimes := l, ocHeld := p.ocHeld || decide (3 ≤ l.length) }
  (((d.fetOpen 4).updFaults fun f => { f with probeMisc := f.probeMisc ||| 1 }).raiseOn 14
    (coded 8 5 (sat 65535 l.length))).exhaustRelease

/-- `BATFET_OC_OPEN` (R417, R419): `BATSNS` takes no part in it. -/
def execBatfetOcOpen (_batMv : Nat) (s : State) : Res := s.onDev fun d => d.when d.fetWatched (·.fetOverCurrent)

/-- `BATSNS` has held `PATH.bat_recover` for 1 s (R418, R511): where the other conditions hold, the FET closes at the edge
that ends the Batch; else at the first edge at which they do. -/
def Device.fetRecovers (d : Device) (batMv : Nat) : Device :=
  if d.powered && decide (d.path.fet = .off) && decide (10 * d.fn Fld.pathBatRecover ≤ batMv) then
    let d := d.updPath fun p => { p with fetReady := true }
    if d.fetMayClose d.batch.nextEdge then d.batchEdge { d.sample with batMv := batMv } .full (StartSense.plain d) else d
  else d

/-- `BATFET_CLOSE` (R418). -/
def execBatfetClose (batMv : Nat) (s : State) : Res := s.onClk (·.fetRecovers batMv)

/-- `BATFET_STUCK` (R420): above 5 mA. -/
def execBatfetStuck (ma : Nat) (s : State) : Res :=
  s.onDev fun d => d.when (d.isOpen && decide (d.path.fet = .off) && decide (5 < ma)) (·.raise (coded 8 6 (sat 65535 ma)))

/-! ### The primary reserve (R438, R439) -/

/-- `PRIIN` stays low (R438). -/
def Device.priFails (d : Device) (mv : Nat) : Device :=
  if d.path.priInUse ∧ mv < 10 * d.fn Fld.priVmin then
    ((({ d with sample := { d.sample with priMv := mv } }).updPath fun p => { p with priInUse := false }).raise
      (coded 8 8 (mv10 mv))).exhaustRelease
  else d

/-- `PRI_LOW` (R438). -/
def execPriLow (mv : Nat) (s : State) : Res := s.onDev (·.priFails mv)

/-- A pulse falls due at a time: outside RUN, DOZE and REST it waits for the first Batch after step 10; one that falls due
while the reserve is in use is passed over (R439). -/
def Device.pulseDueAt (d : Device) (mv : Nat) (t : Nat) (rep : Option (Nat × Nat)) : Device :=
  d.dueAt t fun d =>
    if d.fn Fld.priPresent = 0 then d
    else if d.isOpen = false then d.updPath fun p => { p with pulseDue := true }
    else if d.pulseFree then
      match rep with
      | some (ma, ms) => d.pulseBegin none mv ma ms true
      | none => d.pulsePlain mv
    else d.updPath fun p => { p with
      repeatAt := if rep.isSome then none else p.repeatAt,
      pulseAt := if rep.isSome then p.pulseAt else p.pulseAt + 3600000000 * d.fn Fld.priPulseH }

/-- The repeat of a pulse comes before the next scheduled one. -/
def Device.pulseComes (d : Device) (mv : Nat) : Device :=
  if !d.powered then d
  else match d.path.repeatAt with
    | some (t, ma, ms) => d.pulseDueAt mv t (some (ma, ms))
    | none => d.when (decide (d.fn Fld.priPulseH ≠ 0)) fun d => d.pulseDueAt mv d.path.pulseAt none

/-- `PASSIVATION_PULSE_DUE` (R439). -/
def execPassivationPulseDue (mv : Nat) (s : State) : Res := s.onClk (·.pulseComes mv)

/-- A running pulse ends (R439, R453). -/
def Device.pulseEnds (d : Device) (mv : Nat) : Device :=
  match d.path.pulse with
  | some p => d.dueAt (p.start + 1000 * p.ms) (·.pulseFinish p mv)
  | none => d

/-- `PRI_PULSE_END` (R453). -/
def execPriPulseEnd (mv : Nat) (s : State) : Res := s.onClk (·.pulseEnds mv)

/-! ### PV and the reservoir (R430, R431, R441 to R445) -/

/-- `PV_FOCV_SAMPLE` (R431): the end of the 4 ms stop that begins every `PV.sample_s`; the first begins as soon as the boost runs. -/
def execPvFocvSample (voc : Nat) (s : State) : Res :=
  s.onClk fun d => d.when (d.powered && decide (d.fn Fld.pvPresent = 1) && decide (d.pvInForce.1 = .focv)) fun d =>
    d.dueAt (d.path.pvAt + 4000) fun d =>
      (d.updPath fun p => { p with pvVoc := voc, pvAt := d.now - 4000 + 1000000 * d.fn Fld.pvSampleS }).pvRegulate

/-- `PV_COLD_START` (R430): in SHIP and SEALED nothing reaches VSYS (R659). -/
def execPvColdStart (s : State) : Res :=
  s.onDev fun d => d.when (decide (d.power.phase = .por)) (·.updPath fun p => { p with pvCold := true })

/-- The reservoir is present and its hardware powered. -/
def Device.resWatched (d : Device) : Bool := d.powered && decide (d.fn Fld.resPresent = 1)

/-- The latest sample does not speak against a condition that has held for longer than a Batch; where no Batch samples, nothing does. -/
def Device.showsOpen (d : Device) (p : Bool) : Bool := !d.isOpen || p

/-- `RES_IMBAL` (R441): the qualifier is `CAPM` in 10 mV units. -/
def execResImbal (qual : Half) (s : State) : Res :=
  s.onDev fun d => d.when (d.resWatched && !d.path.resImbal &&
      d.showsOpen (d.resOff (10 * qual.toNat) || d.resOff (10 * qual.toNat + 9))) fun d =>
    (d.updPath fun p => { p with resImbal := true, resCharging := false }).raiseOn 18 (coded 8 10 qual.toNat)

/-- `RES_OV` (R445). -/
def execResOv (s : State) : Res :=
  s.onDev fun d => d.when (d.resWatched && !d.path.resOv) fun d =>
    ((d.updPath fun p => { p with resOv := true, resCharging := false }).updFaults fun f =>
      { f with probeMisc := f.probeMisc ||| 16 }).raiseOn 18 (coded 8 11)

/-- `RES_OV_CLEAR` (R445). -/
def execResOvClear (s : State) : Res :=
  s.onDev fun d => d.when d.path.resOv fun d => (d.updPath fun p => { p with resOv := false }).resResume

/-- `RES_IMBAL_CLEAR` (R441). -/
def execResImbalClear (s : State) : Res :=
  s.onDev fun d => d.when (d.path.resImbal && d.showsOpen (!d.resOff d.sample.capmMv)) fun d => (d.updPath fun p => { p with resImbal := false }).resResume

/-- `RESERVOIR_CHARGE_START` (R443). -/
def execReservoirChargeStart (s : State) : Res :=
  s.onDev fun d => d.when (d.resMayCharge && decide (d.resTarget ≠ 0)) (·.updPath fun p => { p with resCharging := true })

/-- `RESERVOIR_CHARGE_STOP` (R443). -/
def execReservoirChargeStop (s : State) : Res := s.onDev (·.updPath fun p => { p with resCharging := false })

/-! ### The angle engine (R434, R455 to R478) -/

/-- `KINETIC_CLAMP` (R434). -/
def execKineticClamp (s : State) : Res := s.onDev fun d => (d.updPath fun p => { p with clamp := true }).kinMode

/-- `KINETIC_CLAMP_RELEASE` (R434). -/
def execKineticClampRelease (s : State) : Res := s.onDev fun d => (d.updPath fun p => { p with clamp := false }).kinMode

/-- `VSYS_CEILING_CROSSING` (R475): the crossings alternate. -/
def execVsysCeilingCrossing (s : State) : Res :=
  s.onDev fun d => d.when d.powered fun d => (d.updKin fun k => { k with ceiling := !k.ceiling }).kinMode

/-- `HALL_EDGE` (R458): an accepted edge at a device time, not before the present one. -/
def execHallEdge (edge : Sys2Proof.HallEdge) (time : Nat) (s : State) : Res :=
  s.onClk fun d => d.when d.sensorsOn fun d => d.dueAt (max time d.now) fun d => d.hallEdge edge d.now

/-- `ILLEGAL_TRANSITION` (R455, R466). -/
def execIllegalTransition (s : State) : Res := s.onDev fun d => d.when d.sensorsOn (·.illegal)

/-- `COUNTER_INTERPOLATE` (R460, R470): one count, at its time by the estimated rate. -/
def execCounterInterpolate (s : State) : Res :=
  s.onClk fun d => d.when (d.sensorsOn && d.kin.mayStep) fun d =>
    match d.kin.stepTime with
    | some t => d.dueAt t fun d => d.moveCounter d.kin.rev 1
    | none => d

/-- `ROTOR_STALL` (R464). -/
def execRotorStall (s : State) : Res :=
  s.onClk fun d => d.when (d.kinPresent && d.isOpen && !d.kin.stopped) fun d => d.dueAt (d.kin.lastEdge + 200000) (·.rotorStop)

/-- `TWPWR_HOLD_END` (R465). -/
def execTwpwrHoldEnd (s : State) : Res :=
  s.onClk fun d => d.when (d.kinPresent && d.isOpen && d.kin.stopped && d.kin.twCont) fun d =>
    d.dueAt (d.kin.stopTime + 1000 * d.fn Fld.kinTwHold) (·.twPower false)

/-- Motion by a sample of the duty cycle (R465, R466): the loss is raised with its cause, though LDO6 left PROOFED as the duty cycle
began, and synchronisation with it (DEDUCED, log entry 123). -/
def Device.motionSeen (d : Device) : Device := if d.kin.synced then d.syncLost 2 else d.raise (coded 9 2 2)

/-- A duty-cycled sample of the Hall inputs (R465): one that differs from the previous one, or, where there is none, from
the levels last accepted, means motion; the hold of continuous `TWPWR` then begins anew. -/
def Device.twSampled (d : Device) (a b : Bool) : Device :=
  let k := d.kin
  let prev := k.twSample.orElse fun _ => if k.seen then some (k.lvlA, k.lvlB) else none
  let d := d.updKin fun k => { k with lvlA := a, lvlB := b, twSample := some (a, b) }
  if prev.isSome ∧ prev ≠ some (a, b) then
    ((d.motionSeen.updKin fun k => { k with stopTime := d.now, twSample := none })).twPower true
  else d

/-- The duty cycle goes on (R355, R465): LDO6, if it is off, is enabled `KIN.tw_period_ms` after its former enable and proofs; once it is
PROOFED, the inputs are sampled `KIN.tw_settle_us` later, and it is let go. -/
def Device.twCycle (d : Device) (a b : Bool) : Device :=
  if d.rails.twDuty = false then
    d.dueAt (d.kin.twAt + 1000 * d.fn Fld.kinTwPeriod) fun d => (d.updKin fun k => { k with twAt := d.now }).twEnable true
  else
    d.when (decide (d.railSt 9 = .proofed)) fun d =>
      d.dueAt ((d.rails.rails.get 9).since + 10 * d.fn Fld.kinTwSettle) fun d => (d.twEnable false).twSampled a b

/-- `TWPWR_DUTY_SAMPLE` (R465, R466): the command names the next event of the duty cycle, an enable or a sample. -/
def execTwpwrDutySample (a b : Bool) (s : State) : Res :=
  s.onClk fun d => d.when (d.kinPresent && d.isOpen && !d.kin.twCont && !d.ldo6Voted && !d.ldo6Down) (·.twCycle a b)

/-- `REVERSE_CURRENT_CUT` (R478). -/
def execReverseCurrentCut (gate : Fin 6) (s : State) : Res :=
  s.onDev fun d => d.when (d.kin.gates.getLsbD gate.val) (·.updKin fun k => { k with
    gates := gateOff k.gates gate.val, cuts := sat 0xFFFFFFFF (k.cuts + 1) })

/-! ### The charger (R495 to R513) -/

/-- Both readings of `NTC` are good. -/
def Device.ntcGood (d : Device) : Device := d.updChg fun c => { c with ntcOpen := false, ntcShort := false }

/-- The 1 s of qualification is met (R497, R498, R511): QUALIFY is left; after a removal it is one of the two conditions
of a restart. -/
def Device.qualifies (d : Device) (mv : Nat) : Device :=
  let d := d.chgSettle
  let low := decide (1500 ≤ mv) || d.fetIsOff
  if !d.powered || !low || !(decide (d.chg.latched = 0) || decide (d.chg.latched = 1)) then d
  else match d.chg.okSince with
    | none => d
    | some t => d.dueAt ((if d.chg.phase = .qualify then max t d.chg.clearSince else t) + 1000000) fun d =>
      let d := d.ntcGood
      let d := if d.chg.removed then (d.updChg fun c => { c with requalified := true }).gaugeRestart mv d.sample.batTemp else d
      if d.chgRuns ∧ d.chg.phase = .qualify then d.qualified mv else d

/-- `QUALIFY_PASS` (R497). -/
def execQualifyPass (batMv : Nat) (s : State) : Res := s.onClk (·.qualifies batMv)

/-- The charger runs and is in a phase that `p` picks. -/
def Device.chgIn (d : Device) (p : ChgPhase → Bool) : Bool := d.chgRuns && p d.chg.phase

/-- The precharge exit level, mV (R498). -/
def Device.prechargeExit (d : Device) : Nat :=
  if d.chg.preFetOff then max (10 * d.fn Fld.chgVPre) (10 * d.fn Fld.pathBatRecover) else 10 * d.fn Fld.chgVPre

/-- `PRECHARGE_EXIT` (R494, R498). -/
def execPrechargeExit (s : State) : Res :=
  s.onDev fun d => d.when ((d.chgIn fun p => decide (p = .precharge)) &&
    d.showsOpen (decide (d.prechargeExit ≤ d.sample.batMv))) (·.chgFast .fast)

/-- `CV_REACHED` (R498). -/
def execCvReached (s : State) : Res :=
  s.onDev fun d => d.when (d.chgIn fun p => decide (p = .fast) || decide (p = .recharge)) (·.chgEnter .taper)

/-- TAPER ends with a full anchor (R498, R499, R513, R530). -/
def Device.chgTerminates (d : Device) : Device :=
  let n := d.chargeMinutes
  let d := (d.chgEnter .terminate).updChg fun c => { c with terminations := sat 0xFFFFFFFF (c.terminations + 1), viaZone := false }
  ((d.raise (coded 0x0A 9 n)).anchorBy (·.fullAnchor)).chgNoEdge

/-- `CHARGE_TERMINATE` (R498, R499). -/
def execChargeTerminate (s : State) : Res :=
  s.onDev fun d => d.when ((d.chgIn fun p => decide (p = .taper)) &&
    d.showsOpen (d.cvGoverns && decide (d.sample.batUa < 5000 * (d.fn Fld.chgITerm : Int)))) (·.chgTerminates)

/-- `TOPOFF_END` (R498). -/
def execTopoffEnd (s : State) : Res :=
  s.onClk fun d => d.when (d.chgIn fun p => decide (p = .topoff)) fun d =>
    d.dueAt (d.now + (60000000 * d.fn Fld.chgTopoffMin - d.chg.tTop)) (·.chgEnter .done)

/-- The restart level is passed in DONE (R498). -/
def Device.chgRecharge (d : Device) : Device :=
  if d.inputPresent then
    (d.chgFast .recharge).updChg fun c => { c with recharges := sat 0xFFFFFFFF (c.recharges + 1) }
  else d.chgEnter .idle

/-- `RECHARGE_START` (R498). -/
def execRechargeStart (s : State) : Res :=
  s.onDev fun d => d.when ((d.chgIn fun p => decide (p = .done)) &&
    d.showsOpen (decide (d.sample.batMv < d.rechargeLevel))) (·.chgRecharge)

/-- `ZONE_CHANGE` (R502, R511): `NTC` is sampled out of IDLE, and while a removal is latched. -/
def execZoneChange (temp : Int) (s : State) : Res :=
  s.onDev fun d => d.when (d.chgRuns && (decide (d.chg.phase ≠ .idle) || d.chg.latched.getLsbD 0))
    fun d => (d.ntcGood).zoneTo (d.zoneFor temp d.chg.zone)

/-- VSYS has the margin of harvest charging (R495), by the FET's mode. -/
def Device.harvestMargin (d : Device) : Bool :=
  match d.path.fet with
  | .supply => d.showsOpen (decide (d.sample.batMv + 100 ≤ d.sample.vsysMv))
  | .off => d.showsOpen (decide (2600 ≤ d.sample.vsysMv))
  | .charge => false

/-- `HARVEST_CHARGING_PRESENT` (R495). -/
def execHarvestChargingPresent (s : State) : Res :=
  s.onDev fun d => d.when (d.chgRuns && !d.path.dcValid && d.harvestMargin) fun d =>
    (d.updChg fun c => { c with harvest := true }).chgSettle

/-- `HARVEST_CHARGING_CEASES` (R495). -/
def execHarvestChargingCeases (s : State) : Res :=
  s.onDev fun d => d.when (!d.path.dcValid && d.showsOpen (decide (d.sample.batUa < -1000))) fun d =>
    (d.updChg fun c => { c with harvest := false }).chgSettle

/-- `PRECHARGE_TIMEOUT` (R504): the timer counts only under R504's current. -/
def execPrechargeTimeout (s : State) : Res :=
  s.onClk fun d => d.when d.preCounts fun d =>
    d.dueAt (d.now + (60000000 * d.fn Fld.chgTPreMin - d.chg.tPre)) fun d => d.chgLatch 1 (mv10 d.sample.batMv)

/-- `FAST_TIMEOUT` (R505). -/
def execFastTimeout (s : State) : Res :=
  s.onClk fun d => d.when d.fastCounts fun d =>
    d.dueAt (d.now + (600000000 * d.fn Fld.chgTFastMin - d.chg.tFast)) fun d => d.chgLatch 2 d.chg.phase.code

/-- The removal of the battery by a route (R508, R509). -/
def Device.batGone (d : Device) (route batMv : Nat) : Device :=
  let d := d.updChg fun c => { c with ntcOpen := c.ntcOpen || decide (route = 1), lastBatsns := batMv }
  let d := d.updFaults fun f => { f with
    probeMisc := f.probeMisc ||| (if route = 1 then 0x40 else if route = 2 then 0x80 else 0) }
  d.chgRemoval route

/-- `BATTERY_REMOVED` (R508): route 2 needs `CHG.batid`, and route 3 a step of `BATSNS` where Batch edges sample it; energy may be
exhausted with it (R510). -/
def execBatteryRemoved (route : Nat) (batMv : Nat) (s : State) : Res :=
  s.onDev fun d => d.when ((d.chgIn ChgPhase.charging) &&
    (decide (route = 1) || (decide (route = 2) && decide (d.fn Fld.chgBatid = 1)) ||
      (decide (route = 3) && d.showsOpen (d.batStep batMv))))
    fun d => (d.batGone route batMv).exhaustRelease

/-- What `FAULT_PROBE` gathers of the battery's over-voltage (R674). -/
def Device.probeBat (d : Device) : Device := d.updFaults fun f => { f with probeMisc := f.probeMisc ||| 2 }

/-- `CHG_BAT_OV` (R513). -/
def execChgBatOv (batMv : Nat) (s : State) : Res :=
  s.onDev fun d => d.when (d.chgRuns && decide (d.path.fet = .charge) && decide (d.cv + 100 < batMv)) fun d =>
    (d.probeBat).chgLatch 3 (mv10 batMv)

/-- `CHG_OV_FETFAIL` (R513). -/
def execChgOvFetfail (batMv : Nat) (s : State) : Res :=
  s.onDev fun d => d.when (d.collecting && decide (d.path.fet = .off) && decide (d.chemLimit < batMv)) fun d =>
    (d.probeBat).chgLatch 4 (mv10 batMv)

/-- `NTC` reads short or open (R506, R508, R513). -/
def Device.ntcBad (d : Device) (isShort : Bool) : Device :=
  if isShort then (d.updChg fun c => { c with ntcShort := true, ntcOpen := false }).chgLatch 6 0
  else if d.chg.phase.charging then (d.batGone 1 d.chg.lastBatsns).exhaustRelease
  else (d.updChg fun c => { c with ntcOpen := true, ntcShort := false }).updFaults fun f =>
    { f with probeMisc := f.probeMisc ||| 0x40 }

/-- `CHG_NTC` (R513). -/
def execChgNtc (isShort : Bool) (s : State) : Res := s.onDev fun d => d.when d.chgRuns (·.ntcBad isShort)

/-- `CHG_BATID` (R507, R513): the reading in 100 Ω. -/
def execChgBatid (reading : Nat) (s : State) : Res :=
  s.onDev fun d => d.when (d.chgRuns && decide (d.fn Fld.chgBatid = 1) &&
    (decide (reading < d.fn Fld.chgBatidMin) || decide (d.fn Fld.chgBatidMax < reading)))
    fun d => d.chgLatch 5 (sat 65535 reading)

/-- A Room that holds `CHG` is Open. -/
def Device.chgRoomOpen (d : Device) : Bool :=
  all16.any fun n => d.hasFeature n 0 && decide ((d.rooms.get n).st = .opened)

/-- The device reads `CHG_BAT_GONE` by itself (R512): the entry that records it is a `FAULT_CLEARED` whose qualifier the
manual does not give, a free value. -/
def Device.goneRead (d : Device) : Device :=
  let (v, d) := d.free
  let d := (d.updChg fun c => { c with requalified := true }).chgRead 1
  (d.raise (coded 0x0F 5 (v % 65536))).gaugeRestart d.sample.batMv d.sample.batTemp

/-- `GONE_AUTO_READ` (R512): `CHG.gone_auto_s` of qualification have passed. -/
def execGoneAutoRead (s : State) : Res :=
  s.onClk fun d => d.when (d.powered && decide (d.fn Fld.chgGoneAutoS ≠ 0) && d.chg.latched.getLsbD 0 && !d.chgRoomOpen) fun d =>
    match d.chg.okSince with
    | some t => d.dueAt (t + 1000000 * d.fn Fld.chgGoneAutoS) (·.goneRead)
    | none => d

/-! ### The gauge (R524 to R547) -/

/-- An autozero ends (R524): one above 50 µA is discarded and reported. The next ends no earlier than at `next`. -/
def Device.autozero (d : Device) (offset : Int) (next : Nat) : Device :=
  let d := d.updGaugeHw fun g => { g with azNext := next }
  if 50 < offset.natAbs then d.raise (coded 0x0B 1 (ofSigned 2 (max (-32768) (min 32767 offset))))
  else d.updGaugeHw fun g => { g with offset := offset }

/-- An autozero ends when it is due (R524): every 10 s in FULL mode, and once before each window, at the window's begin. -/
def Device.autozeroAt (d : Device) (offset : Int) : Device :=
  let g := d.gaugeHw
  match g.mode with
  | .off => d
  | .full => d.dueAt g.azNext fun d => d.autozero offset (d.now + 10000000)
  | _ => d.when (decide (g.azNext ≤ g.winNext - 8000)) (·.dueAt (g.winNext - 8000) (·.autozero offset g.winNext))

/-- `GAUGE_AUTOZERO` (R524). -/
def execGaugeAutozero (offset : Int) (s : State) : Res := s.onClk (·.autozeroAt offset)

/-- A window of SIPPING or LODGE mode, when it is due (R525): every second, in LODGE every minute, or at once and every
second after the shunt comparator. -/
def Device.gaugeWindowAt (d : Device) (mean : Int) (bat : Nat) (temp : Int) : Device :=
  match d.gaugeHw.mode with
  | .sipping | .lodge => d.dueAt d.gaugeHw.winNext (·.gaugeWin mean bat temp)
  | _ => d

/-- `GAUGE_WINDOW` (R525). -/
def execGaugeWindow (mean : Int) (batMv : Nat) (batTemp : Int) (s : State) : Res :=
  s.onClk (·.gaugeWindowAt mean batMv batTemp)

/-- SIPPING mode begins; its first window ends a second later (R525, R526). -/
def Device.sipBegin (d : Device) : Device :=
  d.updGaugeHw fun g => { g with mode := .sipping, lastWindow := d.now, winNext := d.now + 1000000, lowFrom := d.now }

/-- `GAUGE_SIPPING_ENTRY` (R526): ten seconds after the latest second whose mean was not low. -/
def execGaugeSippingEntry (s : State) : Res :=
  s.onClk fun d => d.when (decide (d.gaugeHw.mode = .full) && decide (d.fn Fld.gaugeSip = 1))
    (·.dueAt (d.gaugeHw.lowFrom + 10000000) (·.sipBegin))

/-- The shunt comparator fires (R526, R527): in LODGE mode a window follows at once, behind its autozero. -/
def Device.shuntFires (d : Device) : Device :=
  match d.gaugeHw.mode with
  | .sipping => d.updGaugeHw fun g => (g.extrapolate d.now).toFull d.now
  | .lodge => d.updGaugeHw fun g => if g.lodgeFast then g else { g with lodgeFast := true, winNext := min g.winNext (d.now + 9000) }
  | _ => d

/-- `SHUNT_COMPARATOR` (R527). -/
def execShuntComparator (s : State) : Res := s.onDev (·.shuntFires)

/-- An OCV correction is due at the step 4 that follows the next edge (R532, R533). -/
def Device.ocvNext (d : Device) : Bool :=
  let more := decide (d.gaugeHw.mode = .full) && decide (d.sample.batUa.natAbs < 100 * d.fn Fld.gaugeRelaxUa)
  (d.updGaugeHw fun g => { g with relaxTime := if more then g.relaxTime + d.batch.period else g.relaxTime }).ocvDue d.batch.nextEdge

/-- `OCV_CORRECTION` (R533): the edge whose step 4 makes it, with the voltage and temperature that it samples. -/
def execOcvCorrection (batMv : Nat) (temp : Int) (s : State) : Res :=
  s.onClk fun d => d.when (d.isOpen && d.ocvNext) fun d =>
    d.batchEdge { d.sample with batMv := batMv, batTemp := temp } .full (StartSense.plain d)

/-- `AGE_HOUR` (R539): outside RUN, DOZE and REST the snapshot follows the ageing (R545). -/
def execAgeHour (s : State) : Res :=
  s.onClk fun d => d.when d.powered fun d => d.dueAt d.gaugeHw.hourEnd fun d =>
    (d.ageHourEnd).when (!d.isOpen) (·.gaugeSnap)

/-- `GAUGE_RECORD_SAVE` (R547). -/
def execGaugeRecordSave (s : State) : Res :=
  s.onClk fun d => d.when d.isOpen fun d =>
    d.dueAt (d.priv.gauge.recordTime + 3600000000 * d.fn Fld.gaugeSaveH) (·.gaugeSave)

/-! ### The Larder and bursts (R557 to R584) -/

/-- `FORECAST_BIN_UPDATE` (R557): the first step 4 after the bin has ended. -/
def execForecastBinUpdate (s : State) : Res :=
  s.onClk fun d =>
    d.edgeIf (d.isOpen && decide (d.priv.larder.binAt d.batch.nextEdge ≠ d.priv.larder.curBin)) (StartSense.plain d)

/-- A time of the reservation with a handle. -/
def Device.resAt (d : Device) (h : Nat) (t : Reservation → Nat) (f : Device → Device) : Device :=
  match d.priv.larder.reservations.find? fun r => r.handle == h with
  | some r => d.when d.isOpen fun d => d.dueAt (t r) f
  | none => d

/-- `RESERVATION_START` (R564). -/
def execReservationStart (handle : Nat) (s : State) : Res := s.onClk fun d => d.resAt handle (·.start) (·.resBegin handle)

/-- `RESERVATION_END` (R564). -/
def execReservationEnd (handle : Nat) (s : State) : Res := s.onClk fun d => d.resAt handle (·.stop) (·.resEnd handle)

/-- An armed entry may start at the next edge (R571, R576). -/
def Device.burstNext (d : Device) : Bool :=
  let n := d.batch.number.toNat + 1
  (match d.burst.first with | some e => e.ready n | none => false) ||
    (match d.burst.second with | some e => e.ready n | none => false)

/-- `BURST_START` (R571): the start edge of an armed entry. -/
def execBurstStart (s : State) : Res := s.onClk fun d => d.edgeIf (d.isOpen && d.burstNext) (StartSense.plain d)

/-- `BGNT` rises 2 ms after PA is PROOFED, at the earliest after the start edge (R573), and triggers `BURST` groups
(R600). -/
def Device.bgntRises (d : Device) : Device :=
  match d.burst.running with
  | some e =>
    if d.pins.bgnt = false ∧ d.railSt 3 = .proofed then
      d.dueAt (max e.startTime (d.rails.rails.get 3).since + 2000) fun d =>
        let (t, d) := ((d.updPins fun p => { p with bgnt := true }).updBurst fun b => { b with riseAt := d.now }).freeC
        d.adcTriggerAll 3 t fun _ _ => true
    else d
  | none => d

/-- `BGNT_RISE` (R573). -/
def execBgntRise (s : State) : Res := s.onClk (·.bgntRises)

/-- A running burst ends, and the burst vote with it, at that instant (R573). -/
def Device.burstOver (d : Device) : Device := (d.burstFinish).railEdgeOne d.now 3

/-- The burst's length has passed (R573). -/
def Device.burstEnds (d : Device) : Device :=
  match d.burst.running with
  | some e => d.when d.pins.bgnt fun d => d.dueAt (d.burst.riseAt + 1000 * e.len) (·.burstOver)
  | none => d

/-- `BURST_END` (R573). -/
def execBurstEnd (s : State) : Res := s.onClk (·.burstEnds)

/-- `BREQ` rises (R60, R583): one latched request for a rising edge. -/
def Device.breqUp (d : Device) : Device :=
  if d.burst.breqHigh || !d.pins.vioGood then d
  else d.updBurst fun b => { b with breqHigh := true,
                                    breqLatched := b.breqLatched || (d.isOpen && decide (d.fn Fld.larBreqMs ≠ 0)) }

/-- `BREQ_RISE` (R583). -/
def execBreqRise (s : State) : Res := s.onDev (·.breqUp)

/-- `BREQ` falls and ends a running raw burst (R584); the input is ignored while VIO is not good (R37, R51). -/
def Device.breqDown (d : Device) : Device :=
  d.when d.pins.vioGood fun d =>
    (d.updBurst fun b => { b with breqHigh := false }).when (d.burst.raw && d.burst.running.isSome) (·.burstOver)

/-- `BREQ_FALL` (R584). -/
def execBreqFall (s : State) : Res := s.onDev (·.breqDown)

/-! ### Measurement (R598, R599) -/

/-- A triggered set begins once its delay has passed and its converters are free (R599). -/
def Device.adcStartDue (d : Device) (g : Fin 4) : Device :=
  match (d.adcGroup g).run with
  | some r => if r.started then d else d.dueAt (d.adcBeginC g r / 48) (·.adcStart g)
  | none => d

/-- A begun set is complete when its last row ends (R598). -/
def Device.adcCompleteDue (d : Device) (g : Fin 4) (codes : List Nat) : Device :=
  match (d.adcGroup g).run with
  | some r => if r.started then d.dueAt (r.endC r.cfg.rows / 48) (·.adcComplete g codes) else d
  | none => d

/-- `ADC_SET_START` (R599). -/
def execAdcSetStart (group : Fin 4) (s : State) : Res := s.onClk fun d => d.when d.isOpen (·.adcStartDue group)

/-- `ADC_SET_COMPLETE` (R598). -/
def execAdcSetComplete (group : Fin 4) (codes : List Nat) (s : State) : Res :=
  s.onClk fun d => d.when d.isOpen (·.adcCompleteDue group codes)

end Sys2Proof.Machine
end

