-- ==== Sys2Proof/Machine/ExecRequests.lean ====
section
/-! DEFINITION. The rows that are SMP requests: each is its command of R768, taken and executed in the current Batch; where
one opcode has several rows, the row fixes the action byte. -/
namespace Sys2Proof.Machine

/-- `HELLO` (R263). -/
def execHello (r : Sys2Proof.Req) (s : State) : Res := s.request cmdHello r

/-- `BYE` (R264). -/
def execBye (r : Sys2Proof.Req) (s : State) : Res := s.request cmdBye r

/-- `PING` (R265). -/
def execPing (r : Sys2Proof.Req) (s : State) : Res := s.request cmdPing r

/-- `TIME` (R155). -/
def execTime (r : Sys2Proof.Req) (s : State) : Res := s.request cmdTime r

/-- `ROOM_QUERY` (R267). -/
def execRoomQuery (r : Sys2Proof.Req) (s : State) : Res := s.request cmdRoomQuery r

/-- `ROOM_RESET` (R266). -/
def execRoomReset (r : Sys2Proof.Req) (s : State) : Res := s.request cmdRoomReset r

/-- `PWR_QUERY` (R123). -/
def execPwrQuery (r : Sys2Proof.Req) (s : State) : Res := s.request cmdPwrQuery r

/-- `PWR_FLOOR` (R119). -/
def execPwrFloor (r : Sys2Proof.Req) (s : State) : Res := s.request cmdPwrFloor r

/-- `PWR_LODGE` (R120). -/
def execPwrLodge (r : Sys2Proof.Req) (s : State) : Res := s.request cmdPwrLodge r

/-- `PWR_SHIP_ARM` (R121). -/
def execPwrShipArm (r : Sys2Proof.Req) (s : State) : Res := s.request cmdPwrShip (withAction r 0 1)

/-- `PWR_SHIP_CANCEL` (R121). -/
def execPwrShipCancel (r : Sys2Proof.Req) (s : State) : Res := s.request cmdPwrShip (withAction r 0 2)

/-- `PWR_RESTART` (R122). -/
def execPwrRestart (r : Sys2Proof.Req) (s : State) : Res := s.request cmdPwrRestart r

/-- `RAIL_VOTE` (R405). -/
def execRailVote (r : Sys2Proof.Req) (s : State) : Res := s.request cmdRailVote r

/-- `RAIL_QUERY` (R378). -/
def execRailQuery (r : Sys2Proof.Req) (s : State) : Res := s.request cmdRailQuery r

/-- `RAIL_SCHED` (R406). -/
def execRailSched (r : Sys2Proof.Req) (s : State) : Res := s.request cmdRailSched r

/-- `SEQ_RUN` (R407). -/
def execSeqRun (r : Sys2Proof.Req) (s : State) : Res := s.request cmdSeqRun r

/-- `SEQ_ABORT` (R408). -/
def execSeqAbort (r : Sys2Proof.Req) (s : State) : Res := s.request cmdSeqAbort r

/-- `CHG_QUERY` (R517). -/
def execChgQuery (r : Sys2Proof.Req) (s : State) : Res := s.request cmdChgQuery r

/-- `CHG_SET` (R518). -/
def execChgSet (r : Sys2Proof.Req) (s : State) : Res := s.request cmdChgSet r

/-- `CHG_FAULTS_READ` (R519). -/
def execChgFaultsRead (r : Sys2Proof.Req) (s : State) : Res := s.request cmdChgFaults (withAction r 0 0)

/-- `CHG_FAULTS_CLEAR` (R519). -/
def execChgFaultsClear (r : Sys2Proof.Req) (s : State) : Res := s.request cmdChgFaults (withAction r 0 1)

/-- `GAUGE_QUERY` (R551). -/
def execGaugeQuery (r : Sys2Proof.Req) (s : State) : Res := s.request cmdGaugeQuery r

/-- `GAUGE_SET_SOC` (R552). -/
def execGaugeSetSoc (r : Sys2Proof.Req) (s : State) : Res := s.request cmdGaugeSet (withAction r 0 1)

/-- `GAUGE_SET_AGE_ADD` (R552). -/
def execGaugeSetAgeAdd (r : Sys2Proof.Req) (s : State) : Res := s.request cmdGaugeSet (withAction r 0 2)

/-- `GAUGE_SET_LEARN_RESET` (R552). -/
def execGaugeSetLearnReset (r : Sys2Proof.Req) (s : State) : Res := s.request cmdGaugeSet (withAction r 0 3)

/-- `LARDER_RESERVE` (R587). -/
def execLarderReserve (r : Sys2Proof.Req) (s : State) : Res := s.request cmdLarderReserve r

/-- `BURST_PAIR` (R588). -/
def execBurstPair (r : Sys2Proof.Req) (s : State) : Res := s.request cmdBurstPair r

/-- `LARDER_RELEASE` (R589). -/
def execLarderRelease (r : Sys2Proof.Req) (s : State) : Res := s.request cmdLarderRelease r

/-- `LARDER_QUERY` (R590). -/
def execLarderQuery (r : Sys2Proof.Req) (s : State) : Res := s.request cmdLarderQuery r

/-- `LARDER_SET_TOD` (R591). -/
def execLarderSetTod (r : Sys2Proof.Req) (s : State) : Res := s.request cmdLarderSet (withAction r 0 1)

/-- `LARDER_SET_FC_RESET` (R591). -/
def execLarderSetFcReset (r : Sys2Proof.Req) (s : State) : Res := s.request cmdLarderSet (withAction r 0 2)

/-- `PATH_QUERY` (R450). -/
def execPathQuery (r : Sys2Proof.Req) (s : State) : Res := s.request cmdPathQuery r

/-- `DC_LIMIT` (R452). -/
def execDcLimit (r : Sys2Proof.Req) (s : State) : Res := s.request cmdDcLimit r

/-- `PRI_PULSE` (R453). -/
def execPriPulse (r : Sys2Proof.Req) (s : State) : Res := s.request cmdPriPulse r

/-- `PV_SET` (R451). -/
def execPvSet (r : Sys2Proof.Req) (s : State) : Res := s.request cmdPvSet r

/-- `KIN_QUERY` (R485). -/
def execKinQuery (r : Sys2Proof.Req) (s : State) : Res := s.request cmdKinQuery r

/-- `KIN_SET` (R486). -/
def execKinSet (r : Sys2Proof.Req) (s : State) : Res := s.request cmdKinSet r

/-- `KIN_USER` (R487). -/
def execKinUser (r : Sys2Proof.Req) (s : State) : Res := s.request cmdKinUser r

/-- `ADC_PLAN` (R615). -/
def execAdcPlan (r : Sys2Proof.Req) (s : State) : Res := s.request cmdAdcPlan r

/-- `ADC_GROUP_SET` (R616). -/
def execAdcGroupSet (r : Sys2Proof.Req) (s : State) : Res := s.request cmdAdcGroup (withAction r 1 1)

/-- `ADC_GROUP_TRIGGER` (R616). -/
def execAdcGroupTrigger (r : Sys2Proof.Req) (s : State) : Res := s.request cmdAdcGroup (withAction r 1 2)

/-- `ADC_GROUP_RELEASE` (R616). -/
def execAdcGroupRelease (r : Sys2Proof.Req) (s : State) : Res := s.request cmdAdcGroup (withAction r 1 3)

/-- `ADC_READ` (R617). -/
def execAdcRead (r : Sys2Proof.Req) (s : State) : Res := s.request cmdAdcRead r

/-- `DIG_KEYLOAD` (R639). -/
def execDigKeyload (r : Sys2Proof.Req) (s : State) : Res := s.request cmdDigKeyload r

/-- `DIG_QUEUE` (R640). -/
def execDigQueue (r : Sys2Proof.Req) (s : State) : Res := s.request cmdDigQueue r

/-- `FAULT_READ` (R671). -/
def execFaultRead (r : Sys2Proof.Req) (s : State) : Res := s.request cmdFaultRead r

/-- `LEDGER_READ` (R672). -/
def execLedgerRead (r : Sys2Proof.Req) (s : State) : Res := s.request cmdLedgerRead r

/-- `FAULT_CLEAR_SAFE_HOLD` (R658). -/
def execFaultClearSafeHold (r : Sys2Proof.Req) (s : State) : Res := s.request cmdFaultClear (withAction r 0 1)

/-- `FAULT_CLEAR_RAIL_HELD` (R673). -/
def execFaultClearRailHeld (r : Sys2Proof.Req) (s : State) : Res := s.request cmdFaultClear (withAction r 0 2)

/-- `FAULT_CLEAR_ALL_HELD` (R673). -/
def execFaultClearAllHeld (r : Sys2Proof.Req) (s : State) : Res := s.request cmdFaultClear (withAction r 0 3)

/-- `FAULT_CLEAR_BATFET` (R673). -/
def execFaultClearBatfet (r : Sys2Proof.Req) (s : State) : Res := s.request cmdFaultClear (withAction r 0 4)

/-- `FAULT_CLEAR_ACTIVE` (R673). -/
def execFaultClearActive (r : Sys2Proof.Req) (s : State) : Res := s.request cmdFaultClear (withAction r 0 5)

/-- `FAULT_CLEAR_LEDGER_MARK` (R673). -/
def execFaultClearLedgerMark (r : Sys2Proof.Req) (s : State) : Res := s.request cmdFaultClear (withAction r 0 6)

/-- `FAULT_PROBE` (R674). -/
def execFaultProbe (r : Sys2Proof.Req) (s : State) : Res := s.request cmdFaultProbe r

/-- `WD_SET_PERIOD` (R698). -/
def execWdSetPeriod (r : Sys2Proof.Req) (s : State) : Res := s.request cmdWdSet (withAction r 0 1)

/-- `WD_SET_CLEAR_RESTARTS` (R698). -/
def execWdSetClearRestarts (r : Sys2Proof.Req) (s : State) : Res := s.request cmdWdSet (withAction r 0 2)

/-- `WD_QUERY` (R699). -/
def execWdQuery (r : Sys2Proof.Req) (s : State) : Res := s.request cmdWdQuery r

/-- `GWD_ARM` (R700). -/
def execGwdArm (r : Sys2Proof.Req) (s : State) : Res := s.request cmdGwdArm r

/-- `WD_KICK` (R700). -/
def execWdKick (r : Sys2Proof.Req) (s : State) : Res := s.request cmdWdKick r

/-- `KEEPER_SWAP` (R200). -/
def execKeeperSwap (r : Sys2Proof.Req) (s : State) : Res := s.request cmdKeeperSwap r

/-- `KEEPER_QUERY` (R201). -/
def execKeeperQuery (r : Sys2Proof.Req) (s : State) : Res := s.request cmdKeeperQuery r

/-- `KEEPER_REVIVE` (R202). -/
def execKeeperRevive (r : Sys2Proof.Req) (s : State) : Res := s.request cmdKeeperRevive r

/-- `IMAGE_STAGE_OPEN` (R224). -/
def execImageStageOpen (r : Sys2Proof.Req) (s : State) : Res := s.request cmdImageStage (withAction r 0 1)

/-- `IMAGE_STAGE_DATA` (R225). -/
def execImageStageData (r : Sys2Proof.Req) (s : State) : Res := s.request cmdImageStage (withAction r 0 2)

/-- `IMAGE_STAGE_CLOSE` (R227). -/
def execImageStageClose (r : Sys2Proof.Req) (s : State) : Res := s.request cmdImageStage (withAction r 0 3)

/-- `IMAGE_COMMIT_COMMIT` (R229). -/
def execImageCommitCommit (r : Sys2Proof.Req) (s : State) : Res := s.request cmdImageCommit (withAction r 0 1)

/-- `IMAGE_COMMIT_ABORT` (R230). -/
def execImageCommitAbort (r : Sys2Proof.Req) (s : State) : Res := s.request cmdImageCommit (withAction r 0 2)

/-- `IMAGE_QUERY` (R232). -/
def execImageQuery (r : Sys2Proof.Req) (s : State) : Res := s.request cmdImageQuery r

/-- `RECIPE_SELECT` (R749). -/
def execRecipeSelect (r : Sys2Proof.Req) (s : State) : Res := s.request cmdRecipeSelect r

/-- `RECIPE_WRITE_OPEN` (R755). -/
def execRecipeWriteOpen (r : Sys2Proof.Req) (s : State) : Res := s.request cmdRecipeWrite (withAction r 0 1)

/-- `RECIPE_WRITE_DATA` (R756). -/
def execRecipeWriteData (r : Sys2Proof.Req) (s : State) : Res := s.request cmdRecipeWrite (withAction r 0 2)

/-- `RECIPE_WRITE_CLOSE` (R757). -/
def execRecipeWriteClose (r : Sys2Proof.Req) (s : State) : Res := s.request cmdRecipeWrite (withAction r 0 3)

/-- `RECIPE_QUERY` (R759). -/
def execRecipeQuery (r : Sys2Proof.Req) (s : State) : Res := s.request cmdRecipeQuery r

/-- `DBG_CHALLENGE` (R729). -/
def execDbgChallenge (r : Sys2Proof.Req) (s : State) : Res := s.request cmdDbgChallenge r

/-- `DBG_RESPOND_RESPOND` (R730). -/
def execDbgRespondRespond (r : Sys2Proof.Req) (s : State) : Res := s.request cmdDbgRespond (withAction r 0 1)

/-- `DBG_RESPOND_DROP` (R730). -/
def execDbgRespondDrop (r : Sys2Proof.Req) (s : State) : Res := s.request cmdDbgRespond (withAction r 0 2)

/-- `LIFECYCLE_ADVANCE` (R731). -/
def execLifecycleAdvance (r : Sys2Proof.Req) (s : State) : Res := s.request cmdLifecycleAdvance r

/-- `SEC_QUERY` (R732). -/
def execSecQuery (r : Sys2Proof.Req) (s : State) : Res := s.request cmdSecQuery r

end Sys2Proof.Machine
end

