-- ==== Sys2Proof/Machine/ExecSecurity.lean ====
section
/-! DEFINITION. The rows of the debug port and of the lifecycle (chapter 21, R72, R701 to R732), and what the port's data
registers capture. -/
namespace Sys2Proof.Machine

/-! ### What the port captures (R720, R722 to R724) -/

/-- `IDCODE` (R720). -/
def idcode : Word := 0xB4620A6B

/-- `DBG_CTRL` as captured (R722). -/
def Device.dbgCtrl (d : Device) : Word :=
  let s := d.sec
  BitVec.ofNat 32 (b2n s.haltA + 2 * b2n s.haltB + 4 * b2n s.wdhalt + 8 * b2n s.attach + 2 ^ 8 * s.level.code +
    2 ^ 10 * d.lifecycle + 2 ^ 13 * s.attState + 2 ^ 15 * b2n d.keepers.a.halted + 2 ^ 16 * b2n d.keepers.b.halted +
    2 ^ 17 * b2n d.challenge.isSome + 2 ^ 18 * b2n s.authFail + 2 ^ 19 * b2n d.locked + 2 ^ 20 * s.prog)

/-- `DBG_AUTH` as captured: the outstanding challenge, or 0 (R723). -/
def Device.dbgAuth (d : Device) : List Byte :=
  match d.challenge with
  | some c => slice c.1 0 32
  | none => List.replicate 32 0

/-- `DBG_MEM` as captured: read data, and status bits 70 to 68 (R724). -/
def Device.dbgMem (d : Device) : Word × Nat := (d.sec.memData, b2n d.sec.memDone + 2 * b2n d.sec.memDenied + 4 * b2n d.sec.memBusy)

/-! ### The TAP (R72, R719) -/

/-- An Update-DR under an instruction: the controller is out of reset, with that instruction (R719). -/
def Device.tapOp (d : Device) (ir : BitVec 5) (f : Device → Device) : Device :=
  d.when d.tapLive fun d => f ((d.updSec fun s => { s with tapIr := ir }).updPins fun p => { p with tapReset := false })

/-- `TAP_RESET` (R72, R719): Test-Logic-Reset selects `IDCODE`. -/
def execTapReset (s : State) : Res :=
  s.onDev fun d => d.when d.tapLive fun d =>
    (d.updSec fun s => { s with tapIr := 1 }).updPins fun p => { p with tapReset := true }

/-- `KEYPROG` (R709). -/
def execKeyprog (target : Byte) (payload : List Byte) (s : State) : Res :=
  s.onDev (·.tapOp 0x0B (·.keyProgram target.toNat payload))

/-- `LCADV` (R704). -/
def execLcadv (s : State) : Res := s.onDev (·.tapOp 0x0C (·.lcAdvance))

/-- An operation that OPEN and AUTH reach (R721, R722), behind what the current Batch has done so far. -/
def Device.tapOpen (d : Device) (ir : BitVec 5) (f : Device → Device) : Device :=
  d.tapOp ir fun d => d.when d.portOpen fun d => f d.catchUp

/-- `DBG_HALT` (R722, R724). -/
def execDbgHalt (haltA haltB : Bool) (s : State) : Res := s.onDev (·.tapOpen 0x08 (·.halt haltA haltB))

/-- `DBG_WDHALT` (R170, R722). -/
def execDbgWdhalt (on : Bool) (s : State) : Res :=
  s.onDev (·.tapOpen 0x08 (·.updSec fun x => { x with wdhalt := on }))

/-- `DBG_ATTACH` (R725). -/
def execDbgAttach (on : Bool) (s : State) : Res := s.onDev (·.tapOpen 0x08 (·.attachWrite on))

/-- `DBG_CHAL_REQ` (R715): every level reaches it. -/
def execDbgChalReq (s : State) : Res := s.onDev (·.tapOp 0x08 (·.updSec fun x => { x with chalReq := true }))

/-- `DBG_DROP` (R710). -/
def execDbgDrop (s : State) : Res := s.onDev (·.tapOpen 0x08 (·.dropLevel))

/-- `DBG_AUTH_SUBMIT` (R715, R723). -/
def execDbgAuthSubmit (response : List Byte) (s : State) : Res :=
  s.onDev (·.tapOp 0x09 (·.respond (slice response 0 32) none))

/-- `DBG_MEM_READ` (R724). -/
def execDbgMemRead (space : Sys2Proof.MemSpace) (addr : Word) (s : State) : Res :=
  s.onDev (·.tapOp 0x0A (·.memRead space addr.toNat))

/-- `DBG_MEM_WRITE` (R724). -/
def execDbgMemWrite (space : Sys2Proof.MemSpace) (addr data : Word) (s : State) : Res :=
  s.onDev (·.tapOp 0x0A (·.memWrite space addr.toNat data))

/-- `DBG_MEM_ERASE` (R724). -/
def execDbgMemErase (space : Sys2Proof.MemSpace) (addr : Word) (s : State) : Res :=
  s.onDev (·.tapOp 0x0A (·.memErase space addr.toNat))

/-! ### Lifecycle, challenges and attaches in time (R704, R716, R717, R725) -/

/-- Both copies are programmed: BLANK's advance is followed by the chip restart at once, the others by the edge that
ends the Batch (R704). -/
def Device.advanceEnds (d : Device) (ss : Sys2Proof.StartSense) : Device :=
  match d.sec.advance with
  | some a =>
    if (d.isOpen || d.romHold) = true then
      let d := d.advanceDone a
      if a.req.isNone then d.chipRestart 8 ss else d
    else d
  | none => d

/-- `LIFECYCLE_PROGRAM_DONE` (R702, R704, R731). -/
def execLifecycleProgramDone (ss : Sys2Proof.StartSense) (s : State) : Res := s.onClk (·.advanceEnds ss)

/-- `CHALLENGE_EXPIRY` (R716). -/
def execChallengeExpiry (s : State) : Res :=
  s.onClk fun d => match d.sec.challenge with
    | some c => d.dueAt (c.2 + 10000000) (·.chalExpire)
    | none => d

/-- `AUTH_LOCKOUT_END` (R717). -/
def execAuthLockoutEnd (s : State) : Res :=
  s.onClk fun d => match d.sec.lockEnd with
    | some t => d.dueAt t (·.lockExpire)
    | none => d

/-- The admission of a standing attach is to be made again at the step 4 that follows the next edge (R725). -/
def Device.attachNext (d : Device) : Bool :=
  let t := d.batch.nextEdge
  d.sec.attach && decide (d.sec.level = .auth) &&
    match d.sec.retryAt, d.sec.attHandle with
    | some r, _ => decide (r ≤ t)
    | none, some h => d.priv.larder.reservations.all fun r => r.handle != h || decide (r.stop ≤ t)
    | none, none => false

/-- `ATTACH_RETRY` (R725). -/
def execAttachRetry (s : State) : Res := s.onClk fun d => d.edgeIf (d.isOpen && d.attachNext) (StartSense.plain d)

end Sys2Proof.Machine
end

