-- ==== Sys2Proof/Machine/Dispatch.lean ====
section
/-! DEFINITION. The dispatch of commands: one arm per row of the opcode table. -/
namespace Sys2Proof.Machine

/-- The effect of a command on everything but the queue. -/
def exec (i : Instr) (s : State) : Host.Outcome State Fault Refusal :=
  match i with
  | .por batMv => Sys2Proof.Machine.execPor batMv s
  | .brownOut => Sys2Proof.Machine.execBrownOut s
  | .startGatePass ss => Sys2Proof.Machine.execStartGatePass ss s
  | .startTick sm => Sys2Proof.Machine.execStartTick sm s
  | .restartGraceEnd ss => Sys2Proof.Machine.execRestartGraceEnd ss s
  | .btnRestartHold ss => Sys2Proof.Machine.execBtnRestartHold ss s
  | .bootFloorEnd => Sys2Proof.Machine.execBootFloorEnd s
  | .lodgeEntry => Sys2Proof.Machine.execLodgeEntry s
  | .lodgeAlarm => Sys2Proof.Machine.execLodgeAlarm s
  | .wakeNRequest => Sys2Proof.Machine.execWakeNRequest s
  | .btnNPress => Sys2Proof.Machine.execBtnNPress s
  | .wakeComparatorFire cmp => Sys2Proof.Machine.execWakeComparatorFire cmp s
  | .shipEntry => Sys2Proof.Machine.execShipEntry s
  | .shipBtnHold => Sys2Proof.Machine.execShipBtnHold s
  | .vioGood => Sys2Proof.Machine.execVioGood s
  | .vioLost => Sys2Proof.Machine.execVioLost s
  | .crystalFail => Sys2Proof.Machine.execCrystalFail s
  | .crystalQualify rate => Sys2Proof.Machine.execCrystalQualify rate s
  | .dividerUpdate rate => Sys2Proof.Machine.execDividerUpdate rate s
  | .batchEdge sm ext ss => Sys2Proof.Machine.execBatchEdge sm ext ss s
  | .budgetMark => Sys2Proof.Machine.execBudgetMark s
  | .commitDeadline => Sys2Proof.Machine.execCommitDeadline s
  | .coldHoldEnd => Sys2Proof.Machine.execColdHoldEnd s
  | .keeperRestartDone k romOk => Sys2Proof.Machine.execKeeperRestartDone k romOk s
  | .selfTestDue => Sys2Proof.Machine.execSelfTestDue s
  | .selfTestResult pass ss => Sys2Proof.Machine.execSelfTestResult pass ss s
  | .keeperWdKick k ss => Sys2Proof.Machine.execKeeperWdKick k ss s
  | .keeperWdPeriodWrite k period => Sys2Proof.Machine.execKeeperWdPeriodWrite k period s
  | .keeperWdExpiry k ss => Sys2Proof.Machine.execKeeperWdExpiry k ss s
  | .romLimitExpiry k ss => Sys2Proof.Machine.execRomLimitExpiry k ss s
  | .guestWdExpiry room => Sys2Proof.Machine.execGuestWdExpiry room s
  | .gwdGatingEnd rail => Sys2Proof.Machine.execGwdGatingEnd rail s
  | .sqTailWrite port room value => Sys2Proof.Machine.execSqTailWrite port room value s
  | .cqHeadWrite port room value => Sys2Proof.Machine.execCqHeadWrite port room value s
  | .submissionSlotWrite port room offset bytes => Sys2Proof.Machine.execSubmissionSlotWrite port room offset bytes s
  | .evtFlagsClear port room value => Sys2Proof.Machine.execEvtFlagsClear port room value s
  | .registerWrite port bytes reads => Sys2Proof.Machine.execRegisterWrite port bytes reads s
  | .i2cAddressSet addr => Sys2Proof.Machine.execI2cAddressSet addr s
  | .servicePortGap bytes => Sys2Proof.Machine.execServicePortGap bytes s
  | .digClaimWrite port room value => Sys2Proof.Machine.execDigClaimWrite port room value s
  | .digStart port room hmac slot => Sys2Proof.Machine.execDigStart port room hmac slot s
  | .digFinish port room => Sys2Proof.Machine.execDigFinish port room s
  | .digAbort port room => Sys2Proof.Machine.execDigAbort port room s
  | .digDataWrite port room offset bytes => Sys2Proof.Machine.execDigDataWrite port room offset bytes s
  | .digClaimIdle => Sys2Proof.Machine.execDigClaimIdle s
  | .digClaimMax => Sys2Proof.Machine.execDigClaimMax s
  | .hello r => Sys2Proof.Machine.execHello r s
  | .bye r => Sys2Proof.Machine.execBye r s
  | .ping r => Sys2Proof.Machine.execPing r s
  | .time r => Sys2Proof.Machine.execTime r s
  | .roomQuery r => Sys2Proof.Machine.execRoomQuery r s
  | .roomReset r => Sys2Proof.Machine.execRoomReset r s
  | .pwrQuery r => Sys2Proof.Machine.execPwrQuery r s
  | .pwrFloor r => Sys2Proof.Machine.execPwrFloor r s
  | .pwrLodge r => Sys2Proof.Machine.execPwrLodge r s
  | .pwrShipArm r => Sys2Proof.Machine.execPwrShipArm r s
  | .pwrShipCancel r => Sys2Proof.Machine.execPwrShipCancel r s
  | .pwrRestart r => Sys2Proof.Machine.execPwrRestart r s
  | .railVote r => Sys2Proof.Machine.execRailVote r s
  | .railQuery r => Sys2Proof.Machine.execRailQuery r s
  | .railSched r => Sys2Proof.Machine.execRailSched r s
  | .schedDue id => Sys2Proof.Machine.execSchedDue id s
  | .seqRun r => Sys2Proof.Machine.execSeqRun r s
  | .seqAbort r => Sys2Proof.Machine.execSeqAbort r s
  | .seqDelayEnd => Sys2Proof.Machine.execSeqDelayEnd s
  | .seqWaitTimeout => Sys2Proof.Machine.execSeqWaitTimeout s
  | .chgQuery r => Sys2Proof.Machine.execChgQuery r s
  | .chgSet r => Sys2Proof.Machine.execChgSet r s
  | .chgFaultsRead r => Sys2Proof.Machine.execChgFaultsRead r s
  | .chgFaultsClear r => Sys2Proof.Machine.execChgFaultsClear r s
  | .gaugeQuery r => Sys2Proof.Machine.execGaugeQuery r s
  | .gaugeSetSoc r => Sys2Proof.Machine.execGaugeSetSoc r s
  | .gaugeSetAgeAdd r => Sys2Proof.Machine.execGaugeSetAgeAdd r s
  | .gaugeSetLearnReset r => Sys2Proof.Machine.execGaugeSetLearnReset r s
  | .larderReserve r => Sys2Proof.Machine.execLarderReserve r s
  | .burstPair r => Sys2Proof.Machine.execBurstPair r s
  | .larderRelease r => Sys2Proof.Machine.execLarderRelease r s
  | .larderQuery r => Sys2Proof.Machine.execLarderQuery r s
  | .larderSetTod r => Sys2Proof.Machine.execLarderSetTod r s
  | .larderSetFcReset r => Sys2Proof.Machine.execLarderSetFcReset r s
  | .pathQuery r => Sys2Proof.Machine.execPathQuery r s
  | .dcLimit r => Sys2Proof.Machine.execDcLimit r s
  | .priPulse r => Sys2Proof.Machine.execPriPulse r s
  | .pvSet r => Sys2Proof.Machine.execPvSet r s
  | .kinQuery r => Sys2Proof.Machine.execKinQuery r s
  | .kinSet r => Sys2Proof.Machine.execKinSet r s
  | .kinUser r => Sys2Proof.Machine.execKinUser r s
  | .adcPlan r => Sys2Proof.Machine.execAdcPlan r s
  | .adcGroupSet r => Sys2Proof.Machine.execAdcGroupSet r s
  | .adcGroupTrigger r => Sys2Proof.Machine.execAdcGroupTrigger r s
  | .adcGroupRelease r => Sys2Proof.Machine.execAdcGroupRelease r s
  | .adcRead r => Sys2Proof.Machine.execAdcRead r s
  | .adcReadTimeout id => Sys2Proof.Machine.execAdcReadTimeout id s
  | .digKeyload r => Sys2Proof.Machine.execDigKeyload r s
  | .keystoreWriteDone ok => Sys2Proof.Machine.execKeystoreWriteDone ok s
  | .digQueue r => Sys2Proof.Machine.execDigQueue r s
  | .digQueueTimeout room ident => Sys2Proof.Machine.execDigQueueTimeout room ident s
  | .faultRead r => Sys2Proof.Machine.execFaultRead r s
  | .ledgerRead r => Sys2Proof.Machine.execLedgerRead r s
  | .faultClearSafeHold r => Sys2Proof.Machine.execFaultClearSafeHold r s
  | .faultClearRailHeld r => Sys2Proof.Machine.execFaultClearRailHeld r s
  | .faultClearAllHeld r => Sys2Proof.Machine.execFaultClearAllHeld r s
  | .faultClearBatfet r => Sys2Proof.Machine.execFaultClearBatfet r s
  | .faultClearActive r => Sys2Proof.Machine.execFaultClearActive r s
  | .faultClearLedgerMark r => Sys2Proof.Machine.execFaultClearLedgerMark r s
  | .faultProbe r => Sys2Proof.Machine.execFaultProbe r s
  | .wdSetPeriod r => Sys2Proof.Machine.execWdSetPeriod r s
  | .wdSetClearRestarts r => Sys2Proof.Machine.execWdSetClearRestarts r s
  | .wdQuery r => Sys2Proof.Machine.execWdQuery r s
  | .gwdArm r => Sys2Proof.Machine.execGwdArm r s
  | .wdKick r => Sys2Proof.Machine.execWdKick r s
  | .keeperSwap r => Sys2Proof.Machine.execKeeperSwap r s
  | .keeperQuery r => Sys2Proof.Machine.execKeeperQuery r s
  | .keeperRevive r => Sys2Proof.Machine.execKeeperRevive r s
  | .imageStageOpen r => Sys2Proof.Machine.execImageStageOpen r s
  | .imageStageData r => Sys2Proof.Machine.execImageStageData r s
  | .imageStageClose r => Sys2Proof.Machine.execImageStageClose r s
  | .imageEraseEnd => Sys2Proof.Machine.execImageEraseEnd s
  | .stagedBytesProgrammed => Sys2Proof.Machine.execStagedBytesProgrammed s
  | .imageStageAbandon => Sys2Proof.Machine.execImageStageAbandon s
  | .imageCommitCommit r => Sys2Proof.Machine.execImageCommitCommit r s
  | .imageCommitAbort r => Sys2Proof.Machine.execImageCommitAbort r s
  | .imageQuery r => Sys2Proof.Machine.execImageQuery r s
  | .recipeSelect r => Sys2Proof.Machine.execRecipeSelect r s
  | .recipeSwitch => Sys2Proof.Machine.execRecipeSwitch s
  | .recipeWriteOpen r => Sys2Proof.Machine.execRecipeWriteOpen r s
  | .recipeWriteData r => Sys2Proof.Machine.execRecipeWriteData r s
  | .recipeWriteClose r => Sys2Proof.Machine.execRecipeWriteClose r s
  | .recipeEraseEnd => Sys2Proof.Machine.execRecipeEraseEnd s
  | .recipeWriteAbandon => Sys2Proof.Machine.execRecipeWriteAbandon s
  | .recipeQuery r => Sys2Proof.Machine.execRecipeQuery r s
  | .dbgChallenge r => Sys2Proof.Machine.execDbgChallenge r s
  | .dbgRespondRespond r => Sys2Proof.Machine.execDbgRespondRespond r s
  | .dbgRespondDrop r => Sys2Proof.Machine.execDbgRespondDrop r s
  | .lifecycleAdvance r => Sys2Proof.Machine.execLifecycleAdvance r s
  | .lifecycleProgramDone ss => Sys2Proof.Machine.execLifecycleProgramDone ss s
  | .secQuery r => Sys2Proof.Machine.execSecQuery r s
  | .tapReset => Sys2Proof.Machine.execTapReset s
  | .keyprog target payload => Sys2Proof.Machine.execKeyprog target payload s
  | .lcadv => Sys2Proof.Machine.execLcadv s
  | .dbgHalt haltA haltB => Sys2Proof.Machine.execDbgHalt haltA haltB s
  | .dbgWdhalt on => Sys2Proof.Machine.execDbgWdhalt on s
  | .dbgAttach on => Sys2Proof.Machine.execDbgAttach on s
  | .dbgChalReq => Sys2Proof.Machine.execDbgChalReq s
  | .dbgDrop => Sys2Proof.Machine.execDbgDrop s
  | .dbgAuthSubmit response => Sys2Proof.Machine.execDbgAuthSubmit response s
  | .dbgMemRead space addr => Sys2Proof.Machine.execDbgMemRead space addr s
  | .dbgMemWrite space addr data => Sys2Proof.Machine.execDbgMemWrite space addr data s
  | .dbgMemErase space addr => Sys2Proof.Machine.execDbgMemErase space addr s
  | .challengeExpiry => Sys2Proof.Machine.execChallengeExpiry s
  | .attachRetry => Sys2Proof.Machine.execAttachRetry s
  | .dualRailFault pair cause qual ss => Sys2Proof.Machine.execDualRailFault pair cause qual ss s
  | .lineFault pair high ss => Sys2Proof.Machine.execLineFault pair high ss s
  | .codedMessage msg => Sys2Proof.Machine.execCodedMessage msg s
  | .ledgerEntryWrite => Sys2Proof.Machine.execLedgerEntryWrite s
  | .suppressionHourEnd => Sys2Proof.Machine.execSuppressionHourEnd s
  | .warnExpiry msg => Sys2Proof.Machine.execWarnExpiry msg s
  | .graveExit input => Sys2Proof.Machine.execGraveExit input s
  | .railProofed rail mv => Sys2Proof.Machine.execRailProofed rail mv s
  | .proofFail rail cause mv => Sys2Proof.Machine.execProofFail rail cause mv s
  | .railSag rail mv => Sys2Proof.Machine.execRailSag rail mv s
  | .railTrip rail cause mv => Sys2Proof.Machine.execRailTrip rail cause mv s
  | .thermalWarning sensor => Sys2Proof.Machine.execThermalWarning sensor s
  | .retryRelease rail => Sys2Proof.Machine.execRetryRelease rail s
  | .ladderReset rail => Sys2Proof.Machine.execLadderReset rail s
  | .paSourceSwitch => Sys2Proof.Machine.execPaSourceSwitch s
  | .dcinValid => Sys2Proof.Machine.execDcinValid s
  | .dcinInvalid => Sys2Proof.Machine.execDcinInvalid s
  | .dcOv dcinMv => Sys2Proof.Machine.execDcOv dcinMv s
  | .dockDetectionEnd code cc2 => Sys2Proof.Machine.execDockDetectionEnd code cc2 s
  | .ccLevelChange level => Sys2Proof.Machine.execCcLevelChange level s
  | .vsysOv => Sys2Proof.Machine.execVsysOv s
  | .batfetUvOpen batMv => Sys2Proof.Machine.execBatfetUvOpen batMv s
  | .batfetOcOpen batMv => Sys2Proof.Machine.execBatfetOcOpen batMv s
  | .batfetClose batMv => Sys2Proof.Machine.execBatfetClose batMv s
  | .batfetStuck ma => Sys2Proof.Machine.execBatfetStuck ma s
  | .priLow mv => Sys2Proof.Machine.execPriLow mv s
  | .passivationPulseDue mv => Sys2Proof.Machine.execPassivationPulseDue mv s
  | .priPulseEnd mv => Sys2Proof.Machine.execPriPulseEnd mv s
  | .pvFocvSample voc => Sys2Proof.Machine.execPvFocvSample voc s
  | .pvColdStart => Sys2Proof.Machine.execPvColdStart s
  | .resImbal qual => Sys2Proof.Machine.execResImbal qual s
  | .resOv => Sys2Proof.Machine.execResOv s
  | .reservoirChargeStart => Sys2Proof.Machine.execReservoirChargeStart s
  | .kineticClamp => Sys2Proof.Machine.execKineticClamp s
  | .hallEdge edge time => Sys2Proof.Machine.execHallEdge edge time s
  | .illegalTransition => Sys2Proof.Machine.execIllegalTransition s
  | .counterInterpolate => Sys2Proof.Machine.execCounterInterpolate s
  | .rotorStall => Sys2Proof.Machine.execRotorStall s
  | .twpwrDutySample a b => Sys2Proof.Machine.execTwpwrDutySample a b s
  | .reverseCurrentCut gate => Sys2Proof.Machine.execReverseCurrentCut gate s
  | .qualifyPass batMv => Sys2Proof.Machine.execQualifyPass batMv s
  | .prechargeExit => Sys2Proof.Machine.execPrechargeExit s
  | .cvReached => Sys2Proof.Machine.execCvReached s
  | .chargeTerminate => Sys2Proof.Machine.execChargeTerminate s
  | .topoffEnd => Sys2Proof.Machine.execTopoffEnd s
  | .rechargeStart => Sys2Proof.Machine.execRechargeStart s
  | .zoneChange temp => Sys2Proof.Machine.execZoneChange temp s
  | .harvestChargingPresent => Sys2Proof.Machine.execHarvestChargingPresent s
  | .prechargeTimeout => Sys2Proof.Machine.execPrechargeTimeout s
  | .fastTimeout => Sys2Proof.Machine.execFastTimeout s
  | .batteryRemoved route batMv => Sys2Proof.Machine.execBatteryRemoved route batMv s
  | .chgBatOv batMv => Sys2Proof.Machine.execChgBatOv batMv s
  | .chgOvFetfail batMv => Sys2Proof.Machine.execChgOvFetfail batMv s
  | .chgNtc isShort => Sys2Proof.Machine.execChgNtc isShort s
  | .chgBatid reading => Sys2Proof.Machine.execChgBatid reading s
  | .goneAutoRead => Sys2Proof.Machine.execGoneAutoRead s
  | .gaugeAutozero offset => Sys2Proof.Machine.execGaugeAutozero offset s
  | .gaugeWindow mean batMv batTemp => Sys2Proof.Machine.execGaugeWindow mean batMv batTemp s
  | .shuntComparator => Sys2Proof.Machine.execShuntComparator s
  | .ocvCorrection batMv temp => Sys2Proof.Machine.execOcvCorrection batMv temp s
  | .ageHour => Sys2Proof.Machine.execAgeHour s
  | .gaugeRecordSave => Sys2Proof.Machine.execGaugeRecordSave s
  | .forecastBinUpdate => Sys2Proof.Machine.execForecastBinUpdate s
  | .reservationEnd handle => Sys2Proof.Machine.execReservationEnd handle s
  | .burstStart => Sys2Proof.Machine.execBurstStart s
  | .bgntRise => Sys2Proof.Machine.execBgntRise s
  | .burstEnd => Sys2Proof.Machine.execBurstEnd s
  | .breqRise => Sys2Proof.Machine.execBreqRise s
  | .breqFall => Sys2Proof.Machine.execBreqFall s
  | .adcSetStart group => Sys2Proof.Machine.execAdcSetStart group s
  | .adcSetComplete group codes => Sys2Proof.Machine.execAdcSetComplete group codes s
  | .porRelease batMv test => Sys2Proof.Machine.execPorRelease batMv test s
  | .hrstNHoldThreshold => Sys2Proof.Machine.execHrstNHoldThreshold s
  | .batteryStartCrossing batMv => Sys2Proof.Machine.execBatteryStartCrossing batMv s
  | .aonNodeLoss => Sys2Proof.Machine.execAonNodeLoss s
  | .vsysOvClear => Sys2Proof.Machine.execVsysOvClear s
  | .kineticClampRelease => Sys2Proof.Machine.execKineticClampRelease s
  | .resOvClear => Sys2Proof.Machine.execResOvClear s
  | .resImbalClear => Sys2Proof.Machine.execResImbalClear s
  | .reservoirChargeStop => Sys2Proof.Machine.execReservoirChargeStop s
  | .vsysCeilingCrossing => Sys2Proof.Machine.execVsysCeilingCrossing s
  | .dieCooled => Sys2Proof.Machine.execDieCooled s
  | .thermalWarningClear sensor => Sys2Proof.Machine.execThermalWarningClear sensor s
  | .dualRailReturn pair => Sys2Proof.Machine.execDualRailReturn pair s
  | .harvestChargingCeases => Sys2Proof.Machine.execHarvestChargingCeases s
  | .gaugeSippingEntry => Sys2Proof.Machine.execGaugeSippingEntry s
  | .twpwrHoldEnd => Sys2Proof.Machine.execTwpwrHoldEnd s
  | .reservationStart handle => Sys2Proof.Machine.execReservationStart handle s
  | .authLockoutEnd => Sys2Proof.Machine.execAuthLockoutEnd s

end Sys2Proof.Machine
end

