-- ==== Sys2Proof/Safety.lean ====
section
/-! DEFINITION. The terms in which claims speak: what counts as a safe run, the states in which an event takes place, the
requests that are accepted, and the state after a command's effect. -/
namespace Sys2Proof.Machine

/-- The outcome is a next state. -/
def Res.isNext : Res → Bool
  | .next _ => true
  | _ => false

/-- A step is safe when it answers a next state: the device itself meets every error with a status, a flag or a fault
message. -/
def State.SafeStep (s : State) : Prop := ∃ t, step s = .next t

/-! ### Between commands -/

/-- No Grave message waits for the Grave path: so it is between any two commands (R659). -/
abbrev Device.Calm (d : Device) : Prop := d.faults.graveDue = none

/-- The window RAM and NVM are in canonical form. -/
abbrev Device.MemWf (d : Device) : Prop := memWf zeroByte d.wram = true ∧ memWf nvmDefault d.nvm = true

/-- A coded message as the collector enters it: its class, the time in whole seconds and the writer context (R647, R664). -/
def Device.stamped (d : Device) (m : Word) (c : Cls) : FaultMsg :=
  { msg := m, cls := c, pair := false, line := false, ticket := d.faults.tickets, time := d.now / 1000000,
    ctx := d.writerCtx }

/-- A message stands in the collector's FIFO (R648). -/
abbrev Device.Said (d : Device) (m : Word) : Prop := ∃ x ∈ d.faults.fifo, x.msg = m

/-- `s` with device `d`. -/
def State.put (s : State) (d : Device) : State := { s with dev := d }

/-- `s` after a command whose effect leaves device `d` and which takes no time: the Grave path follows where the effect
accepted a Grave message (R659), and the Batch timer is as before. -/
def State.onto (s : State) (d : Device) : State := { s with dev := { d.finish with batch := s.dev.batch } }

/-- `s` after a command whose effect leaves device `d` and which may move time on (R136). -/
def State.clocked (s : State) (d : Device) : State :=
  { s with dev := { d.finish with batch := { d.finish.batch with time := max s.dev.batch.time d.finish.batch.time } } }

/-- The device once an instant has come: time moved on to it, and the marks of the Batch that it has passed behind it (R137). -/
def Device.arrive (d : Device) (t : Nat) : Device := (d.moveTo t).catchUp

/-- An instant of the running Batch that has not passed, before its edge and with no mark of the Batch still to come before it. -/
abbrev Device.Comes (d : Device) (t : Nat) : Prop :=
  d.power.phase.batchRuns = true ∧ d.batch.time ≤ t ∧ t ≤ d.batch.nextEdge ∧
    (d.budgetTime ≤ t → d.sup.budgetPassed = true) ∧ (d.deadlineTime ≤ t → d.sup.deadlinePassed = true)

/-- An instant of the running Batch before its edge, whether it has passed or not: by the later of it and the present one no mark of
the Batch is still to come. -/
abbrev Device.Meets (d : Device) (t : Nat) : Prop :=
  d.power.phase.batchRuns = true ∧ t ≤ d.batch.nextEdge ∧
    (d.budgetTime ≤ max d.batch.time t → d.sup.budgetPassed = true) ∧
    (d.deadlineTime ≤ max d.batch.time t → d.sup.deadlinePassed = true)

/-- Every mark of the Batch up to the present instant has passed. -/
abbrev Device.Caught (d : Device) : Prop :=
  (d.budgetTime ≤ d.now → d.sup.budgetPassed = true) ∧ (d.deadlineTime ≤ d.now → d.sup.deadlinePassed = true)

/-- How a keeper `k` that has its image enters its standby role from a device `d` (R157, R168, R191, R219): COLD where the pair is cold,
else HOT with the latest committed checkpoint where that verifies, and until then it waits. -/
def Device.Joins (d : Device) (cold : Bool) (k : Sys2Proof.Keeper) (e : Device) : Prop :=
  let c := d.ckpt d.keepers.ckptBuffer
  let x := e.keeper k
  (cold = true → x.role = .standbyCold ∧ x.offUse = .nothing) ∧
  (cold = false → c.verifies = true → x.role = .standbyHot ∧ x.offUse = .nothing ∧ x.hot = some c.batch) ∧
  (cold = false → c.verifies = false → x.role = (d.keeper k).role ∧ x.offUse = .absorbing)

/-- What a tick of step 8 does before its interval, where no set waits to be applied (R135, R391): 1,000 µs of the KEEP clock pass,
the sensors are read, rails follow their targets and are sampled, and the gauge counts. -/
def Device.afterTick (d : Device) (sm : Sys2Proof.Sample) : Device :=
  let x := d.tickOn.sampled sm
  ((x.railsEdge x.now).railsMeasure sm).gaugeEdge sm 1000

/-- The device at the edge that ends the current Batch, before anything begins: the former Batch closed, time moved, published
targets applied, and watchdogs and self-test counted (R137). -/
def Device.atEdge (d : Device) (ss : Sys2Proof.StartSense) : Device :=
  ((((d.closeBatch).moveTo d.batch.nextEdge).applyShadow).wdEdge ss).selfTestLate ss

/-- A command that names an event of the coming edge: where `due` holds, its next state is that edge's, with the last sample and
full work; where it does not, nothing happens (log entry 33). -/
def State.EdgeEvent (s : State) (i : Sys2Proof.Instr) (due : Bool) : Prop :=
  (due = true → ∃ t, exec i s = .next t ∧ exec (.batchEdge s.dev.sample .full (StartSense.plain s.dev)) s = .next t) ∧
  (due = false → exec i s = .next s)

/-- The edge that a frame or a request meets where it comes exactly at it (R25, R272). -/
def Device.tickEdge (d : Device) : Device := d.batchEdge d.sample .full (StartSense.plain d)

/-- Room `n` is bound to port `p`, which is active, and served through it (R51, R236, R286), and no edge comes at this instant. -/
abbrev Device.Reaches (d : Device) (p : Sys2Proof.Port) (n : RoomId) : Prop :=
  d.portActive p = true ∧ (d.rooms.get n).boundTo p = true ∧ d.roomServed n = true ∧ d.atTick = false

/-! ### Requests (R245, R313, R319, R327, R330) -/

/-- The number of a request row's request. -/
def Req.ident (r : Sys2Proof.Req) : ReqId := { room := r.room, tag := r.tag, seq := r.seq }

/-- Its argument area: 56 bytes, 0 beyond `len` (R312). -/
def Req.area (r : Sys2Proof.Req) : List Byte := slice (slice r.args 0 (min r.len 56)) 0 56

/-- The device in which an accepted request is executed: it has passed through its Room's ring (R299), its record is in the table and
WAITING, and a once-only command's intent is open (R322, R337). -/
def Device.begun (d : Device) (c : Cmd) (r : Sys2Proof.Req) : Device :=
  ((d.enterRec (Req.hdr r c.op) (fingerprint (Req.hdr r c.op))).ringPass r c.op).updRec (Req.ident r) fun x =>
    { x with st := .waiting, execBatch := some d.batch.number,
             intent := if c.once (Req.area r) then .open false else .none }

/-- A request meets no obstacle at intake and begins in the current Batch: the active keeper serves, nothing of its Room stands
before it, the slot is well-formed, its Room is Open, nothing matches it, quota, checks and argument blocks let it in, and what its
arguments name still holds as it begins. -/
abbrev Device.Accepts (d : Device) (c : Cmd) (r : Sys2Proof.Req) : Prop :=
  (d.takesNow r.room = true ∧ d.romHold = false) ∧
  ((Req.hdr r c.op).wellFormed = true ∧
    (((d.rooms.get r.room).st = .opened ∧ (d.rooms.get r.room).closing = none) ∨ c.op = 0)) ∧
  (d.dedupAnswer (Req.hdr r c.op) (fingerprint (Req.hdr r c.op))).isNone = true ∧
  (quotaFree c.op = true ∨ d.held r.room < (d.rooms.get r.room).quota) ∧
  c.check d (Req.hdr r c.op) = none ∧
  (r.len = 0 ∨ d.blocks r.room < 128) ∧
  (bit r.flags.toNat 0 = true → ∀ x ∈ d.reqs.recs, x.id.room = r.room → x.st = .done) ∧
  (d.keepers.busy = true → busyRefused c.op = false) ∧
  c.argsOk (d.begun c r) r.room (Req.area r) = true

/-- A device with a command's answer applied: a final completion, or a record that waits, with or without an interim one. -/
def settled (id : ReqId) (x : Device × Answer) : Device :=
  match x with
  | (y, .done st res slid dup) => y.complete id st res slid dup
  | (y, .wait keep i) => y.updRec id fun r => { r with wait := keep, intent := i }
  | (y, .accept res keep i) => (y.updRec id fun r => { r with wait := keep, intent := i }).interim id res
  | (y, .gone) => y

/-- `s` after an accepted request whose execution has effect `e`; the rest of the Batch's work follows at its marks (log
entry 12). -/
def State.served (s : State) (c : Cmd) (r : Sys2Proof.Req) (e : Device → ReqId → List Byte → Device) : State :=
  s.onto (e (s.dev.begun c r) (Req.ident r) (Req.area r))

end Sys2Proof.Machine
end

