-- ==== Sys2Proof/Certificates/Slice0/Obligations.lean ====
section
/-! DEFINITION. The statements for the provers: over every state and operand that their hypotheses admit. -/

open Sys2Proof Sys2Proof.Machine

/-! ### The queue, time and the whole machine -/

/-- A step on the front command is that command's execution with the queue's rest. -/
def Obligations.StepRunsFront : Prop :=
  ∀ (c : Instr) (s : State) (rest : List Instr),
    step { s with pending := c :: rest } = exec c { s with pending := rest }

/-- On an empty queue time passes (log entry 10, the model's choice): none in POR, SHIP and SEALED; 1 µs while the Batch runs, with
the mark of the Batch that it reaches, and none beyond the Batch's end edge, which a command takes; one period of the KEEP clock,
15,625/512 µs, while the Batch is stopped and no tick paces the device. Where no mark comes, nothing but time and the charger's
timers changes. -/
def Obligations.EmptyQueueLetsTimePass : Prop :=
  ∀ s : State, s.pending = [] → s.dev.Calm →
    (s.dev.power.phase = .por ∨ s.dev.power.phase = .ship ∨ s.dev.power.phase = .sealed → step s = .next s) ∧
    (s.dev.power.phase.batchRuns = true → s.dev.now < s.dev.batch.nextEdge →
      step s = .next (s.clocked (s.dev.arrive (s.dev.now + 1)))) ∧
    (s.dev.Comes (s.dev.now + 1) →
      ∃ t, step s = .next t ∧ t.pending = [] ∧ t.dev.now = s.dev.now + 1 ∧
        t.dev = { s.dev with batch := { s.dev.batch with time := s.dev.now + 1 }, chg := t.dev.chg } ∧
        t.dev.chg.phase = s.dev.chg.phase) ∧
    (s.dev.power.phase.batchRuns = true → s.dev.now = s.dev.batch.nextEdge → s.dev.sup.budgetPassed = true →
      s.dev.sup.deadlinePassed = true → step s = .next s) ∧
    (s.dev.power.phase = .gate ∨ s.dev.power.phase = .lodge ∨ s.dev.power.phase = .dark →
      ∃ t, step s = .next t ∧ t.pending = [] ∧ t.dev.batch.timeFrac < 512 ∧
        512 * t.dev.now + t.dev.batch.timeFrac = 512 * s.dev.now + s.dev.batch.timeFrac + 15625 ∧
        t.dev.power = s.dev.power ∧ t.dev.rails = s.dev.rails ∧ t.dev.rooms = s.dev.rooms ∧ t.dev.nvm = s.dev.nvm)

/-- Every command completes, and leaves the queue's rest as it was: the device answers every error in its own state. -/
def Obligations.EveryCommandCompletes : Prop :=
  ∀ (i : Instr) (s : State), ∃ t, exec i s = .next t ∧ t.pending = s.pending

/-- Device time never decreases but at POR (R136). -/
def Obligations.DeviceTimeNeverDecreases : Prop :=
  (∀ (i : Instr) (s t : State), (∀ mv, i ≠ .por mv) → (∀ mv h, i ≠ .porRelease mv h) → exec i s = .next t →
    s.dev.now ≤ t.dev.now) ∧
  (∀ s t : State, s.pending = [] → step s = .next t → s.dev.now ≤ t.dev.now)

/-- A Grave message never outlives the command that accepted it (R659): from any state in which none waits, a step leaves none
waiting. -/
def Obligations.GraveNeverOutstanding : Prop :=
  ∀ s t : State, s.dev.Calm → step s = .next t → t.dev.Calm

/-- From any state whose window RAM and NVM are in canonical form (addresses strictly rising, no entry equal to what an
unlisted address reads as), a step leaves them so, whatever it writes, erases or resets. -/
def Obligations.MemoryStaysCanonical : Prop :=
  ∀ s t : State, s.dev.MemWf → step s = .next t → t.dev.MemWf

/-- After reset, which is a delivered device before its first POR release (log entry 1, the model's choice where the spec
gives no value): no Grave message waits, memory is canonical, the queue is empty, the device is unpowered with device time 0,
every Room is Closed, no request is held, both latches are clear, and the lifecycle is BLANK with its debug level OPEN. -/
def Obligations.ResetIsQuiet : Prop :=
  State.reset.pending = [] ∧ State.reset.dev.Calm ∧ State.reset.dev.MemWf ∧
  State.reset.dev.power.phase = .por ∧ State.reset.dev.now = 0 ∧ State.reset.dev.batch.number = 0 ∧
  State.reset.dev.power.shipLatch = false ∧ State.reset.dev.power.sealedLatch = false ∧
  (∀ n, (State.reset.dev.rooms.get n).st = .closed) ∧ State.reset.dev.reqs.recs = [] ∧
  State.reset.dev.faults.fifo = [] ∧ State.reset.dev.faults.active = [] ∧ State.reset.dev.lifecycle = 0 ∧
  State.reset.dev.sec.level = .opened

/-! ### Faults (chapter 19) -/

/-- No message's class lies below the floor of its kind, and only the kinds whose floor is C4 are Grave (R652). -/
def Obligations.ClassNeverBelowItsFloor : Prop :=
  ∀ (d : Device) (m : Word),
    (kindClasses (msgSource m) (msgKind m) (msgQual m)).1 ≤ (d.classify m).code ∧
    (d.classify m = .grave → (kindClasses (msgSource m) (msgKind m) (msgQual m)).1 = 4)

/-- A coded message is classified and its class's reactions are taken (R643, R647 to R649, R653, R656): from C1 on, the event
flag FAULT of every Room that is not Closed; C3 enters Safe Hold; C0 touches no Room and no active entry. -/
def Obligations.CodedMessageTakesItsClass : Prop :=
  ∀ (s : State) (m : Word), s.dev.Calm →
    (s.dev.collecting = false → exec (.codedMessage m) s = .next s) ∧
    (s.dev.collecting = true → s.dev.classify m ≠ .grave →
      ∃ t, exec (.codedMessage m) s = .next t ∧ t.pending = s.pending ∧
        (s.dev.faults.fifo.length < 64 → (s.dev.classify m = .hold → s.dev.faults.safeHold = true) →
          t.dev.faults.fifo = s.dev.faults.fifo ++ [s.dev.stamped m (s.dev.classify m)]) ∧
        (s.dev.classify m = .note → t.dev.faults.active = s.dev.faults.active ∧ t.dev.rooms = s.dev.rooms) ∧
        (s.dev.classify m ≠ .note → ∀ n, (t.dev.rooms.get n).evFlags =
          if (s.dev.rooms.get n).st = .closed then (s.dev.rooms.get n).evFlags
          else (s.dev.rooms.get n).evFlags ||| 8) ∧
        (s.dev.classify m = .hold → t.dev.faults.safeHold = true) ∧
        (s.dev.classify m ≠ .hold → t.dev.faults.safeHold = s.dev.faults.safeHold) ∧
        t.dev.nvm = s.dev.nvm ∧ t.dev.wram = s.dev.wram ∧ t.dev.power = s.dev.power ∧ t.dev.rails = s.dev.rails ∧
        t.dev.priv = s.dev.priv ∧ t.dev.reqs = s.dev.reqs ∧ t.dev.batch = s.dev.batch)

/-- A Grave message (R659): its Ledger entry is written past the FIFO, everything turns off, and the SEALED latch holds the
device with `FLT.grave_wake` latched beside it. -/
def Obligations.GraveMessageSeals : Prop :=
  ∀ (s : State) (m : Word), s.dev.Calm → s.dev.collecting = true → s.dev.classify m = .grave →
    ∃ t, exec (.codedMessage m) s = .next t ∧
      t.dev.power.phase = .sealed ∧ t.dev.power.sealedLatch = true ∧
      t.dev.faults.graveWake = s.dev.fn Fld.fltGraveWake ∧ t.dev.faults.graveLow = !s.dev.path.dcValid ∧
      t.dev.faults.fifo = [] ∧ t.dev.faults.slot = (s.dev.faults.slot % 8192 + 1) % 8192 ∧
      t.dev.nvm = (s.dev.ledgerWrite (s.dev.stamped m .grave) true).nvm ∧
      (∀ r, (t.dev.rails.rails.get r).st = .off) ∧ (∀ n, (t.dev.rooms.get n).st = .closed) ∧
      t.dev.keys.slots = s.dev.keys.slots

/-- The FIFO holds 64 messages (R648, R650): a message that finds room stands last; with none, one of C0 or C1 is lost, and
one of C2 or C3 takes the place of the newest C0 or C1 message where there is one. The active table (R654) never holds more
than 32 entries; a message already there adds none, a C0 message changes nothing, and a message that finds space or an entry
to displace is there afterwards. -/
def Obligations.CollectorKeepsItsBounds : Prop :=
  (∀ (f : Faults) (m : FaultMsg), f.fifo.length ≤ 64 →
    (f.enqueue m).fifo.length ≤ 64 ∧
    (f.fifo.length < 64 → (f.enqueue m).fifo = f.fifo ++ [m] ∧ (f.enqueue m).lost = f.lost) ∧
    (f.fifo.length = 64 → (f.enqueue m).lost = f.lost + 1) ∧
    (f.fifo.length = 64 → m.cls.code ≤ 1 → (f.enqueue m).fifo = f.fifo) ∧
    (f.fifo.length = 64 → 2 ≤ m.cls.code → (∀ x ∈ f.fifo, 2 ≤ x.cls.code) → (f.enqueue m).fifo = f.fifo) ∧
    (∀ a b x, f.fifo.length = 64 → 2 ≤ m.cls.code → f.fifo = a ++ x :: b → x.cls.code ≤ 1 → (∀ y ∈ b, 2 ≤ y.cls.code) →
      (f.enqueue m).fifo = a ++ b ++ [m])) ∧
  (∀ (f : Faults) (m : FaultMsg) (b : BitVec 48) (now : Nat),
    (f.active.length ≤ 32 → (f.activate m b now).active.length ≤ 32) ∧
    (m.cls = .note → (f.activate m b now).active = f.active) ∧
    (m.cls ≠ .note → (∃ a ∈ f.active, a.msg = m.msg) → (f.activate m b now).active.length = f.active.length) ∧
    (m.cls ≠ .note → (f.active.length < 32 ∨ (∃ a ∈ f.active, a.msg = m.msg) ∨
        (∃ a ∈ f.active, a.cls.code ≤ if m.cls = .warn then 1 else 2)) →
      ∃ a ∈ (f.activate m b now).active, a.msg = m.msg ∧ a.cls = m.cls ∧ a.time = now))

/-- The Ledger writer takes the first message of the FIFO (R649, R666): its entry is programmed at the next slot under the
next sequence number, or its kind's limit of the hour suppresses it and nothing is programmed. -/
def Obligations.LedgerWriterTakesOneMessage : Prop :=
  ∀ (s : State) (m : FaultMsg) (rest : List FaultMsg), s.dev.Calm → s.dev.MemWf → s.dev.writerOn = true →
    s.dev.faults.fifo = m :: rest → s.dev.faults.lost = 0 → s.dev.faults.slot < 8192 →
    (rateAllows (s.dev.fn Fld.fltRate) (rateOf s.dev.faults.rates (msgSource m.msg) (msgKind m.msg)) m = true →
      m.msg.toNat / 2 ^ 16 ≠ 0x1301 → s.dev.faults.seq.toNat < 0xFFFFFFFE →
      ∃ t, exec .ledgerEntryWrite s = .next t ∧ t.dev.faults.fifo = rest ∧ t.dev.faults.seq = s.dev.faults.seq + 1 ∧
        t.dev.faults.slot = (s.dev.faults.slot + 1) % 8192 ∧
        t.dev.nvmRead (ledgerAddr s.dev.faults.slot) 16 =
          ledgerBytes (s.dev.faults.seq + 1) m.msg m.time s.dev.faults.epoch (ledgerInfo m false) ∧
        t.dev.rooms = s.dev.rooms ∧ t.dev.reqs = s.dev.reqs ∧ t.dev.priv = s.dev.priv ∧ t.dev.wram = s.dev.wram) ∧
    (rateAllows (s.dev.fn Fld.fltRate) (rateOf s.dev.faults.rates (msgSource m.msg) (msgKind m.msg)) m = false →
      ∃ t, exec .ledgerEntryWrite s = .next t ∧ t.dev.faults.fifo = rest ∧ t.dev.faults.seq = s.dev.faults.seq ∧
        t.dev.nvm = s.dev.nvm ∧
        (rateOf t.dev.faults.rates (msgSource m.msg) (msgKind m.msg)).suppressed =
          (rateOf s.dev.faults.rates (msgSource m.msg) (msgKind m.msg)).suppressed + 1)

/-- Two times of the collector: a C1 entry clears 10 s after its latest occurrence, behind the marks of the Batch before that instant
(R653), and at the end of an hour of the rate limit its counts begin anew, each kind that it counted having its SUPPRESSED entry
(R666). Before its time neither happens. -/
def Obligations.CollectorTimesRunOut : Prop :=
  (∀ (s : State) (msg : Word) (a : ActiveEntry), s.dev.Calm →
    s.dev.faults.active.find? (fun x => x.msg == msg && decide (x.cls = .warn)) = some a →
    (s.dev.reaches (a.time + 10000000) = true →
      exec (.warnExpiry msg) s = .next (s.clocked ((s.dev.arrive (a.time + 10000000)).updFaults fun f =>
        { f with active := f.active.filter fun x => !(x.msg == msg && decide (x.cls = .warn)) }))) ∧
    (s.dev.Comes (a.time + 10000000) →
      exec (.warnExpiry msg) s = .next (s.put ((s.dev.moveTo (a.time + 10000000)).updFaults fun f =>
        { f with active := f.active.filter fun x => !(x.msg == msg && decide (x.cls = .warn)) }))) ∧
    (s.dev.reaches (a.time + 10000000) = false → exec (.warnExpiry msg) s = .next s)) ∧
  (∀ s : State, s.dev.Calm → s.dev.writerOn = true → s.dev.reaches (s.dev.faults.hourStart + 3600000000) = false →
    exec .suppressionHourEnd s = .next s) ∧
  (∀ s : State, s.dev.Calm → s.dev.writerOn = true → s.dev.Comes (s.dev.faults.hourStart + 3600000000) →
    ∃ t, exec .suppressionHourEnd s = .next t ∧ t.dev.now = s.dev.faults.hourStart + 3600000000 ∧
      t.dev.faults.rates = [] ∧ t.dev.faults.hourStart = s.dev.faults.hourStart + 3600000000 ∧
      t.dev.faults.fifo = s.dev.faults.fifo ∧
      ((∀ r ∈ s.dev.faults.rates, r.suppressed = 0) → t.dev.nvm = s.dev.nvm ∧ t.dev.faults.seq = s.dev.faults.seq))

/-- A dual-rail pair's change into fault (R644, R645): the pair is treated as reporting fault and its kind is raised, once; a
pair already so raises nothing again. For pairs that only report, the message is the whole effect. The die (R646): DIE_OT
trips every rail but LDO5 that is on, DIE_COOLED ends the hold; and a pair held in state 00 or 11 raises LINE_FAULT with its
number and is treated as reporting fault (R644). -/
def Obligations.PairsDieAndLinesRaise : Prop :=
  (∀ (s : State) (p : Fin 24) (cause qual : Half) (ss : StartSense), s.dev.Calm →
    (s.dev.collecting = false → exec (.dualRailFault p cause qual ss) s = .next s) ∧
    (s.dev.collecting = true → (s.dev.faults.pairs.get p).treated = true →
      exec (.dualRailFault p cause qual ss) s = .next (s.put (s.dev.pairWires p true false true))) ∧
    (s.dev.collecting = true → (s.dev.faults.pairs.get p).treated = false → 6 ≤ p.val → p.val < 19 →
      exec (.dualRailFault p cause qual ss) s = .next (s.clocked ((s.dev.pairWires p true false true).raisePair
        (pairMessage p.val (s.dev.pairCause p cause.toNat) qual.toNat)))) ∧
    (exec (.dualRailReturn p) s = .next (s.put (s.dev.pairWires p false true false)))) ∧
  ((∀ (s : State) (cause qual : Half) (ss : StartSense), s.dev.Calm → s.dev.collecting = true →
    (s.dev.faults.pairs.get 19).treated = false → s.dev.dieAgain = false →
    ∃ t, exec (.dualRailFault 19 cause qual ss) s = .next t ∧ t.dev.faults.dieHot = true ∧
      t.dev.faults.dieTime = some s.dev.now ∧ (t.dev.faults.pairs.get 19).treated = true ∧
      ∀ r, r.val ≠ 8 → (s.dev.railSt r).isOn = true → (t.dev.railSt r).isOn = false ∧ (t.dev.rails.rails.get r).lastTrip = 6) ∧
  (∀ s : State, s.dev.Calm → exec .dieCooled s = .next (s.put (s.dev.updFaults fun f => { f with dieHot := false }))) ∧
  (∀ (s : State) (p : Fin 24) (high : Bool) (ss : StartSense), s.dev.Calm → s.dev.collecting = true →
    s.dev.pairCut p = false → (s.dev.faults.pairs.get p).treated = true →
    exec (.lineFault p high ss) s = .next (s.clocked ((s.dev.pairWires p high high true).raiseAs
      (coded 0x0F 1 (p.val + 0x8000 * b2n high)) true true (s.dev.now / 1000000)))) ∧
  (∀ (s : State) (p : Fin 24) (high : Bool) (ss : StartSense), s.dev.Calm → s.dev.collecting = true →
    s.dev.pairCut p = false → (s.dev.faults.pairs.get p).treated = false → 14 ≤ p.val → p.val < 19 →
    ∃ t, exec (.lineFault p high ss) s = .next t ∧ t.dev.faults.pairs.get p = { wireT := high, wireC := high, treated := true } ∧
      t.dev.power.phase = s.dev.power.phase))

/-! ### Power, resets and wake events (chapters 02 and 03) -/

/-- POR (R104, R105, R112, R113): from every state but POR, SHIP and SEALED the device falls to POR with device time 0, its
Rooms Closed and its requests gone; NVM, the key store and the Ledger's place stand; the AON node holds the battery FET: SUPPLY
from 2.20 V on `BAT` on, OFF below. SHIP and SEALED hold. In POR (R59, R65, R104, R105): a fall below the threshold releases
`HRST_N`; POR release begins the start gate with `TEST` sampled, `HRST_N` driven low and the Batch timer at 0; VSYS at 1.20 V
drives `HRST_N` low; `BAT` crossing the battery-start threshold moves the battery FET. The latches clear only by their events
(R101, R661, R662): `BTN_N`, while the AON node has 1.5 V (R37), clears SHIP; a qualifying input clears SEALED once the inputs have
been absent; and the loss of the AON node clears either. Each leads to POR, in which the AON node holds the FET. -/
def Obligations.PorAndTheLatches : Prop :=
  (∀ (d : Device) (mv : Nat), d.aonFet mv = { d with
    path := { d.path with fet := if 2200 ≤ mv then .supply else .off, fetCause := if 2200 ≤ mv then 0 else 1 },
    power := { d.power with aonMv := mv } }) ∧
  (∀ (s : State) (mv : Nat),
    (s.dev.power.phase = .ship ∨ s.dev.power.phase = .sealed → exec (.por mv) s = .next s) ∧
    (s.dev.power.phase = .por → exec (.por mv) s = .next (s.put ((s.dev.updPins fun p =>
      { p with hrstPowered := false, hrstLow := false }).aonFet mv))) ∧
    (s.dev.power.phase ≠ .ship → s.dev.power.phase ≠ .sealed → s.dev.power.phase ≠ .por →
      ∃ t, exec (.por mv) s = .next t ∧ t.dev.power.phase = .por ∧ t.dev.now = 0 ∧ t.dev.power.resetCause = 1 ∧
        t.dev.path.fet = (if 2200 ≤ mv then .supply else .off) ∧
        t.dev.nvm = s.dev.nvm ∧ t.dev.cfg = s.dev.cfg ∧ t.dev.keys.slots = s.dev.keys.slots ∧
        t.dev.faults.seq = s.dev.faults.seq ∧ t.dev.faults.slot = s.dev.faults.slot ∧
        t.dev.pins.vioGood = s.dev.pins.vioGood ∧ t.dev.path.dcValid = s.dev.path.dcValid ∧
        (∀ n, (t.dev.rooms.get n).st = .closed) ∧ t.dev.reqs.recs = [] ∧ t.dev.faults.fifo = [] ∧
        (∀ r, (t.dev.rails.rails.get r).st = .off) ∧ t.dev.wram = [] ∧ t.pending = s.pending)) ∧
  (∀ (s : State) (mv : Nat) (h : Bool),
    (s.dev.power.phase ≠ .por → exec (.porRelease mv h) s = .next s) ∧
    (s.dev.power.phase = .por →
      (∃ t, exec (.porRelease mv h) s = .next t ∧ t.dev.power.phase = .gate ∧ t.dev.power.testHigh = h ∧
        t.dev.pins.hrstLow = true ∧ t.dev.pins.hrstPowered = true ∧ t.dev.path.pvCold = false ∧
        t.dev.path.fet = (if 2200 ≤ mv then .supply else .off) ∧ t.dev.now = 0 ∧ t.dev.batch.number = 0 ∧
        t.dev.rooms = s.dev.rooms ∧ t.dev.nvm = s.dev.nvm ∧ t.dev.faults = s.dev.faults) ∧
      (s.dev.Calm → exec .hrstNHoldThreshold s = .next (s.put (s.dev.updPins fun p =>
        { p with hrstPowered := true, hrstLow := true }))) ∧
      (s.dev.Calm → exec (.batteryStartCrossing mv) s = .next (s.put (s.dev.aonFet mv))))) ∧
  (∀ s : State, s.dev.Calm →
    (s.dev.power.phase = .ship → 1500 ≤ s.dev.power.aonMv → exec .shipBtnHold s = .next (s.put ((s.dev.updPower fun p =>
      { p with phase := .por, shipLatch := false, resetCause := 7 }).aonFet s.dev.power.aonMv))) ∧
    (s.dev.power.phase ≠ .ship ∨ s.dev.power.aonMv < 1500 → exec .shipBtnHold s = .next s) ∧
    (s.dev.power.phase = .ship ∨ s.dev.power.phase = .sealed → exec .aonNodeLoss s = .next (s.put ((s.dev.updPower fun p =>
      { p with phase := .por, shipLatch := false, sealedLatch := false, resetCause := 1 }).aonFet 0))) ∧
    (s.dev.power.phase = .por → exec .aonNodeLoss s = .next (s.put (s.dev.aonFet 0))) ∧
    (s.dev.power.phase ≠ .ship → s.dev.power.phase ≠ .sealed → s.dev.power.phase ≠ .por →
      exec .aonNodeLoss s = .next (s.put (s.dev.updPower fun p => { p with aonMv := 0 }))) ∧
    (s.dev.power.phase = .sealed → s.dev.faults.graveLow = true → s.dev.path.dcValid = true →
      exec (.graveExit .dcin) s = .next (s.put ((s.dev.updPower fun p =>
        { p with phase := .por, sealedLatch := false, resetCause := 1, graveExit := 1 }).aonFet s.dev.power.aonMv))) ∧
    (s.dev.power.phase = .sealed → s.dev.faults.graveLow = true → s.dev.faults.graveWake = 1 →
      exec (.graveExit .pv) s = .next (s.put ((s.dev.updPower fun p =>
        { p with phase := .por, sealedLatch := false, resetCause := 1, graveExit := 2 }).aonFet s.dev.power.aonMv)) ∧
      exec (.graveExit .kinetic) s = .next (s.put ((s.dev.updPower fun p =>
        { p with phase := .por, sealedLatch := false, resetCause := 1, graveExit := 3 }).aonFet s.dev.power.aonMv))) ∧
    (s.dev.power.phase ≠ .sealed ∨ s.dev.faults.graveLow = false ∨ s.dev.faults.graveWake ≠ 1 →
      exec (.graveExit .pv) s = .next s ∧ exec (.graveExit .kinetic) s = .next s) ∧
    (s.dev.power.phase ≠ .sealed ∨ s.dev.faults.graveLow = false ∨ s.dev.path.dcValid = false →
      exec (.graveExit .dcin) s = .next s))

/-- A brown-out (R80, R108, R113) returns a started device to the start gate with reset cause 2: Rooms Closed, requests and every
rail but LDO5 off, `HRST_N` low, and no Recipe in force, so that PG0 to PG3 are low; NVM and device time stand, and, where it raises
no message of its own, Safe Hold has ended and the FIFO is as before. A dark device loses its rails. In POR, SHIP and SEALED there
is nothing to reset. -/
def Obligations.BrownOutReturnsToTheGate : Prop :=
  ∀ s : State, s.dev.Calm →
    (s.dev.power.phase = .por ∨ s.dev.power.phase = .ship ∨ s.dev.power.phase = .sealed → exec .brownOut s = .next s) ∧
    (s.dev.power.phase = .dark → ∃ t, exec .brownOut s = .next t ∧ t.dev.power = s.dev.power ∧ t.dev.nvm = s.dev.nvm ∧
      ∀ r, r.val ≠ 8 → (t.dev.rails.rails.get r).st = .off) ∧
    (s.dev.collecting = true → s.dev.power.phase ≠ .dark →
      ∃ t, exec .brownOut s = .next t ∧ t.dev.power.phase = .gate ∧ t.dev.power.resetCause = 2 ∧
        t.dev.power.gateSince = s.dev.now ∧ t.dev.pins.hrstLow = true ∧ t.dev.pins.pgHeld = true ∧ t.dev.rcp.inForce = none ∧
        (∀ n, (t.dev.rooms.get n).st = .closed) ∧ t.dev.reqs.recs = [] ∧
        (∀ r, r.val ≠ 8 → (t.dev.rails.rails.get r).st = .off) ∧
        (t.dev.rails.rails.get 8).st = (s.dev.rails.rails.get 8).st ∧
        (t.dev.rails.rails.get 8).mv = (s.dev.rails.rails.get 8).mv ∧
        t.dev.nvm = s.dev.nvm ∧ t.dev.now = s.dev.now ∧
        (s.dev.kin.synced = false → s.dev.priv.seqRun = none → s.dev.power.exitPeriod = none →
          t.dev.faults.safeHold = false ∧ t.dev.faults.fifo = s.dev.faults.fifo))

/-- The start gate and step 8 (R59, R106, R108, R114, R391): the gate passes when VSYS has been at 2.20 V for 5 ms, or, with the
battery FET OFF, no valid DCIN and `PRIIN` below 2.20 V, at 2.40 V for 50 ms; with `TEST` high at POR the device then stays dark;
else steps 2 to 7 follow; without a working Starter ROM on either keeper the device is dark with its rails off; each tick of step 8
takes 1,000 µs, an interval follows while sequence 0 runs, and step 10 after it. -/
def Obligations.StartsRunTheirSteps : Prop :=
  ∀ s : State, s.dev.Calm →
    (∀ (ss : StartSense) (formA : Bool) (mv us : Nat),
      (formA = true ↔ s.dev.path.fet ≠ .off ∨ s.dev.path.dcValid = true ∨ 2200 ≤ ss.priMv) →
      mv = (if formA then 2200 else 2400) → us = (if formA then 5000 else 50000) →
      (s.dev.power.phase ≠ .gate ∨ ss.vsysMv < mv → exec (.startGatePass ss) s = .next s) ∧
      (s.dev.power.phase = .gate → mv ≤ ss.vsysMv → s.dev.power.testHigh = true →
        exec (.startGatePass ss) s = .next (s.clocked ((s.dev.moveTo (s.dev.power.gateSince + us)).updPower fun p =>
          { p with phase := .dark }))) ∧
      (s.dev.power.phase = .gate → mv ≤ ss.vsysMv → s.dev.power.testHigh = false → s.dev.power.resetCause = 1 →
        ss.romOkA = false → ss.romOkB = false → s.dev.keepers.a.romOk = false → s.dev.keepers.b.romOk = false →
        ∃ t, exec (.startGatePass ss) s = .next t ∧ t.dev.power.phase = .dark ∧ t.dev.pins.hrstLow = true ∧
          (∀ r, r.val ≠ 8 → (t.dev.rails.rails.get r).st = .off)) ∧
      (s.dev.power.phase = .gate → mv ≤ ss.vsysMv → s.dev.power.testHigh = false → s.dev.power.resetCause = 1 →
        s.dev.power.exitPeriod = none →
        exec (.startGatePass ss) s = .next (s.clocked (((({ s.dev.moveTo (s.dev.power.gateSince + us) with
          sample := { s.dev.sample with vsysMv := ss.vsysMv, priMv := ss.priMv, batMv := ss.batMv, batTemp := ss.batTemp }
          }).updRail 8 fun h => { h with st := .proofed }).updPower fun p => { p with aonMv := ss.batMv, btnFresh := false }).startSteps
            ss)))) ∧
    (∀ sm, s.dev.power.phase ≠ .starting → exec (.startTick sm) s = .next s) ∧
    (∀ sm, s.dev.power.phase = .starting → s.dev.sup.published = false →
      exec (.startTick sm) s = .next (s.clocked
        (if (s.dev.afterTick sm).priv.seqRun.isSome then (s.dev.afterTick sm).startInterval else (s.dev.afterTick sm).step10 sm)))

/-- A restart by `BTN_N` (R37, R71, R108, R109): a low that began before step 10 of the latest start, one without the AON node's 1.5 V,
or one the Recipe disables, restarts nothing; another is a chip restart with cause 5, and no start leaves a low that counts. A
recognised low with Rooms open is a wake event where the mask enables it. -/
def Obligations.ButtonRestartsOnce : Prop :=
  ∀ s : State, s.dev.Calm →
    (∀ ss, s.dev.isOpen = false ∨ s.dev.power.btnFresh = false ∨ s.dev.power.aonMv < 1500 ∨ s.dev.fn Fld.pwrBtnRestart = 0 →
      exec (.btnRestartHold ss) s = .next s) ∧
    (∀ ss, s.dev.isOpen = true → s.dev.power.btnFresh = true → 1500 ≤ s.dev.power.aonMv → s.dev.fn Fld.pwrBtnRestart ≠ 0 →
      exec (.btnRestartHold ss) s = .next (s.clocked (s.dev.chipRestart 5 ss))) ∧
    (s.dev.wakeInputs = false → 1500 ≤ s.dev.power.aonMv → exec .btnNPress s = .next (s.put (s.dev.updPower fun p =>
      { p with btnFresh := s.dev.isOpen }))) ∧
    (s.dev.power.aonMv < 1500 → exec .btnNPress s = .next s) ∧
    (s.dev.power.phase = .open → bit s.dev.power.wakeMask 1 = true → s.dev.power.wakeArmed = true → 1500 ≤ s.dev.power.aonMv →
      exec .btnNPress s = .next (s.put (s.dev.updPower fun p =>
        { p with btnFresh := true, wakeLatched := p.wakeLatched ++ [16 * (s.dev.now * 512 / 15625) + 3] }))) ∧
    (∀ (d : Device) (keep : RailId → Bool) (votes : List Vote), (d.startClear keep votes).power.btnFresh = false)

/-- Wake events (R69, R95 to R98): before LODGE is reached an enabled one is latched with its KEEP period; in LODGE it starts
the device again through the start gate with its cause, which an event of a lower code in the same KEEP period replaces; one that is
not enabled changes nothing. The alarm fires at its instant, in LODGE at the first KEEP step not before it. -/
def Obligations.WakeEventsLeaveLodge : Prop :=
  ∀ s : State, s.dev.Calm →
    (s.dev.power.phase = .lodgeDown → s.dev.power.wakeArmed = true →
      (s.dev.power.wakeAlarm ≠ 0 → s.dev.Comes (s.dev.power.lodgeStart + 1000000 * s.dev.power.wakeAlarm) →
        ∃ t, exec .lodgeAlarm s = .next t ∧ t.dev.power.phase = .lodgeDown ∧
          t.dev.power.wakeLatched = s.dev.power.wakeLatched ++
            [16 * ((s.dev.power.lodgeStart + 1000000 * s.dev.power.wakeAlarm) * 512 / 15625) + 1]) ∧
      (s.dev.wakeInputs = true → bit s.dev.power.wakeMask 0 = true → exec .wakeNRequest s = .next (s.put (s.dev.updPower fun p =>
        { p with wakeLatched := p.wakeLatched ++ [16 * (s.dev.now * 512 / 15625) + 2] })))) ∧
    (∀ k : Fin 2, s.dev.power.phase = .lodge → s.dev.power.wakeArmed = true → s.dev.cmpOn k.val = true →
      bit s.dev.power.wakeMask (3 + k.val) = true →
      ∃ t, exec (.wakeComparatorFire k) s = .next t ∧ t.dev.power.phase = .gate ∧ t.dev.power.resetCause = 6 ∧
        t.dev.power.wakeCause = 5 + k.val ∧ t.dev.power.gateSince = s.dev.now ∧ t.dev.nvm = s.dev.nvm ∧
        t.dev.rails = s.dev.rails) ∧
    (s.dev.power.phase = .gate → s.dev.power.wakeArmed = true → bit s.dev.power.wakeMask 0 = true →
      s.dev.power.exitPeriod = some (s.dev.now * 512 / 15625) → 2 < s.dev.power.wakeCause →
      exec .wakeNRequest s = .next (s.put (s.dev.updPower fun p => { p with wakeCause := 2 }))) ∧
    (s.dev.power.phase = .lodge → s.dev.power.wakeArmed = true → s.dev.power.wakeAlarm ≠ 0 → s.dev.batch.timeFrac < 512 →
      s.dev.now ≤ s.dev.power.lodgeStart + 1000000 * s.dev.power.wakeAlarm →
      ∃ t, exec .lodgeAlarm s = .next t ∧ t.dev.power.phase = .gate ∧ t.dev.power.wakeCause = 1 ∧
        s.dev.power.lodgeStart + 1000000 * s.dev.power.wakeAlarm ≤ t.dev.now ∧
        t.dev.now < s.dev.power.lodgeStart + 1000000 * s.dev.power.wakeAlarm + 31) ∧
    (s.dev.power.wakeArmed = false → exec .wakeNRequest s = .next s ∧ (∀ k, exec (.wakeComparatorFire k) s = .next s))

/-- The VIO domain (R48, R51, R52): VIO_GOOD makes VIO good; its loss is reported while the device is powered, once for each
loss, and touches no Room's ring and no request. The crystal (R127 to R130): a failure leaves DISCIPLINED for HOLDOVER on the
RC clock and is reported while the Batch runs, and else at the next start; a qualification waits for the next edge, that of LODGE
for the next start, and a qualified crystal does not qualify again; an update of the divider never moves it by more than 100 ppm. -/
def Obligations.VioAndCrystalAreWatched : Prop :=
  (∀ s : State, s.dev.Calm →
    exec .vioGood s = .next (s.put (s.dev.updPins fun p => { p with vioGood := true })) ∧
    (s.dev.pins.vioGood = false → exec .vioLost s = .next s) ∧
    (s.dev.pins.vioGood = true → s.dev.collecting = true →
      ∃ t, exec .vioLost s = .next t ∧ t.dev.pins.vioGood = false ∧ t.dev.reqs = s.dev.reqs ∧ t.dev.wram = s.dev.wram ∧
        (s.dev.faults.fifo.length < 64 → ∃ m ∈ t.dev.faults.fifo, m.msg = 0x04010000) ∧
        ∀ n, (t.dev.rooms.get n).st = (s.dev.rooms.get n).st ∧ (t.dev.rooms.get n).cqTail = (s.dev.rooms.get n).cqTail) ∧
    (s.dev.pins.vioGood = true → s.dev.collecting = false →
      exec .vioLost s = .next (s.put (s.dev.updPins fun p => { p with vioGood := false })))) ∧
  (∀ s : State, s.dev.Calm →
    (s.dev.power.phase.silent = true → exec .crystalFail s = .next s ∧ (∀ r, exec (.crystalQualify r) s = .next s)) ∧
    (s.dev.power.phase.batchRuns = true →
      ∃ t, exec .crystalFail s = .next t ∧ t.dev.batch.xtalQualified = false ∧ t.dev.batch.rcClock = true ∧
        t.dev.batch.mode = (if s.dev.batch.mode = .disciplined then .holdover else s.dev.batch.mode) ∧
        (s.dev.faults.fifo.length < 64 → ∃ m ∈ t.dev.faults.fifo, m.msg = 0x01040000)) ∧
    (s.dev.power.phase.silent = false → s.dev.power.phase.batchRuns = false →
      exec .crystalFail s = .next (s.put (s.dev.updBatch fun b =>
        { b with xtalQualified := false, qualifyPending := false, okSaid := false, rcClock := true,
                 mode := if b.mode = .disciplined then .holdover else b.mode, xtalReports := b.xtalReports ++ [false] }))) ∧
    (∀ r, s.dev.batch.xtalQualified = true → exec (.crystalQualify r) s = .next s) ∧
    (∀ r, s.dev.power.phase.silent = false → s.dev.power.phase ≠ .lodge → s.dev.batch.xtalQualified = false →
      exec (.crystalQualify r) s = .next (s.put (s.dev.updBatch fun b =>
        { b with xtalQualified := true, rcClock := false, newDivider := r, okSaid := false,
                 qualifyPending := decide (b.mode ≠ .disciplined) }))) ∧
    (∀ r, s.dev.power.phase = .lodge → s.dev.batch.xtalQualified = false →
      exec (.crystalQualify r) s = .next (s.put (s.dev.updBatch fun b =>
        { b with xtalQualified := true, rcClock := false, newDivider := r, okSaid := true,
                 qualifyPending := decide (b.mode ≠ .disciplined), xtalReports := b.xtalReports ++ [true] }))) ∧
    (∀ r, s.dev.power.phase.batchRuns = true → s.dev.batch.mode = .disciplined →
      ∃ t, exec (.dividerUpdate r) s = .next t ∧
        t.dev.batch.divider ≤ s.dev.batch.divider + s.dev.batch.divider / 10000 ∧
        s.dev.batch.divider ≤ t.dev.batch.divider + s.dev.batch.divider / 10000 ∧
        (s.dev.batch.divider - s.dev.batch.divider / 10000 ≤ r → r ≤ s.dev.batch.divider + s.dev.batch.divider / 10000 →
          t.dev.batch.divider = r) ∧ t.dev.batch.number = s.dev.batch.number))

/-! ### The Batch and what falls on its edge (chapters 04 and 11) -/

/-- The frame tick (R92, R99, R112, R122, R137, R177): nothing where the Batch is stopped; else, once the former Batch is
closed, the first of these follows: a restart that is due, LODGE, SHIP, and otherwise the arbiter and the next Batch. The
start of a Batch in the shared logic (R134, R137, R138): the number advances by 1, the edge's time is the present one, a
publication held over becomes the published one, and the marks of the former Batch are gone. -/
def Obligations.BatchEdgeTakesItsTurn : Prop :=
  (∀ (s : State) (sm : Sample) (ext : WorkExtent) (ss : StartSense), s.dev.Calm →
    (s.dev.power.phase.batchRuns = false → exec (.batchEdge sm ext ss) s = .next s) ∧
    (s.dev.power.phase = .open → (s.dev.atEdge ss).isOpen = true → (s.dev.atEdge ss).Calm →
      (∀ c, (s.dev.atEdge ss).restartDue = some c →
        exec (.batchEdge sm ext ss) s = .next (s.clocked ((s.dev.atEdge ss).chipRestart c ss))) ∧
      ((s.dev.atEdge ss).restartDue = none → (s.dev.atEdge ss).lodgeDue = true →
        exec (.batchEdge sm ext ss) s = .next (s.clocked ((s.dev.atEdge ss).leaveEdge sm ext s.dev.batch.period fun d =>
          d.lodgeBegin (s.dev.atEdge ss).now))) ∧
      ((s.dev.atEdge ss).restartDue = none → (s.dev.atEdge ss).lodgeDue = false →
        (s.dev.atEdge ss).shipDue (s.dev.atEdge ss).now = true →
        exec (.batchEdge sm ext ss) s = .next (s.clocked ((s.dev.atEdge ss).leaveEdge sm ext s.dev.batch.period fun d =>
          d.shipBegin))) ∧
      ((s.dev.atEdge ss).restartDue = none → (s.dev.atEdge ss).lodgeDue = false →
        (s.dev.atEdge ss).shipDue (s.dev.atEdge ss).now = false →
        ((s.dev.atEdge ss).arbiterEdge ss).2.isOpen = true → ((s.dev.atEdge ss).arbiterEdge ss).2.Calm →
        exec (.batchEdge sm ext ss) s = .next (s.clocked (((s.dev.atEdge ss).arbiterEdge ss).2.beginBatch sm ext ss
          s.dev.batch.period ((s.dev.atEdge ss).arbiterEdge ss).1))))) ∧
  (∀ d : Device,
    d.nextBatch.batch.number = d.batch.number + 1 ∧ d.nextBatch.batch.edgeTime = d.now ∧ d.nextBatch.now = d.now ∧
    d.nextBatch.sup.published = d.sup.publishHeld ∧ d.nextBatch.sup.publishHeld = false ∧
    d.nextBatch.sup.committed = false ∧ d.nextBatch.sup.budgetPassed = false ∧ d.nextBatch.sup.deadlinePassed = false ∧
    d.nextBatch.reqs = d.reqs ∧ d.nextBatch.rooms = d.rooms ∧ d.nextBatch.priv = d.priv ∧ d.nextBatch.nvm = d.nvm ∧
    d.nextBatch.keepers = d.keepers)

/-- Events that fall on the edge that ends the current Batch, where they are due, are that edge; where they are not, nothing
happens (log entry 33). -/
def Obligations.EdgeEventsAreTheEdge : Prop :=
  ∀ s : State, s.dev.Calm →
    (∀ ss, (((s.dev.isOpen || s.dev.romHold) && s.dev.restartDue.isSome) = true →
        ∃ t, exec (.restartGraceEnd ss) s = .next t ∧ exec (.batchEdge s.dev.sample .full ss) s = .next t) ∧
      (((s.dev.isOpen || s.dev.romHold) && s.dev.restartDue.isSome) = false → exec (.restartGraceEnd ss) s = .next s)) ∧
    s.EdgeEvent .bootFloorEnd
      (s.dev.isOpen && s.dev.power.bootFloor && decide (s.dev.power.bootFloorEnd ≤ s.dev.batch.number.toNat + 1)) ∧
    s.EdgeEvent .lodgeEntry (s.dev.isOpen && s.dev.lodgeDue) ∧
    s.EdgeEvent .shipEntry (s.dev.isOpen && s.dev.shipDue s.dev.batch.nextEdge) ∧
    s.EdgeEvent .coldHoldEnd (s.dev.isOpen && s.dev.holdDue (s.dev.batch.number.toNat + 1)) ∧
    (∀ n, s.EdgeEvent (.guestWdExpiry n) (s.dev.isOpen && decide ((s.dev.priv.gwds.get n).t ≠ 0) &&
      decide ((s.dev.priv.gwds.get n).deadline ≤ s.dev.batch.nextEdge))) ∧
    (∀ r, s.EdgeEvent (.gwdGatingEnd r) (s.dev.isOpen && s.dev.wd.gating.any fun g => g.rail == r &&
      (match g.ends with | some e => decide (e ≤ s.dev.batch.nextEdge) | none => false))) ∧
    (∀ i, s.EdgeEvent (.schedDue i) (s.dev.isOpen && s.dev.priv.scheds.any fun x => x.id == i &&
      decide (x.batch ≤ s.dev.batch.number.toNat + 2))) ∧
    (s.dev.power.phase ≠ .starting →
      s.EdgeEvent .seqDelayEnd (s.dev.power.phase.batchRuns && s.dev.seqStepDue [.delay] s.dev.batch.nextEdge) ∧
      s.EdgeEvent .seqWaitTimeout (s.dev.power.phase.batchRuns && s.dev.seqStepDue [.waitPg, .waitLow] s.dev.batch.nextEdge)) ∧
    s.EdgeEvent .stagedBytesProgrammed ((s.dev.isOpen || s.dev.romHold) && !(s.dev.stagedRecs 0x910).isEmpty) ∧
    s.EdgeEvent .forecastBinUpdate (s.dev.isOpen &&
      decide (s.dev.priv.larder.binAt s.dev.batch.nextEdge ≠ s.dev.priv.larder.curBin)) ∧
    s.EdgeEvent .burstStart (s.dev.isOpen && s.dev.burstNext) ∧
    s.EdgeEvent .attachRetry (s.dev.isOpen && s.dev.attachNext)

/-- LODGE and SHIP begin (R94, R95, R100): every Room is Closed, every request is discarded, the power-down sequence runs;
LODGE drives `HRST_N` low and has its wake sources armed with the plan's alarm and mask. -/
def Obligations.LodgeAndShipCloseEveryRoom : Prop :=
  (∀ (d : Device) (t : Nat) (l : LodgePlan), d.priv.lodge = some l → d.Calm →
    (d.lodgeBegin t).power.phase = .lodgeDown ∧ (d.lodgeBegin t).power.lodgeStart = t ∧ (d.lodgeBegin t).pins.hrstLow = true ∧
    (d.lodgeBegin t).power.wakeArmed = true ∧
    (d.power.wakeArmed = false ∨ l.forced = true →
      (d.lodgeBegin t).power.wakeMask = l.mask ∧ (d.lodgeBegin t).power.wakeAlarm = l.alarm) ∧
    (∀ n, ((d.lodgeBegin t).rooms.get n).st = .closed) ∧ (d.lodgeBegin t).reqs.recs = [] ∧
    (d.lodgeBegin t).downRuns = true ∧ (d.lodgeBegin t).priv.lodge = none ∧ (d.lodgeBegin t).Calm) ∧
  (∀ d : Device, d.Calm →
    d.shipBegin.power.phase = .shipDown ∧ (∀ n, (d.shipBegin.rooms.get n).st = .closed) ∧ d.shipBegin.reqs.recs = [] ∧
    d.shipBegin.downRuns = true ∧ d.shipBegin.priv.shipArmed = false)

/-- What steps and edges do for their events: the boot floor ends (R90), the hold votes of a period that has ended are
withdrawn and no others (R188), gatings whose time has come end (R694), a scheduled change is made once (R402), and an OFF
battery FET closes where R418 allows it. The guest watchdog's ladder (R692 to R694): the first expiry flags its Room, the
second withdraws the Room's rail votes, the third disarms the watchdog; each raises its own message and the first two set the
next deadline. -/
def Obligations.EdgesAndLaddersRunOut : Prop :=
  ((∀ d : Device, d.power.bootFloor = true → d.power.bootFloorEnd ≤ d.batch.number.toNat →
    d.bootFloorEdge = d.updPower fun p => { p with bootFloor := false }) ∧
  (∀ (d : Device) (v : Vote), v ∈ d.holdEnd.priv.votes ↔
    v ∈ d.priv.votes ∧ (v.holdEnds = 0 ∨ d.batch.number.toNat < v.holdEnds)) ∧
  (∀ (d : Device) (t : Nat) (g : Gating), g ∈ (d.gatingEnd t fun _ => true).wd.gating ↔
    g ∈ d.wd.gating ∧ (∀ e, g.ends = some e → t < e)) ∧
  (∀ (d : Device) (x : Sched) (r : Rec), d.findRec x.id = some r → x.enable = true →
    { holder := .room x.id.room, rail := x.rail, mv := x.mv, code := x.code } ∈ (d.schedMake x).priv.votes ∧
    (∀ y ∈ (d.schedMake x).priv.scheds, y.id ≠ x.id) ∧ (d.schedMake x).findRec x.id = none) ∧
  (∀ (d : Device) (x : Sched), x.enable = false →
    ∀ v ∈ (d.schedMake x).priv.votes, ¬ (v.holder = .room x.id.room ∧ v.rail = x.rail)) ∧
  (∀ d : Device, d.sample.batMv ≥ 10 * d.fn Fld.pathBatRecover → d.fetMayClose d.now = true →
    d.fetEdge = (d.updPath fun p => { p with fet := .supply, fetCause := 0, priInUse := false }).chgFet) ∧
  (∀ d : Device, d.sample.batMv < 10 * d.fn Fld.pathBatRecover → d.fetEdge = d.updPath fun p => { p with fetReady := false })) ∧
  (∀ (d : Device) (n : RoomId), d.Calm → d.collecting = true →
    ((d.priv.gwds.get n).step = 0 →
      ((d.gwdStep n).priv.gwds.get n).step = 1 ∧
      ((d.gwdStep n).priv.gwds.get n).deadline = d.batch.edgeTime + 1000 * (d.priv.gwds.get n).t ∧
      (d.gwdStep n).priv.votes = d.priv.votes ∧
      ((d.rooms.get n).st ≠ .closed → ((d.gwdStep n).rooms.get n).evFlags.getLsbD 7 = true)) ∧
    ((d.priv.gwds.get n).step = 1 →
      ((d.gwdStep n).priv.gwds.get n).step = 2 ∧ (∀ v ∈ (d.gwdStep n).priv.votes, v.holder ≠ .room n) ∧
      (∀ v ∈ d.priv.votes, v.holder ≠ .room n → v ∈ (d.gwdStep n).priv.votes)) ∧
    (2 ≤ (d.priv.gwds.get n).step →
      ((d.gwdStep n).priv.gwds.get n).t = 0 ∧ (d.gwdStep n).priv.votes = d.priv.votes ∧
      ∀ r ∈ d.gatedSet n, ∃ g ∈ (d.gwdStep n).wd.gating, g.room = n ∧ g.rail = r))

/-- Steps of a sequence (R389, R391 to R393): DELAY goes on once its time has passed, a WAIT goes on as soon as its condition
holds in the sample of step 1, fails when its time has passed, and else waits; ENABLE places the run's vote and DISABLE withdraws
it. -/
def Obligations.SequenceStepsRunInOrder : Prop :=
  ∀ (d : Device) (x : SeqRun) (t : Nat),
    ((d.seqStep x.num x.pc).op = .delay →
      (x.reached = none → d.seqOne x t = .waits { x with reached := some t }) ∧
      (∀ t0, x.reached = some t0 → t0 + 1000 * (d.seqStep x.num x.pc).value ≤ t → d.seqOne x t = .next d x.advance) ∧
      (∀ t0, x.reached = some t0 → t < t0 + 1000 * (d.seqStep x.num x.pc).value → d.seqOne x t = .waits x)) ∧
    ((d.seqStep x.num x.pc).op = .waitPg → x.failed.getLsbD (d.seqStep x.num x.pc).rail.val = false →
      ((d.rails.seen.get (d.seqStep x.num x.pc).rail).st = .proofed → d.seqOne x t = .next d x.advance) ∧
      ((d.rails.seen.get (d.seqStep x.num x.pc).rail).st ≠ .proofed → (d.rails.seen.get (d.seqStep x.num x.pc).rail).st ≠ .held →
        d.votedOn (d.seqStep x.num x.pc).rail = true →
        (∀ t0, x.reached = some t0 → t0 + 1000 * (d.seqStep x.num x.pc).value ≤ t → ∃ y, d.seqOne x t = .failed y ∧
          y.failed = x.failed ||| BitVec.twoPow 16 (d.seqStep x.num x.pc).rail.val) ∧
        (∀ t0, x.reached = some t0 → t < t0 + 1000 * (d.seqStep x.num x.pc).value → d.seqOne x t = .waits x))) ∧
    ((d.seqStep x.num x.pc).op = .disable →
      ∃ e, d.seqOne x t = .next e { x.advance with placed := x.placed.filter (· != (d.seqStep x.num x.pc).rail) } ∧
        hasVote e.priv.votes (d.seqHolder x) (d.seqStep x.num x.pc).rail = false) ∧
    ((d.seqStep x.num x.pc).op = .enable → x.failed = 0 →
      ∃ e y, d.seqOne x t = .next e y ∧ hasVote e.priv.votes (d.seqHolder x) (d.seqStep x.num x.pc).rail = true ∧
        e = d.updVotes fun _ => e.priv.votes)

/-- The Batch's two instants (R141, R145, R169, R172): the budget mark and the commit deadline come once in a Batch, at their
times; a Batch without a commit counts as missed, and the second in a row asks for a takeover. -/
def Obligations.MarksComeOnceInABatch : Prop :=
  ∀ s : State, s.dev.Calm →
    (s.dev.power.phase.batchRuns = false ∨ s.dev.sup.budgetPassed = true → exec .budgetMark s = .next s) ∧
    (s.dev.power.phase.batchRuns = true → s.dev.sup.budgetPassed = false →
      exec .budgetMark s = .next (s.clocked (s.dev.arrive s.dev.budgetTime).budgetAt)) ∧
    (s.dev.power.phase.batchRuns = true → s.dev.sup.budgetPassed = false → s.dev.batch.time ≤ s.dev.budgetTime →
      s.dev.sup.stage = .idle → s.dev.sup.workDone = true →
      ∃ t, exec .budgetMark s = .next t ∧ t.dev.now = s.dev.budgetTime ∧ t.dev.sup.budgetPassed = true ∧
        t.dev.faults.fifo = s.dev.faults.fifo) ∧
    (s.dev.power.phase.batchRuns = true → s.dev.sup.budgetPassed = false → s.dev.batch.time ≤ s.dev.budgetTime →
      s.dev.sup.stage = .idle → s.dev.sup.workDone = false → s.dev.sup.overrunReported = false → s.dev.activeHalted = false →
      s.dev.sup.haltCut = false → s.dev.faults.fifo.length < 64 →
      ∃ t, exec .budgetMark s = .next t ∧ t.dev.now = s.dev.budgetTime ∧ t.dev.sup.budgetPassed = true ∧ t.dev.sup.overrunReported = true ∧
        ∃ m ∈ t.dev.faults.fifo, m.msg = 0x01010000) ∧
    (s.dev.power.phase.batchRuns = false ∨ s.dev.sup.deadlinePassed = true → exec .commitDeadline s = .next s) ∧
    (s.dev.power.phase.batchRuns = true → s.dev.sup.deadlinePassed = false →
      exec .commitDeadline s = .next (s.clocked (s.dev.arrive s.dev.deadlineTime).budgetAt.deadlineAt)) ∧
    (s.dev.power.phase.batchRuns = true → s.dev.sup.budgetPassed = true → s.dev.sup.deadlinePassed = false →
      s.dev.batch.time ≤ s.dev.deadlineTime → s.dev.sup.stage = .idle → s.dev.batch.bubble = none → s.dev.activeHalted = false →
      ∃ t, exec .commitDeadline s = .next t ∧ t.dev.now = s.dev.deadlineTime ∧ t.dev.sup.deadlinePassed = true ∧
        t.dev.sup.missed = (if s.dev.sup.committed then s.dev.sup.missed else min 3 (s.dev.sup.missed + 1)) ∧
        (s.dev.sup.committed = false → 1 ≤ s.dev.sup.missed → t.dev.keepers.heartbeat = true))

/-! ### The host link (chapter 08) -/

/-- A write of `SQ_TAIL` takes effect only where the new occupancy is legal, and sets RING_ERR where it is not (R297); nothing
else of the device changes but the Room's link error, which a good frame clears. -/
def Obligations.SubmissionDoorbellIsChecked : Prop :=
  ∀ (s : State) (p : Port) (n : RoomId) (v : Byte), s.dev.Calm → s.dev.Reaches p n →
    ∃ t, exec (.sqTailWrite p n v) s = .next t ∧ t.pending = s.pending ∧
      ((v - (s.dev.rooms.get n).sqHead).toNat ≤ 32 ∧
          (s.dev.rooms.get n).sqUsed ≤ (v - (s.dev.rooms.get n).sqHead).toNat →
        t.dev.rooms.get n = { s.dev.rooms.get n with sqTail := v, linkErr := false }) ∧
      (¬ ((v - (s.dev.rooms.get n).sqHead).toNat ≤ 32 ∧
          (s.dev.rooms.get n).sqUsed ≤ (v - (s.dev.rooms.get n).sqHead).toNat) →
        (t.dev.rooms.get n).sqTail = (s.dev.rooms.get n).sqTail ∧
        (t.dev.rooms.get n).ringErrs = min 255 ((s.dev.rooms.get n).ringErrs + 1) ∧
        ((s.dev.rooms.get n).st ≠ .closed → (t.dev.rooms.get n).evFlags = (s.dev.rooms.get n).evFlags ||| 0x200)) ∧
      (∀ m, m ≠ n → t.dev.rooms.get m = s.dev.rooms.get m) ∧ t.dev.wram = s.dev.wram ∧ t.dev.reqs = s.dev.reqs ∧
      t.dev.nvm = s.dev.nvm ∧ t.dev.dig = s.dev.dig ∧ t.dev.faults = s.dev.faults ∧ t.dev.priv = s.dev.priv

/-- A write of `CQ_HEAD` takes effect only within the ring's occupancy, and sets RING_ERR elsewhere; a record whose completion
slot it passes is retired, and no other (R301, R323). -/
def Obligations.CompletionDoorbellRetiresRecords : Prop :=
  ∀ (s : State) (p : Port) (n : RoomId) (v : Byte), s.dev.Calm → s.dev.Reaches p n →
    ∃ t, exec (.cqHeadWrite p n v) s = .next t ∧
      ((v - (s.dev.rooms.get n).cqHead).toNat ≤ (s.dev.rooms.get n).cqUsed →
        t.dev.rooms.get n = { s.dev.rooms.get n with cqHead := v, linkErr := false } ∧
        ∀ r, r ∈ t.dev.reqs.recs ↔ r ∈ s.dev.reqs.recs ∧
          ¬ (r.id.room = n ∧ ∃ q, r.postedAt = some q ∧
            (q - (s.dev.rooms.get n).cqHead).toNat < (v - (s.dev.rooms.get n).cqHead).toNat)) ∧
      ((s.dev.rooms.get n).cqUsed < (v - (s.dev.rooms.get n).cqHead).toNat →
        (t.dev.rooms.get n).cqHead = (s.dev.rooms.get n).cqHead ∧ t.dev.reqs = s.dev.reqs ∧
        (t.dev.rooms.get n).ringErrs = min 255 ((s.dev.rooms.get n).ringErrs + 1) ∧
        ((s.dev.rooms.get n).st ≠ .closed → (t.dev.rooms.get n).evFlags = (s.dev.rooms.get n).evFlags ||| 0x200)) ∧
      (∀ m, m ≠ n → t.dev.rooms.get m = s.dev.rooms.get m) ∧ t.dev.wram = s.dev.wram ∧ t.dev.nvm = s.dev.nvm ∧
      t.dev.priv = s.dev.priv

/-- A write to submission slots (R298): bytes of a slot that is submitted and not yet taken are discarded with RING_ERR, the
rest of the frame is written, and every other byte of the window RAM stays. -/
def Obligations.HeldSlotsAreNotWritten : Prop :=
  ∀ (s : State) (p : Port) (n : RoomId) (off : Nat) (l : List Byte), s.dev.Calm → s.dev.MemWf → s.dev.Reaches p n →
    0x200 ≤ off → off + l.length ≤ 0xA00 → 0 < l.length → l.length ≤ 512 →
    ∃ t, exec (.submissionSlotWrite p n off l) s = .next t ∧
      (∀ i, (h : i < l.length) → t.dev.winRead n (off + i) =
        if (s.dev.rooms.get n).slotHeld ((off + i - 0x200) / 64) then s.dev.winRead n (off + i) else l[i]) ∧
      (∀ m a, ¬ (m = n ∧ off ≤ a ∧ a < off + l.length) → a < 4096 → t.dev.winRead m a = s.dev.winRead m a) ∧
      ((s.dev.rooms.get n).slotClash off l = true → (s.dev.rooms.get n).st ≠ .closed →
        (t.dev.rooms.get n).evFlags = (s.dev.rooms.get n).evFlags ||| 0x200) ∧
      ((s.dev.rooms.get n).slotClash off l = false → t.dev.rooms.get n = { s.dev.rooms.get n with linkErr := false }) ∧
      t.dev.nvm = s.dev.nvm ∧ t.dev.reqs = s.dev.reqs ∧ t.dev.priv = s.dev.priv

/-- A write to `EVT.FLAGS` clears exactly the flags written as 1 (R17, R303), and a frame that writes `EVT.ENABLE` (here on
SPI without CRC, as its bytes stand on the wire) enables exactly those of its 11 flags that are written as 1 (R268, R271,
R303). A read on SPI returns the link status byte on its fourth byte and its data behind the turnaround byte (R278). Framing (R51,
R281, R282, R286, R289): nothing arrives through a port that is not active, and no other device address than the device's own is
acknowledged; an I²C write of only the register address sets where the next read starts; a service-port frame cut short by a gap
before its header is whole is answered 0xA2 with a CRC. A frame that ends exactly at an edge takes effect in the Batch that begins
there (R272). -/
def Obligations.EventRegistersAndFrames : Prop :=
  ((∀ (s : State) (p : Port) (n : RoomId) (w : Word), s.dev.Calm → s.dev.Reaches p n →
    ∃ t, exec (.evtFlagsClear p n w) s = .next t ∧
      t.dev.rooms.get n =
        { s.dev.rooms.get n with evFlags := (s.dev.rooms.get n).evFlags &&& ~~~w, linkErr := false } ∧
      (∀ m, m ≠ n → t.dev.rooms.get m = s.dev.rooms.get m) ∧ t.dev.wram = s.dev.wram ∧ t.dev.reqs = s.dev.reqs ∧
      t.dev.nvm = s.dev.nvm ∧ t.dev.priv = s.dev.priv) ∧
  (∀ (s : State) (n : RoomId) (w : Word), s.dev.Calm → s.dev.Reaches .spi n → s.dev.fn Fld.linkSpiCrc = 0 →
    ∃ t, exec (.registerWrite .spi ([BitVec.ofNat 8 (64 + 4 * n.val), 0x11, 0x40, 4] ++ leBytes 4 w.toNat) 0) s = .next t ∧
      t.dev.rooms.get n = { s.dev.rooms.get n with evEnable := w &&& 0x7FF, linkErr := false } ∧
      (∀ m, m ≠ n → t.dev.rooms.get m = s.dev.rooms.get m) ∧ t.dev.wram = s.dev.wram ∧ t.dev.reqs = s.dev.reqs) ∧
  (∀ (s : State) (n : RoomId) (off k : Nat) (l : List Byte), s.dev.Calm → s.dev.Reaches .spi n → off < 4096 → 0 < k → k < 4096 →
    l.length = 1 + k →
    ∃ t, exec (.registerWrite .spi ([BitVec.ofNat 8 (4 * n.val), BitVec.ofNat 8 (off / 16),
        BitVec.ofNat 8 (off % 16 * 16 + k / 256), BitVec.ofNat 8 k] ++ l) 0) s = .next t ∧
      t.dev.link.spiSdo = [0, 0, 0, s.dev.linkStatus .spi n s.dev.link.spiErr, 0] ++ s.dev.portRead .spi n off k ∧
      t.dev.link.spiErr = false ∧ t.dev.rooms.get n = { s.dev.rooms.get n with linkErr := false } ∧
      t.dev.wram = s.dev.wram ∧ t.dev.reqs = s.dev.reqs ∧ t.dev.nvm = s.dev.nvm)) ∧
  (∀ (s : State) p l k, s.dev.atTick = true → exec (.registerWrite p l k) s = .next (s.clocked (s.dev.tickEdge.portFrame p l k))) ∧
  (∀ s : State, s.dev.Calm → s.dev.atTick = false →
    (∀ p l k, s.dev.portActive p = false → p ≠ .i2c → exec (.registerWrite p l k) s = .next s) ∧
    (∀ (a : Byte) l k, s.dev.portActive .i2c = false ∨ a.toNat / 2 ≠ s.dev.fn Fld.linkI2cAddr →
      exec (.registerWrite .i2c (a :: l) k) s = .next (s.put (s.dev.updLink fun x => { x with i2cAcks := [false], i2cData := [] }))) ∧
    (∀ p n off v, s.dev.portActive p = false → exec (.sqTailWrite p n v) s = .next s ∧ exec (.cqHeadWrite p n v) s = .next s ∧
      exec (.digDataWrite p n off [v]) s = .next s) ∧
    (∀ a : Half, s.dev.portActive .i2c = true →
      exec (.i2cAddressSet a) s = .next (s.put (s.dev.updLink fun x =>
        { x with i2cNext := a.toNat / 4096 + 16 * (a.toNat % 4096), i2cAcks := [true, true, true], i2cData := [] }))) ∧
    (∀ a : Half, s.dev.portActive .i2c = false → exec (.i2cAddressSet a) s = .next s) ∧
    (∀ l : List Byte, s.dev.portActive .uart = true → 0 < l.length → l.length < 4 →
      exec (.servicePortGap l) s = .next (s.put (s.dev.updLink fun x =>
        { x with svResponse := [0xA2, BitVec.ofNat 8 ((crc16 [0xA2]).toNat / 256), BitVec.ofNat 8 (crc16 [0xA2]).toNat] }))) ∧
    (∀ l : List Byte, s.dev.portActive .uart = false → exec (.servicePortGap l) s = .next s))

/-! ### The digest engine (chapter 18) -/

/-- A claim (R625, R627): it is taken only where every condition holds, and else changes nothing of the engine; a write of
another Room than the holder sets `foreign` and nothing else. -/
def Obligations.DigestClaimNeedsEveryCondition : Prop :=
  ∀ (s : State) (p : Port) (n : RoomId) (v : Byte), s.dev.Calm → s.dev.Reaches p n →
    (v.toNat = n.val ∧ (s.dev.rooms.get n).st = .opened ∧ s.dev.hasFeature n 8 = true ∧ s.dev.dig.claim = 0xFF ∧
        s.dev.dig.resv = false →
      ∃ t, exec (.digClaimWrite p n v) s = .next t ∧ t.dev.dig =
        { s.dev.dig with
          claim := v, claimTime := s.dev.now, lastWrite := s.dev.now, running := false, msg := [] }) ∧
    (¬ (v.toNat = n.val ∧ (s.dev.rooms.get n).st = .opened ∧ s.dev.hasFeature n 8 = true ∧ s.dev.dig.claim = 0xFF ∧
        s.dev.dig.resv = false) →
      ∃ t, exec (.digClaimWrite p n v) s = .next t ∧ t.dev.dig = s.dev.dig) ∧
    (∀ h, s.dev.dig.guest = some h → h ≠ n →
      (∃ t, exec (.digStart p n false 0) s = .next t ∧ t.dev.dig =
        { s.dev.dig with
          foreign := true }) ∧
      (∃ t, exec (.digFinish p n) s = .next t ∧ t.dev.dig =
        { s.dev.dig with
          foreign := true }) ∧
      (∃ t, exec (.digAbort p n) s = .next t ∧ t.dev.dig =
        { s.dev.dig with
          foreign := true }))

/-- The engine's messages by its holder (R628 to R630): START begins one, or is refused by `err`; DATA appends to a running
one; FINISH of a running one publishes its digest as one unit and releases the claim; ABORT releases it without a result. -/
def Obligations.DigestMessageRunsToItsResult : Prop :=
  ∀ (s : State) (p : Port) (n : RoomId), s.dev.Calm → s.dev.Reaches p n → s.dev.dig.guest = some n →
    (∃ t, exec (.digStart p n false 0) s = .next t ∧ t.dev.dig =
        { s.dev.dig with
          lastWrite := s.dev.now, foreign := false, err := 0, running := true, hmac := false, slot := 0,
          count := 0, msg := [], overrun := false }) ∧
    (∀ k : Fin 8, s.dev.mayKey n k.val = true → (s.dev.keys.slots.get k).isSome = true →
      ∃ t, exec (.digStart p n true k) s = .next t ∧ t.dev.dig =
        { s.dev.dig with
          lastWrite := s.dev.now, foreign := false, err := 0, running := true, hmac := true, slot := k.val,
          count := 0, msg := [], overrun := false }) ∧
    (∀ k : Fin 8, s.dev.mayKey n k.val = false →
      ∃ t, exec (.digStart p n true k) s = .next t ∧ t.dev.dig =
        { s.dev.dig with
          lastWrite := s.dev.now, foreign := false, err := 1 }) ∧
    (∀ k : Fin 8, s.dev.mayKey n k.val = true → s.dev.keys.slots.get k = none →
      ∃ t, exec (.digStart p n true k) s = .next t ∧ t.dev.dig =
        { s.dev.dig with
          lastWrite := s.dev.now, foreign := false, err := 2 }) ∧
    (∀ off l, 0xEC0 ≤ off → off + l.length ≤ 0xF00 → 0 < l.length → s.dev.dig.running = true →
      ∃ t, exec (.digDataWrite p n off l) s = .next t ∧ t.dev.dig =
        { s.dev.dig with
          lastWrite := s.dev.now, msg := s.dev.dig.msg ++ l, count := s.dev.dig.count + BitVec.ofNat 48 l.length }) ∧
    (∀ off l, 0xEC0 ≤ off → off + l.length ≤ 0xF00 → 0 < l.length → s.dev.dig.running = false →
      ∃ t, exec (.digDataWrite p n off l) s = .next t ∧ t.dev.dig =
        { s.dev.dig with
          lastWrite := s.dev.now, err := 5 }) ∧
    (s.dev.dig.resv = false → s.dev.dig.running = true → s.dev.dig.hmac = false → s.dev.dig.err = 0 ∨ s.dev.dig.err = 1 →
      ∃ t, exec (.digFinish p n) s = .next t ∧ t.dev.dig =
        { s.dev.dig with
          lastWrite := s.dev.now, claim := 0xFF, running := false, msg := [],
          rSeq := if s.dev.dig.rSeq = 65535 then 1 else s.dev.dig.rSeq + 1, rSource := BitVec.ofNat 8 n.val,
          rHmac := false, rSlot := s.dev.dig.slot, result := sha256 s.dev.dig.msg }) ∧
    (s.dev.dig.resv = false → s.dev.dig.running = false ∨ 2 ≤ s.dev.dig.err →
      ∃ t, exec (.digFinish p n) s = .next t ∧ t.dev.dig =
        { s.dev.dig with
          lastWrite := s.dev.now, claim := 0xFF, running := false, msg := [] }) ∧
    (s.dev.dig.resv = false →
      ∃ t, exec (.digAbort p n) s = .next t ∧ t.dev.dig =
        { s.dev.dig with
          lastWrite := s.dev.now, claim := 0xFF, running := false, msg := [] })

/-- Times of the engine and of waiting requests (R617, R631, R639, R641): a claim that is idle too long, or held too long,
ends with `err` 4 and no result; the end of a key store write loads the slot, or leaves it, and completes the request; parts
of a message that stay incomplete complete with FAULT; a waiting read returns what its group holds. -/
def Obligations.WaitingWorkEndsInTime : Prop :=
  (∀ (s : State) (n : RoomId), s.dev.Calm → s.dev.dig.guest = some n → s.dev.dig.resv = false →
    (s.dev.Comes (s.dev.dig.lastWrite + 1000 * s.dev.fn Fld.digClaimIdle) →
      ∃ t, exec .digClaimIdle s = .next t ∧ t.dev.dig =
        { s.dev.dig with
          claim := 0xFF, running := false, msg := [], err := 4 } ∧
        t.dev.now = s.dev.dig.lastWrite + 1000 * s.dev.fn Fld.digClaimIdle) ∧
    (s.dev.Comes (s.dev.dig.claimTime + 10000 * s.dev.fn Fld.digClaimMax) →
      ∃ t, exec .digClaimMax s = .next t ∧ t.dev.dig =
        { s.dev.dig with
          claim := 0xFF, running := false, msg := [], err := 4 } ∧
        t.dev.now = s.dev.dig.claimTime + 10000 * s.dev.fn Fld.digClaimMax)) ∧
  (∀ (s : State) (id : ReqId) (k : Fin 8) (v : Option SlotKeys), s.dev.Calm → s.dev.keys.loading = some (id, k, v) →
    (∃ t, exec (.keystoreWriteDone true) s = .next t ∧ t.dev.keys.loading = none ∧
      t.dev.keys.slots = vput s.dev.keys.slots k v ∧ t.dev.findRec id = none) ∧
    (∃ t, exec (.keystoreWriteDone false) s = .next t ∧ t.dev.keys.loading = none ∧ t.dev.keys.slots = s.dev.keys.slots ∧
      t.dev.findRec id = none)) ∧
  (∀ (s : State) (n : RoomId) (i : Half) (r : Rec), s.dev.Calm → (s.dev.parts n i.toNat).head? = some r →
    wholeMessage (s.dev.parts n i.toNat) = false → s.dev.Comes (r.wait.getD 0 0 + 10000000) →
    ∃ t, exec (.digQueueTimeout n i) s = .next t ∧ t.dev.parts n i.toNat = [] ∧ t.dev.dig = s.dev.dig) ∧
  (∀ (s : State) (id : ReqId) (r : Rec), s.dev.Calm → s.dev.findRec id = some r → r.opcode = 0x502 → r.st = .waiting →
    s.dev.Comes (r.wait.getD 2 0) →
    ∃ t, exec (.adcReadTimeout id) s = .next t ∧ t.dev.findRec id = none ∧ t.dev.adc = s.dev.adc ∧
      t.dev.now = r.wait.getD 2 0)

/-! ### Keepers, their watchdogs and images (chapters 05, 06 and 20) -/

/-- A keeper failure (R176, R190 to R193): its time is kept; a failed ACTIVE keeper with an able standby asks for the
takeover; a failed standby restarts, or is QUARANTINED at its third failure within 24 h. A restarting keeper and the self-test
(R190, R191, R196, R219): with its ROM good and an image that verifies the keeper runs it and is STANDBY_COLD at once where the
images do not pair, else STANDBY_HOT with the latest committed checkpoint that verifies, for which it waits; with no image it stays
off; a guest that holds the digest engine keeps the restart waiting. The self-test is asked for when it is due, and a pass in time
returns the keeper to standby in the same way while all else is a failure with cause 4. -/
def Obligations.KeepersFailAndReturn : Prop :=
  (∀ (d : Device) (k : Keeper) (cause : Nat) (ss : StartSense), d.Calm → d.Caught → d.isOpen = true → d.ladderTwo k = false →
    (d.keeper (otherKeeper k)).role ≠ .quarantined →
    (d.activeKeeper = some k → (d.keeper k).role = .active → d.standbyAble = true →
      (d.keeperFail k cause ss).keepers.hwTakeover = true ∧
      ((d.keeperFail k cause ss).keeper k).failTimes = (d.now :: (d.keeper k).failTimes).take 3 ∧
      ((d.keeperFail k cause ss).keeper k).role = .active ∧ (d.keeperFail k cause ss).power = d.power) ∧
    (d.activeKeeper = some (otherKeeper k) → (d.keeper k).role.able = true →
      ((d.keeperFail k cause ss).keeper k).failTimes = (d.now :: (d.keeper k).failTimes).take 3 ∧
      (d.keeperFail k cause ss).power = d.power ∧
      ((∀ a b l, (d.keeper k).failTimes = a :: b :: l → b + 86400000000 < d.now) →
        ((d.keeperFail k cause ss).keeper k).role = .offline ∧ ((d.keeperFail k cause ss).keeper k).offUse = .restarting) ∧
      (∀ a b l, (d.keeper k).failTimes = a :: b :: l → d.now ≤ b + 86400000000 →
        ((d.keeperFail k cause ss).keeper k).role = .quarantined ∧ ((d.keeperFail k cause ss).keeper k).powered = false))) ∧
  (∀ (s : State) (k : Keeper), s.dev.Calm → s.dev.isOpen = true →
    ((s.dev.keeper k).offUse = .restarting → s.dev.keeperPairs k = false → s.dev.engineIdle = true →
      (∀ n, (s.dev.bootSlots k (s.dev.bootOrder k true)).1 = some n →
        ∃ t, exec (.keeperRestartDone k true) s = .next t ∧ (t.dev.keeper k).slot = some n ∧
          (t.dev.keeper k).image = s.dev.nvmRead (slotBase n) (256 + imgBody (s.dev.slotHeader n)) ∧
          (t.dev.keeper k).powered = true ∧ (t.dev.keeper k).romOk = true ∧ s.dev.Joins (s.dev.loadImage k n).coldPair k t.dev) ∧
      ((s.dev.bootSlots k (s.dev.bootOrder k true)).1 = none →
        ∃ t, exec (.keeperRestartDone k true) s = .next t ∧ (t.dev.keeper k).slot = none ∧
          (t.dev.keeper k).offUse = .nothing ∧ (t.dev.keeper k).powered = false)) ∧
    ((s.dev.keeper k).offUse = .restarting → s.dev.keeperPairs k = false → s.dev.engineIdle = false →
      exec (.keeperRestartDone k true) s = .next s) ∧
    ((s.dev.keeper k).offUse = .restarting → s.dev.keeperPairs k = false →
      exec (.keeperRestartDone k false) s = .next (s.clocked (s.dev.keeperFail k 5 (StartSense.plain s.dev)))) ∧
    ((s.dev.keeper k).offUse ≠ .restarting → ∀ b, exec (.keeperRestartDone k b) s = .next s) ∧
    (s.dev.fn Fld.kprSelftest ≠ 0 → s.dev.Comes s.dev.keepers.selfTestDue →
      ∃ t, exec .selfTestDue s = .next t ∧ t.dev.keepers.selfTestWanted = true ∧ t.dev.now = s.dev.keepers.selfTestDue) ∧
    (s.dev.fn Fld.kprSelftest = 0 → exec .selfTestDue s = .next s) ∧
    (∀ ss, s.dev.testedKeeper = some k → s.dev.now ≤ s.dev.keepers.selfTestStart + 50000 →
      ∃ t, exec (.selfTestResult true ss) s = .next t ∧ (t.dev.keeper k).powered = true ∧
        (t.dev.keeper k).slot = (s.dev.keeper k).slot ∧
        s.dev.Joins (s.dev.updKeeper k fun x => { x with offUse := .absorbing }).coldPair k t.dev) ∧
    (∀ ss, s.dev.testedKeeper = some k → s.dev.keepers.selfTestStart + 50000 < s.dev.now →
      exec (.selfTestResult true ss) s = .next (s.clocked (s.dev.keeperFail k 4 ss))) ∧
    (∀ ss, s.dev.testedKeeper = some k →
      exec (.selfTestResult false ss) s = .next (s.clocked (s.dev.keeperFail k 4 ss))) ∧
    (∀ pass ss, s.dev.testedKeeper = none → exec (.selfTestResult pass ss) s = .next s))

/-- The keeper watchdogs (R676 to R681): a kick or a period change is accepted in an open window; a kick in a closed one, the
end of the count, and the ROM limit are failures of that keeper; a period change in a closed window, or one out of range, is
not made. -/
def Obligations.KeeperWatchdogWindow : Prop :=
  ∀ (s : State) (k : Keeper) (ss : StartSense), s.dev.Calm →
    (s.dev.isOpen = true → s.dev.wdWrites k = true → (s.dev.kwd k).isOpen = true →
      exec (.keeperWdKick k ss) s = .next (s.put (s.dev.updKwd k fun w => { w with count := 0 })) ∧
      ∀ p, 4 ≤ p → p ≤ 4096 →
        exec (.keeperWdPeriodWrite k p) s = .next (s.put (s.dev.updKwd k fun w => { w with period := p, count := 0 }))) ∧
    (s.dev.isOpen = true → s.dev.wdWrites k = true → (s.dev.kwd k).isOpen = false →
      exec (.keeperWdKick k ss) s = .next (s.clocked ((s.dev.raise (coded 0x10 2 (keeperCode k))).keeperFail k 1 ss)) ∧
      ∀ p, 4 ≤ p → p ≤ 4096 →
        exec (.keeperWdPeriodWrite k p) s = .next (s.onto (s.dev.raise (coded 0x10 3 (keeperCode k))))) ∧
    (∀ p, p < 4 ∨ 4096 < p → exec (.keeperWdPeriodWrite k p) s = .next s) ∧
    (s.dev.isOpen = true → (s.dev.kwd k).mode = .counting →
      exec (.keeperWdExpiry k ss) s = .next (s.clocked ((s.dev.raise (coded 0x10 1 (keeperCode k))).keeperFail k 1 ss))) ∧
    (∀ b, s.dev.isOpen = true → (s.dev.kwd k).mode = .rom b → s.dev.Comes (b + 12000000) →
      exec (.romLimitExpiry k ss) s = .next (s.clocked
        (((s.dev.moveTo (b + 12000000)).raise (coded 0x10 1 (keeperCode k))).keeperFail k 1 ss)))

/-- Stages and writes that end by themselves (R224, R226, R755): the end of an erase opens the stage, or the write, and
completes its OPEN; a minute without a request abandons it, and NVM stays. Staged bytes of a lone waiting DATA request of at
most 256 bytes are programmed where they belong, every other byte of NVM stays, and the request completes (R225). -/
def Obligations.StagesTakeTheirBytes : Prop :=
  (∀ s : State, s.dev.Calm →
    (∀ x, s.dev.images.erasing = some x → s.dev.romHold = false →
      ∃ t, exec .imageEraseEnd s = .next t ∧ t.dev.images.erasing = none ∧
        t.dev.images.stage = some { x with lastUse := s.dev.now } ∧
        (∀ r, s.dev.waitingPhase 0x910 101 = some r → t.dev.findRec r.id = none) ∧ t.dev.nvm = s.dev.nvm) ∧
    (∀ x, s.dev.images.stage = some x → s.dev.Comes (x.lastUse + 60000000) →
      ∃ t, exec .imageStageAbandon s = .next t ∧ t.dev.images.stage = none ∧ t.dev.nvm = s.dev.nvm ∧
        t.dev.now = x.lastUse + 60000000 ∧
        (s.dev.collecting = true → s.dev.faults.fifo.length < 64 →
          ∃ m ∈ t.dev.faults.fifo, m.msg = coded 3 4 (keeperCode x.keeper))) ∧
    (∀ w id, s.dev.rcp.erasing = some (w, id) →
      ∃ t, exec .recipeEraseEnd s = .next t ∧ t.dev.rcp.erasing = none ∧
        t.dev.rcp.write = some { w with lastUse := s.dev.now } ∧ t.dev.findRec id = none ∧ t.dev.nvm = s.dev.nvm) ∧
    (∀ w, s.dev.rcp.write = some w → s.dev.Comes (w.lastUse + 60000000) →
      exec .recipeWriteAbandon s = .next (s.put (((s.dev.moveTo (w.lastUse + 60000000)).updRcp fun r =>
        { r with write := none }).dataDrop 0xA01))) ∧
    (s.dev.images.erasing = none → s.dev.romHold = false → exec .imageEraseEnd s = .next s) ∧
    (s.dev.images.stage = none → exec .imageStageAbandon s = .next s) ∧
    (s.dev.rcp.erasing = none → exec .recipeEraseEnd s = .next s) ∧
    (s.dev.rcp.write = none → exec .recipeWriteAbandon s = .next s)) ∧
  (∀ (d : Device) (x : Stage) (r : Rec), d.MemWf → d.images.stage = some x → d.stagedRecs 0x910 = [r] →
    r.wait.getD 0 0 = 0 → r.staged.2.length ≤ 256 →
    d.imageProgram.nvmRead (slotBase x.slot + r.staged.1) r.staged.2.length = r.staged.2 ∧
    (∀ a, a < slotBase x.slot + r.staged.1 ∨ slotBase x.slot + r.staged.1 + r.staged.2.length ≤ a →
      d.imageProgram.nvmRead a 1 = d.nvmRead a 1) ∧
    d.imageProgram.findRec r.id = none)

/-! ### Rails and votes (chapters 10 and 11) -/

/-- The combination of a rail's votes (R381, R382, R386): with none its enable is 0 and the rest stays; with some it is
enabled, its setpoint lies at or above every vote that the Recipe's limits allow, and its code is the smallest that a vote
names, 25 where none does. What a Batch edge makes of a rail (R348, R357, R358, R370, R372): HELD stays; OFF begins proofing
only when enabled with its supply good; TRIPPED stays until its delay has passed; a rail that is on goes OFF with its enable,
its ladder at 0. -/
def Obligations.VotesMakeTargetsAndEdges : Prop :=
  (∀ (d : Device) (vs : List Vote) (old : RailTarget) (r : RailId),
    ((∀ v ∈ vs, v.rail ≠ r) → d.combine vs old r = { old with en := false }) ∧
    (∀ v ∈ vs, v.rail = r →
      (d.combine vs old r).en = true ∧
      (v.code ≠ 0 → (d.combine vs old r).ilim ≤ v.code) ∧
      ((∀ w ∈ vs, w.rail = r → w.code = 0) → (d.combine vs old r).ilim = 25) ∧
      (settable r = true → v.mv ≤ d.fn Fld.railVmax r.val → v.mv ≤ (d.combine vs old r).mv))) ∧
  (∀ (d : Device) (t : Nat) (r : RailId),
    (d.railSt r = .held → d.railNext t r = d.rails.rails.get r) ∧
    (d.railSt r = .off → (d.railTarget r).en = false ∨ d.supplyOk r = false → d.railNext t r = d.rails.rails.get r) ∧
    (d.railSt r = .off → (d.railTarget r).en = true → d.supplyOk r = true → r.val ≠ 8 → d.faults.dieHot = false →
      (d.railNext t r).st = .proofing ∧ (d.railNext t r).since = t ∧ (d.railNext t r).ladder = (d.rails.rails.get r).ladder) ∧
    (d.railSt r = .tripped → d.retryReady t (d.rails.rails.get r) = false → d.railNext t r = d.rails.rails.get r) ∧
    (d.railSt r = .tripped → d.retryReady t (d.rails.rails.get r) = true → (d.railTarget r).en = false →
      (d.railNext t r).st = .off ∧ (d.railNext t r).ladder = 0) ∧
    ((d.railSt r).isOn = true → (d.railTarget r).en = false →
      (d.railNext t r).st = .off ∧ (d.railNext t r).ladder = 0) ∧
    ((d.railSt r).isOn = true → (d.railTarget r).en = true → (d.railNext t r).st = d.railSt r) ∧
    (d.gated r = true → (d.railTarget r).en = false))

/-- A rail's own events (R354, R359, R361, R365, R367, R370): power-good that has held makes a rail PROOFED, in proofing where it came
within the window; a proofing that fails by one of R361's conditions trips it, one step up its ladder, to TRIPPED with the step's
delay or to HELD past the last one; an output below the falling threshold is shown and reported as a sag, in current limit it is an
over-current, and one above 110 % an over-voltage; a sensor at 140 °C trips every rail on it. LDO5 is only reported. An output that
does not meet the condition changes nothing. -/
def Obligations.RailEventsMoveItsState : Prop :=
  ∀ (s : State) (r : RailId) (mv : Nat), s.dev.Calm →
    (∀ at_ cross, at_ = (s.dev.rails.rails.get r).since + s.dev.pgHold r → cross = max s.dev.now at_ - s.dev.pgHold r →
      (s.dev.railSt r = .sagging ∨ (s.dev.railSt r = .proofing ∧ cross ≤ (s.dev.rails.rails.get r).since + s.dev.proofUs r)) →
      s.dev.aboveRising r cross mv = true → s.dev.Meets at_ →
      exec (.railProofed r mv) s = .next (s.put ((s.dev.moveTo at_).updRail r fun h =>
        { h with meas := mv, st := .proofed, since := max s.dev.now at_, inLimit := false, foldback := false }))) ∧
    (s.dev.aboveRising r (max s.dev.now ((s.dev.rails.rails.get r).since + s.dev.pgHold r) - s.dev.pgHold r) mv = false →
      exec (.railProofed r mv) s = .next s) ∧
    (s.dev.railSt r ≠ .proofing → s.dev.railSt r ≠ .sagging → exec (.railProofed r mv) s = .next s) ∧
    (∀ c, s.dev.railSt r ≠ .proofing ∨ s.dev.failsBy r c (s.dev.failAt r c) mv = false → exec (.proofFail r c mv) s = .next s) ∧
    (∀ c, s.dev.railSt r = .proofing → r.val ≠ 8 → s.dev.failsBy r c (s.dev.failAt r c) mv = true →
      s.dev.Meets (s.dev.failAt r c) →
      ∃ t, exec (.proofFail r c mv) s = .next t ∧ t.dev.now = max s.dev.now (s.dev.failAt r c) ∧
        t.dev.railSt r = (if s.dev.fn Fld.railRetries r.val < (s.dev.rails.rails.get r).ladder + 1 then .held else .tripped) ∧
        (t.dev.rails.rails.get r).ladder = min 15 ((s.dev.rails.rails.get r).ladder + 1) ∧
        (t.dev.rails.rails.get r).lastTrip = (match c with | .halfWindow => 1 | .foldback => 2 | .windowEnd => 3) ∧
        (t.dev.railSt r = .tripped → (t.dev.rails.rails.get r).retryAt =
          t.dev.now + 1000 * s.dev.fn Fld.railRetryMs (4 * r.val + (s.dev.rails.rails.get r).ladder)) ∧
        (∀ x, x ≠ r → t.dev.rails.rails.get x = s.dev.rails.rails.get x) ∧ t.dev.nvm = s.dev.nvm ∧
        t.dev.priv.votes = s.dev.priv.votes) ∧
    (∀ at_, at_ = max s.dev.now ((s.dev.rails.rails.get r).since + 20) →
      (s.dev.railSt r = .proofed → (s.dev.rails.rails.get r).inLimit = false → s.dev.belowFalling r at_ mv = true →
        s.dev.Meets at_ →
        ∃ t, exec (.railSag r mv) s = .next t ∧ t.dev.now = at_ ∧ t.dev.railSt r = .sagging ∧
          (∀ x, x ≠ r → t.dev.rails.rails.get x = s.dev.rails.rails.get x) ∧
          (r.val ≠ 8 → s.dev.collecting = true → s.dev.faults.fifo.length < 60 →
            ∃ m ∈ t.dev.faults.fifo, m.msg = coded 6 7 r.val)) ∧
      (s.dev.railSt r ≠ .proofed ∨ (s.dev.rails.rails.get r).inLimit = true ∨ s.dev.belowFalling r at_ mv = false →
        exec (.railSag r mv) s = .next s)) ∧
    (∀ at_, at_ = max s.dev.now ((s.dev.rails.rails.get r).since + foldUs r) →
      (s.dev.railSt r).inService = true → s.dev.collecting = true → r.val ≠ 8 → s.dev.belowFalling r at_ mv = true →
      s.dev.Meets at_ → (∀ x, s.dev.supplyOf x ≠ some r) →
      ∃ t, exec (.railTrip r .overCurrent mv) s = .next t ∧ t.dev.now = at_ ∧ (t.dev.railSt r).isOn = false ∧
        (t.dev.rails.rails.get r).lastTrip = 4 ∧
        (t.dev.rails.rails.get r).ladder = min 15 ((s.dev.rails.rails.get r).ladder + 1) ∧
        ∀ x, x ≠ r → t.dev.rails.rails.get x = s.dev.rails.rails.get x) ∧
    (∀ at_, at_ = max s.dev.now ((s.dev.rails.rails.get r).since + 10) →
      (s.dev.railSt r).isOn = true → s.dev.collecting = true → r.val ≤ 7 ∨ r.val = 9 → (r.val = 3 → s.dev.paThrough = false) →
      s.dev.overTop r at_ mv = true → s.dev.Meets at_ → (∀ x, s.dev.supplyOf x ≠ some r) →
      ∃ t, exec (.railTrip r .overVoltage mv) s = .next t ∧ t.dev.now = at_ ∧ (t.dev.railSt r).isOn = false ∧
        (t.dev.rails.rails.get r).lastTrip = 5 ∧ ∀ x, x ≠ r → t.dev.rails.rails.get x = s.dev.rails.rails.get x) ∧
    (∀ k, sensorOf r = some k → (s.dev.railSt r).isOn = true → s.dev.collecting = true →
      ∃ t, exec (.railTrip r .thermal mv) s = .next t ∧ ∀ x, sensorOf x = some k → (t.dev.railSt x).isOn = false) ∧
    (s.dev.collecting = true →
      ∃ t, exec (.railTrip 8 .overCurrent mv) s = .next t ∧ t.dev.railSt 8 = s.dev.railSt 8 ∧
        (s.dev.faults.fifo.length < 64 → ∃ m ∈ t.dev.faults.fifo, m.msg = coded 6 2 8)) ∧
    (s.dev.collecting = false → ∀ c, exec (.railTrip r c mv) s = .next s)

/-- Delays and warnings of rails (R351, R367, R370, R371): the delay of a TRIPPED rail makes it ready for the next edge, 10 s
PROOFED clear its ladder; a thermal sensor at 125 °C warns once for the rails on it, and one below 120 °C lets them be
released; under AUTO an enabled PA can move to VSYS. -/
def Obligations.RailDelaysAndWarnings : Prop :=
  ∀ (s : State) (r : RailId), s.dev.Calm →
    (s.dev.railSt r = .tripped → s.dev.Meets (s.dev.rails.rails.get r).retryAt →
      exec (.retryRelease r) s = .next (s.put ((s.dev.moveTo (s.dev.rails.rails.get r).retryAt).updRail r fun h =>
        { h with retryDue := true }))) ∧
    (s.dev.railSt r ≠ .tripped → exec (.retryRelease r) s = .next s) ∧
    (s.dev.railSt r = .proofed → s.dev.Meets ((s.dev.rails.rails.get r).since + 10000000) →
      exec (.ladderReset r) s = .next (s.put ((s.dev.moveTo ((s.dev.rails.rails.get r).since + 10000000)).updRail r fun h =>
        { h with ladder := 0 }))) ∧
    (s.dev.railSt r ≠ .proofed → exec (.ladderReset r) s = .next s) ∧
    (∀ k : Fin 7, s.dev.collecting = false ∨ s.dev.rails.thermWarn.getLsbD k.val = true →
      exec (.thermalWarning k) s = .next s) ∧
    (∀ k : Fin 7, s.dev.collecting = true → s.dev.rails.thermWarn.getLsbD k.val = false →
      ∃ t, exec (.thermalWarning k) s = .next t ∧ t.dev.rails.thermWarn = s.dev.rails.thermWarn ||| BitVec.twoPow 7 k.val ∧
        t.dev.rails.rails = s.dev.rails.rails) ∧
    (∀ k : Fin 7, ∃ t, exec (.thermalWarningClear k) s = .next t ∧ t.dev.rails.thermWarn.getLsbD k.val = false ∧
      (∀ x, sensorOf x = some k → (t.dev.rails.rails.get x).thermalHold = false) ∧
      (∀ x, sensorOf x ≠ some k → t.dev.rails.rails.get x = s.dev.rails.rails.get x)) ∧
    ((s.dev.railSt 3).isOn = true → s.dev.fn Fld.paSrc = 0 →
      exec .paSourceSwitch s = .next (s.put (s.dev.updRails fun b => { b with paReservoir := false }))) ∧
    ((s.dev.railSt 3).isOn = false ∨ s.dev.fn Fld.paSrc ≠ 0 → exec .paSourceSwitch s = .next s)

/-! ### The power path (chapter 12) -/

/-- The dock (R96, R101, R421 to R427, R661): DCIN's arrival begins detection at 100 mA and ends SHIP; its end and over-voltage
drop the limit to 0; the end of detection, not before its steps have run, and a change of the Type-C level set the limit. -/
def Obligations.DockInputIsFollowed : Prop :=
  ∀ s : State, s.dev.Calm →
    (s.dev.path.dcValid = true → exec .dcinValid s = .next s) ∧
    (s.dev.path.dcValid = false →
      ∃ t, exec .dcinValid s = .next t ∧ t.dev.path.dcValid = true ∧ t.dev.path.dcSince = s.dev.now ∧ t.dev.path.dock = 1 ∧
        t.dev.path.dockMa = 100 ∧ (s.dev.power.phase = .ship → t.dev.power.phase = .por ∧ t.dev.power.shipLatch = false)) ∧
    (∃ t, exec .dcinInvalid s = .next t ∧ t.dev.path.dcValid = false ∧ t.dev.path.dcOv = false ∧
      (s.dev.path.dcValid = true → t.dev.path.dock = 0 ∧ t.dev.path.dockMa = 0 ∧ t.dev.path.dcLost = true) ∧
      (s.dev.power.phase = .sealed → t.dev.faults.graveLow = true)) ∧
    (∀ mv, s.dev.path.dcOv = true ∨ mv ≤ 6800 → exec (.dcOv mv) s = .next s) ∧
    (∀ mv, s.dev.path.dcOv = false → 6800 < mv →
      ∃ t, exec (.dcOv mv) s = .next t ∧ t.dev.path.dcOv = true ∧ t.dev.path.dcValid = false ∧
        (s.dev.path.dcValid = true → t.dev.path.dock = 0 ∧ t.dev.path.dockMa = 0) ∧
        (s.dev.collecting = true → s.dev.pairCut 17 = false → s.dev.faults.fifo.length < 60 →
          t.dev.Said (coded 8 1 (min 65535 (mv / 100))))) ∧
    (∀ code cc2, s.dev.path.dcValid = true → s.dev.path.dock = 1 → 2 ≤ code → code ≤ 8 →
      s.dev.Meets (s.dev.path.dcSince + dockTime code) →
      ∃ t, exec (.dockDetectionEnd code cc2) s = .next t ∧ t.dev.now = max s.dev.now (s.dev.path.dcSince + dockTime code) ∧
        t.dev.path.dock = code ∧ t.dev.path.cc2 = cc2 ∧ t.dev.path.dockMa = s.dev.dockLimit code) ∧
    (∀ code cc2, s.dev.path.dcValid = false ∨ s.dev.path.dock ≠ 1 ∨ code < 2 ∨ 8 < code →
      exec (.dockDetectionEnd code cc2) s = .next s) ∧
    (s.dev.path.dcValid = true → s.dev.path.dock ≠ 1 →
      exec (.ccLevelChange 0) s = .next s ∧
      exec (.ccLevelChange 2) s = .next (s.put (s.dev.updPath fun p => { p with dock := 7, dockMa := 1500 })) ∧
      exec (.ccLevelChange 3) s = .next (s.put (s.dev.updPath fun p => { p with dock := 8, dockMa := 3000 })) ∧
      (s.dev.path.bcResult = none →
        exec (.ccLevelChange 1) s = .next (s.put (s.dev.updPath fun p => { p with dock := 6, dockMa := 500 }))) ∧
      (∀ c, s.dev.path.bcResult = some c →
        exec (.ccLevelChange 1) s = .next (s.put (s.dev.updPath fun p => { p with dock := c, dockMa := s.dev.dockLimit c })))) ∧
    (∀ k, s.dev.path.dcValid = false ∨ s.dev.path.dock = 1 → exec (.ccLevelChange k) s = .next s)

/-- VSYS over-voltage and the battery FET (R414, R417 to R420): each is reported once; undervoltage opens the FET off the
dock, over-current opens it, and holds it at the third opening within 60 s; BATFET_CLOSE at the level makes the FET ready, and
where the other conditions hold it is the edge that closes it. -/
def Obligations.BatteryFetOpensAndCloses : Prop :=
  ∀ s : State, s.dev.Calm →
    (s.dev.path.vsysOv = true ∨ s.dev.powered = false → exec .vsysOv s = .next s) ∧
    (s.dev.path.vsysOv = false → s.dev.powered = true →
      ∃ t, exec .vsysOv s = .next t ∧ t.dev.path.vsysOv = true ∧ t.dev.path.fet = s.dev.path.fet ∧
        (s.dev.pairCut 16 = false → s.dev.faults.fifo.length < 64 → t.dev.Said (coded 8 3))) ∧
    (∃ t, exec .vsysOvClear s = .next t ∧ t.dev.path.vsysOv = false ∧ t.dev.faults = s.dev.faults ∧ t.dev.rails = s.dev.rails) ∧
    (∀ mv, s.dev.fetWatched = true → s.dev.path.dcValid = false → mv < 10 * s.dev.fn Fld.pathBatUv →
      ∃ t, exec (.batfetUvOpen mv) s = .next t ∧ t.dev.path.fet = .off ∧ t.dev.path.fetCause = 2) ∧
    (∀ mv, s.dev.fetWatched = false ∨ s.dev.path.dcValid = true ∨ 10 * s.dev.fn Fld.pathBatUv ≤ mv →
      exec (.batfetUvOpen mv) s = .next s) ∧
    (∀ mv, s.dev.fetWatched = true →
      ∃ t, exec (.batfetOcOpen mv) s = .next t ∧ t.dev.path.fet = .off ∧ t.dev.path.fetCause = 4 ∧
        t.dev.path.ocTimes = s.dev.path.ocWithin s.dev.now ∧
        (t.dev.path.ocHeld = true ↔ s.dev.path.ocHeld = true ∨ 3 ≤ (s.dev.path.ocWithin s.dev.now).length)) ∧
    (∀ mv, s.dev.fetWatched = false → exec (.batfetOcOpen mv) s = .next s) ∧
    (∀ mv, s.dev.powered = true → s.dev.path.fet = .off → 10 * s.dev.fn Fld.pathBatRecover ≤ mv →
      (({ s.dev with path := { s.dev.path with fetReady := true } } : Device).fetMayClose s.dev.batch.nextEdge = false →
        exec (.batfetClose mv) s = .next (s.put (s.dev.updPath fun p => { p with fetReady := true }))) ∧
      (({ s.dev with path := { s.dev.path with fetReady := true } } : Device).fetMayClose s.dev.batch.nextEdge = true →
        exec (.batfetClose mv) s = exec (.batchEdge { s.dev.sample with batMv := mv } .full (StartSense.plain s.dev))
          (s.put (s.dev.updPath fun p => { p with fetReady := true })))) ∧
    (∀ mv, s.dev.powered = false ∨ s.dev.path.fet ≠ .off ∨ mv < 10 * s.dev.fn Fld.pathBatRecover →
      exec (.batfetClose mv) s = .next s) ∧
    (∀ ma, s.dev.isOpen = true → s.dev.path.fet = .off → 5 < ma →
      exec (.batfetStuck ma) s = .next (s.onto (s.dev.raise (coded 8 6 (min 65535 ma))))) ∧
    (∀ ma, s.dev.isOpen = false ∨ s.dev.path.fet ≠ .off ∨ ma ≤ 5 → exec (.batfetStuck ma) s = .next s)

/-- The primary reserve (R438, R439, R453): a low input ends its use; a pulse runs when it is due and the reserve is free,
else it waits or is passed over; its end leaves the loaded sample, and a repeat 60 s later where that was too low. -/
def Obligations.PrimaryReservePulses : Prop :=
  ∀ (s : State) (mv : Nat), s.dev.Calm →
    (s.dev.path.priInUse = false ∨ 10 * s.dev.fn Fld.priVmin ≤ mv → exec (.priLow mv) s = .next s) ∧
    (s.dev.path.priInUse = true → mv < 10 * s.dev.fn Fld.priVmin →
      ∃ t, exec (.priLow mv) s = .next t ∧ t.dev.path.priInUse = false ∧ t.dev.sample.priMv = mv ∧
        (s.dev.collecting = true → s.dev.faults.fifo.length < 60 → t.dev.Said (coded 8 8 (mv10 mv)))) ∧
    (s.dev.isOpen = true → s.dev.pulseFree = true → s.dev.path.repeatAt = none → s.dev.fn Fld.priPulseH ≠ 0 →
      s.dev.Meets s.dev.path.pulseAt → ∀ at_, at_ = max s.dev.now s.dev.path.pulseAt →
      exec (.passivationPulseDue mv) s = .next (s.put ((s.dev.moveTo s.dev.path.pulseAt).updPath fun p =>
        { p with
          pulse := some { req := none, start := at_, before := mv, ma := s.dev.fn Fld.priPulseMa,
                          ms := 10 * s.dev.fn Fld.priPulseMs, rep := false },
          pulseLast := at_, pulseAt := at_ + s.dev.fn Fld.priPulseH * 3600000000, pulseDue := false, repeatAt := none }))) ∧
    (s.dev.isOpen = true → s.dev.fn Fld.priPresent = 1 → s.dev.pulseFree = false → s.dev.path.repeatAt = none →
      s.dev.fn Fld.priPulseH ≠ 0 → s.dev.Meets s.dev.path.pulseAt →
      exec (.passivationPulseDue mv) s = .next (s.put ((s.dev.moveTo s.dev.path.pulseAt).updPath fun p =>
        { p with pulseAt := p.pulseAt + 3600000000 * s.dev.fn Fld.priPulseH }))) ∧
    (∀ t0 ma ms, s.dev.isOpen = true → s.dev.pulseFree = true → s.dev.path.repeatAt = some (t0, ma, ms) → s.dev.Meets t0 →
      ∃ t, exec (.passivationPulseDue mv) s = .next t ∧ t.dev.path.repeatAt = none ∧
        t.dev.path.pulse = some { req := none, start := max s.dev.now t0, before := mv, ma := ma, ms := ms, rep := true }) ∧
    (s.dev.path.pulse = none → exec (.priPulseEnd mv) s = .next s) ∧
    (∀ p at_, s.dev.path.pulse = some p → s.dev.Meets (p.start + 1000 * p.ms) → at_ = max s.dev.now (p.start + 1000 * p.ms) →
      ∃ t, exec (.priPulseEnd mv) s = .next t ∧ t.dev.now = at_ ∧ t.dev.path.pulse = none ∧ t.dev.path.priLoad = mv ∧
        t.dev.path.repeatAt = (if mv < 10 * s.dev.fn Fld.priPassMv ∧ p.rep = false
          then some (at_ + 60000000, p.ma, p.ms) else none) ∧
        (∀ id, p.req = some id → t.dev.findRec id = none))

/-- PV and the reservoir (R430, R431, R441 to R445): a sample, at the end of its 4 ms stop, sets the open-circuit voltage and the
regulation point; the reservoir's charger stops at its faults, which are reported once and as the samples show them, and runs
only where R443 lets it. -/
def Obligations.PvAndReservoir : Prop :=
  ∀ s : State, s.dev.Calm →
    (∀ v, s.dev.powered = true → s.dev.fn Fld.pvPresent = 1 → s.dev.pvInForce.1 = .focv → s.dev.Meets (s.dev.path.pvAt + 4000) →
      ∃ t, exec (.pvFocvSample v) s = .next t ∧ t.dev.now = max s.dev.now (s.dev.path.pvAt + 4000) ∧ t.dev.path.pvVoc = v ∧
        t.dev.path.pvReg = quot 52 (s.dev.pvInForce.2.1 * v) 100 ∧
        t.dev.path.pvAt + 4000 = t.dev.now + 1000000 * s.dev.fn Fld.pvSampleS ∧ t.dev.path.dcValid = s.dev.path.dcValid) ∧
    (∀ v, s.dev.powered = false ∨ s.dev.fn Fld.pvPresent ≠ 1 ∨ s.dev.pvInForce.1 ≠ .focv →
      exec (.pvFocvSample v) s = .next s) ∧
    (s.dev.power.phase = .por → exec .pvColdStart s = .next (s.put (s.dev.updPath fun p => { p with pvCold := true }))) ∧
    (s.dev.power.phase ≠ .por → exec .pvColdStart s = .next s) ∧
    (∀ q, s.dev.resWatched = false ∨ s.dev.path.resImbal = true ∨
        s.dev.showsOpen (s.dev.resOff (10 * q.toNat) || s.dev.resOff (10 * q.toNat + 9)) = false →
      exec (.resImbal q) s = .next s) ∧
    (∀ q, s.dev.resWatched = true → s.dev.path.resImbal = false →
      s.dev.showsOpen (s.dev.resOff (10 * q.toNat) || s.dev.resOff (10 * q.toNat + 9)) = true →
      ∃ t, exec (.resImbal q) s = .next t ∧ t.dev.path.resImbal = true ∧ t.dev.path.resCharging = false ∧
        (s.dev.pairCut 18 = false → s.dev.faults.fifo.length < 64 → t.dev.Said (coded 8 10 q.toNat))) ∧
    (s.dev.resWatched = false ∨ s.dev.path.resOv = true → exec .resOv s = .next s) ∧
    (s.dev.resWatched = true → s.dev.path.resOv = false →
      ∃ t, exec .resOv s = .next t ∧ t.dev.path.resOv = true ∧ t.dev.path.resCharging = false ∧
        (s.dev.pairCut 18 = false → s.dev.faults.fifo.length < 64 → t.dev.Said (coded 8 11))) ∧
    (s.dev.path.resOv = false → exec .resOvClear s = .next s) ∧
    (s.dev.path.resOv = true →
      ∃ t, exec .resOvClear s = .next t ∧ t.dev.path.resOv = false ∧
        (s.dev.path.resImbal = true → t.dev.path.resCharging = s.dev.path.resCharging)) ∧
    (s.dev.path.resImbal = false ∨ s.dev.showsOpen (!s.dev.resOff s.dev.sample.capmMv) = false →
      exec .resImbalClear s = .next s) ∧
    (s.dev.path.resImbal = true → s.dev.showsOpen (!s.dev.resOff s.dev.sample.capmMv) = true →
      ∃ t, exec .resImbalClear s = .next t ∧ t.dev.path.resImbal = false ∧
        (s.dev.path.resOv = true → t.dev.path.resCharging = s.dev.path.resCharging)) ∧
    (s.dev.resMayCharge = true → s.dev.resTarget ≠ 0 →
      exec .reservoirChargeStart s = .next (s.put (s.dev.updPath fun p => { p with resCharging := true }))) ∧
    (s.dev.resMayCharge = false ∨ s.dev.resTarget = 0 → exec .reservoirChargeStart s = .next s) ∧
    exec .reservoirChargeStop s = .next (s.put (s.dev.updPath fun p => { p with resCharging := false }))

/-! ### The angle engine (chapter 13) -/

/-- The rectifier's conditions (R414, R434, R475, R478): the clamp keeps every gate event from the gates, a crossing of the
VSYS ceiling changes cause 9, and a cut turns one gate off and is counted. -/
def Obligations.ClampCeilingAndCutsActOnGates : Prop :=
  ∀ s : State, s.dev.Calm →
    exec .kineticClamp s = .next (s.put { s.dev with
      path := { s.dev.path with clamp := true }, kin := { s.dev.kin with active := false, gates := 0 } }) ∧
    (∃ t, exec .kineticClampRelease s = .next t ∧ t.dev.path.clamp = false ∧ t.dev.path.vsysOv = s.dev.path.vsysOv ∧
      (t.dev.kin.active = true ↔ s.dev.kinCause = 0 ∧ s.dev.path.vsysOv = false) ∧
      t.dev.kin.gates = (if s.dev.kinCause = 0 ∧ s.dev.path.vsysOv = false then s.dev.kin.gates else 0) ∧
      t.dev.faults = s.dev.faults ∧ t.dev.rails = s.dev.rails) ∧
    (s.dev.powered = false → exec .vsysCeilingCrossing s = .next s) ∧
    (s.dev.powered = true → ∃ t, exec .vsysCeilingCrossing s = .next t ∧ t.dev.kin.ceiling = !s.dev.kin.ceiling ∧
      (s.dev.kin.ceiling = false → t.dev.kin.active = false ∧ t.dev.kin.gates = 0) ∧
      t.dev.path = s.dev.path ∧ t.dev.faults = s.dev.faults ∧ t.dev.kin.counter = s.dev.kin.counter) ∧
    (∀ g : Fin 6, (s.dev.kin.gates.getLsbD g.val = false → exec (.reverseCurrentCut g) s = .next s) ∧
      (s.dev.kin.gates.getLsbD g.val = true → ∃ t, exec (.reverseCurrentCut g) s = .next t ∧
        (∀ h : Fin 6, t.dev.kin.gates.getLsbD h.val = (s.dev.kin.gates.getLsbD h.val && decide (h ≠ g))) ∧
        t.dev.kin.cuts = min 0xFFFFFFFF (s.dev.kin.cuts + 1) ∧ t.dev.path = s.dev.path ∧ t.dev.faults = s.dev.faults))

/-- The rotor (R355, R455 to R466): an accepted edge gives the direction and its time, and with synchronisation the counter snaps
to the edge's nominal angle; the counter steps one count between edges, at its time by the estimated rate; a stall holds the
last edge's angle; an illegal transition loses synchronisation; and TWPWR is released after its hold, is then enabled and
sampled in turn, and returns when a sample shows motion. -/
def Obligations.RotorEventsMoveTheCounter : Prop :=
  ∀ s : State, s.dev.Calm →
    (∀ e time, s.dev.sensorsOn = false → exec (.hallEdge e time) s = .next s) ∧
    (∀ e time, s.dev.sensorsOn = true → s.dev.Comes (max time s.dev.now) → s.dev.kin.twCont = true →
      ∃ t, exec (.hallEdge e time) s = .next t ∧ t.dev.now = max time s.dev.now ∧
        t.dev.kin.seen = true ∧ t.dev.kin.stopped = false ∧ t.dev.kin.lastEdge = max time s.dev.now ∧
        t.dev.kin.rev = edgeReverse e (if edgeOnA e then s.dev.kin.lvlB else s.dev.kin.lvlA) ∧
        t.dev.kin.lvlA = (if edgeOnA e then edgeLevel e else s.dev.kin.lvlA) ∧
        t.dev.kin.lvlB = (if edgeOnA e then s.dev.kin.lvlB else edgeLevel e) ∧
        (s.dev.kin.seen = true → t.dev.kin.rev ≠ s.dev.kin.rev →
          t.dev.kin.reversals = min 0xFFFFFFFF (s.dev.kin.reversals + 1)) ∧
        (edgeOnA e = false → s.dev.kin.synced = true → s.dev.kin.pos ≤ 91 → s.dev.kin.seen = true →
          t.dev.kin.pos = (if t.dev.kin.rev = s.dev.kin.rev then nextPos s.dev.kin.rev s.dev.kin.pos else s.dev.kin.pos) ∧
          t.dev.kin.counter.toNat % 4096 = nominal t.dev.kin.pos) ∧
        t.dev.priv = s.dev.priv ∧ t.dev.nvm = s.dev.nvm ∧ t.dev.wram = s.dev.wram) ∧
    (s.dev.sensorsOn = false → exec .illegalTransition s = .next s) ∧
    (s.dev.sensorsOn = true → ∃ t, exec .illegalTransition s = .next t ∧ t.dev.kin.sensorBad = true ∧
      t.dev.kin.synced = false ∧ t.dev.kin.active = false ∧ t.dev.kin.gates = 0 ∧
      (s.dev.kin.synced = true → t.dev.kin.counter = 0)) ∧
    (s.dev.sensorsOn = false ∨ s.dev.kin.mayStep = false → exec .counterInterpolate s = .next s) ∧
    (∀ t0, s.dev.sensorsOn = true → s.dev.kin.mayStep = true → s.dev.kin.stepTime = some t0 → s.dev.Meets t0 →
      ∃ t, exec .counterInterpolate s = .next t ∧ t.dev.now = max s.dev.now t0 ∧
        t.dev.kin.counter = (if s.dev.kin.rev then s.dev.kin.counter - 1 else s.dev.kin.counter + 1) ∧
        t.dev.kin.pos = s.dev.kin.pos ∧ t.dev.kin.hist = s.dev.kin.hist) ∧
    (∀ t0, t0 = s.dev.kin.lastEdge + 200000 →
      s.dev.kinPresent = true → s.dev.isOpen = true → s.dev.kin.stopped = false → s.dev.Meets t0 →
      ∃ t, exec .rotorStall s = .next t ∧ t.dev.now = max s.dev.now t0 ∧ t.dev.kin.stopped = true ∧
        t.dev.kin.stopTime = t0 ∧ t.dev.kin.synced = s.dev.kin.synced ∧
        (s.dev.kin.synced = true → s.dev.kin.pos ≤ 91 → t.dev.kin.counter.toNat % 4096 = nominal s.dev.kin.pos)) ∧
    (s.dev.kinPresent = false ∨ s.dev.isOpen = false ∨ s.dev.kin.stopped = true → exec .rotorStall s = .next s) ∧
    (∀ t0, t0 = s.dev.kin.stopTime + 1000 * s.dev.fn Fld.kinTwHold →
      s.dev.kinPresent = true → s.dev.isOpen = true → s.dev.kin.stopped = true → s.dev.kin.twCont = true → s.dev.Meets t0 →
      ∃ t, exec .twpwrHoldEnd s = .next t ∧ t.dev.now = max s.dev.now t0 ∧ t.dev.kin.twCont = false ∧
        t.dev.rails.twDuty = false ∧ t.dev.kin.twAt = t.dev.now ∧
        (s.dev.ldo6Voted = false → (s.dev.railSt 9).isOn = true → t.dev.railSt 9 = .off) ∧
        (s.dev.ldo6Voted = false → s.dev.railSt 9 = .proofed → t.dev.kin.synced = false)) ∧
    (∀ a b, s.dev.kinPresent = false ∨ s.dev.isOpen = false ∨ s.dev.kin.twCont = true ∨ s.dev.ldo6Voted = true ∨
      s.dev.ldo6Down = true → exec (.twpwrDutySample a b) s = .next s) ∧
    (∀ a b, s.dev.kinPresent = true → s.dev.isOpen = true → s.dev.kin.twCont = false → s.dev.ldo6Voted = false →
      s.dev.ldo6Down = false →
      (∀ t0, t0 = s.dev.kin.twAt + 1000 * s.dev.fn Fld.kinTwPeriod → s.dev.rails.twDuty = false → s.dev.railSt 9 = .off →
        s.dev.Meets t0 → ∃ t, exec (.twpwrDutySample a b) s = .next t ∧ t.dev.now = max s.dev.now t0 ∧
          t.dev.rails.twDuty = true ∧ t.dev.kin = { s.dev.kin with twAt := t.dev.now } ∧
          (s.dev.railThere 9 = true → s.dev.gated 9 = false → s.dev.faults.dieHot = false → t.dev.railSt 9 = .proofing)) ∧
      (∀ t0 x, t0 = (s.dev.rails.rails.get 9).since + 10 * s.dev.fn Fld.kinTwSettle → s.dev.rails.twDuty = true →
        s.dev.railSt 9 = .proofed → s.dev.Meets t0 → s.dev.kin.twSample = some x →
        ∃ t, exec (.twpwrDutySample a b) s = .next t ∧ t.dev.now = max s.dev.now t0 ∧
          t.dev.kin.lvlA = a ∧ t.dev.kin.lvlB = b ∧ t.dev.kin.synced = false ∧
          (x = (a, b) → t.dev.kin.twCont = false ∧ t.dev.kin.twSample = some (a, b) ∧ t.dev.rails.twDuty = false ∧
            t.dev.railSt 9 = .off) ∧
          (x ≠ (a, b) → t.dev.kin.twCont = true ∧ t.dev.kin.stopTime = t.dev.now ∧ t.dev.rails.twDuty = true)))

/-! ### The charger (chapter 14) -/

/-- The charger's phases (R491, R494 to R498): what each event of R498 does from the phase it belongs to, with the FET's state
and the timers that begin; out of that phase, and where a running Batch's sample speaks against it, it does nothing. -/
def Obligations.ChargerEventsChangePhase : Prop :=
  ∀ s : State, s.dev.Calm →
    (∀ mv t0 now', s.dev.chgRuns = true → s.dev.chg.phase = .qualify → s.dev.chgStopped = false → s.dev.chg.zone.permits = true →
      s.dev.inputPresent = true → s.dev.faults.dieHot = false → s.dev.chg.latched = 0 → s.dev.chg.removed = false →
      1500 ≤ mv → t0 = max (s.dev.chg.okSince.getD s.dev.now) s.dev.chg.clearSince + 1000000 → s.dev.Meets t0 →
      now' = max s.dev.now t0 →
      ∃ t, exec (.qualifyPass mv) s = .next t ∧ t.dev.now = now' ∧
        (mv < 10 * s.dev.fn Fld.chgVPre ∨ s.dev.fetIsOff = true →
          t.dev.chg.phase = .precharge ∧ t.dev.chg.tPre = 0 ∧ t.dev.path.fet = .charge) ∧
        (10 * s.dev.fn Fld.chgVPre ≤ mv → s.dev.fetIsOff = false → mv ≤ s.dev.rechargeLevel →
          t.dev.chg.phase = .fast ∧ t.dev.chg.tFast = 0 ∧ t.dev.chg.started = now' ∧ t.dev.path.fet = .charge) ∧
        (10 * s.dev.fn Fld.chgVPre ≤ mv → s.dev.fetIsOff = false → s.dev.rechargeLevel < mv →
          t.dev.chg.phase = .done ∧ t.dev.path.fet = .supply)) ∧
    (s.dev.chgRuns = false ∨ s.dev.chg.phase ≠ .precharge ∨
        s.dev.showsOpen (decide (s.dev.prechargeExit ≤ s.dev.sample.batMv)) = false →
      exec .prechargeExit s = .next s) ∧
    (s.dev.chgRuns = true → s.dev.chg.phase = .precharge →
      s.dev.showsOpen (decide (s.dev.prechargeExit ≤ s.dev.sample.batMv)) = true → ∃ t, exec .prechargeExit s = .next t ∧
      t.dev.chg.phase = .fast ∧ t.dev.path.fet = .charge ∧ t.dev.chg.tFast = 0 ∧ t.dev.chg.started = s.dev.now) ∧
    (s.dev.chg.phase ≠ .fast → s.dev.chg.phase ≠ .recharge → exec .cvReached s = .next s) ∧
    (s.dev.chgRuns = true → s.dev.chg.phase = .fast ∨ s.dev.chg.phase = .recharge → ∃ t, exec .cvReached s = .next t ∧
      t.dev.chg.phase = .taper ∧ t.dev.chg.tFast = s.dev.chg.tFast) ∧
    (∀ low, low = s.dev.showsOpen (s.dev.cvGoverns && decide (s.dev.sample.batUa < 5000 * (s.dev.fn Fld.chgITerm : Int))) →
      (s.dev.chg.phase ≠ .taper ∨ low = false → exec .chargeTerminate s = .next s) ∧
      (s.dev.chgRuns = true → s.dev.chg.phase = .taper → low = true → ∃ t, exec .chargeTerminate s = .next t ∧
        t.dev.chg.terminations = min 0xFFFFFFFF (s.dev.chg.terminations + 1) ∧
        t.dev.chg.phase = (if s.dev.power.phase.batchRuns then .terminate
          else if 0 < s.dev.fn Fld.chgTopoffMin then .topoff else .done) ∧
        t.dev.priv.gauge.q = t.dev.priv.gauge.fcc ∧ t.dev.priv.gauge.validity = s.dev.priv.gauge.validity.anchor)) ∧
    (s.dev.chgRuns = true → s.dev.chg.phase = .topoff →
      s.dev.Comes (s.dev.now + (60000000 * s.dev.fn Fld.chgTopoffMin - s.dev.chg.tTop)) →
      ∃ t, exec .topoffEnd s = .next t ∧ t.dev.chg.phase = .done ∧
        t.dev.now = s.dev.now + (60000000 * s.dev.fn Fld.chgTopoffMin - s.dev.chg.tTop)) ∧
    (s.dev.chg.phase ≠ .topoff → exec .topoffEnd s = .next s) ∧
    (∀ low, low = s.dev.showsOpen (decide (s.dev.sample.batMv < s.dev.rechargeLevel)) →
      (s.dev.chg.phase ≠ .done ∨ low = false → exec .rechargeStart s = .next s) ∧
      (s.dev.chgRuns = true → s.dev.chg.phase = .done → low = true → ∃ t, exec .rechargeStart s = .next t ∧
        (s.dev.inputPresent = true → t.dev.chg.phase = .recharge ∧ t.dev.chg.tFast = 0 ∧
          t.dev.chg.recharges = min 0xFFFFFFFF (s.dev.chg.recharges + 1)) ∧
        (s.dev.inputPresent = false → t.dev.chg.phase = .idle ∧ t.dev.chg.recharges = s.dev.chg.recharges))) ∧
    (∀ temp, s.dev.chgRuns = true → s.dev.chg.phase ≠ .idle → ∃ t, exec (.zoneChange temp) s = .next t ∧
      t.dev.chg.zone = s.dev.zoneFor temp s.dev.chg.zone ∧ t.dev.chg.ntcOpen = false ∧ t.dev.chg.ntcShort = false ∧
      (t.dev.chg.zone ≠ s.dev.chg.zone → t.dev.chg.zone.permits = false → t.dev.chg.phase.charging = false)) ∧
    (s.dev.chgRuns = true → s.dev.path.dcValid = false → s.dev.harvestMargin = true →
      ∃ t, exec .harvestChargingPresent s = .next t ∧
      t.dev.chg.harvest = true ∧ (s.dev.chg.phase = .idle → s.dev.chg.latched = 0 → s.dev.chgStopped = false →
        t.dev.chg.phase = if s.dev.chg.zone.permits then .qualify else .suspended)) ∧
    (s.dev.chgRuns = false ∨ s.dev.path.dcValid = true ∨ s.dev.harvestMargin = false →
      exec .harvestChargingPresent s = .next s) ∧
    (∀ draws, draws = s.dev.showsOpen (decide (s.dev.sample.batUa < -1000)) →
      (s.dev.path.dcValid = true ∨ draws = false → exec .harvestChargingCeases s = .next s) ∧
      (s.dev.chgRuns = true → s.dev.path.dcValid = false → s.dev.chgStopped = false → s.dev.chg.zone.permits = true →
        draws = true → ∃ t, exec .harvestChargingCeases s = .next t ∧ t.dev.chg.harvest = false ∧
          (s.dev.chg.phase.charging = true ∨ s.dev.chg.phase = .qualify → t.dev.chg.phase = .idle)))

/-- The charger's faults (R504 to R513): each latches its bit in phase FAULT, is reported where the device is in RUN, DOZE or
REST, and stops the charging; over-voltage with the FET OFF is Grave (R651, R659); a removal opens the FET and ends the
gauge's estimate; the device reads a removal by itself after its time. -/
def Obligations.ChargerFaultsLatch : Prop :=
  ∀ s : State, s.dev.Calm → s.dev.isOpen = true → s.dev.faults.fifo.length < 60 →
    (s.dev.preCounts = true → s.dev.Comes (s.dev.now + (60000000 * s.dev.fn Fld.chgTPreMin - s.dev.chg.tPre)) →
      ∃ t, exec .prechargeTimeout s = .next t ∧ t.dev.chg.phase = .fault ∧ t.dev.chg.latched = s.dev.chg.latched ||| 2 ∧
        t.dev.Said (coded 0x0A 2 (mv10 s.dev.sample.batMv)) ∧
        t.dev.path.fet = (if s.dev.fetIsOff then .off else .supply)) ∧
    (s.dev.preCounts = false → exec .prechargeTimeout s = .next s) ∧
    (s.dev.fastCounts = true → s.dev.Comes (s.dev.now + (600000000 * s.dev.fn Fld.chgTFastMin - s.dev.chg.tFast)) →
      ∃ t, exec .fastTimeout s = .next t ∧ t.dev.chg.phase = .fault ∧ t.dev.chg.latched = s.dev.chg.latched ||| 4 ∧
        t.dev.Said (coded 0x0A 3 s.dev.chg.phase.code)) ∧
    (s.dev.fastCounts = false → exec .fastTimeout s = .next s) ∧
    (∀ route mv, s.dev.chg.phase.charging = true →
      route = 1 ∨ (route = 2 ∧ s.dev.fn Fld.chgBatid = 1) ∨ (route = 3 ∧ s.dev.batStep mv = true) →
      ∃ t, exec (.batteryRemoved route mv) s = .next t ∧ t.dev.chg.phase = .fault ∧
        t.dev.chg.latched = s.dev.chg.latched ||| 1 ∧ t.dev.chg.removed = true ∧ t.dev.chg.requalified = false ∧
        t.dev.path.fet = .off ∧ t.dev.path.fetCause = 3 ∧ t.dev.priv.gauge.validity = .none ∧
        t.dev.Said (coded 0x0A 1 route)) ∧
    (∀ route mv, s.dev.chg.phase.charging = false ∨ (route = 2 ∧ s.dev.fn Fld.chgBatid ≠ 1) ∨
        (route = 3 ∧ s.dev.batStep mv = false) → exec (.batteryRemoved route mv) s = .next s) ∧
    (∀ mv, s.dev.path.fet = .charge → s.dev.cv + 100 < mv → ∃ t, exec (.chgBatOv mv) s = .next t ∧ t.dev.chg.phase = .fault ∧
      t.dev.chg.latched = s.dev.chg.latched ||| 8 ∧ t.dev.path.fet = (if s.dev.fetIsOff then .off else .supply) ∧
      (s.dev.pairCut 15 = false → t.dev.Said (coded 0x0A 4 (mv10 mv)))) ∧
    (∀ mv, s.dev.path.fet ≠ .charge ∨ mv ≤ s.dev.cv + 100 → exec (.chgBatOv mv) s = .next s) ∧
    (∀ mv, s.dev.path.fet = .off → s.dev.chemLimit < mv → ∃ t, exec (.chgOvFetfail mv) s = .next t ∧
      (s.dev.pairCut 15 = false → t.dev.power.phase = .sealed ∧ t.dev.power.sealedLatch = true) ∧
      (s.dev.pairCut 15 = true → t.dev.chg.phase = .fault ∧ t.dev.chg.latched = s.dev.chg.latched ||| 16 ∧
        t.dev.path.fet = .off)) ∧
    (∀ mv, s.dev.path.fet ≠ .off ∨ mv ≤ s.dev.chemLimit → exec (.chgOvFetfail mv) s = .next s) ∧
    (∃ t, exec (.chgNtc true) s = .next t ∧ t.dev.chg.phase = .fault ∧ t.dev.chg.latched = s.dev.chg.latched ||| 64 ∧
      t.dev.chg.ntcShort = true ∧ t.dev.Said (coded 0x0A 7)) ∧
    (s.dev.chg.phase.charging = true → exec (.chgNtc false) s = exec (.batteryRemoved 1 s.dev.chg.lastBatsns) s) ∧
    (s.dev.chg.phase.charging = false → ∃ t, exec (.chgNtc false) s = .next t ∧ t.dev.chg.ntcOpen = true ∧
      t.dev.chg.phase = s.dev.chg.phase ∧ t.dev.chg.latched = s.dev.chg.latched) ∧
    (∀ x, s.dev.fn Fld.chgBatid = 1 → x < s.dev.fn Fld.chgBatidMin ∨ s.dev.fn Fld.chgBatidMax < x →
      ∃ t, exec (.chgBatid x) s = .next t ∧ t.dev.chg.phase = .fault ∧ t.dev.chg.latched = s.dev.chg.latched ||| 32 ∧
        t.dev.Said (coded 0x0A 6 (min 65535 x))) ∧
    (∀ x, s.dev.fn Fld.chgBatid ≠ 1 ∨ (s.dev.fn Fld.chgBatidMin ≤ x ∧ x ≤ s.dev.fn Fld.chgBatidMax) →
      exec (.chgBatid x) s = .next s) ∧
    (∀ t0, s.dev.fn Fld.chgGoneAutoS ≠ 0 → s.dev.chg.latched.getLsbD 0 = true → s.dev.chgRoomOpen = false →
      s.dev.chg.okSince = some t0 → s.dev.Meets (t0 + 1000000 * s.dev.fn Fld.chgGoneAutoS) →
      ∃ t, exec .goneAutoRead s = .next t ∧ t.dev.now = max s.dev.now (t0 + 1000000 * s.dev.fn Fld.chgGoneAutoS) ∧
        t.dev.chg.latched = s.dev.chg.latched &&& ~~~1 ∧ t.dev.chg.requalified = true) ∧
    (s.dev.fn Fld.chgGoneAutoS = 0 ∨ s.dev.chg.latched.getLsbD 0 = false ∨ s.dev.chgRoomOpen = true ∨
        s.dev.chg.okSince = none →
      exec .goneAutoRead s = .next s)

/-! ### The gauge, the Larder and measurement (chapters 15 to 17) -/

/-- The gauge's hardware (R522 to R528, R533, R539, R547): its modes, its autozeros and windows, each when it is due, with their
charge, the hour of ageing and the record, whose new copy is the one in force. -/
def Obligations.GaugeCountsInItsMode : Prop :=
  ∀ s : State, s.dev.Calm → ∀ g, g = s.dev.gaugeHw →
    (∀ x : Int, (g.mode = .off → exec (.gaugeAutozero x) s = .next s) ∧
      (g.mode = .full → s.dev.Meets g.azNext → ∃ t, exec (.gaugeAutozero x) s = .next t ∧
        t.dev.now = max s.dev.now g.azNext ∧ t.dev.priv = s.dev.priv ∧
        t.dev.gaugeHw = { g with azNext := t.dev.now + 10000000, offset := if 50 < x.natAbs then g.offset else x } ∧
        (50 < x.natAbs → s.dev.faults.fifo.length < 64 →
          t.dev.Said (coded 0x0B 1 (ofSigned 2 (max (-32768) (min 32767 x)))))) ∧
      (g.mode = .sipping ∨ g.mode = .lodge → g.azNext ≤ g.winNext - 8000 →
        s.dev.Meets (g.winNext - 8000) ∨ s.dev.power.phase = .lodge →
        ∃ t, exec (.gaugeAutozero x) s = .next t ∧
          t.dev.gaugeHw = { g with azNext := g.winNext, offset := if 50 < x.natAbs then g.offset else x }) ∧
      (g.mode = .sipping ∨ g.mode = .lodge → g.winNext - 8000 < g.azNext → exec (.gaugeAutozero x) s = .next s)) ∧
    (∀ mean bat temp, g.mode = .off ∨ g.mode = .full → exec (.gaugeWindow mean bat temp) s = .next s) ∧
    (∀ mean bat temp, g.mode = .sipping → s.dev.Meets g.winNext →
      ∃ t, exec (.gaugeWindow mean bat temp) s = .next t ∧ t.dev.now = max s.dev.now g.winNext ∧
        t.dev.gaugeHw.integ = g.integ + BitVec.ofInt 64 (meanCharge mean (t.dev.now - g.lastWindow)) ∧
        t.dev.gaugeHw.lastMean = mean ∧ t.dev.gaugeHw.lastWindow = t.dev.now ∧
        t.dev.gaugeHw.mode = (if 5000 < mean.natAbs then .full else .sipping) ∧
        t.dev.gaugeHw.winNext = t.dev.now + 1000000) ∧
    (∀ mean bat temp, g.mode = .lodge → s.dev.Meets g.winNext ∨ s.dev.power.phase = .lodge →
      ∃ t, exec (.gaugeWindow mean bat temp) s = .next t ∧ s.dev.now ≤ t.dev.now ∧ g.winNext ≤ t.dev.now ∧
        t.dev.gaugeHw.integ = g.integ + BitVec.ofInt 64 (meanCharge mean (t.dev.now - g.lastWindow)) ∧
        t.dev.gaugeHw.lastMean = mean ∧ t.dev.gaugeHw.lastWindow = t.dev.now ∧
        t.dev.gaugeHw.lodgeWin = some (bat, temp) ∧ t.dev.gaugeHw.lodgeFast = decide (5000 < mean.natAbs) ∧
        t.dev.gaugeHw.mode = .lodge ∧
        t.dev.gaugeHw.winNext = t.dev.now + if 5000 < mean.natAbs then 1000000 else 60000000) ∧
    (g.mode = .full → s.dev.fn Fld.gaugeSip = 1 → s.dev.Meets (g.lowFrom + 10000000) →
      ∃ t, exec .gaugeSippingEntry s = .next t ∧ t.dev.now = max s.dev.now (g.lowFrom + 10000000) ∧
        t.dev.gaugeHw = { g with mode := .sipping, lastWindow := t.dev.now, winNext := t.dev.now + 1000000,
                                 lowFrom := t.dev.now }) ∧
    (g.mode ≠ .full ∨ s.dev.fn Fld.gaugeSip ≠ 1 → exec .gaugeSippingEntry s = .next s) ∧
    (g.mode = .lodge → g.lodgeFast = false → exec .shuntComparator s =
      .next (s.put { s.dev with gaugeHw := { g with lodgeFast := true, winNext := min g.winNext (s.dev.now + 9000) } })) ∧
    (g.mode = .lodge → g.lodgeFast = true → exec .shuntComparator s = .next s) ∧
    (g.mode = .sipping → ∃ t, exec .shuntComparator s = .next t ∧ t.dev.gaugeHw.mode = .full ∧
      t.dev.gaugeHw.lastWindow = s.dev.now ∧ t.dev.gaugeHw.lowFrom = s.dev.now ∧
      t.dev.gaugeHw.integ = g.integ + BitVec.ofInt 64 (meanCharge g.lastMean (s.dev.now - g.lastWindow))) ∧
    (g.mode = .off ∨ g.mode = .full → exec .shuntComparator s = .next s) ∧
    (∀ bat temp, s.dev.isOpen = true → s.dev.ocvNext = true → exec (.ocvCorrection bat temp) s =
      exec (.batchEdge { s.dev.sample with batMv := bat, batTemp := temp } .full (StartSense.plain s.dev)) s) ∧
    (∀ bat temp, s.dev.isOpen = false ∨ s.dev.ocvNext = false → exec (.ocvCorrection bat temp) s = .next s) ∧
    (s.dev.powered = false → exec .ageHour s = .next s) ∧
    (s.dev.powered = true → s.dev.Meets g.hourEnd → ∃ t, exec .ageHour s = .next t ∧
      t.dev.now = max s.dev.now g.hourEnd ∧ t.dev.gaugeHw.hourEnd = g.hourEnd + 3600000000 ∧
      t.dev.gaugeHw.tempN = 0 ∧ t.dev.gaugeHw.tempSum = 0 ∧ s.dev.priv.gauge.record.e ≤ t.dev.priv.gauge.record.e ∧
      t.dev.priv.gauge.record.efc = s.dev.priv.gauge.record.efc ∧ t.dev.gaugeHw.integ = g.integ) ∧
    (s.dev.isOpen = false → exec .gaugeRecordSave s = .next s) ∧
    (s.dev.isOpen = true → s.dev.Meets (s.dev.priv.gauge.recordTime + 3600000000 * s.dev.fn Fld.gaugeSaveH) →
      (∀ x, s.dev.cfg.gaugeRec = some x → x.1.toNat < 0xFFFFFFFF) →
      ∃ t, exec .gaugeRecordSave s = .next t ∧ t.dev.priv.gauge.recordTime = t.dev.now ∧
        t.dev.cfg.gaugeRec = some ((s.dev.cfg.gaugeRec.map (·.1)).getD 0 + 1,
          { s.dev.priv.gauge.record with extrap := g.extrap }) ∧
        t.dev.cfg.larder0 = s.dev.cfg.larder0 ∧ t.dev.cfg.larder1 = s.dev.cfg.larder1)

/-- Reservations, bursts and sets (R564, R573, R583, R584, R598, R599): a reservation's start and end set its Room's flag;
`BGNT` rises 2 ms after PA is PROOFED and falls with the burst's outcome; `BREQ` is latched and ends a raw burst, and is ignored
without VIO (R51); and a sampling set begins when it is due and replaces the kept one at its end, when its last row ends. -/
def Obligations.ReservationsBurstsAndSetsRun : Prop :=
  ∀ s : State, s.dev.Calm →
    (∀ h, s.dev.priv.larder.reservations.find? (fun r => r.handle == h) = none →
      exec (.reservationStart h) s = .next s ∧ exec (.reservationEnd h) s = .next s) ∧
    (∀ h r, s.dev.isOpen = true → s.dev.priv.larder.reservations.find? (fun r => r.handle == h) = some r →
      r.begun = false → s.dev.Meets r.start →
      exec (.reservationStart h) s = .next (s.put (((s.dev.moveTo r.start).updLarder fun l =>
        { l with
          reservations := l.reservations.map fun x => if x.handle = h then { x with begun := true } else x
        }).flagOwner r))) ∧
    (∀ h r, s.dev.isOpen = true → s.dev.priv.larder.reservations.find? (fun r => r.handle == h) = some r →
      s.dev.Meets r.stop →
      exec (.reservationEnd h) s = .next (s.put (((s.dev.moveTo r.stop).updLarder fun l =>
        { l with reservations := l.reservations.filter fun x => x.handle ≠ h }).flagOwner r))) ∧
    (s.dev.burst.running = none → exec .bgntRise s = .next s ∧ exec .burstEnd s = .next s) ∧
    (∀ e t0, s.dev.burst.running = some e → s.dev.pins.bgnt = false → s.dev.railSt 3 = .proofed →
      t0 = max e.startTime (s.dev.rails.rails.get 3).since + 2000 → s.dev.Meets t0 →
      ∃ t, exec .bgntRise s = .next t ∧ t.dev.pins = { s.dev.pins with bgnt := true } ∧ t.dev.now = max s.dev.now t0 ∧
        t.dev.burst = { s.dev.burst with riseAt := t.dev.now }) ∧
    (s.dev.pins.bgnt = true ∨ s.dev.railSt 3 ≠ .proofed → exec .bgntRise s = .next s) ∧
    (∀ e t0, s.dev.burst.running = some e → s.dev.pins.bgnt = true → t0 = s.dev.burst.riseAt + 1000 * e.len → s.dev.Meets t0 →
      ∃ t, exec .burstEnd s = .next t ∧ t.dev.pins.bgnt = false ∧ t.dev.now = max s.dev.now t0 ∧
        (s.dev.burst.firstRuns = true → s.dev.burst.second = none →
          t.dev.burst.first = some { e with st := .resolved (if e.slip = 0 then 1 else 2) } ∧
          t.dev.burst.unread = s.dev.burst.unread ++ [if e.slip = 0 then 1 else 2])) ∧
    (s.dev.pins.bgnt = false → exec .burstEnd s = .next s) ∧
    (s.dev.burst.breqHigh = true ∨ s.dev.pins.vioGood = false → exec .breqRise s = .next s) ∧
    (s.dev.burst.breqHigh = false → s.dev.pins.vioGood = true → exec .breqRise s =
      .next (s.put (s.dev.updBurst fun b => { b with
        breqHigh := true,
        breqLatched := b.breqLatched || (s.dev.isOpen && decide (s.dev.fn Fld.larBreqMs ≠ 0)) }))) ∧
    (s.dev.pins.vioGood = false → exec .breqFall s = .next s) ∧
    (s.dev.pins.vioGood = true → s.dev.burst.raw = false ∨ s.dev.burst.running = none →
      exec .breqFall s = .next (s.put { s.dev with burst := { s.dev.burst with breqHigh := false } })) ∧
    (s.dev.pins.vioGood = true → s.dev.burst.raw = true → s.dev.burst.running ≠ none → ∃ t, exec .breqFall s = .next t ∧
      t.dev.pins.bgnt = false ∧ t.dev.burst.breqHigh = false ∧ t.dev.now = s.dev.now) ∧
    (∀ g, (s.dev.adcGroup g).run = none → exec (.adcSetStart g) s = .next s ∧ ∀ l, exec (.adcSetComplete g l) s = .next s) ∧
    (∀ g r t0, s.dev.isOpen = true → (s.dev.adcGroup g).run = some r → r.started = false →
      t0 = s.dev.adcBeginC g r / 48 → s.dev.Meets t0 → (∀ h, h ≠ g → (s.dev.adcGroup h).run = none) →
      ∃ t, exec (.adcSetStart g) s = .next t ∧ t.dev.now = max s.dev.now t0 ∧
        (t.dev.adcGroup g).run = some { r with
          cfg := (s.dev.adcGroup g).cfg, rowWords := (s.dev.adcGroup g).rowWords, started := true,
          startC := s.dev.adcBeginC g r,
          latency := min 65535 (96 + (s.dev.adcBeginC g r - r.dueC (s.dev.adcGroup g).cfg.delay)) }) ∧
    (∀ g r l, (s.dev.adcGroup g).run = some r →
      (r.started = true → exec (.adcSetStart g) s = .next s) ∧ (r.started = false → exec (.adcSetComplete g l) s = .next s)) ∧
    (∀ g r l t0, s.dev.isOpen = true → (s.dev.adcGroup g).run = some r → r.started = true → r.cfg.limEn = false →
      t0 = r.endC r.cfg.rows / 48 → s.dev.Meets t0 →
      ∃ t, exec (.adcSetComplete g l) s = .next t ∧ t.dev.now = max s.dev.now t0 ∧ (t.dev.adcGroup g).run = none ∧
        (t.dev.adcGroup g).seq = (if (s.dev.adcGroup g).seq = 65535 then 1 else (s.dev.adcGroup g).seq + 1) ∧
        (t.dev.adcGroup g).kept = some
          { codes := setCodes r.cfg l, time := r.startC / 48, frac := r.startC % 48, latency := r.latency,
            mask := r.cfg.mask, rows := r.cfg.rows, trig := r.trig, angle := r.angle, outside := false } ∧
        (∀ h, h ≠ g → t.dev.adcGroup h = s.dev.adcGroup h) ∧ t.dev.faults = s.dev.faults)

/-! ### The debug port and the lifecycle (chapter 21) -/

/-- The debug port and its levels (R710 to R713, R719 to R723): with the port dead nothing happens; TMS resets select IDCODE;
at CLOSED, halts, the watchdog freeze, the attachment and the drop change nothing beyond the selected instruction; above it
they act, behind the marks of the Batch that have passed, and every operation selects its own instruction and ends the reset
(here `d`). -/
def Obligations.TapOperationsNeedTheirLevel : Prop :=
  ∀ s : State, s.dev.Calm → ∀ d : Device,
    (s.dev.tapLive = false →
      exec .tapReset s = .next s ∧ (∀ x l, exec (.keyprog x l) s = .next s) ∧ exec .lcadv s = .next s ∧
      (∀ a b, exec (.dbgHalt a b) s = .next s) ∧ (∀ b, exec (.dbgWdhalt b) s = .next s) ∧
      (∀ b, exec (.dbgAttach b) s = .next s) ∧ exec .dbgChalReq s = .next s ∧ exec .dbgDrop s = .next s ∧
      (∀ l, exec (.dbgAuthSubmit l) s = .next s) ∧ (∀ p a, exec (.dbgMemRead p a) s = .next s) ∧
      (∀ p a w, exec (.dbgMemWrite p a w) s = .next s) ∧ ∀ p a, exec (.dbgMemErase p a) s = .next s) ∧
    (s.dev.tapLive = true → exec .tapReset s = .next (s.put { s.dev with
      sec := { s.dev.sec with tapIr := 1 }, pins := { s.dev.pins with tapReset := true } })) ∧
    (s.dev.tapLive = true → d = { s.dev with
        sec := { s.dev.sec with tapIr := 0x08 }, pins := { s.dev.pins with tapReset := false } } →
      exec .dbgChalReq s = .next (s.put (d.updSec fun x => { x with chalReq := true })) ∧
      (s.dev.sec.level = .closed →
        (∀ a b, exec (.dbgHalt a b) s = .next (s.put d)) ∧ (∀ b, exec (.dbgWdhalt b) s = .next (s.put d)) ∧
        (∀ b, exec (.dbgAttach b) s = .next (s.put d)) ∧ exec .dbgDrop s = .next (s.put d)) ∧
      (s.dev.sec.level ≠ .closed →
        ∀ b, exec (.dbgWdhalt b) s = .next (s.onto (d.catchUp.updSec fun x => { x with wdhalt := b }))) ∧
      (s.dev.sec.level ≠ .closed → s.dev.Caught ∨ s.dev.romHold = true →
        (∀ b, exec (.dbgWdhalt b) s = .next (s.put (d.updSec fun x => { x with wdhalt := b }))) ∧
        (∀ a b, ∃ t, exec (.dbgHalt a b) s = .next t ∧ t.dev.sec.haltA = a ∧ t.dev.sec.haltB = b ∧
          (a = false → t.dev.keepers.a.halted = false) ∧ (b = false → t.dev.keepers.b.halted = false) ∧
          (s.dev.asleep = false → s.dev.keepers.a.role = .active → t.dev.keepers.a.halted = a) ∧
          (s.dev.asleep = true → a = true → t.dev.keepers.a.halted = s.dev.keepers.a.halted)) ∧
        (∀ b, s.dev.sec.attach = b → exec (.dbgAttach b) s = .next (s.put d)) ∧
        (∀ b, s.dev.sec.attach ≠ b → ∃ t, exec (.dbgAttach b) s = .next t ∧ t.dev.sec.attach = b ∧
          t.dev.sec.attachDrop = (!b) ∧ t.dev.sec.attState =
            (if b = false then 0 else if s.dev.sec.level = .opened then 1 else s.dev.sec.attState)) ∧
        (s.dev.sec.level = .opened → s.dev.lifecycle ≠ 1 → exec .dbgDrop s = .next (s.put d)) ∧
        (s.dev.sec.level = .auth → ∃ t, exec .dbgDrop s = .next t ∧ t.dev.sec.level = .closed ∧ t.dev.sec.haltA = false ∧
          t.dev.sec.haltB = false ∧ t.dev.sec.wdhalt = false ∧ t.dev.sec.attach = false ∧ t.dev.sec.attHandle = none)))

/-- Provisioning and the lifecycle (R702 to R709, R731): KEYPROG loads a key or a public key only at OPEN in BLANK and
PROVISIONED; LCADV starts BLANK's advance once its keys are loaded; at its end both copies hold the new state. -/
def Obligations.KeysAndLifecycleAreProgrammed : Prop :=
  ∀ s : State, s.dev.Calm →
    (s.dev.tapLive = true → s.dev.sec.level = .opened → s.dev.lifecycle ≤ 1 →
      (∀ x l, 3 < x.toNat → ∃ t, exec (.keyprog x l) s = .next t ∧ t.dev.sec.prog = 3 ∧ t.dev.keys = s.dev.keys) ∧
      (∀ l, ∃ t, exec (.keyprog 1 l) s = .next t ∧ t.dev.sec.prog = 2 ∧ t.dev.nvm = s.dev.nvm ∧
        t.dev.keys = { s.dev.keys with slots := s.dev.keys.slots.set! 1 (some (slotKeys (slice l 0 32))) }) ∧
      (∀ l, ∃ t, exec (.keyprog 3 l) s = .next t ∧ t.dev.sec.prog = 2 ∧ t.dev.nvm = s.dev.nvm ∧
        t.dev.keys = { s.dev.keys with pubKeys := s.dev.keys.pubKeys.set! 1 (some (slice l 0 64)) })) ∧
    (∀ x l, s.dev.sec.level ≠ .opened ∨ 1 < s.dev.lifecycle →
      ∃ t, exec (.keyprog x l) s = .next t ∧ t.dev.keys = s.dev.keys ∧ t.dev.nvm = s.dev.nvm ∧ t.dev.sec.prog = s.dev.sec.prog) ∧
    (s.dev.tapLive = true → s.dev.sec.level = .opened → s.dev.lifecycle = 0 → s.dev.sec.advance = none →
      ∃ t, exec .lcadv s = .next t ∧
        ((s.dev.keys.slots.toList.getD 0 none).isSome ∧ s.dev.debugKey.isSome ∧
            s.dev.keys.pubKeys.toList.any (·.isSome) = true →
          t.dev.sec.prog = 1 ∧ t.dev.sec.advance = some { target := 1, req := none }) ∧
        (s.dev.debugKey = none → t.dev.sec.prog = 3 ∧ t.dev.sec.advance = none) ∧
        t.dev.sec.copyA = s.dev.sec.copyA ∧ t.dev.sec.copyB = s.dev.sec.copyB) ∧
    (∀ ss, s.dev.sec.advance = none ∨ (s.dev.isOpen = false ∧ s.dev.romHold = false) →
      exec (.lifecycleProgramDone ss) s = .next s) ∧
    (∀ ss k id, s.dev.isOpen = true → s.dev.sec.advance = some { target := k, req := some id } →
      ∃ t, exec (.lifecycleProgramDone ss) s = .next t ∧ t.dev.sec.copyA = lifecycleWords k ∧
        t.dev.sec.copyB = lifecycleWords k ∧ t.dev.sec.advance = none ∧ t.dev.sec.challenge = none ∧
        t.dev.sec.nextLevel = some .closed ∧ t.dev.findRec id = none ∧
        (k = 3 → ∀ i : Fin 8, 2 ≤ i.val → t.dev.keys.slots.get i = none) ∧
        (k ≠ 3 → t.dev.keys.slots = s.dev.keys.slots))

/-- Challenges and `DBG_MEM` (R715 to R717, R721, R724): a response consumes the challenge, which expires after 10 s; a
lockout ends at its time; and memory is reached as the level lets it: a read returns NVM's bytes, a write and an erase change
NVM where R721 allows them and nothing where it does not. -/
def Obligations.DebugPortReachesMemory : Prop :=
  ∀ s : State, s.dev.Calm →
    (∀ l c, s.dev.tapLive = true → s.dev.challenge = some c → ∃ t, exec (.dbgAuthSubmit l) s = .next t ∧
      t.dev.sec.challenge = none ∧ t.dev.sec.level = s.dev.sec.level ∧
      t.dev.sec.responses = s.dev.sec.responses ++ [{ bytes := slice l 0 32, challenge := c.1, req := none }]) ∧
    (∀ l, s.dev.tapLive = true → s.dev.challenge = none → ∃ t, exec (.dbgAuthSubmit l) s = .next t ∧
      t.dev.sec = { s.dev.sec with tapIr := 0x09 }) ∧
    (∀ c, s.dev.sec.challenge = some c → s.dev.Meets (c.2 + 10000000) → ∃ t, exec .challengeExpiry s = .next t ∧
      t.dev.sec = { s.dev.sec with challenge := none } ∧ t.dev.now = max s.dev.now (c.2 + 10000000)) ∧
    (s.dev.sec.challenge = none → exec .challengeExpiry s = .next s) ∧
    (∀ e, s.dev.sec.lockEnd = some e → s.dev.Meets e → ∃ t, exec .authLockoutEnd s = .next t ∧
      t.dev.sec = { s.dev.sec with lockEnd := none } ∧ t.dev.now = max s.dev.now e) ∧
    (s.dev.sec.lockEnd = none → exec .authLockoutEnd s = .next s) ∧
    (s.dev.tapLive = true → s.dev.sec.level = .closed →
      (∀ p a, ∃ t, exec (.dbgMemRead p a) s = .next t ∧ t.dev.sec.memData = s.dev.sec.memData ∧ t.dev.nvm = s.dev.nvm) ∧
      (∀ p a w, ∃ t, exec (.dbgMemWrite p a w) s = .next t ∧ t.dev.nvm = s.dev.nvm ∧ t.dev.ckpt0 = s.dev.ckpt0) ∧
      (∀ p a, ∃ t, exec (.dbgMemErase p a) s = .next t ∧ t.dev.nvm = s.dev.nvm)) ∧
    (s.dev.portOpen = true →
      (∀ a : Word, a.toNat % 4 = 0 → a.toNat < 0xF0000 → ∃ t, exec (.dbgMemRead .nvm a) s = .next t ∧
        t.dev.sec.memData = BitVec.ofNat 32 (leNat (s.dev.nvmRead a.toNat 4)) ∧ t.dev.sec.memDone = true ∧
        t.dev.sec.memDenied = false ∧ t.dev.nvm = s.dev.nvm) ∧
      (∀ a : Word, 0xFF000 ≤ a.toNat → a.toNat < 0x100000 → a.toNat % 4 = 0 → ∃ t, exec (.dbgMemRead .nvm a) s = .next t ∧
        t.dev.sec.memData = 0 ∧ t.dev.sec.memDenied = false) ∧
      (∀ p (a : Word), memKind p a.toNat = 0 → ∃ t, exec (.dbgMemRead p a) s = .next t ∧ t.dev.sec.memDenied = true ∧
        t.dev.sec.memData = s.dev.sec.memData) ∧
      (∀ (a w : Word), memKind .nvm a.toNat = 3 → s.dev.nvmWritable a.toNat = true → s.dev.MemWf →
        ∃ t, exec (.dbgMemWrite .nvm a w) s = .next t ∧ t.dev.sec.memDenied = false ∧
          t.dev.nvmRead a.toNat 4 = leBytes 4 w.toNat ∧
          (∀ x, x < a.toNat ∨ a.toNat + 4 ≤ x → t.dev.nvmRead x 1 = s.dev.nvmRead x 1)) ∧
      (∀ (a w : Word), s.dev.nvmWritable a.toNat = false → ∃ t, exec (.dbgMemWrite .nvm a w) s = .next t ∧
        t.dev.sec.memDenied = true ∧ t.dev.nvm = s.dev.nvm) ∧
      (∀ a : Word, memKind .nvm a.toNat = 3 → s.dev.nvmWritable a.toNat = true →
        ∃ t, exec (.dbgMemErase .nvm a) s = .next t ∧ t.dev.sec.memDenied = false ∧
          t.dev.nvm = (s.dev.nvmErase (a.toNat / 4096 * 4096) 4096).nvm) ∧
      (∀ a : Word, s.dev.nvmWritable a.toNat = false → ∃ t, exec (.dbgMemErase .nvm a) s = .next t ∧
        t.dev.sec.memDenied = true ∧ t.dev.nvm = s.dev.nvm))

/-- The transition of a Recipe switch (R138, R148, R750, R753): in the switch bubble, before the budget mark, it publishes, marks
the switch as passed with the Batch's number and puts the new Recipe's watchdog period in force, before the edge makes the
Recipe the one in force; behind the mark it does nothing; ahead of the bubble it is the edge that begins it. -/
def Obligations.RecipeSwitchPasses : Prop :=
  ∀ (s : State) (w : RcpSwitch), s.dev.Calm → s.dev.isOpen = true → s.dev.Caught → s.dev.rcp.switch = some w →
    (w.now = true → w.passed = false → s.dev.keeperWorks = true → s.dev.sup.stage = .targets → s.dev.sup.budgetPassed = false →
      (∀ n, roomDiffers (s.dev.rcp.inForce.getD factoryRecipe) w.recipe n = false) →
      ∃ t, exec .recipeSwitch s = .next t ∧
        t.dev.rcp.switch = some { w with passed := true, batch := s.dev.batch.number.toNat } ∧
        t.dev.rcp.inForce = s.dev.rcp.inForce ∧ t.dev.wd.inForce = (w.recipe.get Fld.wdPeriod).toNat ∧
        t.dev.sup.stage = .commit ∧ t.dev.sup.published = true ∧ t.dev.batch = s.dev.batch ∧
        (∀ v ∈ t.dev.priv.votes, v.holder ≠ .supply → w.recipe.get Fld.railPresent v.rail.val ≠ 0) ∧ t.dev.nvm = s.dev.nvm) ∧
    (w.now = true → w.passed = false → s.dev.keeperWorks = false ∨ s.dev.sup.stage ≠ .targets ∨ s.dev.sup.budgetPassed = true →
      exec .recipeSwitch s = .next s) ∧
    (w.now = false → w.passed = false → w.batch ≤ s.dev.batch.number.toNat + 1 →
      ∃ t, exec .recipeSwitch s = .next t ∧ exec (.batchEdge s.dev.sample .full (StartSense.plain s.dev)) s = .next t) ∧
    (w.passed = true → exec .recipeSwitch s = .next s)

/-! ### Requests (R768): what an accepted request does, its record in the table, and the rest of the Batch's work -/

/-- The session commands and the queries (R123, R155, R201, R232, R263 to R267, R378, R517, R551, R590, R732): HELLO opens its
Room at the version that both sides share; BYE closes it unless another request is in flight; PING returns its bytes;
ROOM_RESET resets a Room; a query answers with what step 1 sampled, or from the present state, and changes nothing but its
result buffer. Where a request is accepted, `served` is its command's effect with the rest of its Batch's work to follow at
its marks (log entry 12, the model's choice). -/
def Obligations.SessionAndQueryRequests : Prop :=
  ∀ (s : State) (r : Req),
    (s.dev.Accepts cmdHello r → exec (.hello r) s = .next (s.served cmdHello r fun d id a =>
      if (d.rooms.get id.room).st = .opened ∧ (d.rooms.get id.room).session = BitVec.ofNat 32 (numAt a 4 4) ∧
          (d.rooms.get id.room).closing.isNone = true then
        d.complete id stOk (d.helloResult id.room true) false true
      else match d.agree (numAt a 0 2) (numAt a 2 2) with
        | none => d.complete id stVersion []
        | some v => settled id (d.helloOpen id v (BitVec.ofNat 32 (numAt a 4 4)) (byteAt a 8 == 1)))) ∧
    (s.dev.Accepts cmdBye r → exec (.bye r) s = .next (s.served cmdBye r fun d id a =>
      if (d.reqs.recs.any fun x => x.id.room == id.room && x.id != id && x.st != .done) = true then d.complete id stBusy []
      else ((((d.byePriv id.room (byteAt a 0 == 1)).clearDedup id.room).digAbortRoom id.room).updRoom id.room fun x =>
        { x with closing := some (if byteAt a 0 == 1 then .parked else .closed) }).complete id stOk [])) ∧
    (s.dev.Accepts cmdPing r → exec (.ping r) s = .next (s.served cmdPing r fun d id a =>
      d.complete id stOk (slice a 0 8))) ∧
    (s.dev.Accepts cmdTime r → exec (.time r) s = .next (s.served cmdTime r fun d id _ =>
      d.complete id stOk (leBytes 8 d.batch.edgeTime))) ∧
    (s.dev.Accepts cmdRoomQuery r → exec (.roomQuery r) s = .next (s.served cmdRoomQuery r fun d id a =>
      d.complete id stOk (leBytes 1 (d.rooms.get (fin16 (byteAt a 0))).queryState ++ leBytes 1 (d.privOf (fin16 (byteAt a 0))) ++
        leBytes 2 (d.rooms.get (fin16 (byteAt a 0))).version ++ leBytes 2 (d.quotaOf (fin16 (byteAt a 0))) ++
        leBytes 2 (d.held (fin16 (byteAt a 0)))))) ∧
    (s.dev.Accepts cmdRoomReset r → exec (.roomReset r) s = .next (s.served cmdRoomReset r fun d id a =>
      if fin16 (byteAt a 0) = id.room then (d.updRec id fun x => { x with intent := .closed }).roomReset id.room 1
      else ((d.updRec id fun x => { x with intent := .closed }).roomReset (fin16 (byteAt a 0)) 1).complete id stOk [])) ∧
    (s.dev.Accepts cmdPwrQuery r → exec (.pwrQuery r) s = .next (s.served cmdPwrQuery r fun d id _ =>
      d.complete id stOk (leBytes 1 d.power.state.code ++
        leBytes 1 (b2n d.faults.safeHold + 2 * b2n d.priv.shipArmed + 4 * b2n d.leavePending) ++
        leBytes 1 d.power.resetCause ++ leBytes 1 d.power.wakeCause ++ leBytes 1 d.floorNow.code ++
        leBytes 1 ((d.priv.floors.get id.room).getD (floorOf (d.fn Fld.pwrIdleFloor))).code ++
        leBytes 2 d.power.bootSeq))) ∧
    (s.dev.Accepts cmdRailQuery r → exec (.railQuery r) s = .next (s.served cmdRailQuery r fun d id a =>
      d.complete id stOk (d.rails.query.get (fin16 (byteAt a 0))))) ∧
    (s.dev.Accepts cmdChgQuery r → exec (.chgQuery r) s = .next (s.served cmdChgQuery r fun d id _ =>
      (d.buffer id.room 0 d.polled.chgRec).complete id stOk d.polled.chg)) ∧
    (s.dev.Accepts cmdGaugeQuery r → exec (.gaugeQuery r) s = .next (s.served cmdGaugeQuery r fun d id _ =>
      (d.buffer id.room 0 d.gaugeRecord).free.2.complete id stOk d.gaugeResult)) ∧
    (s.dev.Accepts cmdLarderQuery r → exec (.larderQuery r) s = .next (s.served cmdLarderQuery r fun d id _ =>
      (d.buffer id.room 0 d.larderRecordBytes).complete id stOk d.larderResult)) ∧
    (s.dev.Accepts cmdPathQuery r → exec (.pathQuery r) s = .next (s.served cmdPathQuery r fun d id _ =>
      (d.buffer id.room 0 d.polled.pathRec).complete id stOk d.polled.path)) ∧
    (s.dev.Accepts cmdKinQuery r → exec (.kinQuery r) s = .next (s.served cmdKinQuery r fun d id _ =>
      (d.buffer id.room 0 d.polled.kinRec).complete id stOk d.polled.kin)) ∧
    (s.dev.Accepts cmdKeeperQuery r → exec (.keeperQuery r) s = .next (s.served cmdKeeperQuery r fun d id _ =>
      d.complete id stOk (leBytes 2 (d.regRoles % 65536) ++ leBytes 1 (d.regFails % 256) ++
        leBytes 1 (d.regLastSwap / 2 ^ 48 % 128) ++ leBytes 4 d.keepers.ckptBatch.toNat))) ∧
    (s.dev.Accepts cmdImageQuery r → exec (.imageQuery r) s = .next (s.served cmdImageQuery r fun d id _ =>
      ((d.buffer id.room 0 ((List.range 4).flatMap d.slotRecord)).freeSkip 32).complete id stOk
        (leBytes 1 (d.keepers.a.runs.getD 0xFF) ++ leBytes 1 (d.keepers.b.runs.getD 0xFF) ++ leBytes 2 d.imgFloor ++
          leBytes 4 ((d.cfg.manifest.map fun m => m.seq.toNat).getD 0)))) ∧
    (s.dev.Accepts cmdRecipeQuery r → exec (.recipeQuery r) s = .next (s.served cmdRecipeQuery r fun d id _ =>
      (d.buffer id.room 0 ((List.range 8).flatMap d.rcpRecord)).complete id stOk
        (leBytes 1 ((d.rcp.inForce.map (·.number)).getD 0xFF) ++ leBytes 1 d.rcp.rsel ++
          leBytes 1 (b2n d.rcp.fallback + 2 * b2n d.rcp.switch.isSome) ++ [0] ++
          leBytes 4 ((d.rcp.inForce.map (·.version.toNat)).getD 0)))) ∧
    (s.dev.Accepts cmdSecQuery r → exec (.secQuery r) s = .next (s.served cmdSecQuery r fun d id _ =>
      d.complete id stOk (leBytes 1 d.lifecycle ++ leBytes 1 d.sec.level.code ++ leBytes 1 d.sec.attState ++
        leBytes 1 (b2n d.keepers.a.halted + 2 * b2n d.keepers.b.halted + 4 * b2n d.sec.wdhalt +
          8 * b2n d.challenge.isSome + 16 * b2n d.locked) ++
        leBytes 2 (min 65535 d.sec.failures) ++ leBytes 2 (min 65535 d.lockLeft))))

/-- Power and sequencing requests (R119 to R122, R402 to R408): a floor and a vote are the Room's own; LODGE, SHIP and a restart
are planned unless another is; a schedule is kept for its Batch, replaces the Room's earlier one for the rail, and the ninth
is BUSY; one guest sequence runs at a time. Where a request is accepted, `served` is its command's effect with the rest of its
Batch's work to follow at its marks (log entry 12, the model's choice). -/
def Obligations.PowerAndRailRequests : Prop :=
  ∀ (s : State) (r : Req),
    (s.dev.Accepts cmdPwrFloor r → exec (.pwrFloor r) s = .next (s.served cmdPwrFloor r fun d id a =>
      (d.setFloor id.room (some (floorOf (byteAt a 0)))).complete id stOk [])) ∧
    (s.dev.Accepts cmdPwrLodge r → exec (.pwrLodge r) s = .next (s.served cmdPwrLodge r fun d id a =>
      if d.lodgeBusy = true then d.complete id stBusy []
      else (d.updPriv fun p => { p with lodge := some { batch := d.batch.number.toNat, alarm := numAt a 0 4, mask := byteAt a 4,
                                                        forced := false } }).complete id stOk [])) ∧
    (s.dev.Accepts cmdPwrShip (withAction r 0 1) → exec (.pwrShipArm r) s =
      .next (s.served cmdPwrShip (withAction r 0 1) fun d id _ =>
        if d.leavePending = true then d.complete id stBusy []
        else (d.updPriv fun p => { p with shipArmed := true }).complete id stOk [])) ∧
    (s.dev.Accepts cmdPwrShip (withAction r 0 2) → exec (.pwrShipCancel r) s =
      .next (s.served cmdPwrShip (withAction r 0 2) fun d id _ =>
        (d.updPriv fun p => { p with shipArmed := false }).complete id stOk [])) ∧
    (s.dev.Accepts cmdPwrRestart r → exec (.pwrRestart r) s = .next (s.served cmdPwrRestart r fun d id _ =>
      if d.leavePending = true then d.complete id stBusy []
      else (d.updPriv fun p => { p with restart := some (d.batch.number.toNat, 4) }).complete id stOk [])) ∧
    (s.dev.Accepts cmdRailVote r → exec (.railVote r) s = .next (s.served cmdRailVote r fun d id a =>
      (d.voteChange (voteArgs id.room a) (bit (byteAt a 1) 0)).complete id stOk [])) ∧
    (∀ (d : Device) (v : Vote) (b : Bool), (d.voteChange v b).priv.votes =
      (if b = true then placeVote d.priv.votes v else dropVote d.priv.votes v.holder v.rail)) ∧
    (s.dev.Accepts cmdRailSched r → bit (byteAt (Req.area r) 1) 1 = false → exec (.railSched r) s =
      .next (s.served cmdRailSched r fun d id a =>
        if 8 ≤ (d.priv.scheds.filter fun x => x.id.room == id.room).length then d.complete id stBusy []
        else ((d.schedDrop id.room (fin16 (byteAt a 0)) 2).updPriv fun p => { p with scheds := p.scheds ++
          [{ id := id, rail := fin16 (byteAt a 0), enable := bit (byteAt a 1) 0, mv := numAt a 4 2, code := byteAt a 2,
             batch := numAt a 8 6 }] }).updRec id fun x => { x with wait := [], intent := .none })) ∧
    (s.dev.Accepts cmdRailSched r → bit (byteAt (Req.area r) 1) 1 = true → exec (.railSched r) s =
      .next (s.served cmdRailSched r fun d id a =>
        ((d.schedDrop id.room (fin16 (byteAt a 0)) 4).free.2).complete id stOk
          (schedResult ((d.schedDrop id.room (fin16 (byteAt a 0)) 4).free.1 % 2 ^ 48) 0))) ∧
    (s.dev.Accepts cmdSeqRun r → exec (.seqRun r) s = .next (s.served cmdSeqRun r fun d id a =>
      if d.priv.seqRun.isSome = true ∨ d.leavePending = true then d.complete id stBusy []
      else (d.updPriv fun p => { p with seqRun := some (SeqRun.start (byteAt a 0) (.guest id)) }).updRec id fun x =>
        { x with wait := [], intent := .closed })) ∧
    (s.dev.Accepts cmdSeqAbort r → exec (.seqAbort r) s = .next (s.served cmdSeqAbort r fun d id a =>
      match d.guestRun with
      | none => d.complete id stOk [0]
      | some (x, _) =>
        if byteAt a 0 = 1 ∧ ((d.raise (coded 7 2 x.qual)).seqStanding x).isEmpty = false then
          ((d.raise (coded 7 2 x.qual)).updPriv fun p => { p with seqRun := some { x with unwinding := some 5 } }).complete id stOk [1]
        else ((d.raise (coded 7 2 x.qual)).seqFinish x (if byteAt a 0 = 1 then 5 else 4)).complete id stOk [1]))

/-- Energy requests (R451 to R453, R486, R487, R518, R519, R552, R587 to R591): a setting of a Room replaces that Room's earlier
one; a reservation and a burst pair are granted with a handle, deferred or refused as the admission decides; a pulse waits for
its end. Where a request is accepted, `served` is its command's effect with the rest of its Batch's work to follow at its
marks (log entry 12, the model's choice). -/
def Obligations.EnergyRequests : Prop :=
  ∀ (s : State) (r : Req),
    (s.dev.Accepts cmdChgSet r → exec (.chgSet r) s = .next (s.served cmdChgSet r fun d id a =>
      (d.updPriv fun p => { p with chgSets := p.chgSets.filter (fun x => x.room ≠ id.room) ++
        [{ room := id.room, inhibit := byteAt a 0 == 1, cap := numAt a 2 2 }] }).complete id stOk [])) ∧
    (s.dev.Accepts cmdChgFaults (withAction r 0 0) → exec (.chgFaultsRead r) s =
      .next (s.served cmdChgFaults (withAction r 0 0) fun d id _ =>
        d.complete id stOk [d.chg.latched, d.chg.latched])) ∧
    (s.dev.Accepts cmdChgFaults (withAction r 0 1) → exec (.chgFaultsClear r) s =
      .next (s.served cmdChgFaults (withAction r 0 1) fun d id _ =>
        ((d.chgRead 0xEF).gaugeRestart d.sample.batMv d.sample.batTemp).complete id stOk
          [d.chg.latched, ((d.chgRead 0xEF).gaugeRestart d.sample.batMv d.sample.batTemp).chg.latched])) ∧
    (s.dev.Accepts cmdGaugeSet (withAction r 0 1) → exec (.gaugeSetSoc r) s =
      .next (s.served cmdGaugeSet (withAction r 0 1) fun d id a =>
        settled id (d.updGauge fun g => { g with
            q := quot 38 (numAt a 2 2 * g.fcc) 10000, validity := .seeded, learnReseed := true },
          ok (d.updGauge fun g => { g with q := quot 38 (numAt a 2 2 * g.fcc) 10000 }).gaugeSetResult))) ∧
    (s.dev.Accepts cmdGaugeSet (withAction r 0 2) → exec (.gaugeSetAgeAdd r) s =
      .next (s.served cmdGaugeSet (withAction r 0 2) fun d id a =>
        ((d.age (numAt a 2 2 * 1000000) (10 * toSigned 1 (byteAt a 4))).gaugeSave).complete id stOk
          ((d.age (numAt a 2 2 * 1000000) (10 * toSigned 1 (byteAt a 4))).gaugeSave).gaugeSetResult)) ∧
    (s.dev.Accepts cmdGaugeSet (withAction r 0 3) → exec (.gaugeSetLearnReset r) s =
      .next (s.served cmdGaugeSet (withAction r 0 3) fun d id _ =>
        ((d.learnRef (quot 39 (d.design * d.modelM d.priv.gauge.record) 1000000000) 0).gaugeSave).complete id stOk
          ((d.learnRef (quot 39 (d.design * d.modelM d.priv.gauge.record) 1000000000) 0).gaugeSave).gaugeSetResult)) ∧
    (s.dev.Accepts cmdLarderReserve r → exec (.larderReserve r) s = .next (s.served cmdLarderReserve r fun d id a =>
      if d.larderFull = true then d.complete id stBusy []
      else match d.admission (byteAt a 0) (workOf (d.fn Fld.larAppMw (byteAt a 0)) (1000000 * numAt a 4 4)) (1000000 * numAt a 4 4)
          (1000000 * numAt a 8 4) (1000000 * numAt a 12 4) none false with
        | .grant t =>
          let x := d.larderEnter (some id.room) (byteAt a 0) t (t + 1000000 * numAt a 4 4) (1000000 * numAt a 4 4)
          (x.2.updRec id fun y => { y with wait := [x.1, t, t + 1000000 * numAt a 4 4] }).complete id stOk
            (leBytes 2 x.1 ++ leBytes 6 (quot 45 t 1000))
        | .defer t => ((d.buffer id.room 0 (leBytes 2 id.tag.toNat)).buffer id.room 8 (leBytes 8 t)).complete id stDeferred []
        | .refuse => d.complete id stRefusedEnergy [])) ∧
    (s.dev.Accepts cmdBurstPair r → (s.dev.begun cmdBurstPair r).burstHeld = true ∨ (s.dev.begun cmdBurstPair r).larderFull = true →
      exec (.burstPair r) s = .next (s.served cmdBurstPair r fun d id _ => d.complete id stBusy [])) ∧
    (s.dev.Accepts cmdBurstPair r → (s.dev.begun cmdBurstPair r).burstHeld = false →
      (s.dev.begun cmdBurstPair r).larderFull = false → numAt (Req.area r) 2 2 ≠ 0 → byteAt (Req.area r) 1 = 0 →
      exec (.burstPair r) s = .next (s.served cmdBurstPair r fun d id a =>
        let energy := workOf (d.fn Fld.larAppMw (byteAt a 0)) (1000 * (numAt a 4 2 + numAt a 6 2))
        let dur := 1000 * (numAt a 8 4 + numAt a 6 2)
        match d.admission (byteAt a 0) energy dur (1000000 * numAt a 12 4) (1000000 * numAt a 16 4) (some (d.levelFor energy)) true with
        | .grant t =>
          let x := d.larderEnter (some id.room) (byteAt a 0) t (t + dur) (1000 * (numAt a 4 2 + numAt a 6 2))
          let b := x.2.batchAt t
          (((x.2.updLarder fun l => { l with
              pair := some { room := id.room, req := some id, handle := x.1, vt := d.levelFor energy } }).updBurst fun y => { y with
              first := some (armEntry b.1 (numAt a 4 2) (numAt a 2 2) b.2 .slide), raw := false,
              second := some (armEntry (b.1 + numAt a 8 4) (numAt a 6 2) (numAt a 2 2) (b.2 + 1000 * numAt a 8 4) .slide) }).updRec
            id fun y => { y with wait := [x.1, d.levelFor energy, t, t + dur], intent := .closed }).interim id
            (leBytes 2 x.1 ++ leBytes 6 b.1)
        | .defer t => ((d.buffer id.room 0 (leBytes 2 id.tag.toNat)).buffer id.room 8 (leBytes 8 t)).complete id stDeferred []
        | .refuse => d.complete id stRefusedEnergy [])) ∧
    (s.dev.Accepts cmdLarderRelease r → exec (.larderRelease r) s = .next (s.served cmdLarderRelease r fun d id a =>
      ((d.when (match d.priv.larder.pair with | some p => decide (p.handle = numAt a 0 2) | none => false) (·.burstCancel)).resRelease
        (numAt a 0 2) id.room).complete id stOk [])) ∧
    (∀ (d : Device) (h : Nat) (n : RoomId),
      (d.resRelease h n).priv.larder.reservations = d.priv.larder.reservations.filter (·.handle ≠ h) ∧
      (d.resRelease h n).burst = d.burst) ∧
    (s.dev.Accepts cmdLarderSet (withAction r 0 1) → exec (.larderSetTod r) s =
      .next (s.served cmdLarderSet (withAction r 0 1) fun d id a =>
        let l : Larder := { d.priv.larder with
          tod := some ((1000000 * numAt a 4 4 + dayUs - d.batch.nextEdge % dayUs) % dayUs) }
        (d.updLarder fun _ => { l with curBin := l.binAt d.now, measured := 0, observed := 0 }).complete id stOk [])) ∧
    (s.dev.Accepts cmdLarderSet (withAction r 0 2) → exec (.larderSetFcReset r) s =
      .next (s.served cmdLarderSet (withAction r 0 2) fun d id _ =>
        ((d.updLarder fun l => { l with bins := d.larSeeds }).larderSave).complete id stOk [])) ∧
    (s.dev.Accepts cmdDcLimit r → exec (.dcLimit r) s = .next (s.served cmdDcLimit r fun d id a =>
      (d.updPriv fun p => { p with dcLimits := p.dcLimits.filter (fun x => x.1 ≠ id.room) ++
        (if numAt a 0 2 = 0 then [] else [(id.room, numAt a 0 2)]) }).complete id stOk [])) ∧
    (s.dev.Accepts cmdPriPulse r → exec (.priPulse r) s = .next (s.served cmdPriPulse r fun d id a =>
      if d.path.priInUse = true ∨ d.path.pulse.isSome = true then d.complete id stBusy []
      else (d.pulseBegin (some id) d.sample.priMv (if numAt a 0 2 = 0 then d.fn Fld.priPulseMa else numAt a 0 2)
        (if numAt a 2 2 = 0 then 10 * d.fn Fld.priPulseMs else numAt a 2 2) false).updRec id fun x =>
          { x with wait := [], intent := .open true })) ∧
    (s.dev.Accepts cmdPvSet r → exec (.pvSet r) s = .next (s.served cmdPvSet r fun d id a =>
      let m : PvMode := if byteAt a 0 = 0 then .focv else if byteAt a 0 = 1 then .fixed else .off
      (d.updPriv fun p => { p with pvSet := some (id.room, m, byteAt a 1, numAt a 2 2) }).complete id stOk (leBytes 1 m.code))) ∧
    (s.dev.Accepts cmdKinSet r → exec (.kinSet r) s = .next (s.served cmdKinSet r fun d id a =>
      (d.updPriv fun p => { p with kinSets := p.kinSets.filter (fun x => x.1 ≠ id.room) ++
        [(id.room, byteAt a 0 == 1)] }).complete id stOk [])) ∧
    (s.dev.Accepts cmdKinUser r → exec (.kinUser r) s = .next (s.served cmdKinUser r fun d id a =>
      if (d.priv.kinUsers.any fun u => u.num == byteAt a 0 && u.room != id.room) = true then d.complete id stBusy []
      else (d.updPriv fun p => { p with kinUsers := p.kinUsers.filter (fun u => u.num ≠ byteAt a 0) ++
        (if byteAt a 1 = 1 then [{ room := id.room, num := byteAt a 0, word := BitVec.ofNat 32 (numAt a 2 4) }]
         else []) }).complete id stOk []))

/-- Measurement, digest, fault and watchdog requests (R615 to R617, R640 to R642, R671 to R674, R698 to R700): a group's hold is
one Room's; a key load and a digest part wait for the engine; the collector's table and Ledger are read into the buffer; each
FAULT_CLEAR action makes its change and is logged; a guest watchdog is armed and kicked for the calling Room alone. Where a
request is accepted, `served` is its command's effect with the rest of its Batch's work to follow at its marks (log entry 12,
the model's choice). -/
def Obligations.MeasureFaultAndWatchdogRequests : Prop :=
  ∀ (s : State) (r : Req),
    (s.dev.Accepts cmdAdcPlan r → exec (.adcPlan r) s = .next (s.served cmdAdcPlan r fun d id a =>
      if d.adcBusy id.room (fin4 (byteAt a 0)) = true then d.complete id stBusy []
      else (d.adcTake id.room (fin4 (byteAt a 0)) ((d.adcWanted (fin4 (byteAt a 0))).1, (List.range 16).map fun i =>
        if byteAt a 1 ≤ i ∧ i < byteAt a 1 + byteAt a 2 then (planRows a).getD (i - byteAt a 1) 0
        else (d.adcWanted (fin4 (byteAt a 0))).2.getD i 0)).complete id stOk [])) ∧
    (s.dev.Accepts cmdAdcGroup (withAction r 1 1) → exec (.adcGroupSet r) s =
      .next (s.served cmdAdcGroup (withAction r 1 1) fun d id a =>
        if d.adcBusy id.room (fin4 (byteAt a 0)) = true then d.complete id stBusy []
        else (d.adcTake id.room (fin4 (byteAt a 0)) (setCfg a, (d.adcWanted (fin4 (byteAt a 0))).2)).complete id stOk
          (leBytes 1 (d.adcGroup (fin4 (byteAt a 0))).seq ++ leBytes 1 id.room.val))) ∧
    (s.dev.Accepts cmdAdcGroup (withAction r 1 2) → exec (.adcGroupTrigger r) s =
      .next (s.served cmdAdcGroup (withAction r 1 2) fun d id a =>
        if d.adcBusy id.room (fin4 (byteAt a 0)) = true then d.complete id stBusy []
        else (d.updShadow fun t => { t with adcTrig := t.adcTrig ||| BitVec.twoPow 4 (fin4 (byteAt a 0)).val }).complete id stOk
          (leBytes 1 (d.adcGroup (fin4 (byteAt a 0))).seq ++
            leBytes 1 (((d.priv.adcHolds.get (fin4 (byteAt a 0))).map fun h => h.room.val).getD 0xFF)))) ∧
    (s.dev.Accepts cmdAdcGroup (withAction r 1 3) → exec (.adcGroupRelease r) s =
      .next (s.served cmdAdcGroup (withAction r 1 3) fun d id a =>
        (d.updPriv fun p => { p with adcHolds := vput p.adcHolds (fin4 (byteAt a 0)) none }).complete id stOk
          (leBytes 1 (d.adcGroup (fin4 (byteAt a 0))).seq ++ [0xFF]))) ∧
    (s.dev.Accepts cmdAdcRead r → exec (.adcRead r) s = .next (s.served cmdAdcRead r fun d id a =>
      if byteAt a 1 = 1 then d.updRec id fun x => { x with
        wait := [(fin4 (byteAt a 0)).val, (d.adcGroup (fin4 (byteAt a 0))).seq, d.now + 1000 * numAt a 2 2], intent := .none }
      else (d.buffer id.room 0 (d.polled.adc.get (fin4 (byteAt a 0))).readRecord).complete id stOk
        ((d.polled.adc.get (fin4 (byteAt a 0))).readResult (d.polled.adc.get (fin4 (byteAt a 0))).kept.isSome))) ∧
    (s.dev.Accepts cmdDigKeyload r → exec (.digKeyload r) s = .next (s.served cmdDigKeyload r fun d id a =>
      if d.isReturned = true then d.complete id stFault []
      else if d.digOurs = true ∧ d.keys.loading.isNone = true then
        (d.updKeys fun k => { k with loading := some (id, Fin.ofNat 8 (byteAt a 0),
          if byteAt a 1 = 0 then none else some (slotKeys (slice a 8 (byteAt a 1)))) }).updRec id fun x =>
            { x with wait := [2], intent := .open true }
      else d.digReserve.updRec id fun x => { x with wait := [1], intent := .open false })) ∧
    (s.dev.Accepts cmdDigQueue r → (((s.dev.begun cmdDigQueue r).parts r.room (numAt (Req.area r) 4 2)).filter fun x =>
        x.id != Req.ident r) = [] →
      exec (.digQueue r) s = .next (s.served cmdDigQueue r fun d id a =>
        if byteAt a 3 = 1 then d.updRec id fun x => { x with wait := [d.now], intent := .none }
        else (d.updRec id fun x => { x with wait := [d.now], intent := .none }).interim id [])) ∧
    (s.dev.Accepts cmdFaultRead r → exec (.faultRead r) s = .next (s.served cmdFaultRead r fun d id a =>
      ((d.buffer id.room 0 (slice (((d.faults.active.drop (byteAt a 0)).take 16).flatMap ActiveEntry.bytes) 0 256)).when
        (byteAt a 1 == 1) (·.updFaults fun f => { f with
          active := (f.active.take (byteAt a 0)) ++ ((f.active.drop (byteAt a 0)).take 16).map (fun e => { e with read := true }) ++
            f.active.drop (byteAt a 0 + 16) })).complete id stOk
        (leBytes 1 d.faults.active.length ++ leBytes 1 ((d.faults.active.drop (byteAt a 0)).take 16).length ++
          leBytes 1 (d.mirFault / 256) ++ leBytes 1 (d.mirFault % 256) ++ leBytes 4 d.faults.seq.toNat))) ∧
    (s.dev.Accepts cmdLedgerRead r → exec (.ledgerRead r) s = .next (s.served cmdLedgerRead r fun d id a =>
      (d.buffer id.room 0 (slice (((d.ledgerEntries.filter fun e => decide (ledgerStart d.ledgerEntries (numAt a 0 4) ≤ e.1)).take
        (byteAt a 4)).flatMap fun e => e.2.2) 0 256)).complete id stOk
          (leBytes 4 ((d.ledgerEntries.head?.map (·.1)).getD 0) ++ leBytes 4 ((d.ledgerEntries.getLast?.map (·.1)).getD 0)))) ∧
    (∀ k : Fin 6, ∀ i : Instr,
      i = [Instr.faultClearSafeHold r, .faultClearRailHeld r, .faultClearAllHeld r, .faultClearBatfet r, .faultClearActive r,
        .faultClearLedgerMark r].getD k.val (.faultProbe r) →
      s.dev.Accepts cmdFaultClear (withAction r 0 (k.val + 1)) → exec i s =
        .next (s.served cmdFaultClear (withAction r 0 (k.val + 1)) fun d id a =>
          let x := d.faultClear (k.val + 1) (byteAt a 1)
          let y := x.2.raise (clearMessage id.room (k.val + 1) (byteAt a 1))
          y.complete id stOk (leBytes 1 (b2n x.1) ++ leBytes 1 (y.mirFaultAfter % 256) ++ leBytes 2 0 ++ leBytes 4 y.lastSeq))) ∧
    (∀ d : Device, d.faultClear 4 0 = (d.path.ocHeld, { d with path := { d.path with ocHeld := false } }) ∧
      d.faultClear 5 0 = (!d.faults.active.isEmpty, { d with faults := { d.faults with active := [] } }) ∧
      d.faultClear 6 0 = (true, d) ∧
      (d.faults.safeHold = true → d.faults.leaving = false → (d.faultClear 1 0).1 = true ∧ (d.faultClear 1 0).2.faults.leaving = true ∧
        ∀ v ∈ (d.faultClear 1 0).2.priv.votes, v.holder ≠ .safe) ∧
      (d.faults.safeHold = false → d.faultClear 1 0 = (false, d))) ∧
    (s.dev.Accepts cmdFaultProbe r → exec (.faultProbe r) s = .next (s.served cmdFaultProbe r fun d id _ =>
      ((d.updFaults fun f => { f with probeLimit := 0, probeOv := 0, probePg := 0, probeMisc := 0, probeTherm := 0 }).buffer
        id.room 0 (slice d.faults.probeReport 0 256)).complete id stOk (leBytes 6 d.probeWires))) ∧
    (s.dev.Accepts cmdWdSet (withAction r 0 1) → exec (.wdSetPeriod r) s =
      .next (s.served cmdWdSet (withAction r 0 1) fun d id a =>
        (d.updWd fun w => { w with
          inForce := numAt a 2 2, a := { w.a with newPeriod := some (numAt a 2 2) },
          b := { w.b with newPeriod := some (numAt a 2 2) } }).updRec id fun x => { x with wait := [], intent := .none })) ∧
    (s.dev.Accepts cmdWdSet (withAction r 0 2) → exec (.wdSetClearRestarts r) s =
      .next (s.served cmdWdSet (withAction r 0 2) fun d id _ =>
        (d.updWd fun w => { w with restarts := [] }).complete id stOk (leBytes 2 d.wd.inForce ++ [0]))) ∧
    (s.dev.Accepts cmdWdQuery r → exec (.wdQuery r) s = .next (s.served cmdWdQuery r fun d id _ =>
      (d.buffer id.room 0 (d.polled.wd.get id.room).2).complete id stOk (d.polled.wd.get id.room).1)) ∧
    (s.dev.Accepts cmdGwdArm r → exec (.gwdArm r) s = .next (s.served cmdGwdArm r fun d id a =>
      let dl := if numAt a 0 4 = 0 then 0 else d.batch.edgeTime + 1000 * numAt a 0 4
      (d.updGwd id.room fun _ => { t := numAt a 0 4, deadline := dl, step := 0 }).complete id stOk
        (leBytes 1 (d.priv.gwds.get id.room).code ++ leBytes 4 dl))) ∧
    (s.dev.Accepts cmdWdKick r → exec (.wdKick r) s = .next (s.served cmdWdKick r fun d id _ =>
      if (d.priv.gwds.get id.room).t = 0 then d.complete id stFault []
      else (d.updGwd id.room fun g => { g with
          step := 0, deadline := d.batch.edgeTime + 1000 * (d.priv.gwds.get id.room).t }).complete id stOk
        (leBytes 1 (d.priv.gwds.get id.room).code ++
          leBytes 4 (d.batch.edgeTime + 1000 * (d.priv.gwds.get id.room).t))))

/-- Keeper, image, Recipe and security requests (R202, R223 to R230, R704, R729 to R731, R749, R754 to R758): a swap is asked of
the arbiter and answers at once for the keeper that is ACTIVE; a quarantined keeper restarts with its history cleared; images
and Recipes are staged, checked and committed; a challenge is issued and answered; an advance waits for its programming. Where
a request is accepted, `served` is its command's effect with the rest of its Batch's work to follow at its marks (log entry
12, the model's choice). -/
def Obligations.KeeperRecipeAndSecurityRequests : Prop :=
  ∀ (s : State) (r : Req),
    (s.dev.Accepts cmdKeeperSwap r → exec (.keeperSwap r) s = .next (s.served cmdKeeperSwap r fun d id a =>
      if d.activeKeeper = some (keeperOf (byteAt a 0)) then
        if d.keepers.hwTakeover = true then d.updRec id fun x => { x with wait := [byteAt a 0], intent := .none }
        else d.complete id stOk (leBytes 6 d.keepers.lastSwap.grantBatch.toNat ++ leBytes 1 (keeperCode (keeperOf (byteAt a 0))))
      else (d.updKeepers fun x => { x with
        commanded := if x.commanded.contains id.room then x.commanded else x.commanded ++ [id.room] }).updRec id fun x =>
          { x with wait := [byteAt a 0], intent := .none })) ∧
    (s.dev.Accepts cmdKeeperRevive r → exec (.keeperRevive r) s = .next (s.served cmdKeeperRevive r fun d id a =>
      ((d.updKeeper (keeperOf (byteAt a 0)) fun x => { x with failTimes := [] }).keeperRestart (keeperOf (byteAt a 0))).complete
        id stOk [])) ∧
    (s.dev.Accepts cmdImageStage (withAction r 0 1) → exec (.imageStageOpen r) s =
      .next (s.served cmdImageStage (withAction r 0 1) fun d id a =>
        let k := keeperOf (byteAt a 1)
        if d.images.stage.isSome = true ∨ d.images.erasing.isSome = true ∨ (d.keeper k).role = .active ∨
            (d.keeper k).role = .quarantined ∨ (d.keeper k).slot = some (d.fallback k) then d.complete id stBusy []
        else ((d.nvmErase (slotBase (d.fallback k)) 0x30000).updImages fun i => { i with
          erasing := some { keeper := k, slot := d.fallback k, total := numAt a 4 4, written := [], lastUse := d.now } }).updRec id
            fun x => { x with wait := [101], intent := .open true })) ∧
    (s.dev.Accepts cmdImageStage (withAction r 0 2) → s.dev.images.stage = none → exec (.imageStageData r) s =
      .next (s.served cmdImageStage (withAction r 0 2) fun d id _ => d.complete id stBadArg [])) ∧
    (∀ x, s.dev.Accepts cmdImageStage (withAction r 0 2) → s.dev.images.stage = some x → exec (.imageStageData r) s =
      .next (s.served cmdImageStage (withAction r 0 2) fun d id a =>
        let n := byteAt a 2
        let e := d.updImages fun i => { i with stage := some { x with lastUse := d.now } }
        let m := e.stagedRange 0x910 (slotBase x.slot) x.written id (numAt a 4 4) (slice a 8 n)
        if x.keeper ≠ keeperOf (byteAt a 1) then d.complete id stBadArg []
        else if x.total < numAt a 4 4 + (slice a 8 n).length ∨ m.1 = true then e.complete id stBadArg []
        else if m.2 = true then e.complete id stOk []
        else e.updRec id fun y => { y with wait := [0], intent := .none })) ∧
    (s.dev.Accepts cmdImageStage (withAction r 0 3) → exec (.imageStageClose r) s =
      .next (s.served cmdImageStage (withAction r 0 3) fun d id a =>
        let k := keeperOf (byteAt a 1)
        match d.images.stage with
        | none => d.complete id stBadArg []
        | some x =>
          let e := d.updImages fun i => { i with stage := some { x with lastUse := d.now } }
          if x.keeper ≠ k then d.complete id stBadArg []
          else if ((List.range ((x.total + 3) / 4)).all fun i => x.written.contains (4 * i)) = false ∨
              x.total ≠ 256 + imgBody (d.slotHeader x.slot) + 64 then e.complete id stBadArg []
          else if (d.keeper k).role = .active ∨ (d.keeper k).role = .quarantined ∨ d.images.closeWait.isSome = true then
            e.complete id stBusy []
          else ((e.updImages fun i => { i.setTrial k true with closeWait := some (k, x.slot) }).keeperRestart k).updRec id fun y =>
            { y with wait := [103], intent := .open true })) ∧
    (s.dev.Accepts cmdImageCommit (withAction r 0 1) → exec (.imageCommitCommit r) s =
      .next (s.served cmdImageCommit (withAction r 0 1) fun d id a => settled id (d.imageCommit id (byteAt a 1 == 1)))) ∧
    (∀ (d : Device) (id : ReqId) (b : Bool), d.images.commit = none →
      (d.cfg.manifest = none ∨ (d.runsTrial .a || d.runsTrial .b) = false → d.imageCommit id b = (d, fails stBadArg)) ∧
      (∀ m x, d.cfg.manifest = some m → (d.runsTrial .a || d.runsTrial .b) = true → x = d.cfg.nextSeq (d.commitManifest m b) →
        d.imageCommit id b = (d.updImages fun i => { i with commit := some (x.bytes, id) }, .wait [1, x.seq.toNat] (.open false)) ∧
        (d.runsTrial .a = true → d.runsTrial .b = false →
          x.aPrimary = m.aFallback ∧ x.aFallback = m.aPrimary ∧ x.bPrimary = m.bPrimary))) ∧
    (∀ (d : Device) (l : List Byte) (id : ReqId), d.images.commit = some (l, id) → d.commitWrite.images.commit = none ∧
      d.commitWrite.images.trialA = false ∧ d.commitWrite.images.trialB = false ∧ d.commitWrite.findRec id = none) ∧
    (s.dev.Accepts cmdImageCommit (withAction r 0 2) → exec (.imageCommitAbort r) s =
      .next (s.served cmdImageCommit (withAction r 0 2) fun d id _ =>
        let w := d.commitWrite
        match w.activeKeeper with
        | none => w.complete id stOk []
        | some k =>
          let e := (w.updImages fun i => { i with stage := none, trialA := false, trialB := false }).dataDrop 0x910
          if w.runsTrial k = true then w.complete id stBusy []
          else if w.runsTrial (otherKeeper k) = true then
            ((e.updImages fun i => { i with abortWait := some (otherKeeper k) }).keeperRestart (otherKeeper k)).updRec id fun x =>
              { x with wait := [2], intent := .open true }
          else e.complete id stOk [])) ∧
    (s.dev.Accepts cmdRecipeSelect r → exec (.recipeSelect r) s = .next (s.served cmdRecipeSelect r fun d id a =>
      if d.rcp.inForce.map (·.number) = some (byteAt a 0) then d.complete id stOk (selectResult 0 (byteAt a 0) 0)
      else if d.selectBusy = true then d.complete id stBusy []
      else if d.digOurs = true then settled id (d.selectRun id (byteAt a 0))
      else d.digReserve.updRec id fun x => { x with wait := [1], intent := .open false })) ∧
    (∀ (d : Device) (id : ReqId) (n : Nat), d.selectRun id n =
      if (d.rcpVerify n).1 ≠ 0 then ((d.rcpVerify n).2, .done stFault (leBytes 1 (d.rcpVerify n).1))
      else ((d.rcpVerify n).2.updRcp fun x => { x with
          switch := some ⟨decodeRecipe ((d.rcpVerify n).2.rcpBytes n), (d.rcpVerify n).2.batch.number.toNat + 1, id, false, false⟩ },
        .wait [3] (.open false))) ∧
    (s.dev.Accepts cmdRecipeWrite (withAction r 0 1) → exec (.recipeWriteOpen r) s =
      .next (s.served cmdRecipeWrite (withAction r 0 1) fun d id a =>
        if d.rcp.inForce.map (·.number) = some (byteAt a 1) ∨ d.rcp.write.isSome = true ∨ d.rcp.erasing.isSome = true ∨
            d.rcp.switch.isSome = true then d.complete id stBusy []
        else ((d.nvmErase (rcpBase (byteAt a 1)) 0x2000).updRcp fun x => { x with
          erasing := some ({ slot := byteAt a 1, total := numAt a 4 4, written := [], lastUse := d.now }, id) }).updRec id fun x =>
            { x with wait := [101], intent := .open true })) ∧
    (s.dev.Accepts cmdRecipeWrite (withAction r 0 2) → exec (.recipeWriteData r) s =
      .next (s.served cmdRecipeWrite (withAction r 0 2) fun d id a =>
        match d.rcp.write with
        | none => d.complete id stBadArg []
        | some w =>
          let l := slice a 8 (byteAt a 2)
          let off := numAt a 4 4
          let e := d.updRcp fun x => { x with write := some { w with lastUse := d.now } }
          let m := e.stagedRange 0xA01 (rcpBase w.slot) w.written id off l
          if w.slot ≠ byteAt a 1 then d.complete id stBadArg []
          else if ¬ (off + l.length ≤ w.total ∨ (0x1FE0 ≤ off ∧ off + l.length ≤ 0x2000)) ∨ m.1 = true then e.complete id stBadArg []
          else if m.2 = true then e.complete id stOk []
          else e.updRec id fun y => { y with wait := [0], intent := .none })) ∧
    (s.dev.Accepts cmdRecipeWrite (withAction r 0 3) → exec (.recipeWriteClose r) s =
      .next (s.served cmdRecipeWrite (withAction r 0 3) fun d id a =>
        match d.rcp.write with
        | none => d.complete id stBadArg []
        | some w =>
          let e := d.updRcp fun x => { x with write := some { w with lastUse := d.now } }
          if w.slot ≠ byteAt a 1 then d.complete id stBadArg []
          else if w.whole = false then e.complete id stBadArg []
          else if d.digOurs = true then settled id (e.closeRun (byteAt a 1))
          else e.digReserve.updRec id fun y => { y with wait := [1], intent := .none })) ∧
    (s.dev.Accepts cmdDbgChallenge r → exec (.dbgChallenge r) s = .next (s.served cmdDbgChallenge r fun d id _ =>
      if d.locked = true then d.complete id stBusy []
      else if d.debugKey.isNone = true then d.complete id stFault []
      else (d.issue.buffer id.room 0 (slice (d.challengeBytes (d.keys.challenges + 1).toNat) 0 32)).complete id stOk
        (leBytes 8 (d.keys.challenges + 1).toNat))) ∧
    (s.dev.Accepts cmdDbgRespond (withAction r 0 1) → exec (.dbgRespondRespond r) s =
      .next (s.served cmdDbgRespond (withAction r 0 1) fun d id a =>
        if d.locked = true then d.complete id stBusy []
        else match d.challenge with
          | none => d.complete id stBadArg []
          | some c =>
            if d.digOurs = true then
              let x := (d.updSec fun y => { y with challenge := none }).verifyOne
                { bytes := slice a 8 32, challenge := c.1, req := some id }
              if x.2 = true then x.1.complete id stOk (leBytes 1 x.1.levelAfter.code) else x.1.complete id stFault []
            else ((d.respond (slice a 8 32) (some id)).digReserve).updRec id fun y => { y with wait := [], intent := .open true })) ∧
    (s.dev.Accepts cmdDbgRespond (withAction r 0 2) → exec (.dbgRespondDrop r) s =
      .next (s.served cmdDbgRespond (withAction r 0 2) fun d id _ =>
        d.dropLevel.complete id stOk (leBytes 1 d.dropLevel.levelAfter.code))) ∧
    (s.dev.Accepts cmdLifecycleAdvance r → exec (.lifecycleAdvance r) s = .next (s.served cmdLifecycleAdvance r fun d id a =>
      if d.keepers.a.halted = true ∨ d.keepers.b.halted = true ∨ d.images.stage.isSome = true ∨ d.images.erasing.isSome = true ∨
          d.rcp.switch.isSome = true ∨ d.leavePending = true ∨ d.sec.advance.isSome = true then d.complete id stBusy []
      else if d.advanceOk (byteAt a 0) = true then
        (d.updSec fun x => { x with advance := some { target := byteAt a 0, req := some id } }).updRec id fun x =>
          { x with wait := [], intent := .open true }
      else d.complete id stFault []))

/-! ### Intake and frames (chapters 07 to 09) -/

/-- Intake (R245, R246, R313, R319, R326, R331, R332): an answer is one completion of its Room, which enters no record and changes
nothing else. It is posted at once, or stands behind the completions of that Room that still wait to be posted; without a free
ring slot for it there is none. The first check that fails decides the status, with deduplication between checks 2 and 3; and only
a request that passes them all enters the table, as a TAKEN record behind those already there. -/
def Obligations.IntakeAnswersTheFirstFailure : Prop :=
  ∀ (d : Device) (h : Hdr) (n : RoomId) (q : RoomRegs) (told : Byte → Prop), d.MemWf → n = h.id.room → q = d.rooms.get n →
    (∀ v, told v ↔ ∃ e, d.take cmdOf h = .answered e ∧
      ((d.waitingOf n = 0 ∧ e.winRead n (0xA00 + 16 * (q.cqTail.toNat % 64) + 4) = v) ∨
       (d.waitingOf n ≠ 0 ∧ ∃ w, e.reqs.waiting.getLast? = some w ∧ w.compl.status = v))) →
    (∀ e, d.take cmdOf h = .answered e → q.cqUsed + d.waitingOf n < 64 ∧
      (d.waitingOf n = 0 → e = { d with rooms := e.rooms, wram := e.wram } ∧ (e.rooms.get n).cqTail = q.cqTail + 1 ∧
        ∀ m, m ≠ n → e.rooms.get m = d.rooms.get m ∧ ∀ a, a < 4096 → e.winRead m a = d.winRead m a) ∧
      (d.waitingOf n ≠ 0 → e = { d with reqs := { d.reqs with waiting := e.reqs.waiting } } ∧
        ∃ w, e.reqs.waiting = d.reqs.waiting ++ [w] ∧ w.id.room = n ∧ w.final = false)) ∧
    (∀ e, d.take cmdOf h = .entered e → h.wellFormed = true ∧ (q.st = .opened ∨ h.opcode = 0) ∧
      (∃ c, cmdOf h.opcode = some c ∧ c.check d h = none) ∧ (h.len = 0 ∨ d.blocks n < 128) ∧
      (quotaFree h.opcode = true ∨ d.romHold = true ∨ d.held n < q.quota) ∧
      ∃ r, e.reqs.recs = d.reqs.recs ++ [r] ∧ r.id = h.id ∧ r.opcode = h.opcode ∧ r.st = .taken ∧ r.fp = fingerprint h) ∧
    (q.cqUsed + d.waitingOf n < 64 →
      (h.wellFormed = false → told (BitVec.ofNat 8 stBadArg)) ∧
      (h.wellFormed = true → h.opcode ≠ 0 → q.st ≠ .opened ∨ q.closing.isSome = true → told (BitVec.ofNat 8 stVersion)) ∧
      (h.wellFormed = true → h.opcode = 0 ∨ (q.st = .opened ∧ q.closing = none) →
        (∀ r, (d.reqs.recs.filter fun x => x.id.room == n && x.id.tag == h.id.tag).find? (fun x => x.st ≠ .done) = some r →
          told (BitVec.ofNat 8 (if r.id.seq = h.id.seq ∧ r.fp = fingerprint h then stDup else stTagConflict))) ∧
        (d.dedupAnswer h (fingerprint h) = none → d.romHold = false →
          (quotaFree h.opcode = false → q.quota ≤ d.held n → told (BitVec.ofNat 8 stQuota)) ∧
          (quotaFree h.opcode = true ∨ d.held n < q.quota →
            (cmdOf h.opcode = none → told (BitVec.ofNat 8 stBadOpcode)) ∧
            (∀ c st, cmdOf h.opcode = some c → c.check d h = some st → told (BitVec.ofNat 8 st))))))

/-- What a write through the host link leaves unchanged (R234, R236, R260, R272, R625): away from a Batch edge, the rows of the link
and of the digest engine's registers change nothing but the rings, event flags and records of the Room that they name, the engine,
what the port shows, and the counter from which free values are read; other Rooms' registers, window RAM and records stay as they
are. -/
def Obligations.HostWritesStayInTheirRoom : Prop :=
  ∀ (s t : State) (p : Port) (n : RoomId) (i : Instr), s.dev.Calm → s.dev.MemWf → s.dev.atTick = false →
    ((∃ v, i = .sqTailWrite p n v) ∨ (∃ v, i = .cqHeadWrite p n v) ∨ (∃ off l, i = .submissionSlotWrite p n off l) ∨
      (∃ w, i = .evtFlagsClear p n w) ∨ (∃ v, i = .digClaimWrite p n v) ∨ (∃ h k, i = .digStart p n h k) ∨
      (∃ off l, i = .digDataWrite p n off l) ∨ i = .digFinish p n ∨ i = .digAbort p n) →
    exec i s = .next t →
    t.pending = s.pending ∧
    t.dev = { s.dev with
      rooms := t.dev.rooms, link := t.dev.link, reqs := t.dev.reqs, dig := t.dev.dig, wram := t.dev.wram,
      freeCtr := t.dev.freeCtr } ∧
    (∀ m, m ≠ n → t.dev.rooms.get m = s.dev.rooms.get m ∧ t.dev.reqs.dedup.get m = s.dev.reqs.dedup.get m ∧
      ∀ a, a < 4096 → t.dev.winRead m a = s.dev.winRead m a) ∧
    (∀ r, r.id.room ≠ n → (r ∈ t.dev.reqs.recs ↔ r ∈ s.dev.reqs.recs)) ∧
    (∀ a, a < 0x200 ∨ (0xA00 ≤ a ∧ a < 4096) → t.dev.winRead n a = s.dev.winRead n a)
end

