-- ==== Sys2Proof/Laws/State.lean ====
section
/-! SUPPORT. The state after the named updates: each field of the device after each update of a part, and vectors after an
update of one element. -/
namespace Sys2Proof.Machine

/-! ### Vectors -/

@[simp] theorem vget_vput_same {α : Type} {n : Nat} (v : Vector α n) (i : Fin n) (x : α) : (vput v i x).get i = x := by
  simp [vput, Vector.get_eq_getElem]

theorem vget_vput_ne {α : Type} {n : Nat} (v : Vector α n) {i j : Fin n} (x : α) (h : j ≠ i) : (vput v i x).get j = v.get j := by
  have h' : i.val ≠ j.val := fun e => h (Fin.ext e.symm)
  simp [vput, Vector.get_eq_getElem, Vector.getElem_set_ne, h']

theorem vget_vput {α : Type} {n : Nat} (v : Vector α n) (i j : Fin n) (x : α) :
    (vput v i x).get j = if j = i then x else v.get j := by
  split
  · rename_i h; rw [h, vget_vput_same]
  · rename_i h; exact vget_vput_ne v x h

@[simp] theorem vget_vmod_same {α : Type} {n : Nat} (v : Vector α n) (i : Fin n) (f : α → α) : (vmod v i f).get i = f (v.get i) := by
  simp [vmod]

theorem vget_vmod_ne {α : Type} {n : Nat} (v : Vector α n) {i j : Fin n} (f : α → α) (h : j ≠ i) : (vmod v i f).get j = v.get j := by
  simp [vmod, vget_vput_ne v _ h]

theorem vget_vmod {α : Type} {n : Nat} (v : Vector α n) (i j : Fin n) (f : α → α) :
    (vmod v i f).get j = if j = i then f (v.get i) else v.get j := vget_vput v i j _

@[simp] theorem vget_map {α β : Type} {n : Nat} (v : Vector α n) (f : α → β) (i : Fin n) : (v.map f).get i = f (v.get i) := by
  simp [Vector.get_eq_getElem]

@[simp] theorem vget_ofFn {α : Type} {n : Nat} (f : Fin n → α) (i : Fin n) : (Vector.ofFn f).get i = f i := by
  simp [Vector.get_eq_getElem]

/-! ### Fields of the device -/

section
variable (d : Device)

@[simp] theorem Device.updPower_power (f : Power → Power) : (d.updPower f).power = f d.power := rfl
@[simp] theorem Device.updPower_pins (f : Power → Power) : (d.updPower f).pins = d.pins := rfl
@[simp] theorem Device.updPower_batch (f : Power → Power) : (d.updPower f).batch = d.batch := rfl
@[simp] theorem Device.updPower_sup (f : Power → Power) : (d.updPower f).sup = d.sup := rfl
@[simp] theorem Device.updPower_keepers (f : Power → Power) : (d.updPower f).keepers = d.keepers := rfl
@[simp] theorem Device.updPower_images (f : Power → Power) : (d.updPower f).images = d.images := rfl
@[simp] theorem Device.updPower_rooms (f : Power → Power) : (d.updPower f).rooms = d.rooms := rfl
@[simp] theorem Device.updPower_link (f : Power → Power) : (d.updPower f).link = d.link := rfl
@[simp] theorem Device.updPower_mirror (f : Power → Power) : (d.updPower f).mirror = d.mirror := rfl
@[simp] theorem Device.updPower_staged (f : Power → Power) : (d.updPower f).staged = d.staged := rfl
@[simp] theorem Device.updPower_reqs (f : Power → Power) : (d.updPower f).reqs = d.reqs := rfl
@[simp] theorem Device.updPower_rails (f : Power → Power) : (d.updPower f).rails = d.rails := rfl
@[simp] theorem Device.updPower_path (f : Power → Power) : (d.updPower f).path = d.path := rfl
@[simp] theorem Device.updPower_kin (f : Power → Power) : (d.updPower f).kin = d.kin := rfl
@[simp] theorem Device.updPower_chg (f : Power → Power) : (d.updPower f).chg = d.chg := rfl
@[simp] theorem Device.updPower_gaugeHw (f : Power → Power) : (d.updPower f).gaugeHw = d.gaugeHw := rfl
@[simp] theorem Device.updPower_snap (f : Power → Power) : (d.updPower f).snap = d.snap := rfl
@[simp] theorem Device.updPower_burst (f : Power → Power) : (d.updPower f).burst = d.burst := rfl
@[simp] theorem Device.updPower_adc (f : Power → Power) : (d.updPower f).adc = d.adc := rfl
@[simp] theorem Device.updPower_dig (f : Power → Power) : (d.updPower f).dig = d.dig := rfl
@[simp] theorem Device.updPower_keys (f : Power → Power) : (d.updPower f).keys = d.keys := rfl
@[simp] theorem Device.updPower_faults (f : Power → Power) : (d.updPower f).faults = d.faults := rfl
@[simp] theorem Device.updPower_wd (f : Power → Power) : (d.updPower f).wd = d.wd := rfl
@[simp] theorem Device.updPower_sec (f : Power → Power) : (d.updPower f).sec = d.sec := rfl
@[simp] theorem Device.updPower_rcp (f : Power → Power) : (d.updPower f).rcp = d.rcp := rfl
@[simp] theorem Device.updPower_shadow (f : Power → Power) : (d.updPower f).shadow = d.shadow := rfl
@[simp] theorem Device.updPower_active (f : Power → Power) : (d.updPower f).active = d.active := rfl
@[simp] theorem Device.updPower_priv (f : Power → Power) : (d.updPower f).priv = d.priv := rfl
@[simp] theorem Device.updPower_ckpt0 (f : Power → Power) : (d.updPower f).ckpt0 = d.ckpt0 := rfl
@[simp] theorem Device.updPower_ckpt1 (f : Power → Power) : (d.updPower f).ckpt1 = d.ckpt1 := rfl
@[simp] theorem Device.updPower_wram (f : Power → Power) : (d.updPower f).wram = d.wram := rfl
@[simp] theorem Device.updPower_nvm (f : Power → Power) : (d.updPower f).nvm = d.nvm := rfl
@[simp] theorem Device.updPower_cfg (f : Power → Power) : (d.updPower f).cfg = d.cfg := rfl
@[simp] theorem Device.updPower_sample (f : Power → Power) : (d.updPower f).sample = d.sample := rfl
@[simp] theorem Device.updPower_polled (f : Power → Power) : (d.updPower f).polled = d.polled := rfl
@[simp] theorem Device.updPower_freeCtr (f : Power → Power) : (d.updPower f).freeCtr = d.freeCtr := rfl
@[simp] theorem Device.updPower_fn (f : Power → Power) (x : FieldId) (e : Nat) : (d.updPower f).fn x e = d.fn x e := rfl

@[simp] theorem Device.updPins_pins (f : Pins → Pins) : (d.updPins f).pins = f d.pins := rfl
@[simp] theorem Device.updPins_power (f : Pins → Pins) : (d.updPins f).power = d.power := rfl
@[simp] theorem Device.updPins_batch (f : Pins → Pins) : (d.updPins f).batch = d.batch := rfl
@[simp] theorem Device.updPins_sup (f : Pins → Pins) : (d.updPins f).sup = d.sup := rfl
@[simp] theorem Device.updPins_keepers (f : Pins → Pins) : (d.updPins f).keepers = d.keepers := rfl
@[simp] theorem Device.updPins_images (f : Pins → Pins) : (d.updPins f).images = d.images := rfl
@[simp] theorem Device.updPins_rooms (f : Pins → Pins) : (d.updPins f).rooms = d.rooms := rfl
@[simp] theorem Device.updPins_link (f : Pins → Pins) : (d.updPins f).link = d.link := rfl
@[simp] theorem Device.updPins_mirror (f : Pins → Pins) : (d.updPins f).mirror = d.mirror := rfl
@[simp] theorem Device.updPins_staged (f : Pins → Pins) : (d.updPins f).staged = d.staged := rfl
@[simp] theorem Device.updPins_reqs (f : Pins → Pins) : (d.updPins f).reqs = d.reqs := rfl
@[simp] theorem Device.updPins_rails (f : Pins → Pins) : (d.updPins f).rails = d.rails := rfl
@[simp] theorem Device.updPins_path (f : Pins → Pins) : (d.updPins f).path = d.path := rfl
@[simp] theorem Device.updPins_kin (f : Pins → Pins) : (d.updPins f).kin = d.kin := rfl
@[simp] theorem Device.updPins_chg (f : Pins → Pins) : (d.updPins f).chg = d.chg := rfl
@[simp] theorem Device.updPins_gaugeHw (f : Pins → Pins) : (d.updPins f).gaugeHw = d.gaugeHw := rfl
@[simp] theorem Device.updPins_snap (f : Pins → Pins) : (d.updPins f).snap = d.snap := rfl
@[simp] theorem Device.updPins_burst (f : Pins → Pins) : (d.updPins f).burst = d.burst := rfl
@[simp] theorem Device.updPins_adc (f : Pins → Pins) : (d.updPins f).adc = d.adc := rfl
@[simp] theorem Device.updPins_dig (f : Pins → Pins) : (d.updPins f).dig = d.dig := rfl
@[simp] theorem Device.updPins_keys (f : Pins → Pins) : (d.updPins f).keys = d.keys := rfl
@[simp] theorem Device.updPins_faults (f : Pins → Pins) : (d.updPins f).faults = d.faults := rfl
@[simp] theorem Device.updPins_wd (f : Pins → Pins) : (d.updPins f).wd = d.wd := rfl
@[simp] theorem Device.updPins_sec (f : Pins → Pins) : (d.updPins f).sec = d.sec := rfl
@[simp] theorem Device.updPins_rcp (f : Pins → Pins) : (d.updPins f).rcp = d.rcp := rfl
@[simp] theorem Device.updPins_shadow (f : Pins → Pins) : (d.updPins f).shadow = d.shadow := rfl
@[simp] theorem Device.updPins_active (f : Pins → Pins) : (d.updPins f).active = d.active := rfl
@[simp] theorem Device.updPins_priv (f : Pins → Pins) : (d.updPins f).priv = d.priv := rfl
@[simp] theorem Device.updPins_ckpt0 (f : Pins → Pins) : (d.updPins f).ckpt0 = d.ckpt0 := rfl
@[simp] theorem Device.updPins_ckpt1 (f : Pins → Pins) : (d.updPins f).ckpt1 = d.ckpt1 := rfl
@[simp] theorem Device.updPins_wram (f : Pins → Pins) : (d.updPins f).wram = d.wram := rfl
@[simp] theorem Device.updPins_nvm (f : Pins → Pins) : (d.updPins f).nvm = d.nvm := rfl
@[simp] theorem Device.updPins_cfg (f : Pins → Pins) : (d.updPins f).cfg = d.cfg := rfl
@[simp] theorem Device.updPins_sample (f : Pins → Pins) : (d.updPins f).sample = d.sample := rfl
@[simp] theorem Device.updPins_polled (f : Pins → Pins) : (d.updPins f).polled = d.polled := rfl
@[simp] theorem Device.updPins_freeCtr (f : Pins → Pins) : (d.updPins f).freeCtr = d.freeCtr := rfl
@[simp] theorem Device.updPins_fn (f : Pins → Pins) (x : FieldId) (e : Nat) : (d.updPins f).fn x e = d.fn x e := rfl

@[simp] theorem Device.updBatch_batch (f : BatchTimer → BatchTimer) : (d.updBatch f).batch = f d.batch := rfl
@[simp] theorem Device.updBatch_power (f : BatchTimer → BatchTimer) : (d.updBatch f).power = d.power := rfl
@[simp] theorem Device.updBatch_pins (f : BatchTimer → BatchTimer) : (d.updBatch f).pins = d.pins := rfl
@[simp] theorem Device.updBatch_sup (f : BatchTimer → BatchTimer) : (d.updBatch f).sup = d.sup := rfl
@[simp] theorem Device.updBatch_keepers (f : BatchTimer → BatchTimer) : (d.updBatch f).keepers = d.keepers := rfl
@[simp] theorem Device.updBatch_images (f : BatchTimer → BatchTimer) : (d.updBatch f).images = d.images := rfl
@[simp] theorem Device.updBatch_rooms (f : BatchTimer → BatchTimer) : (d.updBatch f).rooms = d.rooms := rfl
@[simp] theorem Device.updBatch_link (f : BatchTimer → BatchTimer) : (d.updBatch f).link = d.link := rfl
@[simp] theorem Device.updBatch_mirror (f : BatchTimer → BatchTimer) : (d.updBatch f).mirror = d.mirror := rfl
@[simp] theorem Device.updBatch_staged (f : BatchTimer → BatchTimer) : (d.updBatch f).staged = d.staged := rfl
@[simp] theorem Device.updBatch_reqs (f : BatchTimer → BatchTimer) : (d.updBatch f).reqs = d.reqs := rfl
@[simp] theorem Device.updBatch_rails (f : BatchTimer → BatchTimer) : (d.updBatch f).rails = d.rails := rfl
@[simp] theorem Device.updBatch_path (f : BatchTimer → BatchTimer) : (d.updBatch f).path = d.path := rfl
@[simp] theorem Device.updBatch_kin (f : BatchTimer → BatchTimer) : (d.updBatch f).kin = d.kin := rfl
@[simp] theorem Device.updBatch_chg (f : BatchTimer → BatchTimer) : (d.updBatch f).chg = d.chg := rfl
@[simp] theorem Device.updBatch_gaugeHw (f : BatchTimer → BatchTimer) : (d.updBatch f).gaugeHw = d.gaugeHw := rfl
@[simp] theorem Device.updBatch_snap (f : BatchTimer → BatchTimer) : (d.updBatch f).snap = d.snap := rfl
@[simp] theorem Device.updBatch_burst (f : BatchTimer → BatchTimer) : (d.updBatch f).burst = d.burst := rfl
@[simp] theorem Device.updBatch_adc (f : BatchTimer → BatchTimer) : (d.updBatch f).adc = d.adc := rfl
@[simp] theorem Device.updBatch_dig (f : BatchTimer → BatchTimer) : (d.updBatch f).dig = d.dig := rfl
@[simp] theorem Device.updBatch_keys (f : BatchTimer → BatchTimer) : (d.updBatch f).keys = d.keys := rfl
@[simp] theorem Device.updBatch_faults (f : BatchTimer → BatchTimer) : (d.updBatch f).faults = d.faults := rfl
@[simp] theorem Device.updBatch_wd (f : BatchTimer → BatchTimer) : (d.updBatch f).wd = d.wd := rfl
@[simp] theorem Device.updBatch_sec (f : BatchTimer → BatchTimer) : (d.updBatch f).sec = d.sec := rfl
@[simp] theorem Device.updBatch_rcp (f : BatchTimer → BatchTimer) : (d.updBatch f).rcp = d.rcp := rfl
@[simp] theorem Device.updBatch_shadow (f : BatchTimer → BatchTimer) : (d.updBatch f).shadow = d.shadow := rfl
@[simp] theorem Device.updBatch_active (f : BatchTimer → BatchTimer) : (d.updBatch f).active = d.active := rfl
@[simp] theorem Device.updBatch_priv (f : BatchTimer → BatchTimer) : (d.updBatch f).priv = d.priv := rfl
@[simp] theorem Device.updBatch_ckpt0 (f : BatchTimer → BatchTimer) : (d.updBatch f).ckpt0 = d.ckpt0 := rfl
@[simp] theorem Device.updBatch_ckpt1 (f : BatchTimer → BatchTimer) : (d.updBatch f).ckpt1 = d.ckpt1 := rfl
@[simp] theorem Device.updBatch_wram (f : BatchTimer → BatchTimer) : (d.updBatch f).wram = d.wram := rfl
@[simp] theorem Device.updBatch_nvm (f : BatchTimer → BatchTimer) : (d.updBatch f).nvm = d.nvm := rfl
@[simp] theorem Device.updBatch_cfg (f : BatchTimer → BatchTimer) : (d.updBatch f).cfg = d.cfg := rfl
@[simp] theorem Device.updBatch_sample (f : BatchTimer → BatchTimer) : (d.updBatch f).sample = d.sample := rfl
@[simp] theorem Device.updBatch_polled (f : BatchTimer → BatchTimer) : (d.updBatch f).polled = d.polled := rfl
@[simp] theorem Device.updBatch_freeCtr (f : BatchTimer → BatchTimer) : (d.updBatch f).freeCtr = d.freeCtr := rfl
@[simp] theorem Device.updBatch_fn (f : BatchTimer → BatchTimer) (x : FieldId) (e : Nat) : (d.updBatch f).fn x e = d.fn x e := rfl

@[simp] theorem Device.updSup_sup (f : Supervisor → Supervisor) : (d.updSup f).sup = f d.sup := rfl
@[simp] theorem Device.updSup_power (f : Supervisor → Supervisor) : (d.updSup f).power = d.power := rfl
@[simp] theorem Device.updSup_pins (f : Supervisor → Supervisor) : (d.updSup f).pins = d.pins := rfl
@[simp] theorem Device.updSup_batch (f : Supervisor → Supervisor) : (d.updSup f).batch = d.batch := rfl
@[simp] theorem Device.updSup_keepers (f : Supervisor → Supervisor) : (d.updSup f).keepers = d.keepers := rfl
@[simp] theorem Device.updSup_images (f : Supervisor → Supervisor) : (d.updSup f).images = d.images := rfl
@[simp] theorem Device.updSup_rooms (f : Supervisor → Supervisor) : (d.updSup f).rooms = d.rooms := rfl
@[simp] theorem Device.updSup_link (f : Supervisor → Supervisor) : (d.updSup f).link = d.link := rfl
@[simp] theorem Device.updSup_mirror (f : Supervisor → Supervisor) : (d.updSup f).mirror = d.mirror := rfl
@[simp] theorem Device.updSup_staged (f : Supervisor → Supervisor) : (d.updSup f).staged = d.staged := rfl
@[simp] theorem Device.updSup_reqs (f : Supervisor → Supervisor) : (d.updSup f).reqs = d.reqs := rfl
@[simp] theorem Device.updSup_rails (f : Supervisor → Supervisor) : (d.updSup f).rails = d.rails := rfl
@[simp] theorem Device.updSup_path (f : Supervisor → Supervisor) : (d.updSup f).path = d.path := rfl
@[simp] theorem Device.updSup_kin (f : Supervisor → Supervisor) : (d.updSup f).kin = d.kin := rfl
@[simp] theorem Device.updSup_chg (f : Supervisor → Supervisor) : (d.updSup f).chg = d.chg := rfl
@[simp] theorem Device.updSup_gaugeHw (f : Supervisor → Supervisor) : (d.updSup f).gaugeHw = d.gaugeHw := rfl
@[simp] theorem Device.updSup_snap (f : Supervisor → Supervisor) : (d.updSup f).snap = d.snap := rfl
@[simp] theorem Device.updSup_burst (f : Supervisor → Supervisor) : (d.updSup f).burst = d.burst := rfl
@[simp] theorem Device.updSup_adc (f : Supervisor → Supervisor) : (d.updSup f).adc = d.adc := rfl
@[simp] theorem Device.updSup_dig (f : Supervisor → Supervisor) : (d.updSup f).dig = d.dig := rfl
@[simp] theorem Device.updSup_keys (f : Supervisor → Supervisor) : (d.updSup f).keys = d.keys := rfl
@[simp] theorem Device.updSup_faults (f : Supervisor → Supervisor) : (d.updSup f).faults = d.faults := rfl
@[simp] theorem Device.updSup_wd (f : Supervisor → Supervisor) : (d.updSup f).wd = d.wd := rfl
@[simp] theorem Device.updSup_sec (f : Supervisor → Supervisor) : (d.updSup f).sec = d.sec := rfl
@[simp] theorem Device.updSup_rcp (f : Supervisor → Supervisor) : (d.updSup f).rcp = d.rcp := rfl
@[simp] theorem Device.updSup_shadow (f : Supervisor → Supervisor) : (d.updSup f).shadow = d.shadow := rfl
@[simp] theorem Device.updSup_active (f : Supervisor → Supervisor) : (d.updSup f).active = d.active := rfl
@[simp] theorem Device.updSup_priv (f : Supervisor → Supervisor) : (d.updSup f).priv = d.priv := rfl
@[simp] theorem Device.updSup_ckpt0 (f : Supervisor → Supervisor) : (d.updSup f).ckpt0 = d.ckpt0 := rfl
@[simp] theorem Device.updSup_ckpt1 (f : Supervisor → Supervisor) : (d.updSup f).ckpt1 = d.ckpt1 := rfl
@[simp] theorem Device.updSup_wram (f : Supervisor → Supervisor) : (d.updSup f).wram = d.wram := rfl
@[simp] theorem Device.updSup_nvm (f : Supervisor → Supervisor) : (d.updSup f).nvm = d.nvm := rfl
@[simp] theorem Device.updSup_cfg (f : Supervisor → Supervisor) : (d.updSup f).cfg = d.cfg := rfl
@[simp] theorem Device.updSup_sample (f : Supervisor → Supervisor) : (d.updSup f).sample = d.sample := rfl
@[simp] theorem Device.updSup_polled (f : Supervisor → Supervisor) : (d.updSup f).polled = d.polled := rfl
@[simp] theorem Device.updSup_freeCtr (f : Supervisor → Supervisor) : (d.updSup f).freeCtr = d.freeCtr := rfl
@[simp] theorem Device.updSup_fn (f : Supervisor → Supervisor) (x : FieldId) (e : Nat) : (d.updSup f).fn x e = d.fn x e := rfl

@[simp] theorem Device.updKeepers_keepers (f : Keepers → Keepers) : (d.updKeepers f).keepers = f d.keepers := rfl
@[simp] theorem Device.updKeepers_power (f : Keepers → Keepers) : (d.updKeepers f).power = d.power := rfl
@[simp] theorem Device.updKeepers_pins (f : Keepers → Keepers) : (d.updKeepers f).pins = d.pins := rfl
@[simp] theorem Device.updKeepers_batch (f : Keepers → Keepers) : (d.updKeepers f).batch = d.batch := rfl
@[simp] theorem Device.updKeepers_sup (f : Keepers → Keepers) : (d.updKeepers f).sup = d.sup := rfl
@[simp] theorem Device.updKeepers_images (f : Keepers → Keepers) : (d.updKeepers f).images = d.images := rfl
@[simp] theorem Device.updKeepers_rooms (f : Keepers → Keepers) : (d.updKeepers f).rooms = d.rooms := rfl
@[simp] theorem Device.updKeepers_link (f : Keepers → Keepers) : (d.updKeepers f).link = d.link := rfl
@[simp] theorem Device.updKeepers_mirror (f : Keepers → Keepers) : (d.updKeepers f).mirror = d.mirror := rfl
@[simp] theorem Device.updKeepers_staged (f : Keepers → Keepers) : (d.updKeepers f).staged = d.staged := rfl
@[simp] theorem Device.updKeepers_reqs (f : Keepers → Keepers) : (d.updKeepers f).reqs = d.reqs := rfl
@[simp] theorem Device.updKeepers_rails (f : Keepers → Keepers) : (d.updKeepers f).rails = d.rails := rfl
@[simp] theorem Device.updKeepers_path (f : Keepers → Keepers) : (d.updKeepers f).path = d.path := rfl
@[simp] theorem Device.updKeepers_kin (f : Keepers → Keepers) : (d.updKeepers f).kin = d.kin := rfl
@[simp] theorem Device.updKeepers_chg (f : Keepers → Keepers) : (d.updKeepers f).chg = d.chg := rfl
@[simp] theorem Device.updKeepers_gaugeHw (f : Keepers → Keepers) : (d.updKeepers f).gaugeHw = d.gaugeHw := rfl
@[simp] theorem Device.updKeepers_snap (f : Keepers → Keepers) : (d.updKeepers f).snap = d.snap := rfl
@[simp] theorem Device.updKeepers_burst (f : Keepers → Keepers) : (d.updKeepers f).burst = d.burst := rfl
@[simp] theorem Device.updKeepers_adc (f : Keepers → Keepers) : (d.updKeepers f).adc = d.adc := rfl
@[simp] theorem Device.updKeepers_dig (f : Keepers → Keepers) : (d.updKeepers f).dig = d.dig := rfl
@[simp] theorem Device.updKeepers_keys (f : Keepers → Keepers) : (d.updKeepers f).keys = d.keys := rfl
@[simp] theorem Device.updKeepers_faults (f : Keepers → Keepers) : (d.updKeepers f).faults = d.faults := rfl
@[simp] theorem Device.updKeepers_wd (f : Keepers → Keepers) : (d.updKeepers f).wd = d.wd := rfl
@[simp] theorem Device.updKeepers_sec (f : Keepers → Keepers) : (d.updKeepers f).sec = d.sec := rfl
@[simp] theorem Device.updKeepers_rcp (f : Keepers → Keepers) : (d.updKeepers f).rcp = d.rcp := rfl
@[simp] theorem Device.updKeepers_shadow (f : Keepers → Keepers) : (d.updKeepers f).shadow = d.shadow := rfl
@[simp] theorem Device.updKeepers_active (f : Keepers → Keepers) : (d.updKeepers f).active = d.active := rfl
@[simp] theorem Device.updKeepers_priv (f : Keepers → Keepers) : (d.updKeepers f).priv = d.priv := rfl
@[simp] theorem Device.updKeepers_ckpt0 (f : Keepers → Keepers) : (d.updKeepers f).ckpt0 = d.ckpt0 := rfl
@[simp] theorem Device.updKeepers_ckpt1 (f : Keepers → Keepers) : (d.updKeepers f).ckpt1 = d.ckpt1 := rfl
@[simp] theorem Device.updKeepers_wram (f : Keepers → Keepers) : (d.updKeepers f).wram = d.wram := rfl
@[simp] theorem Device.updKeepers_nvm (f : Keepers → Keepers) : (d.updKeepers f).nvm = d.nvm := rfl
@[simp] theorem Device.updKeepers_cfg (f : Keepers → Keepers) : (d.updKeepers f).cfg = d.cfg := rfl
@[simp] theorem Device.updKeepers_sample (f : Keepers → Keepers) : (d.updKeepers f).sample = d.sample := rfl
@[simp] theorem Device.updKeepers_polled (f : Keepers → Keepers) : (d.updKeepers f).polled = d.polled := rfl
@[simp] theorem Device.updKeepers_freeCtr (f : Keepers → Keepers) : (d.updKeepers f).freeCtr = d.freeCtr := rfl
@[simp] theorem Device.updKeepers_fn (f : Keepers → Keepers) (x : FieldId) (e : Nat) : (d.updKeepers f).fn x e = d.fn x e := rfl

@[simp] theorem Device.updImages_images (f : Images → Images) : (d.updImages f).images = f d.images := rfl
@[simp] theorem Device.updImages_power (f : Images → Images) : (d.updImages f).power = d.power := rfl
@[simp] theorem Device.updImages_pins (f : Images → Images) : (d.updImages f).pins = d.pins := rfl
@[simp] theorem Device.updImages_batch (f : Images → Images) : (d.updImages f).batch = d.batch := rfl
@[simp] theorem Device.updImages_sup (f : Images → Images) : (d.updImages f).sup = d.sup := rfl
@[simp] theorem Device.updImages_keepers (f : Images → Images) : (d.updImages f).keepers = d.keepers := rfl
@[simp] theorem Device.updImages_rooms (f : Images → Images) : (d.updImages f).rooms = d.rooms := rfl
@[simp] theorem Device.updImages_link (f : Images → Images) : (d.updImages f).link = d.link := rfl
@[simp] theorem Device.updImages_mirror (f : Images → Images) : (d.updImages f).mirror = d.mirror := rfl
@[simp] theorem Device.updImages_staged (f : Images → Images) : (d.updImages f).staged = d.staged := rfl
@[simp] theorem Device.updImages_reqs (f : Images → Images) : (d.updImages f).reqs = d.reqs := rfl
@[simp] theorem Device.updImages_rails (f : Images → Images) : (d.updImages f).rails = d.rails := rfl
@[simp] theorem Device.updImages_path (f : Images → Images) : (d.updImages f).path = d.path := rfl
@[simp] theorem Device.updImages_kin (f : Images → Images) : (d.updImages f).kin = d.kin := rfl
@[simp] theorem Device.updImages_chg (f : Images → Images) : (d.updImages f).chg = d.chg := rfl
@[simp] theorem Device.updImages_gaugeHw (f : Images → Images) : (d.updImages f).gaugeHw = d.gaugeHw := rfl
@[simp] theorem Device.updImages_snap (f : Images → Images) : (d.updImages f).snap = d.snap := rfl
@[simp] theorem Device.updImages_burst (f : Images → Images) : (d.updImages f).burst = d.burst := rfl
@[simp] theorem Device.updImages_adc (f : Images → Images) : (d.updImages f).adc = d.adc := rfl
@[simp] theorem Device.updImages_dig (f : Images → Images) : (d.updImages f).dig = d.dig := rfl
@[simp] theorem Device.updImages_keys (f : Images → Images) : (d.updImages f).keys = d.keys := rfl
@[simp] theorem Device.updImages_faults (f : Images → Images) : (d.updImages f).faults = d.faults := rfl
@[simp] theorem Device.updImages_wd (f : Images → Images) : (d.updImages f).wd = d.wd := rfl
@[simp] theorem Device.updImages_sec (f : Images → Images) : (d.updImages f).sec = d.sec := rfl
@[simp] theorem Device.updImages_rcp (f : Images → Images) : (d.updImages f).rcp = d.rcp := rfl
@[simp] theorem Device.updImages_shadow (f : Images → Images) : (d.updImages f).shadow = d.shadow := rfl
@[simp] theorem Device.updImages_active (f : Images → Images) : (d.updImages f).active = d.active := rfl
@[simp] theorem Device.updImages_priv (f : Images → Images) : (d.updImages f).priv = d.priv := rfl
@[simp] theorem Device.updImages_ckpt0 (f : Images → Images) : (d.updImages f).ckpt0 = d.ckpt0 := rfl
@[simp] theorem Device.updImages_ckpt1 (f : Images → Images) : (d.updImages f).ckpt1 = d.ckpt1 := rfl
@[simp] theorem Device.updImages_wram (f : Images → Images) : (d.updImages f).wram = d.wram := rfl
@[simp] theorem Device.updImages_nvm (f : Images → Images) : (d.updImages f).nvm = d.nvm := rfl
@[simp] theorem Device.updImages_cfg (f : Images → Images) : (d.updImages f).cfg = d.cfg := rfl
@[simp] theorem Device.updImages_sample (f : Images → Images) : (d.updImages f).sample = d.sample := rfl
@[simp] theorem Device.updImages_polled (f : Images → Images) : (d.updImages f).polled = d.polled := rfl
@[simp] theorem Device.updImages_freeCtr (f : Images → Images) : (d.updImages f).freeCtr = d.freeCtr := rfl
@[simp] theorem Device.updImages_fn (f : Images → Images) (x : FieldId) (e : Nat) : (d.updImages f).fn x e = d.fn x e := rfl

@[simp] theorem Device.updRoom_rooms (n : RoomId) (f : RoomRegs → RoomRegs) : (d.updRoom n f).rooms = vmod d.rooms n f := rfl
@[simp] theorem Device.updRoom_power (n : RoomId) (f : RoomRegs → RoomRegs) : (d.updRoom n f).power = d.power := rfl
@[simp] theorem Device.updRoom_pins (n : RoomId) (f : RoomRegs → RoomRegs) : (d.updRoom n f).pins = d.pins := rfl
@[simp] theorem Device.updRoom_batch (n : RoomId) (f : RoomRegs → RoomRegs) : (d.updRoom n f).batch = d.batch := rfl
@[simp] theorem Device.updRoom_sup (n : RoomId) (f : RoomRegs → RoomRegs) : (d.updRoom n f).sup = d.sup := rfl
@[simp] theorem Device.updRoom_keepers (n : RoomId) (f : RoomRegs → RoomRegs) : (d.updRoom n f).keepers = d.keepers := rfl
@[simp] theorem Device.updRoom_images (n : RoomId) (f : RoomRegs → RoomRegs) : (d.updRoom n f).images = d.images := rfl
@[simp] theorem Device.updRoom_link (n : RoomId) (f : RoomRegs → RoomRegs) : (d.updRoom n f).link = d.link := rfl
@[simp] theorem Device.updRoom_mirror (n : RoomId) (f : RoomRegs → RoomRegs) : (d.updRoom n f).mirror = d.mirror := rfl
@[simp] theorem Device.updRoom_staged (n : RoomId) (f : RoomRegs → RoomRegs) : (d.updRoom n f).staged = d.staged := rfl
@[simp] theorem Device.updRoom_reqs (n : RoomId) (f : RoomRegs → RoomRegs) : (d.updRoom n f).reqs = d.reqs := rfl
@[simp] theorem Device.updRoom_rails (n : RoomId) (f : RoomRegs → RoomRegs) : (d.updRoom n f).rails = d.rails := rfl
@[simp] theorem Device.updRoom_path (n : RoomId) (f : RoomRegs → RoomRegs) : (d.updRoom n f).path = d.path := rfl
@[simp] theorem Device.updRoom_kin (n : RoomId) (f : RoomRegs → RoomRegs) : (d.updRoom n f).kin = d.kin := rfl
@[simp] theorem Device.updRoom_chg (n : RoomId) (f : RoomRegs → RoomRegs) : (d.updRoom n f).chg = d.chg := rfl
@[simp] theorem Device.updRoom_gaugeHw (n : RoomId) (f : RoomRegs → RoomRegs) : (d.updRoom n f).gaugeHw = d.gaugeHw := rfl
@[simp] theorem Device.updRoom_snap (n : RoomId) (f : RoomRegs → RoomRegs) : (d.updRoom n f).snap = d.snap := rfl
@[simp] theorem Device.updRoom_burst (n : RoomId) (f : RoomRegs → RoomRegs) : (d.updRoom n f).burst = d.burst := rfl
@[simp] theorem Device.updRoom_adc (n : RoomId) (f : RoomRegs → RoomRegs) : (d.updRoom n f).adc = d.adc := rfl
@[simp] theorem Device.updRoom_dig (n : RoomId) (f : RoomRegs → RoomRegs) : (d.updRoom n f).dig = d.dig := rfl
@[simp] theorem Device.updRoom_keys (n : RoomId) (f : RoomRegs → RoomRegs) : (d.updRoom n f).keys = d.keys := rfl
@[simp] theorem Device.updRoom_faults (n : RoomId) (f : RoomRegs → RoomRegs) : (d.updRoom n f).faults = d.faults := rfl
@[simp] theorem Device.updRoom_wd (n : RoomId) (f : RoomRegs → RoomRegs) : (d.updRoom n f).wd = d.wd := rfl
@[simp] theorem Device.updRoom_sec (n : RoomId) (f : RoomRegs → RoomRegs) : (d.updRoom n f).sec = d.sec := rfl
@[simp] theorem Device.updRoom_rcp (n : RoomId) (f : RoomRegs → RoomRegs) : (d.updRoom n f).rcp = d.rcp := rfl
@[simp] theorem Device.updRoom_shadow (n : RoomId) (f : RoomRegs → RoomRegs) : (d.updRoom n f).shadow = d.shadow := rfl
@[simp] theorem Device.updRoom_active (n : RoomId) (f : RoomRegs → RoomRegs) : (d.updRoom n f).active = d.active := rfl
@[simp] theorem Device.updRoom_priv (n : RoomId) (f : RoomRegs → RoomRegs) : (d.updRoom n f).priv = d.priv := rfl
@[simp] theorem Device.updRoom_ckpt0 (n : RoomId) (f : RoomRegs → RoomRegs) : (d.updRoom n f).ckpt0 = d.ckpt0 := rfl
@[simp] theorem Device.updRoom_ckpt1 (n : RoomId) (f : RoomRegs → RoomRegs) : (d.updRoom n f).ckpt1 = d.ckpt1 := rfl
@[simp] theorem Device.updRoom_wram (n : RoomId) (f : RoomRegs → RoomRegs) : (d.updRoom n f).wram = d.wram := rfl
@[simp] theorem Device.updRoom_nvm (n : RoomId) (f : RoomRegs → RoomRegs) : (d.updRoom n f).nvm = d.nvm := rfl
@[simp] theorem Device.updRoom_cfg (n : RoomId) (f : RoomRegs → RoomRegs) : (d.updRoom n f).cfg = d.cfg := rfl
@[simp] theorem Device.updRoom_sample (n : RoomId) (f : RoomRegs → RoomRegs) : (d.updRoom n f).sample = d.sample := rfl
@[simp] theorem Device.updRoom_polled (n : RoomId) (f : RoomRegs → RoomRegs) : (d.updRoom n f).polled = d.polled := rfl
@[simp] theorem Device.updRoom_freeCtr (n : RoomId) (f : RoomRegs → RoomRegs) : (d.updRoom n f).freeCtr = d.freeCtr := rfl
@[simp] theorem Device.updRoom_fn (n : RoomId) (f : RoomRegs → RoomRegs) (x : FieldId) (e : Nat) : (d.updRoom n f).fn x e = d.fn x e := rfl

@[simp] theorem Device.updLink_link (f : LinkState → LinkState) : (d.updLink f).link = f d.link := rfl
@[simp] theorem Device.updLink_power (f : LinkState → LinkState) : (d.updLink f).power = d.power := rfl
@[simp] theorem Device.updLink_pins (f : LinkState → LinkState) : (d.updLink f).pins = d.pins := rfl
@[simp] theorem Device.updLink_batch (f : LinkState → LinkState) : (d.updLink f).batch = d.batch := rfl
@[simp] theorem Device.updLink_sup (f : LinkState → LinkState) : (d.updLink f).sup = d.sup := rfl
@[simp] theorem Device.updLink_keepers (f : LinkState → LinkState) : (d.updLink f).keepers = d.keepers := rfl
@[simp] theorem Device.updLink_images (f : LinkState → LinkState) : (d.updLink f).images = d.images := rfl
@[simp] theorem Device.updLink_rooms (f : LinkState → LinkState) : (d.updLink f).rooms = d.rooms := rfl
@[simp] theorem Device.updLink_mirror (f : LinkState → LinkState) : (d.updLink f).mirror = d.mirror := rfl
@[simp] theorem Device.updLink_staged (f : LinkState → LinkState) : (d.updLink f).staged = d.staged := rfl
@[simp] theorem Device.updLink_reqs (f : LinkState → LinkState) : (d.updLink f).reqs = d.reqs := rfl
@[simp] theorem Device.updLink_rails (f : LinkState → LinkState) : (d.updLink f).rails = d.rails := rfl
@[simp] theorem Device.updLink_path (f : LinkState → LinkState) : (d.updLink f).path = d.path := rfl
@[simp] theorem Device.updLink_kin (f : LinkState → LinkState) : (d.updLink f).kin = d.kin := rfl
@[simp] theorem Device.updLink_chg (f : LinkState → LinkState) : (d.updLink f).chg = d.chg := rfl
@[simp] theorem Device.updLink_gaugeHw (f : LinkState → LinkState) : (d.updLink f).gaugeHw = d.gaugeHw := rfl
@[simp] theorem Device.updLink_snap (f : LinkState → LinkState) : (d.updLink f).snap = d.snap := rfl
@[simp] theorem Device.updLink_burst (f : LinkState → LinkState) : (d.updLink f).burst = d.burst := rfl
@[simp] theorem Device.updLink_adc (f : LinkState → LinkState) : (d.updLink f).adc = d.adc := rfl
@[simp] theorem Device.updLink_dig (f : LinkState → LinkState) : (d.updLink f).dig = d.dig := rfl
@[simp] theorem Device.updLink_keys (f : LinkState → LinkState) : (d.updLink f).keys = d.keys := rfl
@[simp] theorem Device.updLink_faults (f : LinkState → LinkState) : (d.updLink f).faults = d.faults := rfl
@[simp] theorem Device.updLink_wd (f : LinkState → LinkState) : (d.updLink f).wd = d.wd := rfl
@[simp] theorem Device.updLink_sec (f : LinkState → LinkState) : (d.updLink f).sec = d.sec := rfl
@[simp] theorem Device.updLink_rcp (f : LinkState → LinkState) : (d.updLink f).rcp = d.rcp := rfl
@[simp] theorem Device.updLink_shadow (f : LinkState → LinkState) : (d.updLink f).shadow = d.shadow := rfl
@[simp] theorem Device.updLink_active (f : LinkState → LinkState) : (d.updLink f).active = d.active := rfl
@[simp] theorem Device.updLink_priv (f : LinkState → LinkState) : (d.updLink f).priv = d.priv := rfl
@[simp] theorem Device.updLink_ckpt0 (f : LinkState → LinkState) : (d.updLink f).ckpt0 = d.ckpt0 := rfl
@[simp] theorem Device.updLink_ckpt1 (f : LinkState → LinkState) : (d.updLink f).ckpt1 = d.ckpt1 := rfl
@[simp] theorem Device.updLink_wram (f : LinkState → LinkState) : (d.updLink f).wram = d.wram := rfl
@[simp] theorem Device.updLink_nvm (f : LinkState → LinkState) : (d.updLink f).nvm = d.nvm := rfl
@[simp] theorem Device.updLink_cfg (f : LinkState → LinkState) : (d.updLink f).cfg = d.cfg := rfl
@[simp] theorem Device.updLink_sample (f : LinkState → LinkState) : (d.updLink f).sample = d.sample := rfl
@[simp] theorem Device.updLink_polled (f : LinkState → LinkState) : (d.updLink f).polled = d.polled := rfl
@[simp] theorem Device.updLink_freeCtr (f : LinkState → LinkState) : (d.updLink f).freeCtr = d.freeCtr := rfl
@[simp] theorem Device.updLink_fn (f : LinkState → LinkState) (x : FieldId) (e : Nat) : (d.updLink f).fn x e = d.fn x e := rfl

@[simp] theorem Device.updMirror_mirror (f : Mirror → Mirror) : (d.updMirror f).mirror = f d.mirror := rfl
@[simp] theorem Device.updMirror_power (f : Mirror → Mirror) : (d.updMirror f).power = d.power := rfl
@[simp] theorem Device.updMirror_pins (f : Mirror → Mirror) : (d.updMirror f).pins = d.pins := rfl
@[simp] theorem Device.updMirror_batch (f : Mirror → Mirror) : (d.updMirror f).batch = d.batch := rfl
@[simp] theorem Device.updMirror_sup (f : Mirror → Mirror) : (d.updMirror f).sup = d.sup := rfl
@[simp] theorem Device.updMirror_keepers (f : Mirror → Mirror) : (d.updMirror f).keepers = d.keepers := rfl
@[simp] theorem Device.updMirror_images (f : Mirror → Mirror) : (d.updMirror f).images = d.images := rfl
@[simp] theorem Device.updMirror_rooms (f : Mirror → Mirror) : (d.updMirror f).rooms = d.rooms := rfl
@[simp] theorem Device.updMirror_link (f : Mirror → Mirror) : (d.updMirror f).link = d.link := rfl
@[simp] theorem Device.updMirror_staged (f : Mirror → Mirror) : (d.updMirror f).staged = d.staged := rfl
@[simp] theorem Device.updMirror_reqs (f : Mirror → Mirror) : (d.updMirror f).reqs = d.reqs := rfl
@[simp] theorem Device.updMirror_rails (f : Mirror → Mirror) : (d.updMirror f).rails = d.rails := rfl
@[simp] theorem Device.updMirror_path (f : Mirror → Mirror) : (d.updMirror f).path = d.path := rfl
@[simp] theorem Device.updMirror_kin (f : Mirror → Mirror) : (d.updMirror f).kin = d.kin := rfl
@[simp] theorem Device.updMirror_chg (f : Mirror → Mirror) : (d.updMirror f).chg = d.chg := rfl
@[simp] theorem Device.updMirror_gaugeHw (f : Mirror → Mirror) : (d.updMirror f).gaugeHw = d.gaugeHw := rfl
@[simp] theorem Device.updMirror_snap (f : Mirror → Mirror) : (d.updMirror f).snap = d.snap := rfl
@[simp] theorem Device.updMirror_burst (f : Mirror → Mirror) : (d.updMirror f).burst = d.burst := rfl
@[simp] theorem Device.updMirror_adc (f : Mirror → Mirror) : (d.updMirror f).adc = d.adc := rfl
@[simp] theorem Device.updMirror_dig (f : Mirror → Mirror) : (d.updMirror f).dig = d.dig := rfl
@[simp] theorem Device.updMirror_keys (f : Mirror → Mirror) : (d.updMirror f).keys = d.keys := rfl
@[simp] theorem Device.updMirror_faults (f : Mirror → Mirror) : (d.updMirror f).faults = d.faults := rfl
@[simp] theorem Device.updMirror_wd (f : Mirror → Mirror) : (d.updMirror f).wd = d.wd := rfl
@[simp] theorem Device.updMirror_sec (f : Mirror → Mirror) : (d.updMirror f).sec = d.sec := rfl
@[simp] theorem Device.updMirror_rcp (f : Mirror → Mirror) : (d.updMirror f).rcp = d.rcp := rfl
@[simp] theorem Device.updMirror_shadow (f : Mirror → Mirror) : (d.updMirror f).shadow = d.shadow := rfl
@[simp] theorem Device.updMirror_active (f : Mirror → Mirror) : (d.updMirror f).active = d.active := rfl
@[simp] theorem Device.updMirror_priv (f : Mirror → Mirror) : (d.updMirror f).priv = d.priv := rfl
@[simp] theorem Device.updMirror_ckpt0 (f : Mirror → Mirror) : (d.updMirror f).ckpt0 = d.ckpt0 := rfl
@[simp] theorem Device.updMirror_ckpt1 (f : Mirror → Mirror) : (d.updMirror f).ckpt1 = d.ckpt1 := rfl
@[simp] theorem Device.updMirror_wram (f : Mirror → Mirror) : (d.updMirror f).wram = d.wram := rfl
@[simp] theorem Device.updMirror_nvm (f : Mirror → Mirror) : (d.updMirror f).nvm = d.nvm := rfl
@[simp] theorem Device.updMirror_cfg (f : Mirror → Mirror) : (d.updMirror f).cfg = d.cfg := rfl
@[simp] theorem Device.updMirror_sample (f : Mirror → Mirror) : (d.updMirror f).sample = d.sample := rfl
@[simp] theorem Device.updMirror_polled (f : Mirror → Mirror) : (d.updMirror f).polled = d.polled := rfl
@[simp] theorem Device.updMirror_freeCtr (f : Mirror → Mirror) : (d.updMirror f).freeCtr = d.freeCtr := rfl
@[simp] theorem Device.updMirror_fn (f : Mirror → Mirror) (x : FieldId) (e : Nat) : (d.updMirror f).fn x e = d.fn x e := rfl

@[simp] theorem Device.updReqs_reqs (f : ReqTable → ReqTable) : (d.updReqs f).reqs = f d.reqs := rfl
@[simp] theorem Device.updReqs_power (f : ReqTable → ReqTable) : (d.updReqs f).power = d.power := rfl
@[simp] theorem Device.updReqs_pins (f : ReqTable → ReqTable) : (d.updReqs f).pins = d.pins := rfl
@[simp] theorem Device.updReqs_batch (f : ReqTable → ReqTable) : (d.updReqs f).batch = d.batch := rfl
@[simp] theorem Device.updReqs_sup (f : ReqTable → ReqTable) : (d.updReqs f).sup = d.sup := rfl
@[simp] theorem Device.updReqs_keepers (f : ReqTable → ReqTable) : (d.updReqs f).keepers = d.keepers := rfl
@[simp] theorem Device.updReqs_images (f : ReqTable → ReqTable) : (d.updReqs f).images = d.images := rfl
@[simp] theorem Device.updReqs_rooms (f : ReqTable → ReqTable) : (d.updReqs f).rooms = d.rooms := rfl
@[simp] theorem Device.updReqs_link (f : ReqTable → ReqTable) : (d.updReqs f).link = d.link := rfl
@[simp] theorem Device.updReqs_mirror (f : ReqTable → ReqTable) : (d.updReqs f).mirror = d.mirror := rfl
@[simp] theorem Device.updReqs_staged (f : ReqTable → ReqTable) : (d.updReqs f).staged = d.staged := rfl
@[simp] theorem Device.updReqs_rails (f : ReqTable → ReqTable) : (d.updReqs f).rails = d.rails := rfl
@[simp] theorem Device.updReqs_path (f : ReqTable → ReqTable) : (d.updReqs f).path = d.path := rfl
@[simp] theorem Device.updReqs_kin (f : ReqTable → ReqTable) : (d.updReqs f).kin = d.kin := rfl
@[simp] theorem Device.updReqs_chg (f : ReqTable → ReqTable) : (d.updReqs f).chg = d.chg := rfl
@[simp] theorem Device.updReqs_gaugeHw (f : ReqTable → ReqTable) : (d.updReqs f).gaugeHw = d.gaugeHw := rfl
@[simp] theorem Device.updReqs_snap (f : ReqTable → ReqTable) : (d.updReqs f).snap = d.snap := rfl
@[simp] theorem Device.updReqs_burst (f : ReqTable → ReqTable) : (d.updReqs f).burst = d.burst := rfl
@[simp] theorem Device.updReqs_adc (f : ReqTable → ReqTable) : (d.updReqs f).adc = d.adc := rfl
@[simp] theorem Device.updReqs_dig (f : ReqTable → ReqTable) : (d.updReqs f).dig = d.dig := rfl
@[simp] theorem Device.updReqs_keys (f : ReqTable → ReqTable) : (d.updReqs f).keys = d.keys := rfl
@[simp] theorem Device.updReqs_faults (f : ReqTable → ReqTable) : (d.updReqs f).faults = d.faults := rfl
@[simp] theorem Device.updReqs_wd (f : ReqTable → ReqTable) : (d.updReqs f).wd = d.wd := rfl
@[simp] theorem Device.updReqs_sec (f : ReqTable → ReqTable) : (d.updReqs f).sec = d.sec := rfl
@[simp] theorem Device.updReqs_rcp (f : ReqTable → ReqTable) : (d.updReqs f).rcp = d.rcp := rfl
@[simp] theorem Device.updReqs_shadow (f : ReqTable → ReqTable) : (d.updReqs f).shadow = d.shadow := rfl
@[simp] theorem Device.updReqs_active (f : ReqTable → ReqTable) : (d.updReqs f).active = d.active := rfl
@[simp] theorem Device.updReqs_priv (f : ReqTable → ReqTable) : (d.updReqs f).priv = d.priv := rfl
@[simp] theorem Device.updReqs_ckpt0 (f : ReqTable → ReqTable) : (d.updReqs f).ckpt0 = d.ckpt0 := rfl
@[simp] theorem Device.updReqs_ckpt1 (f : ReqTable → ReqTable) : (d.updReqs f).ckpt1 = d.ckpt1 := rfl
@[simp] theorem Device.updReqs_wram (f : ReqTable → ReqTable) : (d.updReqs f).wram = d.wram := rfl
@[simp] theorem Device.updReqs_nvm (f : ReqTable → ReqTable) : (d.updReqs f).nvm = d.nvm := rfl
@[simp] theorem Device.updReqs_cfg (f : ReqTable → ReqTable) : (d.updReqs f).cfg = d.cfg := rfl
@[simp] theorem Device.updReqs_sample (f : ReqTable → ReqTable) : (d.updReqs f).sample = d.sample := rfl
@[simp] theorem Device.updReqs_polled (f : ReqTable → ReqTable) : (d.updReqs f).polled = d.polled := rfl
@[simp] theorem Device.updReqs_freeCtr (f : ReqTable → ReqTable) : (d.updReqs f).freeCtr = d.freeCtr := rfl
@[simp] theorem Device.updReqs_fn (f : ReqTable → ReqTable) (x : FieldId) (e : Nat) : (d.updReqs f).fn x e = d.fn x e := rfl

@[simp] theorem Device.updRails_rails (f : RailBlock → RailBlock) : (d.updRails f).rails = f d.rails := rfl
@[simp] theorem Device.updRails_power (f : RailBlock → RailBlock) : (d.updRails f).power = d.power := rfl
@[simp] theorem Device.updRails_pins (f : RailBlock → RailBlock) : (d.updRails f).pins = d.pins := rfl
@[simp] theorem Device.updRails_batch (f : RailBlock → RailBlock) : (d.updRails f).batch = d.batch := rfl
@[simp] theorem Device.updRails_sup (f : RailBlock → RailBlock) : (d.updRails f).sup = d.sup := rfl
@[simp] theorem Device.updRails_keepers (f : RailBlock → RailBlock) : (d.updRails f).keepers = d.keepers := rfl
@[simp] theorem Device.updRails_images (f : RailBlock → RailBlock) : (d.updRails f).images = d.images := rfl
@[simp] theorem Device.updRails_rooms (f : RailBlock → RailBlock) : (d.updRails f).rooms = d.rooms := rfl
@[simp] theorem Device.updRails_link (f : RailBlock → RailBlock) : (d.updRails f).link = d.link := rfl
@[simp] theorem Device.updRails_mirror (f : RailBlock → RailBlock) : (d.updRails f).mirror = d.mirror := rfl
@[simp] theorem Device.updRails_staged (f : RailBlock → RailBlock) : (d.updRails f).staged = d.staged := rfl
@[simp] theorem Device.updRails_reqs (f : RailBlock → RailBlock) : (d.updRails f).reqs = d.reqs := rfl
@[simp] theorem Device.updRails_path (f : RailBlock → RailBlock) : (d.updRails f).path = d.path := rfl
@[simp] theorem Device.updRails_kin (f : RailBlock → RailBlock) : (d.updRails f).kin = d.kin := rfl
@[simp] theorem Device.updRails_chg (f : RailBlock → RailBlock) : (d.updRails f).chg = d.chg := rfl
@[simp] theorem Device.updRails_gaugeHw (f : RailBlock → RailBlock) : (d.updRails f).gaugeHw = d.gaugeHw := rfl
@[simp] theorem Device.updRails_snap (f : RailBlock → RailBlock) : (d.updRails f).snap = d.snap := rfl
@[simp] theorem Device.updRails_burst (f : RailBlock → RailBlock) : (d.updRails f).burst = d.burst := rfl
@[simp] theorem Device.updRails_adc (f : RailBlock → RailBlock) : (d.updRails f).adc = d.adc := rfl
@[simp] theorem Device.updRails_dig (f : RailBlock → RailBlock) : (d.updRails f).dig = d.dig := rfl
@[simp] theorem Device.updRails_keys (f : RailBlock → RailBlock) : (d.updRails f).keys = d.keys := rfl
@[simp] theorem Device.updRails_faults (f : RailBlock → RailBlock) : (d.updRails f).faults = d.faults := rfl
@[simp] theorem Device.updRails_wd (f : RailBlock → RailBlock) : (d.updRails f).wd = d.wd := rfl
@[simp] theorem Device.updRails_sec (f : RailBlock → RailBlock) : (d.updRails f).sec = d.sec := rfl
@[simp] theorem Device.updRails_rcp (f : RailBlock → RailBlock) : (d.updRails f).rcp = d.rcp := rfl
@[simp] theorem Device.updRails_shadow (f : RailBlock → RailBlock) : (d.updRails f).shadow = d.shadow := rfl
@[simp] theorem Device.updRails_active (f : RailBlock → RailBlock) : (d.updRails f).active = d.active := rfl
@[simp] theorem Device.updRails_priv (f : RailBlock → RailBlock) : (d.updRails f).priv = d.priv := rfl
@[simp] theorem Device.updRails_ckpt0 (f : RailBlock → RailBlock) : (d.updRails f).ckpt0 = d.ckpt0 := rfl
@[simp] theorem Device.updRails_ckpt1 (f : RailBlock → RailBlock) : (d.updRails f).ckpt1 = d.ckpt1 := rfl
@[simp] theorem Device.updRails_wram (f : RailBlock → RailBlock) : (d.updRails f).wram = d.wram := rfl
@[simp] theorem Device.updRails_nvm (f : RailBlock → RailBlock) : (d.updRails f).nvm = d.nvm := rfl
@[simp] theorem Device.updRails_cfg (f : RailBlock → RailBlock) : (d.updRails f).cfg = d.cfg := rfl
@[simp] theorem Device.updRails_sample (f : RailBlock → RailBlock) : (d.updRails f).sample = d.sample := rfl
@[simp] theorem Device.updRails_polled (f : RailBlock → RailBlock) : (d.updRails f).polled = d.polled := rfl
@[simp] theorem Device.updRails_freeCtr (f : RailBlock → RailBlock) : (d.updRails f).freeCtr = d.freeCtr := rfl
@[simp] theorem Device.updRails_fn (f : RailBlock → RailBlock) (x : FieldId) (e : Nat) : (d.updRails f).fn x e = d.fn x e := rfl

@[simp] theorem Device.updRail_rails (r : RailId) (f : RailHw → RailHw) : (d.updRail r f).rails = { d.rails with rails := vmod d.rails.rails r f } := rfl
@[simp] theorem Device.updRail_power (r : RailId) (f : RailHw → RailHw) : (d.updRail r f).power = d.power := rfl
@[simp] theorem Device.updRail_pins (r : RailId) (f : RailHw → RailHw) : (d.updRail r f).pins = d.pins := rfl
@[simp] theorem Device.updRail_batch (r : RailId) (f : RailHw → RailHw) : (d.updRail r f).batch = d.batch := rfl
@[simp] theorem Device.updRail_sup (r : RailId) (f : RailHw → RailHw) : (d.updRail r f).sup = d.sup := rfl
@[simp] theorem Device.updRail_keepers (r : RailId) (f : RailHw → RailHw) : (d.updRail r f).keepers = d.keepers := rfl
@[simp] theorem Device.updRail_images (r : RailId) (f : RailHw → RailHw) : (d.updRail r f).images = d.images := rfl
@[simp] theorem Device.updRail_rooms (r : RailId) (f : RailHw → RailHw) : (d.updRail r f).rooms = d.rooms := rfl
@[simp] theorem Device.updRail_link (r : RailId) (f : RailHw → RailHw) : (d.updRail r f).link = d.link := rfl
@[simp] theorem Device.updRail_mirror (r : RailId) (f : RailHw → RailHw) : (d.updRail r f).mirror = d.mirror := rfl
@[simp] theorem Device.updRail_staged (r : RailId) (f : RailHw → RailHw) : (d.updRail r f).staged = d.staged := rfl
@[simp] theorem Device.updRail_reqs (r : RailId) (f : RailHw → RailHw) : (d.updRail r f).reqs = d.reqs := rfl
@[simp] theorem Device.updRail_path (r : RailId) (f : RailHw → RailHw) : (d.updRail r f).path = d.path := rfl
@[simp] theorem Device.updRail_kin (r : RailId) (f : RailHw → RailHw) : (d.updRail r f).kin = d.kin := rfl
@[simp] theorem Device.updRail_chg (r : RailId) (f : RailHw → RailHw) : (d.updRail r f).chg = d.chg := rfl
@[simp] theorem Device.updRail_gaugeHw (r : RailId) (f : RailHw → RailHw) : (d.updRail r f).gaugeHw = d.gaugeHw := rfl
@[simp] theorem Device.updRail_snap (r : RailId) (f : RailHw → RailHw) : (d.updRail r f).snap = d.snap := rfl
@[simp] theorem Device.updRail_burst (r : RailId) (f : RailHw → RailHw) : (d.updRail r f).burst = d.burst := rfl
@[simp] theorem Device.updRail_adc (r : RailId) (f : RailHw → RailHw) : (d.updRail r f).adc = d.adc := rfl
@[simp] theorem Device.updRail_dig (r : RailId) (f : RailHw → RailHw) : (d.updRail r f).dig = d.dig := rfl
@[simp] theorem Device.updRail_keys (r : RailId) (f : RailHw → RailHw) : (d.updRail r f).keys = d.keys := rfl
@[simp] theorem Device.updRail_faults (r : RailId) (f : RailHw → RailHw) : (d.updRail r f).faults = d.faults := rfl
@[simp] theorem Device.updRail_wd (r : RailId) (f : RailHw → RailHw) : (d.updRail r f).wd = d.wd := rfl
@[simp] theorem Device.updRail_sec (r : RailId) (f : RailHw → RailHw) : (d.updRail r f).sec = d.sec := rfl
@[simp] theorem Device.updRail_rcp (r : RailId) (f : RailHw → RailHw) : (d.updRail r f).rcp = d.rcp := rfl
@[simp] theorem Device.updRail_shadow (r : RailId) (f : RailHw → RailHw) : (d.updRail r f).shadow = d.shadow := rfl
@[simp] theorem Device.updRail_active (r : RailId) (f : RailHw → RailHw) : (d.updRail r f).active = d.active := rfl
@[simp] theorem Device.updRail_priv (r : RailId) (f : RailHw → RailHw) : (d.updRail r f).priv = d.priv := rfl
@[simp] theorem Device.updRail_ckpt0 (r : RailId) (f : RailHw → RailHw) : (d.updRail r f).ckpt0 = d.ckpt0 := rfl
@[simp] theorem Device.updRail_ckpt1 (r : RailId) (f : RailHw → RailHw) : (d.updRail r f).ckpt1 = d.ckpt1 := rfl
@[simp] theorem Device.updRail_wram (r : RailId) (f : RailHw → RailHw) : (d.updRail r f).wram = d.wram := rfl
@[simp] theorem Device.updRail_nvm (r : RailId) (f : RailHw → RailHw) : (d.updRail r f).nvm = d.nvm := rfl
@[simp] theorem Device.updRail_cfg (r : RailId) (f : RailHw → RailHw) : (d.updRail r f).cfg = d.cfg := rfl
@[simp] theorem Device.updRail_sample (r : RailId) (f : RailHw → RailHw) : (d.updRail r f).sample = d.sample := rfl
@[simp] theorem Device.updRail_polled (r : RailId) (f : RailHw → RailHw) : (d.updRail r f).polled = d.polled := rfl
@[simp] theorem Device.updRail_freeCtr (r : RailId) (f : RailHw → RailHw) : (d.updRail r f).freeCtr = d.freeCtr := rfl
@[simp] theorem Device.updRail_fn (r : RailId) (f : RailHw → RailHw) (x : FieldId) (e : Nat) : (d.updRail r f).fn x e = d.fn x e := rfl

@[simp] theorem Device.updPath_path (f : Path → Path) : (d.updPath f).path = f d.path := rfl
@[simp] theorem Device.updPath_power (f : Path → Path) : (d.updPath f).power = d.power := rfl
@[simp] theorem Device.updPath_pins (f : Path → Path) : (d.updPath f).pins = d.pins := rfl
@[simp] theorem Device.updPath_batch (f : Path → Path) : (d.updPath f).batch = d.batch := rfl
@[simp] theorem Device.updPath_sup (f : Path → Path) : (d.updPath f).sup = d.sup := rfl
@[simp] theorem Device.updPath_keepers (f : Path → Path) : (d.updPath f).keepers = d.keepers := rfl
@[simp] theorem Device.updPath_images (f : Path → Path) : (d.updPath f).images = d.images := rfl
@[simp] theorem Device.updPath_rooms (f : Path → Path) : (d.updPath f).rooms = d.rooms := rfl
@[simp] theorem Device.updPath_link (f : Path → Path) : (d.updPath f).link = d.link := rfl
@[simp] theorem Device.updPath_mirror (f : Path → Path) : (d.updPath f).mirror = d.mirror := rfl
@[simp] theorem Device.updPath_staged (f : Path → Path) : (d.updPath f).staged = d.staged := rfl
@[simp] theorem Device.updPath_reqs (f : Path → Path) : (d.updPath f).reqs = d.reqs := rfl
@[simp] theorem Device.updPath_rails (f : Path → Path) : (d.updPath f).rails = d.rails := rfl
@[simp] theorem Device.updPath_kin (f : Path → Path) : (d.updPath f).kin = d.kin := rfl
@[simp] theorem Device.updPath_chg (f : Path → Path) : (d.updPath f).chg = d.chg := rfl
@[simp] theorem Device.updPath_gaugeHw (f : Path → Path) : (d.updPath f).gaugeHw = d.gaugeHw := rfl
@[simp] theorem Device.updPath_snap (f : Path → Path) : (d.updPath f).snap = d.snap := rfl
@[simp] theorem Device.updPath_burst (f : Path → Path) : (d.updPath f).burst = d.burst := rfl
@[simp] theorem Device.updPath_adc (f : Path → Path) : (d.updPath f).adc = d.adc := rfl
@[simp] theorem Device.updPath_dig (f : Path → Path) : (d.updPath f).dig = d.dig := rfl
@[simp] theorem Device.updPath_keys (f : Path → Path) : (d.updPath f).keys = d.keys := rfl
@[simp] theorem Device.updPath_faults (f : Path → Path) : (d.updPath f).faults = d.faults := rfl
@[simp] theorem Device.updPath_wd (f : Path → Path) : (d.updPath f).wd = d.wd := rfl
@[simp] theorem Device.updPath_sec (f : Path → Path) : (d.updPath f).sec = d.sec := rfl
@[simp] theorem Device.updPath_rcp (f : Path → Path) : (d.updPath f).rcp = d.rcp := rfl
@[simp] theorem Device.updPath_shadow (f : Path → Path) : (d.updPath f).shadow = d.shadow := rfl
@[simp] theorem Device.updPath_active (f : Path → Path) : (d.updPath f).active = d.active := rfl
@[simp] theorem Device.updPath_priv (f : Path → Path) : (d.updPath f).priv = d.priv := rfl
@[simp] theorem Device.updPath_ckpt0 (f : Path → Path) : (d.updPath f).ckpt0 = d.ckpt0 := rfl
@[simp] theorem Device.updPath_ckpt1 (f : Path → Path) : (d.updPath f).ckpt1 = d.ckpt1 := rfl
@[simp] theorem Device.updPath_wram (f : Path → Path) : (d.updPath f).wram = d.wram := rfl
@[simp] theorem Device.updPath_nvm (f : Path → Path) : (d.updPath f).nvm = d.nvm := rfl
@[simp] theorem Device.updPath_cfg (f : Path → Path) : (d.updPath f).cfg = d.cfg := rfl
@[simp] theorem Device.updPath_sample (f : Path → Path) : (d.updPath f).sample = d.sample := rfl
@[simp] theorem Device.updPath_polled (f : Path → Path) : (d.updPath f).polled = d.polled := rfl
@[simp] theorem Device.updPath_freeCtr (f : Path → Path) : (d.updPath f).freeCtr = d.freeCtr := rfl
@[simp] theorem Device.updPath_fn (f : Path → Path) (x : FieldId) (e : Nat) : (d.updPath f).fn x e = d.fn x e := rfl

@[simp] theorem Device.updKin_kin (f : Kinetic → Kinetic) : (d.updKin f).kin = f d.kin := rfl
@[simp] theorem Device.updKin_power (f : Kinetic → Kinetic) : (d.updKin f).power = d.power := rfl
@[simp] theorem Device.updKin_pins (f : Kinetic → Kinetic) : (d.updKin f).pins = d.pins := rfl
@[simp] theorem Device.updKin_batch (f : Kinetic → Kinetic) : (d.updKin f).batch = d.batch := rfl
@[simp] theorem Device.updKin_sup (f : Kinetic → Kinetic) : (d.updKin f).sup = d.sup := rfl
@[simp] theorem Device.updKin_keepers (f : Kinetic → Kinetic) : (d.updKin f).keepers = d.keepers := rfl
@[simp] theorem Device.updKin_images (f : Kinetic → Kinetic) : (d.updKin f).images = d.images := rfl
@[simp] theorem Device.updKin_rooms (f : Kinetic → Kinetic) : (d.updKin f).rooms = d.rooms := rfl
@[simp] theorem Device.updKin_link (f : Kinetic → Kinetic) : (d.updKin f).link = d.link := rfl
@[simp] theorem Device.updKin_mirror (f : Kinetic → Kinetic) : (d.updKin f).mirror = d.mirror := rfl
@[simp] theorem Device.updKin_staged (f : Kinetic → Kinetic) : (d.updKin f).staged = d.staged := rfl
@[simp] theorem Device.updKin_reqs (f : Kinetic → Kinetic) : (d.updKin f).reqs = d.reqs := rfl
@[simp] theorem Device.updKin_rails (f : Kinetic → Kinetic) : (d.updKin f).rails = d.rails := rfl
@[simp] theorem Device.updKin_path (f : Kinetic → Kinetic) : (d.updKin f).path = d.path := rfl
@[simp] theorem Device.updKin_chg (f : Kinetic → Kinetic) : (d.updKin f).chg = d.chg := rfl
@[simp] theorem Device.updKin_gaugeHw (f : Kinetic → Kinetic) : (d.updKin f).gaugeHw = d.gaugeHw := rfl
@[simp] theorem Device.updKin_snap (f : Kinetic → Kinetic) : (d.updKin f).snap = d.snap := rfl
@[simp] theorem Device.updKin_burst (f : Kinetic → Kinetic) : (d.updKin f).burst = d.burst := rfl
@[simp] theorem Device.updKin_adc (f : Kinetic → Kinetic) : (d.updKin f).adc = d.adc := rfl
@[simp] theorem Device.updKin_dig (f : Kinetic → Kinetic) : (d.updKin f).dig = d.dig := rfl
@[simp] theorem Device.updKin_keys (f : Kinetic → Kinetic) : (d.updKin f).keys = d.keys := rfl
@[simp] theorem Device.updKin_faults (f : Kinetic → Kinetic) : (d.updKin f).faults = d.faults := rfl
@[simp] theorem Device.updKin_wd (f : Kinetic → Kinetic) : (d.updKin f).wd = d.wd := rfl
@[simp] theorem Device.updKin_sec (f : Kinetic → Kinetic) : (d.updKin f).sec = d.sec := rfl
@[simp] theorem Device.updKin_rcp (f : Kinetic → Kinetic) : (d.updKin f).rcp = d.rcp := rfl
@[simp] theorem Device.updKin_shadow (f : Kinetic → Kinetic) : (d.updKin f).shadow = d.shadow := rfl
@[simp] theorem Device.updKin_active (f : Kinetic → Kinetic) : (d.updKin f).active = d.active := rfl
@[simp] theorem Device.updKin_priv (f : Kinetic → Kinetic) : (d.updKin f).priv = d.priv := rfl
@[simp] theorem Device.updKin_ckpt0 (f : Kinetic → Kinetic) : (d.updKin f).ckpt0 = d.ckpt0 := rfl
@[simp] theorem Device.updKin_ckpt1 (f : Kinetic → Kinetic) : (d.updKin f).ckpt1 = d.ckpt1 := rfl
@[simp] theorem Device.updKin_wram (f : Kinetic → Kinetic) : (d.updKin f).wram = d.wram := rfl
@[simp] theorem Device.updKin_nvm (f : Kinetic → Kinetic) : (d.updKin f).nvm = d.nvm := rfl
@[simp] theorem Device.updKin_cfg (f : Kinetic → Kinetic) : (d.updKin f).cfg = d.cfg := rfl
@[simp] theorem Device.updKin_sample (f : Kinetic → Kinetic) : (d.updKin f).sample = d.sample := rfl
@[simp] theorem Device.updKin_polled (f : Kinetic → Kinetic) : (d.updKin f).polled = d.polled := rfl
@[simp] theorem Device.updKin_freeCtr (f : Kinetic → Kinetic) : (d.updKin f).freeCtr = d.freeCtr := rfl
@[simp] theorem Device.updKin_fn (f : Kinetic → Kinetic) (x : FieldId) (e : Nat) : (d.updKin f).fn x e = d.fn x e := rfl

@[simp] theorem Device.updChg_chg (f : Charger → Charger) : (d.updChg f).chg = f d.chg := rfl
@[simp] theorem Device.updChg_power (f : Charger → Charger) : (d.updChg f).power = d.power := rfl
@[simp] theorem Device.updChg_pins (f : Charger → Charger) : (d.updChg f).pins = d.pins := rfl
@[simp] theorem Device.updChg_batch (f : Charger → Charger) : (d.updChg f).batch = d.batch := rfl
@[simp] theorem Device.updChg_sup (f : Charger → Charger) : (d.updChg f).sup = d.sup := rfl
@[simp] theorem Device.updChg_keepers (f : Charger → Charger) : (d.updChg f).keepers = d.keepers := rfl
@[simp] theorem Device.updChg_images (f : Charger → Charger) : (d.updChg f).images = d.images := rfl
@[simp] theorem Device.updChg_rooms (f : Charger → Charger) : (d.updChg f).rooms = d.rooms := rfl
@[simp] theorem Device.updChg_link (f : Charger → Charger) : (d.updChg f).link = d.link := rfl
@[simp] theorem Device.updChg_mirror (f : Charger → Charger) : (d.updChg f).mirror = d.mirror := rfl
@[simp] theorem Device.updChg_staged (f : Charger → Charger) : (d.updChg f).staged = d.staged := rfl
@[simp] theorem Device.updChg_reqs (f : Charger → Charger) : (d.updChg f).reqs = d.reqs := rfl
@[simp] theorem Device.updChg_rails (f : Charger → Charger) : (d.updChg f).rails = d.rails := rfl
@[simp] theorem Device.updChg_path (f : Charger → Charger) : (d.updChg f).path = d.path := rfl
@[simp] theorem Device.updChg_kin (f : Charger → Charger) : (d.updChg f).kin = d.kin := rfl
@[simp] theorem Device.updChg_gaugeHw (f : Charger → Charger) : (d.updChg f).gaugeHw = d.gaugeHw := rfl
@[simp] theorem Device.updChg_snap (f : Charger → Charger) : (d.updChg f).snap = d.snap := rfl
@[simp] theorem Device.updChg_burst (f : Charger → Charger) : (d.updChg f).burst = d.burst := rfl
@[simp] theorem Device.updChg_adc (f : Charger → Charger) : (d.updChg f).adc = d.adc := rfl
@[simp] theorem Device.updChg_dig (f : Charger → Charger) : (d.updChg f).dig = d.dig := rfl
@[simp] theorem Device.updChg_keys (f : Charger → Charger) : (d.updChg f).keys = d.keys := rfl
@[simp] theorem Device.updChg_faults (f : Charger → Charger) : (d.updChg f).faults = d.faults := rfl
@[simp] theorem Device.updChg_wd (f : Charger → Charger) : (d.updChg f).wd = d.wd := rfl
@[simp] theorem Device.updChg_sec (f : Charger → Charger) : (d.updChg f).sec = d.sec := rfl
@[simp] theorem Device.updChg_rcp (f : Charger → Charger) : (d.updChg f).rcp = d.rcp := rfl
@[simp] theorem Device.updChg_shadow (f : Charger → Charger) : (d.updChg f).shadow = d.shadow := rfl
@[simp] theorem Device.updChg_active (f : Charger → Charger) : (d.updChg f).active = d.active := rfl
@[simp] theorem Device.updChg_priv (f : Charger → Charger) : (d.updChg f).priv = d.priv := rfl
@[simp] theorem Device.updChg_ckpt0 (f : Charger → Charger) : (d.updChg f).ckpt0 = d.ckpt0 := rfl
@[simp] theorem Device.updChg_ckpt1 (f : Charger → Charger) : (d.updChg f).ckpt1 = d.ckpt1 := rfl
@[simp] theorem Device.updChg_wram (f : Charger → Charger) : (d.updChg f).wram = d.wram := rfl
@[simp] theorem Device.updChg_nvm (f : Charger → Charger) : (d.updChg f).nvm = d.nvm := rfl
@[simp] theorem Device.updChg_cfg (f : Charger → Charger) : (d.updChg f).cfg = d.cfg := rfl
@[simp] theorem Device.updChg_sample (f : Charger → Charger) : (d.updChg f).sample = d.sample := rfl
@[simp] theorem Device.updChg_polled (f : Charger → Charger) : (d.updChg f).polled = d.polled := rfl
@[simp] theorem Device.updChg_freeCtr (f : Charger → Charger) : (d.updChg f).freeCtr = d.freeCtr := rfl
@[simp] theorem Device.updChg_fn (f : Charger → Charger) (x : FieldId) (e : Nat) : (d.updChg f).fn x e = d.fn x e := rfl

@[simp] theorem Device.updGaugeHw_gaugeHw (f : GaugeHw → GaugeHw) : (d.updGaugeHw f).gaugeHw = f d.gaugeHw := rfl
@[simp] theorem Device.updGaugeHw_power (f : GaugeHw → GaugeHw) : (d.updGaugeHw f).power = d.power := rfl
@[simp] theorem Device.updGaugeHw_pins (f : GaugeHw → GaugeHw) : (d.updGaugeHw f).pins = d.pins := rfl
@[simp] theorem Device.updGaugeHw_batch (f : GaugeHw → GaugeHw) : (d.updGaugeHw f).batch = d.batch := rfl
@[simp] theorem Device.updGaugeHw_sup (f : GaugeHw → GaugeHw) : (d.updGaugeHw f).sup = d.sup := rfl
@[simp] theorem Device.updGaugeHw_keepers (f : GaugeHw → GaugeHw) : (d.updGaugeHw f).keepers = d.keepers := rfl
@[simp] theorem Device.updGaugeHw_images (f : GaugeHw → GaugeHw) : (d.updGaugeHw f).images = d.images := rfl
@[simp] theorem Device.updGaugeHw_rooms (f : GaugeHw → GaugeHw) : (d.updGaugeHw f).rooms = d.rooms := rfl
@[simp] theorem Device.updGaugeHw_link (f : GaugeHw → GaugeHw) : (d.updGaugeHw f).link = d.link := rfl
@[simp] theorem Device.updGaugeHw_mirror (f : GaugeHw → GaugeHw) : (d.updGaugeHw f).mirror = d.mirror := rfl
@[simp] theorem Device.updGaugeHw_staged (f : GaugeHw → GaugeHw) : (d.updGaugeHw f).staged = d.staged := rfl
@[simp] theorem Device.updGaugeHw_reqs (f : GaugeHw → GaugeHw) : (d.updGaugeHw f).reqs = d.reqs := rfl
@[simp] theorem Device.updGaugeHw_rails (f : GaugeHw → GaugeHw) : (d.updGaugeHw f).rails = d.rails := rfl
@[simp] theorem Device.updGaugeHw_path (f : GaugeHw → GaugeHw) : (d.updGaugeHw f).path = d.path := rfl
@[simp] theorem Device.updGaugeHw_kin (f : GaugeHw → GaugeHw) : (d.updGaugeHw f).kin = d.kin := rfl
@[simp] theorem Device.updGaugeHw_chg (f : GaugeHw → GaugeHw) : (d.updGaugeHw f).chg = d.chg := rfl
@[simp] theorem Device.updGaugeHw_snap (f : GaugeHw → GaugeHw) : (d.updGaugeHw f).snap = d.snap := rfl
@[simp] theorem Device.updGaugeHw_burst (f : GaugeHw → GaugeHw) : (d.updGaugeHw f).burst = d.burst := rfl
@[simp] theorem Device.updGaugeHw_adc (f : GaugeHw → GaugeHw) : (d.updGaugeHw f).adc = d.adc := rfl
@[simp] theorem Device.updGaugeHw_dig (f : GaugeHw → GaugeHw) : (d.updGaugeHw f).dig = d.dig := rfl
@[simp] theorem Device.updGaugeHw_keys (f : GaugeHw → GaugeHw) : (d.updGaugeHw f).keys = d.keys := rfl
@[simp] theorem Device.updGaugeHw_faults (f : GaugeHw → GaugeHw) : (d.updGaugeHw f).faults = d.faults := rfl
@[simp] theorem Device.updGaugeHw_wd (f : GaugeHw → GaugeHw) : (d.updGaugeHw f).wd = d.wd := rfl
@[simp] theorem Device.updGaugeHw_sec (f : GaugeHw → GaugeHw) : (d.updGaugeHw f).sec = d.sec := rfl
@[simp] theorem Device.updGaugeHw_rcp (f : GaugeHw → GaugeHw) : (d.updGaugeHw f).rcp = d.rcp := rfl
@[simp] theorem Device.updGaugeHw_shadow (f : GaugeHw → GaugeHw) : (d.updGaugeHw f).shadow = d.shadow := rfl
@[simp] theorem Device.updGaugeHw_active (f : GaugeHw → GaugeHw) : (d.updGaugeHw f).active = d.active := rfl
@[simp] theorem Device.updGaugeHw_priv (f : GaugeHw → GaugeHw) : (d.updGaugeHw f).priv = d.priv := rfl
@[simp] theorem Device.updGaugeHw_ckpt0 (f : GaugeHw → GaugeHw) : (d.updGaugeHw f).ckpt0 = d.ckpt0 := rfl
@[simp] theorem Device.updGaugeHw_ckpt1 (f : GaugeHw → GaugeHw) : (d.updGaugeHw f).ckpt1 = d.ckpt1 := rfl
@[simp] theorem Device.updGaugeHw_wram (f : GaugeHw → GaugeHw) : (d.updGaugeHw f).wram = d.wram := rfl
@[simp] theorem Device.updGaugeHw_nvm (f : GaugeHw → GaugeHw) : (d.updGaugeHw f).nvm = d.nvm := rfl
@[simp] theorem Device.updGaugeHw_cfg (f : GaugeHw → GaugeHw) : (d.updGaugeHw f).cfg = d.cfg := rfl
@[simp] theorem Device.updGaugeHw_sample (f : GaugeHw → GaugeHw) : (d.updGaugeHw f).sample = d.sample := rfl
@[simp] theorem Device.updGaugeHw_polled (f : GaugeHw → GaugeHw) : (d.updGaugeHw f).polled = d.polled := rfl
@[simp] theorem Device.updGaugeHw_freeCtr (f : GaugeHw → GaugeHw) : (d.updGaugeHw f).freeCtr = d.freeCtr := rfl
@[simp] theorem Device.updGaugeHw_fn (f : GaugeHw → GaugeHw) (x : FieldId) (e : Nat) : (d.updGaugeHw f).fn x e = d.fn x e := rfl

@[simp] theorem Device.updBurst_burst (f : BurstHw → BurstHw) : (d.updBurst f).burst = f d.burst := rfl
@[simp] theorem Device.updBurst_power (f : BurstHw → BurstHw) : (d.updBurst f).power = d.power := rfl
@[simp] theorem Device.updBurst_pins (f : BurstHw → BurstHw) : (d.updBurst f).pins = d.pins := rfl
@[simp] theorem Device.updBurst_batch (f : BurstHw → BurstHw) : (d.updBurst f).batch = d.batch := rfl
@[simp] theorem Device.updBurst_sup (f : BurstHw → BurstHw) : (d.updBurst f).sup = d.sup := rfl
@[simp] theorem Device.updBurst_keepers (f : BurstHw → BurstHw) : (d.updBurst f).keepers = d.keepers := rfl
@[simp] theorem Device.updBurst_images (f : BurstHw → BurstHw) : (d.updBurst f).images = d.images := rfl
@[simp] theorem Device.updBurst_rooms (f : BurstHw → BurstHw) : (d.updBurst f).rooms = d.rooms := rfl
@[simp] theorem Device.updBurst_link (f : BurstHw → BurstHw) : (d.updBurst f).link = d.link := rfl
@[simp] theorem Device.updBurst_mirror (f : BurstHw → BurstHw) : (d.updBurst f).mirror = d.mirror := rfl
@[simp] theorem Device.updBurst_staged (f : BurstHw → BurstHw) : (d.updBurst f).staged = d.staged := rfl
@[simp] theorem Device.updBurst_reqs (f : BurstHw → BurstHw) : (d.updBurst f).reqs = d.reqs := rfl
@[simp] theorem Device.updBurst_rails (f : BurstHw → BurstHw) : (d.updBurst f).rails = d.rails := rfl
@[simp] theorem Device.updBurst_path (f : BurstHw → BurstHw) : (d.updBurst f).path = d.path := rfl
@[simp] theorem Device.updBurst_kin (f : BurstHw → BurstHw) : (d.updBurst f).kin = d.kin := rfl
@[simp] theorem Device.updBurst_chg (f : BurstHw → BurstHw) : (d.updBurst f).chg = d.chg := rfl
@[simp] theorem Device.updBurst_gaugeHw (f : BurstHw → BurstHw) : (d.updBurst f).gaugeHw = d.gaugeHw := rfl
@[simp] theorem Device.updBurst_snap (f : BurstHw → BurstHw) : (d.updBurst f).snap = d.snap := rfl
@[simp] theorem Device.updBurst_adc (f : BurstHw → BurstHw) : (d.updBurst f).adc = d.adc := rfl
@[simp] theorem Device.updBurst_dig (f : BurstHw → BurstHw) : (d.updBurst f).dig = d.dig := rfl
@[simp] theorem Device.updBurst_keys (f : BurstHw → BurstHw) : (d.updBurst f).keys = d.keys := rfl
@[simp] theorem Device.updBurst_faults (f : BurstHw → BurstHw) : (d.updBurst f).faults = d.faults := rfl
@[simp] theorem Device.updBurst_wd (f : BurstHw → BurstHw) : (d.updBurst f).wd = d.wd := rfl
@[simp] theorem Device.updBurst_sec (f : BurstHw → BurstHw) : (d.updBurst f).sec = d.sec := rfl
@[simp] theorem Device.updBurst_rcp (f : BurstHw → BurstHw) : (d.updBurst f).rcp = d.rcp := rfl
@[simp] theorem Device.updBurst_shadow (f : BurstHw → BurstHw) : (d.updBurst f).shadow = d.shadow := rfl
@[simp] theorem Device.updBurst_active (f : BurstHw → BurstHw) : (d.updBurst f).active = d.active := rfl
@[simp] theorem Device.updBurst_priv (f : BurstHw → BurstHw) : (d.updBurst f).priv = d.priv := rfl
@[simp] theorem Device.updBurst_ckpt0 (f : BurstHw → BurstHw) : (d.updBurst f).ckpt0 = d.ckpt0 := rfl
@[simp] theorem Device.updBurst_ckpt1 (f : BurstHw → BurstHw) : (d.updBurst f).ckpt1 = d.ckpt1 := rfl
@[simp] theorem Device.updBurst_wram (f : BurstHw → BurstHw) : (d.updBurst f).wram = d.wram := rfl
@[simp] theorem Device.updBurst_nvm (f : BurstHw → BurstHw) : (d.updBurst f).nvm = d.nvm := rfl
@[simp] theorem Device.updBurst_cfg (f : BurstHw → BurstHw) : (d.updBurst f).cfg = d.cfg := rfl
@[simp] theorem Device.updBurst_sample (f : BurstHw → BurstHw) : (d.updBurst f).sample = d.sample := rfl
@[simp] theorem Device.updBurst_polled (f : BurstHw → BurstHw) : (d.updBurst f).polled = d.polled := rfl
@[simp] theorem Device.updBurst_freeCtr (f : BurstHw → BurstHw) : (d.updBurst f).freeCtr = d.freeCtr := rfl
@[simp] theorem Device.updBurst_fn (f : BurstHw → BurstHw) (x : FieldId) (e : Nat) : (d.updBurst f).fn x e = d.fn x e := rfl

@[simp] theorem Device.updAdcGroup_adc (g : Fin 4) (f : AdcGroup → AdcGroup) : (d.updAdcGroup g f).adc = { d.adc with groups := vmod d.adc.groups g f } := rfl
@[simp] theorem Device.updAdcGroup_power (g : Fin 4) (f : AdcGroup → AdcGroup) : (d.updAdcGroup g f).power = d.power := rfl
@[simp] theorem Device.updAdcGroup_pins (g : Fin 4) (f : AdcGroup → AdcGroup) : (d.updAdcGroup g f).pins = d.pins := rfl
@[simp] theorem Device.updAdcGroup_batch (g : Fin 4) (f : AdcGroup → AdcGroup) : (d.updAdcGroup g f).batch = d.batch := rfl
@[simp] theorem Device.updAdcGroup_sup (g : Fin 4) (f : AdcGroup → AdcGroup) : (d.updAdcGroup g f).sup = d.sup := rfl
@[simp] theorem Device.updAdcGroup_keepers (g : Fin 4) (f : AdcGroup → AdcGroup) : (d.updAdcGroup g f).keepers = d.keepers := rfl
@[simp] theorem Device.updAdcGroup_images (g : Fin 4) (f : AdcGroup → AdcGroup) : (d.updAdcGroup g f).images = d.images := rfl
@[simp] theorem Device.updAdcGroup_rooms (g : Fin 4) (f : AdcGroup → AdcGroup) : (d.updAdcGroup g f).rooms = d.rooms := rfl
@[simp] theorem Device.updAdcGroup_link (g : Fin 4) (f : AdcGroup → AdcGroup) : (d.updAdcGroup g f).link = d.link := rfl
@[simp] theorem Device.updAdcGroup_mirror (g : Fin 4) (f : AdcGroup → AdcGroup) : (d.updAdcGroup g f).mirror = d.mirror := rfl
@[simp] theorem Device.updAdcGroup_staged (g : Fin 4) (f : AdcGroup → AdcGroup) : (d.updAdcGroup g f).staged = d.staged := rfl
@[simp] theorem Device.updAdcGroup_reqs (g : Fin 4) (f : AdcGroup → AdcGroup) : (d.updAdcGroup g f).reqs = d.reqs := rfl
@[simp] theorem Device.updAdcGroup_rails (g : Fin 4) (f : AdcGroup → AdcGroup) : (d.updAdcGroup g f).rails = d.rails := rfl
@[simp] theorem Device.updAdcGroup_path (g : Fin 4) (f : AdcGroup → AdcGroup) : (d.updAdcGroup g f).path = d.path := rfl
@[simp] theorem Device.updAdcGroup_kin (g : Fin 4) (f : AdcGroup → AdcGroup) : (d.updAdcGroup g f).kin = d.kin := rfl
@[simp] theorem Device.updAdcGroup_chg (g : Fin 4) (f : AdcGroup → AdcGroup) : (d.updAdcGroup g f).chg = d.chg := rfl
@[simp] theorem Device.updAdcGroup_gaugeHw (g : Fin 4) (f : AdcGroup → AdcGroup) : (d.updAdcGroup g f).gaugeHw = d.gaugeHw := rfl
@[simp] theorem Device.updAdcGroup_snap (g : Fin 4) (f : AdcGroup → AdcGroup) : (d.updAdcGroup g f).snap = d.snap := rfl
@[simp] theorem Device.updAdcGroup_burst (g : Fin 4) (f : AdcGroup → AdcGroup) : (d.updAdcGroup g f).burst = d.burst := rfl
@[simp] theorem Device.updAdcGroup_dig (g : Fin 4) (f : AdcGroup → AdcGroup) : (d.updAdcGroup g f).dig = d.dig := rfl
@[simp] theorem Device.updAdcGroup_keys (g : Fin 4) (f : AdcGroup → AdcGroup) : (d.updAdcGroup g f).keys = d.keys := rfl
@[simp] theorem Device.updAdcGroup_faults (g : Fin 4) (f : AdcGroup → AdcGroup) : (d.updAdcGroup g f).faults = d.faults := rfl
@[simp] theorem Device.updAdcGroup_wd (g : Fin 4) (f : AdcGroup → AdcGroup) : (d.updAdcGroup g f).wd = d.wd := rfl
@[simp] theorem Device.updAdcGroup_sec (g : Fin 4) (f : AdcGroup → AdcGroup) : (d.updAdcGroup g f).sec = d.sec := rfl
@[simp] theorem Device.updAdcGroup_rcp (g : Fin 4) (f : AdcGroup → AdcGroup) : (d.updAdcGroup g f).rcp = d.rcp := rfl
@[simp] theorem Device.updAdcGroup_shadow (g : Fin 4) (f : AdcGroup → AdcGroup) : (d.updAdcGroup g f).shadow = d.shadow := rfl
@[simp] theorem Device.updAdcGroup_active (g : Fin 4) (f : AdcGroup → AdcGroup) : (d.updAdcGroup g f).active = d.active := rfl
@[simp] theorem Device.updAdcGroup_priv (g : Fin 4) (f : AdcGroup → AdcGroup) : (d.updAdcGroup g f).priv = d.priv := rfl
@[simp] theorem Device.updAdcGroup_ckpt0 (g : Fin 4) (f : AdcGroup → AdcGroup) : (d.updAdcGroup g f).ckpt0 = d.ckpt0 := rfl
@[simp] theorem Device.updAdcGroup_ckpt1 (g : Fin 4) (f : AdcGroup → AdcGroup) : (d.updAdcGroup g f).ckpt1 = d.ckpt1 := rfl
@[simp] theorem Device.updAdcGroup_wram (g : Fin 4) (f : AdcGroup → AdcGroup) : (d.updAdcGroup g f).wram = d.wram := rfl
@[simp] theorem Device.updAdcGroup_nvm (g : Fin 4) (f : AdcGroup → AdcGroup) : (d.updAdcGroup g f).nvm = d.nvm := rfl
@[simp] theorem Device.updAdcGroup_cfg (g : Fin 4) (f : AdcGroup → AdcGroup) : (d.updAdcGroup g f).cfg = d.cfg := rfl
@[simp] theorem Device.updAdcGroup_sample (g : Fin 4) (f : AdcGroup → AdcGroup) : (d.updAdcGroup g f).sample = d.sample := rfl
@[simp] theorem Device.updAdcGroup_polled (g : Fin 4) (f : AdcGroup → AdcGroup) : (d.updAdcGroup g f).polled = d.polled := rfl
@[simp] theorem Device.updAdcGroup_freeCtr (g : Fin 4) (f : AdcGroup → AdcGroup) : (d.updAdcGroup g f).freeCtr = d.freeCtr := rfl
@[simp] theorem Device.updAdcGroup_fn (g : Fin 4) (f : AdcGroup → AdcGroup) (x : FieldId) (e : Nat) : (d.updAdcGroup g f).fn x e = d.fn x e := rfl

@[simp] theorem Device.updDig_dig (f : Digest → Digest) : (d.updDig f).dig = f d.dig := rfl
@[simp] theorem Device.updDig_power (f : Digest → Digest) : (d.updDig f).power = d.power := rfl
@[simp] theorem Device.updDig_pins (f : Digest → Digest) : (d.updDig f).pins = d.pins := rfl
@[simp] theorem Device.updDig_batch (f : Digest → Digest) : (d.updDig f).batch = d.batch := rfl
@[simp] theorem Device.updDig_sup (f : Digest → Digest) : (d.updDig f).sup = d.sup := rfl
@[simp] theorem Device.updDig_keepers (f : Digest → Digest) : (d.updDig f).keepers = d.keepers := rfl
@[simp] theorem Device.updDig_images (f : Digest → Digest) : (d.updDig f).images = d.images := rfl
@[simp] theorem Device.updDig_rooms (f : Digest → Digest) : (d.updDig f).rooms = d.rooms := rfl
@[simp] theorem Device.updDig_link (f : Digest → Digest) : (d.updDig f).link = d.link := rfl
@[simp] theorem Device.updDig_mirror (f : Digest → Digest) : (d.updDig f).mirror = d.mirror := rfl
@[simp] theorem Device.updDig_staged (f : Digest → Digest) : (d.updDig f).staged = d.staged := rfl
@[simp] theorem Device.updDig_reqs (f : Digest → Digest) : (d.updDig f).reqs = d.reqs := rfl
@[simp] theorem Device.updDig_rails (f : Digest → Digest) : (d.updDig f).rails = d.rails := rfl
@[simp] theorem Device.updDig_path (f : Digest → Digest) : (d.updDig f).path = d.path := rfl
@[simp] theorem Device.updDig_kin (f : Digest → Digest) : (d.updDig f).kin = d.kin := rfl
@[simp] theorem Device.updDig_chg (f : Digest → Digest) : (d.updDig f).chg = d.chg := rfl
@[simp] theorem Device.updDig_gaugeHw (f : Digest → Digest) : (d.updDig f).gaugeHw = d.gaugeHw := rfl
@[simp] theorem Device.updDig_snap (f : Digest → Digest) : (d.updDig f).snap = d.snap := rfl
@[simp] theorem Device.updDig_burst (f : Digest → Digest) : (d.updDig f).burst = d.burst := rfl
@[simp] theorem Device.updDig_adc (f : Digest → Digest) : (d.updDig f).adc = d.adc := rfl
@[simp] theorem Device.updDig_keys (f : Digest → Digest) : (d.updDig f).keys = d.keys := rfl
@[simp] theorem Device.updDig_faults (f : Digest → Digest) : (d.updDig f).faults = d.faults := rfl
@[simp] theorem Device.updDig_wd (f : Digest → Digest) : (d.updDig f).wd = d.wd := rfl
@[simp] theorem Device.updDig_sec (f : Digest → Digest) : (d.updDig f).sec = d.sec := rfl
@[simp] theorem Device.updDig_rcp (f : Digest → Digest) : (d.updDig f).rcp = d.rcp := rfl
@[simp] theorem Device.updDig_shadow (f : Digest → Digest) : (d.updDig f).shadow = d.shadow := rfl
@[simp] theorem Device.updDig_active (f : Digest → Digest) : (d.updDig f).active = d.active := rfl
@[simp] theorem Device.updDig_priv (f : Digest → Digest) : (d.updDig f).priv = d.priv := rfl
@[simp] theorem Device.updDig_ckpt0 (f : Digest → Digest) : (d.updDig f).ckpt0 = d.ckpt0 := rfl
@[simp] theorem Device.updDig_ckpt1 (f : Digest → Digest) : (d.updDig f).ckpt1 = d.ckpt1 := rfl
@[simp] theorem Device.updDig_wram (f : Digest → Digest) : (d.updDig f).wram = d.wram := rfl
@[simp] theorem Device.updDig_nvm (f : Digest → Digest) : (d.updDig f).nvm = d.nvm := rfl
@[simp] theorem Device.updDig_cfg (f : Digest → Digest) : (d.updDig f).cfg = d.cfg := rfl
@[simp] theorem Device.updDig_sample (f : Digest → Digest) : (d.updDig f).sample = d.sample := rfl
@[simp] theorem Device.updDig_polled (f : Digest → Digest) : (d.updDig f).polled = d.polled := rfl
@[simp] theorem Device.updDig_freeCtr (f : Digest → Digest) : (d.updDig f).freeCtr = d.freeCtr := rfl
@[simp] theorem Device.updDig_fn (f : Digest → Digest) (x : FieldId) (e : Nat) : (d.updDig f).fn x e = d.fn x e := rfl

@[simp] theorem Device.updKeys_keys (f : KeyStore → KeyStore) : (d.updKeys f).keys = f d.keys := rfl
@[simp] theorem Device.updKeys_power (f : KeyStore → KeyStore) : (d.updKeys f).power = d.power := rfl
@[simp] theorem Device.updKeys_pins (f : KeyStore → KeyStore) : (d.updKeys f).pins = d.pins := rfl
@[simp] theorem Device.updKeys_batch (f : KeyStore → KeyStore) : (d.updKeys f).batch = d.batch := rfl
@[simp] theorem Device.updKeys_sup (f : KeyStore → KeyStore) : (d.updKeys f).sup = d.sup := rfl
@[simp] theorem Device.updKeys_keepers (f : KeyStore → KeyStore) : (d.updKeys f).keepers = d.keepers := rfl
@[simp] theorem Device.updKeys_images (f : KeyStore → KeyStore) : (d.updKeys f).images = d.images := rfl
@[simp] theorem Device.updKeys_rooms (f : KeyStore → KeyStore) : (d.updKeys f).rooms = d.rooms := rfl
@[simp] theorem Device.updKeys_link (f : KeyStore → KeyStore) : (d.updKeys f).link = d.link := rfl
@[simp] theorem Device.updKeys_mirror (f : KeyStore → KeyStore) : (d.updKeys f).mirror = d.mirror := rfl
@[simp] theorem Device.updKeys_staged (f : KeyStore → KeyStore) : (d.updKeys f).staged = d.staged := rfl
@[simp] theorem Device.updKeys_reqs (f : KeyStore → KeyStore) : (d.updKeys f).reqs = d.reqs := rfl
@[simp] theorem Device.updKeys_rails (f : KeyStore → KeyStore) : (d.updKeys f).rails = d.rails := rfl
@[simp] theorem Device.updKeys_path (f : KeyStore → KeyStore) : (d.updKeys f).path = d.path := rfl
@[simp] theorem Device.updKeys_kin (f : KeyStore → KeyStore) : (d.updKeys f).kin = d.kin := rfl
@[simp] theorem Device.updKeys_chg (f : KeyStore → KeyStore) : (d.updKeys f).chg = d.chg := rfl
@[simp] theorem Device.updKeys_gaugeHw (f : KeyStore → KeyStore) : (d.updKeys f).gaugeHw = d.gaugeHw := rfl
@[simp] theorem Device.updKeys_snap (f : KeyStore → KeyStore) : (d.updKeys f).snap = d.snap := rfl
@[simp] theorem Device.updKeys_burst (f : KeyStore → KeyStore) : (d.updKeys f).burst = d.burst := rfl
@[simp] theorem Device.updKeys_adc (f : KeyStore → KeyStore) : (d.updKeys f).adc = d.adc := rfl
@[simp] theorem Device.updKeys_dig (f : KeyStore → KeyStore) : (d.updKeys f).dig = d.dig := rfl
@[simp] theorem Device.updKeys_faults (f : KeyStore → KeyStore) : (d.updKeys f).faults = d.faults := rfl
@[simp] theorem Device.updKeys_wd (f : KeyStore → KeyStore) : (d.updKeys f).wd = d.wd := rfl
@[simp] theorem Device.updKeys_sec (f : KeyStore → KeyStore) : (d.updKeys f).sec = d.sec := rfl
@[simp] theorem Device.updKeys_rcp (f : KeyStore → KeyStore) : (d.updKeys f).rcp = d.rcp := rfl
@[simp] theorem Device.updKeys_shadow (f : KeyStore → KeyStore) : (d.updKeys f).shadow = d.shadow := rfl
@[simp] theorem Device.updKeys_active (f : KeyStore → KeyStore) : (d.updKeys f).active = d.active := rfl
@[simp] theorem Device.updKeys_priv (f : KeyStore → KeyStore) : (d.updKeys f).priv = d.priv := rfl
@[simp] theorem Device.updKeys_ckpt0 (f : KeyStore → KeyStore) : (d.updKeys f).ckpt0 = d.ckpt0 := rfl
@[simp] theorem Device.updKeys_ckpt1 (f : KeyStore → KeyStore) : (d.updKeys f).ckpt1 = d.ckpt1 := rfl
@[simp] theorem Device.updKeys_wram (f : KeyStore → KeyStore) : (d.updKeys f).wram = d.wram := rfl
@[simp] theorem Device.updKeys_nvm (f : KeyStore → KeyStore) : (d.updKeys f).nvm = d.nvm := rfl
@[simp] theorem Device.updKeys_cfg (f : KeyStore → KeyStore) : (d.updKeys f).cfg = d.cfg := rfl
@[simp] theorem Device.updKeys_sample (f : KeyStore → KeyStore) : (d.updKeys f).sample = d.sample := rfl
@[simp] theorem Device.updKeys_polled (f : KeyStore → KeyStore) : (d.updKeys f).polled = d.polled := rfl
@[simp] theorem Device.updKeys_freeCtr (f : KeyStore → KeyStore) : (d.updKeys f).freeCtr = d.freeCtr := rfl
@[simp] theorem Device.updKeys_fn (f : KeyStore → KeyStore) (x : FieldId) (e : Nat) : (d.updKeys f).fn x e = d.fn x e := rfl

@[simp] theorem Device.updFaults_faults (f : Faults → Faults) : (d.updFaults f).faults = f d.faults := rfl
@[simp] theorem Device.updFaults_power (f : Faults → Faults) : (d.updFaults f).power = d.power := rfl
@[simp] theorem Device.updFaults_pins (f : Faults → Faults) : (d.updFaults f).pins = d.pins := rfl
@[simp] theorem Device.updFaults_batch (f : Faults → Faults) : (d.updFaults f).batch = d.batch := rfl
@[simp] theorem Device.updFaults_sup (f : Faults → Faults) : (d.updFaults f).sup = d.sup := rfl
@[simp] theorem Device.updFaults_keepers (f : Faults → Faults) : (d.updFaults f).keepers = d.keepers := rfl
@[simp] theorem Device.updFaults_images (f : Faults → Faults) : (d.updFaults f).images = d.images := rfl
@[simp] theorem Device.updFaults_rooms (f : Faults → Faults) : (d.updFaults f).rooms = d.rooms := rfl
@[simp] theorem Device.updFaults_link (f : Faults → Faults) : (d.updFaults f).link = d.link := rfl
@[simp] theorem Device.updFaults_mirror (f : Faults → Faults) : (d.updFaults f).mirror = d.mirror := rfl
@[simp] theorem Device.updFaults_staged (f : Faults → Faults) : (d.updFaults f).staged = d.staged := rfl
@[simp] theorem Device.updFaults_reqs (f : Faults → Faults) : (d.updFaults f).reqs = d.reqs := rfl
@[simp] theorem Device.updFaults_rails (f : Faults → Faults) : (d.updFaults f).rails = d.rails := rfl
@[simp] theorem Device.updFaults_path (f : Faults → Faults) : (d.updFaults f).path = d.path := rfl
@[simp] theorem Device.updFaults_kin (f : Faults → Faults) : (d.updFaults f).kin = d.kin := rfl
@[simp] theorem Device.updFaults_chg (f : Faults → Faults) : (d.updFaults f).chg = d.chg := rfl
@[simp] theorem Device.updFaults_gaugeHw (f : Faults → Faults) : (d.updFaults f).gaugeHw = d.gaugeHw := rfl
@[simp] theorem Device.updFaults_snap (f : Faults → Faults) : (d.updFaults f).snap = d.snap := rfl
@[simp] theorem Device.updFaults_burst (f : Faults → Faults) : (d.updFaults f).burst = d.burst := rfl
@[simp] theorem Device.updFaults_adc (f : Faults → Faults) : (d.updFaults f).adc = d.adc := rfl
@[simp] theorem Device.updFaults_dig (f : Faults → Faults) : (d.updFaults f).dig = d.dig := rfl
@[simp] theorem Device.updFaults_keys (f : Faults → Faults) : (d.updFaults f).keys = d.keys := rfl
@[simp] theorem Device.updFaults_wd (f : Faults → Faults) : (d.updFaults f).wd = d.wd := rfl
@[simp] theorem Device.updFaults_sec (f : Faults → Faults) : (d.updFaults f).sec = d.sec := rfl
@[simp] theorem Device.updFaults_rcp (f : Faults → Faults) : (d.updFaults f).rcp = d.rcp := rfl
@[simp] theorem Device.updFaults_shadow (f : Faults → Faults) : (d.updFaults f).shadow = d.shadow := rfl
@[simp] theorem Device.updFaults_active (f : Faults → Faults) : (d.updFaults f).active = d.active := rfl
@[simp] theorem Device.updFaults_priv (f : Faults → Faults) : (d.updFaults f).priv = d.priv := rfl
@[simp] theorem Device.updFaults_ckpt0 (f : Faults → Faults) : (d.updFaults f).ckpt0 = d.ckpt0 := rfl
@[simp] theorem Device.updFaults_ckpt1 (f : Faults → Faults) : (d.updFaults f).ckpt1 = d.ckpt1 := rfl
@[simp] theorem Device.updFaults_wram (f : Faults → Faults) : (d.updFaults f).wram = d.wram := rfl
@[simp] theorem Device.updFaults_nvm (f : Faults → Faults) : (d.updFaults f).nvm = d.nvm := rfl
@[simp] theorem Device.updFaults_cfg (f : Faults → Faults) : (d.updFaults f).cfg = d.cfg := rfl
@[simp] theorem Device.updFaults_sample (f : Faults → Faults) : (d.updFaults f).sample = d.sample := rfl
@[simp] theorem Device.updFaults_polled (f : Faults → Faults) : (d.updFaults f).polled = d.polled := rfl
@[simp] theorem Device.updFaults_freeCtr (f : Faults → Faults) : (d.updFaults f).freeCtr = d.freeCtr := rfl
@[simp] theorem Device.updFaults_fn (f : Faults → Faults) (x : FieldId) (e : Nat) : (d.updFaults f).fn x e = d.fn x e := rfl

@[simp] theorem Device.updWd_wd (f : Watchdogs → Watchdogs) : (d.updWd f).wd = f d.wd := rfl
@[simp] theorem Device.updWd_power (f : Watchdogs → Watchdogs) : (d.updWd f).power = d.power := rfl
@[simp] theorem Device.updWd_pins (f : Watchdogs → Watchdogs) : (d.updWd f).pins = d.pins := rfl
@[simp] theorem Device.updWd_batch (f : Watchdogs → Watchdogs) : (d.updWd f).batch = d.batch := rfl
@[simp] theorem Device.updWd_sup (f : Watchdogs → Watchdogs) : (d.updWd f).sup = d.sup := rfl
@[simp] theorem Device.updWd_keepers (f : Watchdogs → Watchdogs) : (d.updWd f).keepers = d.keepers := rfl
@[simp] theorem Device.updWd_images (f : Watchdogs → Watchdogs) : (d.updWd f).images = d.images := rfl
@[simp] theorem Device.updWd_rooms (f : Watchdogs → Watchdogs) : (d.updWd f).rooms = d.rooms := rfl
@[simp] theorem Device.updWd_link (f : Watchdogs → Watchdogs) : (d.updWd f).link = d.link := rfl
@[simp] theorem Device.updWd_mirror (f : Watchdogs → Watchdogs) : (d.updWd f).mirror = d.mirror := rfl
@[simp] theorem Device.updWd_staged (f : Watchdogs → Watchdogs) : (d.updWd f).staged = d.staged := rfl
@[simp] theorem Device.updWd_reqs (f : Watchdogs → Watchdogs) : (d.updWd f).reqs = d.reqs := rfl
@[simp] theorem Device.updWd_rails (f : Watchdogs → Watchdogs) : (d.updWd f).rails = d.rails := rfl
@[simp] theorem Device.updWd_path (f : Watchdogs → Watchdogs) : (d.updWd f).path = d.path := rfl
@[simp] theorem Device.updWd_kin (f : Watchdogs → Watchdogs) : (d.updWd f).kin = d.kin := rfl
@[simp] theorem Device.updWd_chg (f : Watchdogs → Watchdogs) : (d.updWd f).chg = d.chg := rfl
@[simp] theorem Device.updWd_gaugeHw (f : Watchdogs → Watchdogs) : (d.updWd f).gaugeHw = d.gaugeHw := rfl
@[simp] theorem Device.updWd_snap (f : Watchdogs → Watchdogs) : (d.updWd f).snap = d.snap := rfl
@[simp] theorem Device.updWd_burst (f : Watchdogs → Watchdogs) : (d.updWd f).burst = d.burst := rfl
@[simp] theorem Device.updWd_adc (f : Watchdogs → Watchdogs) : (d.updWd f).adc = d.adc := rfl
@[simp] theorem Device.updWd_dig (f : Watchdogs → Watchdogs) : (d.updWd f).dig = d.dig := rfl
@[simp] theorem Device.updWd_keys (f : Watchdogs → Watchdogs) : (d.updWd f).keys = d.keys := rfl
@[simp] theorem Device.updWd_faults (f : Watchdogs → Watchdogs) : (d.updWd f).faults = d.faults := rfl
@[simp] theorem Device.updWd_sec (f : Watchdogs → Watchdogs) : (d.updWd f).sec = d.sec := rfl
@[simp] theorem Device.updWd_rcp (f : Watchdogs → Watchdogs) : (d.updWd f).rcp = d.rcp := rfl
@[simp] theorem Device.updWd_shadow (f : Watchdogs → Watchdogs) : (d.updWd f).shadow = d.shadow := rfl
@[simp] theorem Device.updWd_active (f : Watchdogs → Watchdogs) : (d.updWd f).active = d.active := rfl
@[simp] theorem Device.updWd_priv (f : Watchdogs → Watchdogs) : (d.updWd f).priv = d.priv := rfl
@[simp] theorem Device.updWd_ckpt0 (f : Watchdogs → Watchdogs) : (d.updWd f).ckpt0 = d.ckpt0 := rfl
@[simp] theorem Device.updWd_ckpt1 (f : Watchdogs → Watchdogs) : (d.updWd f).ckpt1 = d.ckpt1 := rfl
@[simp] theorem Device.updWd_wram (f : Watchdogs → Watchdogs) : (d.updWd f).wram = d.wram := rfl
@[simp] theorem Device.updWd_nvm (f : Watchdogs → Watchdogs) : (d.updWd f).nvm = d.nvm := rfl
@[simp] theorem Device.updWd_cfg (f : Watchdogs → Watchdogs) : (d.updWd f).cfg = d.cfg := rfl
@[simp] theorem Device.updWd_sample (f : Watchdogs → Watchdogs) : (d.updWd f).sample = d.sample := rfl
@[simp] theorem Device.updWd_polled (f : Watchdogs → Watchdogs) : (d.updWd f).polled = d.polled := rfl
@[simp] theorem Device.updWd_freeCtr (f : Watchdogs → Watchdogs) : (d.updWd f).freeCtr = d.freeCtr := rfl
@[simp] theorem Device.updWd_fn (f : Watchdogs → Watchdogs) (x : FieldId) (e : Nat) : (d.updWd f).fn x e = d.fn x e := rfl

@[simp] theorem Device.updSec_sec (f : Security → Security) : (d.updSec f).sec = f d.sec := rfl
@[simp] theorem Device.updSec_power (f : Security → Security) : (d.updSec f).power = d.power := rfl
@[simp] theorem Device.updSec_pins (f : Security → Security) : (d.updSec f).pins = d.pins := rfl
@[simp] theorem Device.updSec_batch (f : Security → Security) : (d.updSec f).batch = d.batch := rfl
@[simp] theorem Device.updSec_sup (f : Security → Security) : (d.updSec f).sup = d.sup := rfl
@[simp] theorem Device.updSec_keepers (f : Security → Security) : (d.updSec f).keepers = d.keepers := rfl
@[simp] theorem Device.updSec_images (f : Security → Security) : (d.updSec f).images = d.images := rfl
@[simp] theorem Device.updSec_rooms (f : Security → Security) : (d.updSec f).rooms = d.rooms := rfl
@[simp] theorem Device.updSec_link (f : Security → Security) : (d.updSec f).link = d.link := rfl
@[simp] theorem Device.updSec_mirror (f : Security → Security) : (d.updSec f).mirror = d.mirror := rfl
@[simp] theorem Device.updSec_staged (f : Security → Security) : (d.updSec f).staged = d.staged := rfl
@[simp] theorem Device.updSec_reqs (f : Security → Security) : (d.updSec f).reqs = d.reqs := rfl
@[simp] theorem Device.updSec_rails (f : Security → Security) : (d.updSec f).rails = d.rails := rfl
@[simp] theorem Device.updSec_path (f : Security → Security) : (d.updSec f).path = d.path := rfl
@[simp] theorem Device.updSec_kin (f : Security → Security) : (d.updSec f).kin = d.kin := rfl
@[simp] theorem Device.updSec_chg (f : Security → Security) : (d.updSec f).chg = d.chg := rfl
@[simp] theorem Device.updSec_gaugeHw (f : Security → Security) : (d.updSec f).gaugeHw = d.gaugeHw := rfl
@[simp] theorem Device.updSec_snap (f : Security → Security) : (d.updSec f).snap = d.snap := rfl
@[simp] theorem Device.updSec_burst (f : Security → Security) : (d.updSec f).burst = d.burst := rfl
@[simp] theorem Device.updSec_adc (f : Security → Security) : (d.updSec f).adc = d.adc := rfl
@[simp] theorem Device.updSec_dig (f : Security → Security) : (d.updSec f).dig = d.dig := rfl
@[simp] theorem Device.updSec_keys (f : Security → Security) : (d.updSec f).keys = d.keys := rfl
@[simp] theorem Device.updSec_faults (f : Security → Security) : (d.updSec f).faults = d.faults := rfl
@[simp] theorem Device.updSec_wd (f : Security → Security) : (d.updSec f).wd = d.wd := rfl
@[simp] theorem Device.updSec_rcp (f : Security → Security) : (d.updSec f).rcp = d.rcp := rfl
@[simp] theorem Device.updSec_shadow (f : Security → Security) : (d.updSec f).shadow = d.shadow := rfl
@[simp] theorem Device.updSec_active (f : Security → Security) : (d.updSec f).active = d.active := rfl
@[simp] theorem Device.updSec_priv (f : Security → Security) : (d.updSec f).priv = d.priv := rfl
@[simp] theorem Device.updSec_ckpt0 (f : Security → Security) : (d.updSec f).ckpt0 = d.ckpt0 := rfl
@[simp] theorem Device.updSec_ckpt1 (f : Security → Security) : (d.updSec f).ckpt1 = d.ckpt1 := rfl
@[simp] theorem Device.updSec_wram (f : Security → Security) : (d.updSec f).wram = d.wram := rfl
@[simp] theorem Device.updSec_nvm (f : Security → Security) : (d.updSec f).nvm = d.nvm := rfl
@[simp] theorem Device.updSec_cfg (f : Security → Security) : (d.updSec f).cfg = d.cfg := rfl
@[simp] theorem Device.updSec_sample (f : Security → Security) : (d.updSec f).sample = d.sample := rfl
@[simp] theorem Device.updSec_polled (f : Security → Security) : (d.updSec f).polled = d.polled := rfl
@[simp] theorem Device.updSec_freeCtr (f : Security → Security) : (d.updSec f).freeCtr = d.freeCtr := rfl
@[simp] theorem Device.updSec_fn (f : Security → Security) (x : FieldId) (e : Nat) : (d.updSec f).fn x e = d.fn x e := rfl

@[simp] theorem Device.updRcp_rcp (f : Recipes → Recipes) : (d.updRcp f).rcp = f d.rcp := rfl
@[simp] theorem Device.updRcp_power (f : Recipes → Recipes) : (d.updRcp f).power = d.power := rfl
@[simp] theorem Device.updRcp_pins (f : Recipes → Recipes) : (d.updRcp f).pins = d.pins := rfl
@[simp] theorem Device.updRcp_batch (f : Recipes → Recipes) : (d.updRcp f).batch = d.batch := rfl
@[simp] theorem Device.updRcp_sup (f : Recipes → Recipes) : (d.updRcp f).sup = d.sup := rfl
@[simp] theorem Device.updRcp_keepers (f : Recipes → Recipes) : (d.updRcp f).keepers = d.keepers := rfl
@[simp] theorem Device.updRcp_images (f : Recipes → Recipes) : (d.updRcp f).images = d.images := rfl
@[simp] theorem Device.updRcp_rooms (f : Recipes → Recipes) : (d.updRcp f).rooms = d.rooms := rfl
@[simp] theorem Device.updRcp_link (f : Recipes → Recipes) : (d.updRcp f).link = d.link := rfl
@[simp] theorem Device.updRcp_mirror (f : Recipes → Recipes) : (d.updRcp f).mirror = d.mirror := rfl
@[simp] theorem Device.updRcp_staged (f : Recipes → Recipes) : (d.updRcp f).staged = d.staged := rfl
@[simp] theorem Device.updRcp_reqs (f : Recipes → Recipes) : (d.updRcp f).reqs = d.reqs := rfl
@[simp] theorem Device.updRcp_rails (f : Recipes → Recipes) : (d.updRcp f).rails = d.rails := rfl
@[simp] theorem Device.updRcp_path (f : Recipes → Recipes) : (d.updRcp f).path = d.path := rfl
@[simp] theorem Device.updRcp_kin (f : Recipes → Recipes) : (d.updRcp f).kin = d.kin := rfl
@[simp] theorem Device.updRcp_chg (f : Recipes → Recipes) : (d.updRcp f).chg = d.chg := rfl
@[simp] theorem Device.updRcp_gaugeHw (f : Recipes → Recipes) : (d.updRcp f).gaugeHw = d.gaugeHw := rfl
@[simp] theorem Device.updRcp_snap (f : Recipes → Recipes) : (d.updRcp f).snap = d.snap := rfl
@[simp] theorem Device.updRcp_burst (f : Recipes → Recipes) : (d.updRcp f).burst = d.burst := rfl
@[simp] theorem Device.updRcp_adc (f : Recipes → Recipes) : (d.updRcp f).adc = d.adc := rfl
@[simp] theorem Device.updRcp_dig (f : Recipes → Recipes) : (d.updRcp f).dig = d.dig := rfl
@[simp] theorem Device.updRcp_keys (f : Recipes → Recipes) : (d.updRcp f).keys = d.keys := rfl
@[simp] theorem Device.updRcp_faults (f : Recipes → Recipes) : (d.updRcp f).faults = d.faults := rfl
@[simp] theorem Device.updRcp_wd (f : Recipes → Recipes) : (d.updRcp f).wd = d.wd := rfl
@[simp] theorem Device.updRcp_sec (f : Recipes → Recipes) : (d.updRcp f).sec = d.sec := rfl
@[simp] theorem Device.updRcp_shadow (f : Recipes → Recipes) : (d.updRcp f).shadow = d.shadow := rfl
@[simp] theorem Device.updRcp_active (f : Recipes → Recipes) : (d.updRcp f).active = d.active := rfl
@[simp] theorem Device.updRcp_priv (f : Recipes → Recipes) : (d.updRcp f).priv = d.priv := rfl
@[simp] theorem Device.updRcp_ckpt0 (f : Recipes → Recipes) : (d.updRcp f).ckpt0 = d.ckpt0 := rfl
@[simp] theorem Device.updRcp_ckpt1 (f : Recipes → Recipes) : (d.updRcp f).ckpt1 = d.ckpt1 := rfl
@[simp] theorem Device.updRcp_wram (f : Recipes → Recipes) : (d.updRcp f).wram = d.wram := rfl
@[simp] theorem Device.updRcp_nvm (f : Recipes → Recipes) : (d.updRcp f).nvm = d.nvm := rfl
@[simp] theorem Device.updRcp_cfg (f : Recipes → Recipes) : (d.updRcp f).cfg = d.cfg := rfl
@[simp] theorem Device.updRcp_sample (f : Recipes → Recipes) : (d.updRcp f).sample = d.sample := rfl
@[simp] theorem Device.updRcp_polled (f : Recipes → Recipes) : (d.updRcp f).polled = d.polled := rfl
@[simp] theorem Device.updRcp_freeCtr (f : Recipes → Recipes) : (d.updRcp f).freeCtr = d.freeCtr := rfl

@[simp] theorem Device.updShadow_shadow (f : Targets → Targets) : (d.updShadow f).shadow = f d.shadow := rfl
@[simp] theorem Device.updShadow_power (f : Targets → Targets) : (d.updShadow f).power = d.power := rfl
@[simp] theorem Device.updShadow_pins (f : Targets → Targets) : (d.updShadow f).pins = d.pins := rfl
@[simp] theorem Device.updShadow_batch (f : Targets → Targets) : (d.updShadow f).batch = d.batch := rfl
@[simp] theorem Device.updShadow_sup (f : Targets → Targets) : (d.updShadow f).sup = d.sup := rfl
@[simp] theorem Device.updShadow_keepers (f : Targets → Targets) : (d.updShadow f).keepers = d.keepers := rfl
@[simp] theorem Device.updShadow_images (f : Targets → Targets) : (d.updShadow f).images = d.images := rfl
@[simp] theorem Device.updShadow_rooms (f : Targets → Targets) : (d.updShadow f).rooms = d.rooms := rfl
@[simp] theorem Device.updShadow_link (f : Targets → Targets) : (d.updShadow f).link = d.link := rfl
@[simp] theorem Device.updShadow_mirror (f : Targets → Targets) : (d.updShadow f).mirror = d.mirror := rfl
@[simp] theorem Device.updShadow_staged (f : Targets → Targets) : (d.updShadow f).staged = d.staged := rfl
@[simp] theorem Device.updShadow_reqs (f : Targets → Targets) : (d.updShadow f).reqs = d.reqs := rfl
@[simp] theorem Device.updShadow_rails (f : Targets → Targets) : (d.updShadow f).rails = d.rails := rfl
@[simp] theorem Device.updShadow_path (f : Targets → Targets) : (d.updShadow f).path = d.path := rfl
@[simp] theorem Device.updShadow_kin (f : Targets → Targets) : (d.updShadow f).kin = d.kin := rfl
@[simp] theorem Device.updShadow_chg (f : Targets → Targets) : (d.updShadow f).chg = d.chg := rfl
@[simp] theorem Device.updShadow_gaugeHw (f : Targets → Targets) : (d.updShadow f).gaugeHw = d.gaugeHw := rfl
@[simp] theorem Device.updShadow_snap (f : Targets → Targets) : (d.updShadow f).snap = d.snap := rfl
@[simp] theorem Device.updShadow_burst (f : Targets → Targets) : (d.updShadow f).burst = d.burst := rfl
@[simp] theorem Device.updShadow_adc (f : Targets → Targets) : (d.updShadow f).adc = d.adc := rfl
@[simp] theorem Device.updShadow_dig (f : Targets → Targets) : (d.updShadow f).dig = d.dig := rfl
@[simp] theorem Device.updShadow_keys (f : Targets → Targets) : (d.updShadow f).keys = d.keys := rfl
@[simp] theorem Device.updShadow_faults (f : Targets → Targets) : (d.updShadow f).faults = d.faults := rfl
@[simp] theorem Device.updShadow_wd (f : Targets → Targets) : (d.updShadow f).wd = d.wd := rfl
@[simp] theorem Device.updShadow_sec (f : Targets → Targets) : (d.updShadow f).sec = d.sec := rfl
@[simp] theorem Device.updShadow_rcp (f : Targets → Targets) : (d.updShadow f).rcp = d.rcp := rfl
@[simp] theorem Device.updShadow_active (f : Targets → Targets) : (d.updShadow f).active = d.active := rfl
@[simp] theorem Device.updShadow_priv (f : Targets → Targets) : (d.updShadow f).priv = d.priv := rfl
@[simp] theorem Device.updShadow_ckpt0 (f : Targets → Targets) : (d.updShadow f).ckpt0 = d.ckpt0 := rfl
@[simp] theorem Device.updShadow_ckpt1 (f : Targets → Targets) : (d.updShadow f).ckpt1 = d.ckpt1 := rfl
@[simp] theorem Device.updShadow_wram (f : Targets → Targets) : (d.updShadow f).wram = d.wram := rfl
@[simp] theorem Device.updShadow_nvm (f : Targets → Targets) : (d.updShadow f).nvm = d.nvm := rfl
@[simp] theorem Device.updShadow_cfg (f : Targets → Targets) : (d.updShadow f).cfg = d.cfg := rfl
@[simp] theorem Device.updShadow_sample (f : Targets → Targets) : (d.updShadow f).sample = d.sample := rfl
@[simp] theorem Device.updShadow_polled (f : Targets → Targets) : (d.updShadow f).polled = d.polled := rfl
@[simp] theorem Device.updShadow_freeCtr (f : Targets → Targets) : (d.updShadow f).freeCtr = d.freeCtr := rfl
@[simp] theorem Device.updShadow_fn (f : Targets → Targets) (x : FieldId) (e : Nat) : (d.updShadow f).fn x e = d.fn x e := rfl

@[simp] theorem Device.updActive_active (f : Targets → Targets) : (d.updActive f).active = f d.active := rfl
@[simp] theorem Device.updActive_power (f : Targets → Targets) : (d.updActive f).power = d.power := rfl
@[simp] theorem Device.updActive_pins (f : Targets → Targets) : (d.updActive f).pins = d.pins := rfl
@[simp] theorem Device.updActive_batch (f : Targets → Targets) : (d.updActive f).batch = d.batch := rfl
@[simp] theorem Device.updActive_sup (f : Targets → Targets) : (d.updActive f).sup = d.sup := rfl
@[simp] theorem Device.updActive_keepers (f : Targets → Targets) : (d.updActive f).keepers = d.keepers := rfl
@[simp] theorem Device.updActive_images (f : Targets → Targets) : (d.updActive f).images = d.images := rfl
@[simp] theorem Device.updActive_rooms (f : Targets → Targets) : (d.updActive f).rooms = d.rooms := rfl
@[simp] theorem Device.updActive_link (f : Targets → Targets) : (d.updActive f).link = d.link := rfl
@[simp] theorem Device.updActive_mirror (f : Targets → Targets) : (d.updActive f).mirror = d.mirror := rfl
@[simp] theorem Device.updActive_staged (f : Targets → Targets) : (d.updActive f).staged = d.staged := rfl
@[simp] theorem Device.updActive_reqs (f : Targets → Targets) : (d.updActive f).reqs = d.reqs := rfl
@[simp] theorem Device.updActive_rails (f : Targets → Targets) : (d.updActive f).rails = d.rails := rfl
@[simp] theorem Device.updActive_path (f : Targets → Targets) : (d.updActive f).path = d.path := rfl
@[simp] theorem Device.updActive_kin (f : Targets → Targets) : (d.updActive f).kin = d.kin := rfl
@[simp] theorem Device.updActive_chg (f : Targets → Targets) : (d.updActive f).chg = d.chg := rfl
@[simp] theorem Device.updActive_gaugeHw (f : Targets → Targets) : (d.updActive f).gaugeHw = d.gaugeHw := rfl
@[simp] theorem Device.updActive_snap (f : Targets → Targets) : (d.updActive f).snap = d.snap := rfl
@[simp] theorem Device.updActive_burst (f : Targets → Targets) : (d.updActive f).burst = d.burst := rfl
@[simp] theorem Device.updActive_adc (f : Targets → Targets) : (d.updActive f).adc = d.adc := rfl
@[simp] theorem Device.updActive_dig (f : Targets → Targets) : (d.updActive f).dig = d.dig := rfl
@[simp] theorem Device.updActive_keys (f : Targets → Targets) : (d.updActive f).keys = d.keys := rfl
@[simp] theorem Device.updActive_faults (f : Targets → Targets) : (d.updActive f).faults = d.faults := rfl
@[simp] theorem Device.updActive_wd (f : Targets → Targets) : (d.updActive f).wd = d.wd := rfl
@[simp] theorem Device.updActive_sec (f : Targets → Targets) : (d.updActive f).sec = d.sec := rfl
@[simp] theorem Device.updActive_rcp (f : Targets → Targets) : (d.updActive f).rcp = d.rcp := rfl
@[simp] theorem Device.updActive_shadow (f : Targets → Targets) : (d.updActive f).shadow = d.shadow := rfl
@[simp] theorem Device.updActive_priv (f : Targets → Targets) : (d.updActive f).priv = d.priv := rfl
@[simp] theorem Device.updActive_ckpt0 (f : Targets → Targets) : (d.updActive f).ckpt0 = d.ckpt0 := rfl
@[simp] theorem Device.updActive_ckpt1 (f : Targets → Targets) : (d.updActive f).ckpt1 = d.ckpt1 := rfl
@[simp] theorem Device.updActive_wram (f : Targets → Targets) : (d.updActive f).wram = d.wram := rfl
@[simp] theorem Device.updActive_nvm (f : Targets → Targets) : (d.updActive f).nvm = d.nvm := rfl
@[simp] theorem Device.updActive_cfg (f : Targets → Targets) : (d.updActive f).cfg = d.cfg := rfl
@[simp] theorem Device.updActive_sample (f : Targets → Targets) : (d.updActive f).sample = d.sample := rfl
@[simp] theorem Device.updActive_polled (f : Targets → Targets) : (d.updActive f).polled = d.polled := rfl
@[simp] theorem Device.updActive_freeCtr (f : Targets → Targets) : (d.updActive f).freeCtr = d.freeCtr := rfl
@[simp] theorem Device.updActive_fn (f : Targets → Targets) (x : FieldId) (e : Nat) : (d.updActive f).fn x e = d.fn x e := rfl

@[simp] theorem Device.updPriv_priv (f : Priv → Priv) : (d.updPriv f).priv = f d.priv := rfl
@[simp] theorem Device.updPriv_power (f : Priv → Priv) : (d.updPriv f).power = d.power := rfl
@[simp] theorem Device.updPriv_pins (f : Priv → Priv) : (d.updPriv f).pins = d.pins := rfl
@[simp] theorem Device.updPriv_batch (f : Priv → Priv) : (d.updPriv f).batch = d.batch := rfl
@[simp] theorem Device.updPriv_sup (f : Priv → Priv) : (d.updPriv f).sup = d.sup := rfl
@[simp] theorem Device.updPriv_keepers (f : Priv → Priv) : (d.updPriv f).keepers = d.keepers := rfl
@[simp] theorem Device.updPriv_images (f : Priv → Priv) : (d.updPriv f).images = d.images := rfl
@[simp] theorem Device.updPriv_rooms (f : Priv → Priv) : (d.updPriv f).rooms = d.rooms := rfl
@[simp] theorem Device.updPriv_link (f : Priv → Priv) : (d.updPriv f).link = d.link := rfl
@[simp] theorem Device.updPriv_mirror (f : Priv → Priv) : (d.updPriv f).mirror = d.mirror := rfl
@[simp] theorem Device.updPriv_staged (f : Priv → Priv) : (d.updPriv f).staged = d.staged := rfl
@[simp] theorem Device.updPriv_reqs (f : Priv → Priv) : (d.updPriv f).reqs = d.reqs := rfl
@[simp] theorem Device.updPriv_rails (f : Priv → Priv) : (d.updPriv f).rails = d.rails := rfl
@[simp] theorem Device.updPriv_path (f : Priv → Priv) : (d.updPriv f).path = d.path := rfl
@[simp] theorem Device.updPriv_kin (f : Priv → Priv) : (d.updPriv f).kin = d.kin := rfl
@[simp] theorem Device.updPriv_chg (f : Priv → Priv) : (d.updPriv f).chg = d.chg := rfl
@[simp] theorem Device.updPriv_gaugeHw (f : Priv → Priv) : (d.updPriv f).gaugeHw = d.gaugeHw := rfl
@[simp] theorem Device.updPriv_snap (f : Priv → Priv) : (d.updPriv f).snap = d.snap := rfl
@[simp] theorem Device.updPriv_burst (f : Priv → Priv) : (d.updPriv f).burst = d.burst := rfl
@[simp] theorem Device.updPriv_adc (f : Priv → Priv) : (d.updPriv f).adc = d.adc := rfl
@[simp] theorem Device.updPriv_dig (f : Priv → Priv) : (d.updPriv f).dig = d.dig := rfl
@[simp] theorem Device.updPriv_keys (f : Priv → Priv) : (d.updPriv f).keys = d.keys := rfl
@[simp] theorem Device.updPriv_faults (f : Priv → Priv) : (d.updPriv f).faults = d.faults := rfl
@[simp] theorem Device.updPriv_wd (f : Priv → Priv) : (d.updPriv f).wd = d.wd := rfl
@[simp] theorem Device.updPriv_sec (f : Priv → Priv) : (d.updPriv f).sec = d.sec := rfl
@[simp] theorem Device.updPriv_rcp (f : Priv → Priv) : (d.updPriv f).rcp = d.rcp := rfl
@[simp] theorem Device.updPriv_shadow (f : Priv → Priv) : (d.updPriv f).shadow = d.shadow := rfl
@[simp] theorem Device.updPriv_active (f : Priv → Priv) : (d.updPriv f).active = d.active := rfl
@[simp] theorem Device.updPriv_ckpt0 (f : Priv → Priv) : (d.updPriv f).ckpt0 = d.ckpt0 := rfl
@[simp] theorem Device.updPriv_ckpt1 (f : Priv → Priv) : (d.updPriv f).ckpt1 = d.ckpt1 := rfl
@[simp] theorem Device.updPriv_wram (f : Priv → Priv) : (d.updPriv f).wram = d.wram := rfl
@[simp] theorem Device.updPriv_nvm (f : Priv → Priv) : (d.updPriv f).nvm = d.nvm := rfl
@[simp] theorem Device.updPriv_cfg (f : Priv → Priv) : (d.updPriv f).cfg = d.cfg := rfl
@[simp] theorem Device.updPriv_sample (f : Priv → Priv) : (d.updPriv f).sample = d.sample := rfl
@[simp] theorem Device.updPriv_polled (f : Priv → Priv) : (d.updPriv f).polled = d.polled := rfl
@[simp] theorem Device.updPriv_freeCtr (f : Priv → Priv) : (d.updPriv f).freeCtr = d.freeCtr := rfl
@[simp] theorem Device.updPriv_fn (f : Priv → Priv) (x : FieldId) (e : Nat) : (d.updPriv f).fn x e = d.fn x e := rfl

@[simp] theorem Device.updGauge_priv (f : Gauge → Gauge) : (d.updGauge f).priv = { d.priv with gauge := f d.priv.gauge } := rfl
@[simp] theorem Device.updGauge_power (f : Gauge → Gauge) : (d.updGauge f).power = d.power := rfl
@[simp] theorem Device.updGauge_pins (f : Gauge → Gauge) : (d.updGauge f).pins = d.pins := rfl
@[simp] theorem Device.updGauge_batch (f : Gauge → Gauge) : (d.updGauge f).batch = d.batch := rfl
@[simp] theorem Device.updGauge_sup (f : Gauge → Gauge) : (d.updGauge f).sup = d.sup := rfl
@[simp] theorem Device.updGauge_keepers (f : Gauge → Gauge) : (d.updGauge f).keepers = d.keepers := rfl
@[simp] theorem Device.updGauge_images (f : Gauge → Gauge) : (d.updGauge f).images = d.images := rfl
@[simp] theorem Device.updGauge_rooms (f : Gauge → Gauge) : (d.updGauge f).rooms = d.rooms := rfl
@[simp] theorem Device.updGauge_link (f : Gauge → Gauge) : (d.updGauge f).link = d.link := rfl
@[simp] theorem Device.updGauge_mirror (f : Gauge → Gauge) : (d.updGauge f).mirror = d.mirror := rfl
@[simp] theorem Device.updGauge_staged (f : Gauge → Gauge) : (d.updGauge f).staged = d.staged := rfl
@[simp] theorem Device.updGauge_reqs (f : Gauge → Gauge) : (d.updGauge f).reqs = d.reqs := rfl
@[simp] theorem Device.updGauge_rails (f : Gauge → Gauge) : (d.updGauge f).rails = d.rails := rfl
@[simp] theorem Device.updGauge_path (f : Gauge → Gauge) : (d.updGauge f).path = d.path := rfl
@[simp] theorem Device.updGauge_kin (f : Gauge → Gauge) : (d.updGauge f).kin = d.kin := rfl
@[simp] theorem Device.updGauge_chg (f : Gauge → Gauge) : (d.updGauge f).chg = d.chg := rfl
@[simp] theorem Device.updGauge_gaugeHw (f : Gauge → Gauge) : (d.updGauge f).gaugeHw = d.gaugeHw := rfl
@[simp] theorem Device.updGauge_snap (f : Gauge → Gauge) : (d.updGauge f).snap = d.snap := rfl
@[simp] theorem Device.updGauge_burst (f : Gauge → Gauge) : (d.updGauge f).burst = d.burst := rfl
@[simp] theorem Device.updGauge_adc (f : Gauge → Gauge) : (d.updGauge f).adc = d.adc := rfl
@[simp] theorem Device.updGauge_dig (f : Gauge → Gauge) : (d.updGauge f).dig = d.dig := rfl
@[simp] theorem Device.updGauge_keys (f : Gauge → Gauge) : (d.updGauge f).keys = d.keys := rfl
@[simp] theorem Device.updGauge_faults (f : Gauge → Gauge) : (d.updGauge f).faults = d.faults := rfl
@[simp] theorem Device.updGauge_wd (f : Gauge → Gauge) : (d.updGauge f).wd = d.wd := rfl
@[simp] theorem Device.updGauge_sec (f : Gauge → Gauge) : (d.updGauge f).sec = d.sec := rfl
@[simp] theorem Device.updGauge_rcp (f : Gauge → Gauge) : (d.updGauge f).rcp = d.rcp := rfl
@[simp] theorem Device.updGauge_shadow (f : Gauge → Gauge) : (d.updGauge f).shadow = d.shadow := rfl
@[simp] theorem Device.updGauge_active (f : Gauge → Gauge) : (d.updGauge f).active = d.active := rfl
@[simp] theorem Device.updGauge_ckpt0 (f : Gauge → Gauge) : (d.updGauge f).ckpt0 = d.ckpt0 := rfl
@[simp] theorem Device.updGauge_ckpt1 (f : Gauge → Gauge) : (d.updGauge f).ckpt1 = d.ckpt1 := rfl
@[simp] theorem Device.updGauge_wram (f : Gauge → Gauge) : (d.updGauge f).wram = d.wram := rfl
@[simp] theorem Device.updGauge_nvm (f : Gauge → Gauge) : (d.updGauge f).nvm = d.nvm := rfl
@[simp] theorem Device.updGauge_cfg (f : Gauge → Gauge) : (d.updGauge f).cfg = d.cfg := rfl
@[simp] theorem Device.updGauge_sample (f : Gauge → Gauge) : (d.updGauge f).sample = d.sample := rfl
@[simp] theorem Device.updGauge_polled (f : Gauge → Gauge) : (d.updGauge f).polled = d.polled := rfl
@[simp] theorem Device.updGauge_freeCtr (f : Gauge → Gauge) : (d.updGauge f).freeCtr = d.freeCtr := rfl
@[simp] theorem Device.updGauge_fn (f : Gauge → Gauge) (x : FieldId) (e : Nat) : (d.updGauge f).fn x e = d.fn x e := rfl

@[simp] theorem Device.updLarder_priv (f : Larder → Larder) : (d.updLarder f).priv = { d.priv with larder := f d.priv.larder } := rfl
@[simp] theorem Device.updLarder_power (f : Larder → Larder) : (d.updLarder f).power = d.power := rfl
@[simp] theorem Device.updLarder_pins (f : Larder → Larder) : (d.updLarder f).pins = d.pins := rfl
@[simp] theorem Device.updLarder_batch (f : Larder → Larder) : (d.updLarder f).batch = d.batch := rfl
@[simp] theorem Device.updLarder_sup (f : Larder → Larder) : (d.updLarder f).sup = d.sup := rfl
@[simp] theorem Device.updLarder_keepers (f : Larder → Larder) : (d.updLarder f).keepers = d.keepers := rfl
@[simp] theorem Device.updLarder_images (f : Larder → Larder) : (d.updLarder f).images = d.images := rfl
@[simp] theorem Device.updLarder_rooms (f : Larder → Larder) : (d.updLarder f).rooms = d.rooms := rfl
@[simp] theorem Device.updLarder_link (f : Larder → Larder) : (d.updLarder f).link = d.link := rfl
@[simp] theorem Device.updLarder_mirror (f : Larder → Larder) : (d.updLarder f).mirror = d.mirror := rfl
@[simp] theorem Device.updLarder_staged (f : Larder → Larder) : (d.updLarder f).staged = d.staged := rfl
@[simp] theorem Device.updLarder_reqs (f : Larder → Larder) : (d.updLarder f).reqs = d.reqs := rfl
@[simp] theorem Device.updLarder_rails (f : Larder → Larder) : (d.updLarder f).rails = d.rails := rfl
@[simp] theorem Device.updLarder_path (f : Larder → Larder) : (d.updLarder f).path = d.path := rfl
@[simp] theorem Device.updLarder_kin (f : Larder → Larder) : (d.updLarder f).kin = d.kin := rfl
@[simp] theorem Device.updLarder_chg (f : Larder → Larder) : (d.updLarder f).chg = d.chg := rfl
@[simp] theorem Device.updLarder_gaugeHw (f : Larder → Larder) : (d.updLarder f).gaugeHw = d.gaugeHw := rfl
@[simp] theorem Device.updLarder_snap (f : Larder → Larder) : (d.updLarder f).snap = d.snap := rfl
@[simp] theorem Device.updLarder_burst (f : Larder → Larder) : (d.updLarder f).burst = d.burst := rfl
@[simp] theorem Device.updLarder_adc (f : Larder → Larder) : (d.updLarder f).adc = d.adc := rfl
@[simp] theorem Device.updLarder_dig (f : Larder → Larder) : (d.updLarder f).dig = d.dig := rfl
@[simp] theorem Device.updLarder_keys (f : Larder → Larder) : (d.updLarder f).keys = d.keys := rfl
@[simp] theorem Device.updLarder_faults (f : Larder → Larder) : (d.updLarder f).faults = d.faults := rfl
@[simp] theorem Device.updLarder_wd (f : Larder → Larder) : (d.updLarder f).wd = d.wd := rfl
@[simp] theorem Device.updLarder_sec (f : Larder → Larder) : (d.updLarder f).sec = d.sec := rfl
@[simp] theorem Device.updLarder_rcp (f : Larder → Larder) : (d.updLarder f).rcp = d.rcp := rfl
@[simp] theorem Device.updLarder_shadow (f : Larder → Larder) : (d.updLarder f).shadow = d.shadow := rfl
@[simp] theorem Device.updLarder_active (f : Larder → Larder) : (d.updLarder f).active = d.active := rfl
@[simp] theorem Device.updLarder_ckpt0 (f : Larder → Larder) : (d.updLarder f).ckpt0 = d.ckpt0 := rfl
@[simp] theorem Device.updLarder_ckpt1 (f : Larder → Larder) : (d.updLarder f).ckpt1 = d.ckpt1 := rfl
@[simp] theorem Device.updLarder_wram (f : Larder → Larder) : (d.updLarder f).wram = d.wram := rfl
@[simp] theorem Device.updLarder_nvm (f : Larder → Larder) : (d.updLarder f).nvm = d.nvm := rfl
@[simp] theorem Device.updLarder_cfg (f : Larder → Larder) : (d.updLarder f).cfg = d.cfg := rfl
@[simp] theorem Device.updLarder_sample (f : Larder → Larder) : (d.updLarder f).sample = d.sample := rfl
@[simp] theorem Device.updLarder_polled (f : Larder → Larder) : (d.updLarder f).polled = d.polled := rfl
@[simp] theorem Device.updLarder_freeCtr (f : Larder → Larder) : (d.updLarder f).freeCtr = d.freeCtr := rfl
@[simp] theorem Device.updLarder_fn (f : Larder → Larder) (x : FieldId) (e : Nat) : (d.updLarder f).fn x e = d.fn x e := rfl

end

end Sys2Proof.Machine
end

