-- ==== Sys2Proof/Laws/Faults.lean ====
section
/-! SUPPORT. What raising a message can change, said once: the collector's own state, event flags of Rooms, and, where Safe Hold is
entered, entries of the burst hardware that have not started. -/
namespace Sys2Proof.Machine

/-- Everything that a message leaves alone. -/
structure Device.SameButFaults (d t : Device) : Prop where
  power : t.power = d.power
  pins : t.pins = d.pins
  batch : t.batch = d.batch
  sup : t.sup = d.sup
  keepers : t.keepers = d.keepers
  images : t.images = d.images
  link : t.link = d.link
  mirror : t.mirror = d.mirror
  staged : t.staged = d.staged
  reqs : t.reqs = d.reqs
  rails : t.rails = d.rails
  path : t.path = d.path
  kin : t.kin = d.kin
  chg : t.chg = d.chg
  gaugeHw : t.gaugeHw = d.gaugeHw
  snap : t.snap = d.snap
  adc : t.adc = d.adc
  dig : t.dig = d.dig
  keys : t.keys = d.keys
  wd : t.wd = d.wd
  sec : t.sec = d.sec
  rcp : t.rcp = d.rcp
  shadow : t.shadow = d.shadow
  active : t.active = d.active
  priv : t.priv = d.priv
  ckpt0 : t.ckpt0 = d.ckpt0
  ckpt1 : t.ckpt1 = d.ckpt1
  wram : t.wram = d.wram
  nvm : t.nvm = d.nvm
  cfg : t.cfg = d.cfg
  sample : t.sample = d.sample
  polled : t.polled = d.polled
  freeCtr : t.freeCtr = d.freeCtr

theorem Device.SameButFaults.refl (d : Device) : d.SameButFaults d := by constructor <;> rfl

theorem Device.SameButFaults.trans {d e t : Device} (h : d.SameButFaults e) (k : e.SameButFaults t) : d.SameButFaults t := by
  constructor
  · rw [k.power, h.power]
  · rw [k.pins, h.pins]
  · rw [k.batch, h.batch]
  · rw [k.sup, h.sup]
  · rw [k.keepers, h.keepers]
  · rw [k.images, h.images]
  · rw [k.link, h.link]
  · rw [k.mirror, h.mirror]
  · rw [k.staged, h.staged]
  · rw [k.reqs, h.reqs]
  · rw [k.rails, h.rails]
  · rw [k.path, h.path]
  · rw [k.kin, h.kin]
  · rw [k.chg, h.chg]
  · rw [k.gaugeHw, h.gaugeHw]
  · rw [k.snap, h.snap]
  · rw [k.adc, h.adc]
  · rw [k.dig, h.dig]
  · rw [k.keys, h.keys]
  · rw [k.wd, h.wd]
  · rw [k.sec, h.sec]
  · rw [k.rcp, h.rcp]
  · rw [k.shadow, h.shadow]
  · rw [k.active, h.active]
  · rw [k.priv, h.priv]
  · rw [k.ckpt0, h.ckpt0]
  · rw [k.ckpt1, h.ckpt1]
  · rw [k.wram, h.wram]
  · rw [k.nvm, h.nvm]
  · rw [k.cfg, h.cfg]
  · rw [k.sample, h.sample]
  · rw [k.polled, h.polled]
  · rw [k.freeCtr, h.freeCtr]

/-- Recording a message. -/
theorem Device.record_same (d : Device) (m : Word) (c : Cls) (p l : Bool) (t : Nat) : d.SameButFaults (d.record m c p l t) := by
  unfold Device.record Device.when
  dsimp only
  split <;> constructor <;> rfl

/-- Entering Safe Hold. -/
theorem Device.enterSafeHold_same (d : Device) : d.SameButFaults d.enterSafeHold := by
  unfold Device.enterSafeHold
  split
  · exact .refl d
  · refine Device.SameButFaults.trans ?_ (Device.record_same _ _ _ _ _ _)
    constructor <;> rfl

/-- Raising a message changes nothing else. -/
theorem Device.raiseAs_same (d : Device) (m : Word) (p l : Bool) (t : Nat) : d.SameButFaults (d.raiseAs m p l t) := by
  unfold Device.raiseAs
  split
  · dsimp only
    split
    · constructor <;> rfl
    · exact (Device.record_same ..).trans (Device.enterSafeHold_same _)
    · exact Device.record_same ..
  · exact .refl d

theorem Device.raise_same (d : Device) (m : Word) : d.SameButFaults (d.raise m) := Device.raiseAs_same ..

theorem Device.raisePair_same (d : Device) (m : Word) : d.SameButFaults (d.raisePair m) := Device.raiseAs_same ..

theorem Device.raiseOn_same (d : Device) (p : Fin 24) (m : Word) : d.SameButFaults (d.raiseOn p m) := by
  unfold Device.raiseOn
  split
  · exact .refl d
  · exact Device.raisePair_same ..

/-- A reported outcome, a cancelled entry: the burst hardware after Safe Hold is entered keeps a burst that runs. -/
theorem Device.enterSafeHold_burst (d : Device) :
    d.enterSafeHold.burst = if d.faults.safeHold then d.burst else d.burst.cancelArmed d.now := by
  unfold Device.enterSafeHold
  split
  · rfl
  · unfold Device.record Device.when
    dsimp only
    split <;> rfl

/-- A kind whose floor is below C4 is never Grave (R652). -/
theorem Device.classify_not_grave (d : Device) (m : Word) (h : (kindClasses (msgSource m) (msgKind m) (msgQual m)).1 ≠ 4) :
    d.classify m ≠ .grave := by
  unfold Device.classify
  dsimp only
  have hc : ∀ n, n < 4 → classOfNat n ≠ Cls.grave := by
    intro n hn
    match n, hn with
    | 0, _ => simp [classOfNat]
    | 1, _ => simp [classOfNat]
    | 2, _ => simp [classOfNat]
    | 3, _ => simp [classOfNat]
  split
  · exact hc 3 (by omega)
  · rename_i hn
    exact hc _ (by omega)

/-- What a recorded message does to the Rooms: the event flag FAULT of each that is not Closed, from class C1 on (R653). -/
theorem Device.record_rooms (d : Device) (m : Word) (c : Cls) (p l : Bool) (t : Nat) (n : RoomId) :
    (d.record m c p l t).rooms.get n =
      if 1 ≤ c.code then RoomRegs.setFlag evFault (d.rooms.get n) else d.rooms.get n := by
  unfold Device.record
  by_cases h : 1 ≤ c.code <;> simp [h, Device.when, Device.flagAll, Device.updFaults, evFault]

/-- A recorded message stands last in a FIFO that has room. -/
theorem Device.record_fifo (d : Device) (m : Word) (c : Cls) (p l : Bool) (t : Nat) (h : d.faults.fifo.length < 64) :
    (d.record m c p l t).faults.fifo = d.faults.fifo ++
      [{ msg := m, cls := c, pair := p, line := l, ticket := d.faults.tickets, time := t, ctx := d.writerCtx }] := by
  unfold Device.record
  have key : ∀ (f : Faults) (x : FaultMsg) (b : BitVec 48) (n : Nat), (f.activate x b n).fifo = f.fifo := by
    intro f x b n
    unfold Faults.activate
    split
    · rfl
    · split
      · rfl
      · split
        · rfl
        · split <;> rfl
  by_cases hc : 1 ≤ c.code <;>
    simp [Device.when, hc, Device.flagAll, Device.updFaults, key, Faults.enqueue, h]

/-- No message in the collector changes what waits for the Grave path. -/
theorem Device.record_grave (d : Device) (m : Word) (c : Cls) (p l : Bool) (t : Nat) :
    (d.record m c p l t).faults.graveDue = d.faults.graveDue := by
  have k1 : ∀ (f : Faults) (x : FaultMsg), (f.enqueue x).graveDue = f.graveDue := by
    intro f x; unfold Faults.enqueue; split
    · rfl
    · split
      · split <;> rfl
      · rfl
  have k2 : ∀ (f : Faults) (x : FaultMsg) (b : BitVec 48) (n : Nat), (f.activate x b n).graveDue = f.graveDue := by
    intro f x b n
    unfold Faults.activate
    split
    · rfl
    · split
      · rfl
      · split
        · rfl
        · split <;> rfl
  unfold Device.record
  by_cases hc : 1 ≤ c.code <;> simp [Device.when, hc, Device.flagAll, Device.updFaults, k1, k2]

/-- Recording leaves Safe Hold as it was. -/
theorem Device.record_safeHold (d : Device) (m : Word) (c : Cls) (p l : Bool) (t : Nat) :
    (d.record m c p l t).faults.safeHold = d.faults.safeHold := by
  have k1 : ∀ (f : Faults) (x : FaultMsg), (f.enqueue x).safeHold = f.safeHold := by
    intro f x; unfold Faults.enqueue; split
    · rfl
    · split
      · split <;> rfl
      · rfl
  have k2 : ∀ (f : Faults) (x : FaultMsg) (b : BitVec 48) (n : Nat), (f.activate x b n).safeHold = f.safeHold := by
    intro f x b n
    unfold Faults.activate
    split
    · rfl
    · split
      · rfl
      · split
        · rfl
        · split <;> rfl
  unfold Device.record
  by_cases hc : 1 ≤ c.code <;> simp [Device.when, hc, Device.flagAll, Device.updFaults, k1, k2]

theorem Device.enterSafeHold_grave (d : Device) : d.enterSafeHold.faults.graveDue = d.faults.graveDue := by
  unfold Device.enterSafeHold
  split
  · rfl
  · simp [Device.record_grave, Device.updFaults, Device.updBurst]

theorem Device.enterSafeHold_safeHold (d : Device) : d.enterSafeHold.faults.safeHold = true := by
  unfold Device.enterSafeHold
  split
  · assumption
  · simp [Device.record_safeHold, Device.updFaults, Device.updBurst]

/-- Entering Safe Hold changes of a Room its event flag FAULT alone. -/
theorem Device.enterSafeHold_rooms (d : Device) (n : RoomId) :
    d.enterSafeHold.rooms.get n = d.rooms.get n ∨
      d.enterSafeHold.rooms.get n = RoomRegs.setFlag evFault (d.rooms.get n) := by
  unfold Device.enterSafeHold
  split
  · exact .inl rfl
  · simp only [Device.record_rooms, Device.updFaults, Device.updBurst]
    split
    · exact .inr rfl
    · exact .inl rfl

/-- A message of no Grave class: the device is as calm after it as before (R659). -/
theorem Device.raiseAs_grave (d : Device) (m : Word) (p l : Bool) (t : Nat)
    (h : l = true ∨ d.classify m ≠ .grave) : (d.raiseAs m p l t).faults.graveDue = d.faults.graveDue := by
  unfold Device.raiseAs
  split
  · dsimp only
    split
    · rename_i hg
      rcases h with h | h
      · subst h
        simp only [true_and] at hg
        split at hg
        · cases hg
        · contradiction
      · split at hg
        · cases hg
        · exact absurd hg h
    · simp [Device.enterSafeHold_grave, Device.record_grave]
    · simp [Device.record_grave]
  · rfl

theorem Device.raise_grave (d : Device) (m : Word) (h : (kindClasses (msgSource m) (msgKind m) (msgQual m)).1 ≠ 4) :
    (d.raise m).faults.graveDue = d.faults.graveDue :=
  Device.raiseAs_grave _ _ _ _ _ (.inr (Device.classify_not_grave d m h))

theorem Device.raisePair_grave (d : Device) (m : Word) (h : (kindClasses (msgSource m) (msgKind m) (msgQual m)).1 ≠ 4) :
    (d.raisePair m).faults.graveDue = d.faults.graveDue :=
  Device.raiseAs_grave _ _ _ _ _ (.inr (Device.classify_not_grave d m h))

theorem Device.raiseOn_grave (d : Device) (p : Fin 24) (m : Word)
    (h : (kindClasses (msgSource m) (msgKind m) (msgQual m)).1 ≠ 4) :
    (d.raiseOn p m).faults.graveDue = d.faults.graveDue := by
  unfold Device.raiseOn
  split
  · rfl
  · exact Device.raisePair_grave d m h

theorem Faults.activate_fifo (f : Faults) (x : FaultMsg) (b : BitVec 48) (n : Nat) : (f.activate x b n).fifo = f.fifo := by
  unfold Faults.activate
  split
  · rfl
  · split
    · rfl
    · split
      · rfl
      · split <;> rfl

/-- A message of class C2 or more that stands last in the FIFO stays there when another enters (R650). -/
theorem Faults.enqueue_keeps (f : Faults) (m x : FaultMsg) (pre : List FaultMsg) (hx : 2 ≤ x.cls.code)
    (h : f.fifo = pre ++ [x]) : x ∈ (f.enqueue m).fifo := by
  unfold Faults.enqueue
  split
  · simp [h]
  · split
    · split
      · rename_i i hi
        simp only [List.mem_append]
        left
        obtain ⟨hlen, hp, _⟩ := List.findIdx?_eq_some_iff_getElem.1 hi
        have hne : i ≠ 0 := by
          intro h0; subst h0
          simp [h] at hp
          omega
        rw [h] at hlen ⊢
        simp at hlen
        rw [List.mem_eraseIdx_iff_getElem]
        refine ⟨pre.length, ?_, ?_, ?_⟩ <;> simp
        omega
      · simp [h]
    · simp [h]

/-- Another message keeps one of class C2 or more that stands last in the FIFO. -/
theorem Device.record_keeps (d : Device) (m : Word) (c : Cls) (p l : Bool) (t : Nat) (x : FaultMsg) (pre : List FaultMsg)
    (hx : 2 ≤ x.cls.code) (h : d.faults.fifo = pre ++ [x]) : x ∈ (d.record m c p l t).faults.fifo := by
  unfold Device.record
  dsimp only
  have : ∀ (b : Bool) (e : Device), (e.when b (·.flagAll evFault)).faults.fifo = e.faults.fifo := by
    intro b e; cases b <;> rfl
  rw [this]
  simp only [Device.updFaults, Faults.activate_fifo]
  exact Faults.enqueue_keeps _ _ x pre hx h

/-- Entering Safe Hold keeps what the FIFO holds last, when it is of class C2 or more. -/
theorem Device.enterSafeHold_keeps (d : Device) (x : FaultMsg) (pre : List FaultMsg) (hx : 2 ≤ x.cls.code)
    (h : d.faults.fifo = pre ++ [x]) : x ∈ d.enterSafeHold.faults.fifo := by
  unfold Device.enterSafeHold
  split
  · simp [h]
  · exact Device.record_keeps _ _ _ _ _ _ x pre hx h

/-- A message that finds room in the FIFO stands there after it, unless it is Grave (R648). -/
theorem Device.raiseAs_said (d : Device) (m : Word) (p l : Bool) (t : Nat) (hc : d.collecting = true)
    (h : l = true ∨ d.classify m ≠ .grave) (hl : d.faults.fifo.length < 64) : (d.raiseAs m p l t).Said m := by
  have hrec : ∀ c, (d.record m c p l t).Said m := by
    intro c
    have := Device.record_fifo d m c p l t hl
    refine ⟨_, this ▸ List.mem_append_right _ (List.mem_singleton.2 rfl), ?_⟩
    rfl
  unfold Device.raiseAs
  simp only [hc, if_true]
  split
  · rename_i hg
    rcases h with h | h
    · subst h
      simp only [true_and] at hg
      split at hg
      · cases hg
      · contradiction
    · split at hg
      · cases hg
      · exact absurd hg h
  · rename_i hg
    rw [hg]
    have hk := Device.enterSafeHold_keeps (d.record m .hold p l t) _ d.faults.fifo (by simp [Cls.code])
      (Device.record_fifo d m .hold p l t hl)
    refine ⟨_, hk, ?_⟩
    rfl
  · exact hrec _

theorem Device.raise_said (d : Device) (m : Word) (hc : d.collecting = true)
    (h : (kindClasses (msgSource m) (msgKind m) (msgQual m)).1 ≠ 4) (hl : d.faults.fifo.length < 64) : (d.raise m).Said m :=
  Device.raiseAs_said _ _ _ _ _ hc (.inr (Device.classify_not_grave d m h)) hl

theorem Device.raiseOn_said (d : Device) (p : Fin 24) (m : Word) (hp : d.pairCut p = false) (hc : d.collecting = true)
    (h : (kindClasses (msgSource m) (msgKind m) (msgQual m)).1 ≠ 4) (hl : d.faults.fifo.length < 64) :
    (d.raiseOn p m).Said m := by
  unfold Device.raiseOn
  simp only [hp]
  exact Device.raiseAs_said _ _ _ _ _ hc (.inr (Device.classify_not_grave d m h)) hl

/-- A message changes of a Room its event flag FAULT alone (R653). -/
theorem Device.raiseAs_rooms (d : Device) (m : Word) (p l : Bool) (t : Nat) (n : RoomId) :
    (d.raiseAs m p l t).rooms.get n = d.rooms.get n ∨
      (d.raiseAs m p l t).rooms.get n = RoomRegs.setFlag evFault (d.rooms.get n) := by
  have hset : ∀ r : RoomRegs, RoomRegs.setFlag evFault (RoomRegs.setFlag evFault r) = RoomRegs.setFlag evFault r := by
    intro r
    unfold RoomRegs.setFlag
    by_cases h : r.st = .closed
    · simp [h]
    · simp [h, BitVec.or_assoc]
  have hrec : ∀ c, (d.record m c p l t).rooms.get n = d.rooms.get n ∨
      (d.record m c p l t).rooms.get n = RoomRegs.setFlag evFault (d.rooms.get n) := by
    intro c
    rw [Device.record_rooms]
    split
    · exact .inr rfl
    · exact .inl rfl
  unfold Device.raiseAs
  split
  · dsimp only
    split
    · exact .inl rfl
    · rcases Device.enterSafeHold_rooms (d.record m (if l = true ∧ d.classify m = .grave then Cls.hold else d.classify m) p l t) n with h | h <;>
        rcases hrec (if l = true ∧ d.classify m = .grave then Cls.hold else d.classify m) with k | k <;>
        rw [h, k]
      · exact .inl rfl
      · exact .inr rfl
      · exact .inr rfl
      · rw [hset]; exact .inr rfl
    · exact hrec _
  · exact .inl rfl

/-- Without Safe Hold to enter, a message leaves the burst hardware as it was. -/
theorem Device.raiseAs_burst (d : Device) (m : Word) (p l : Bool) (t : Nat)
    (h : d.classify m ≠ .hold) (hg : l = false) : (d.raiseAs m p l t).burst = d.burst := by
  have hrec : ∀ c, (d.record m c p l t).burst = d.burst := by
    intro c; unfold Device.record Device.when; dsimp only; split <;> rfl
  subst hg
  unfold Device.raiseAs
  simp only [Bool.false_eq_true, false_and, if_false]
  split
  · split
    · rfl
    · contradiction
    · exact hrec _
  · rfl

/-- The floor of a kind does not depend on its qualifier (R651). -/
theorem kindClasses_floor (a b q r : Nat) : (kindClasses a b q).1 = (kindClasses a b r).1 := by
  unfold kindClasses
  split
  · split <;> split <;> rfl
  · rfl

theorem msgSource_coded (a b q : Nat) : msgSource (coded a b q) = a % 256 := by
  simp only [coded, msgSource, BitVec.toNat_ofNat]
  omega

theorem msgKind_coded (a b q : Nat) : msgKind (coded a b q) = b % 256 := by
  simp only [coded, msgKind, BitVec.toNat_ofNat]
  omega

/-- A coded message of a kind with a floor below C4 is not Grave. -/
theorem Device.coded_not_grave (d : Device) (a b q : Nat) (h : (kindClasses (a % 256) (b % 256) 0).1 ≠ 4) :
    d.classify (coded a b q) ≠ .grave := by
  apply Device.classify_not_grave
  rw [msgSource_coded, msgKind_coded, kindClasses_floor _ _ _ 0]
  exact h

theorem Device.raise_coded_grave (d : Device) (a b q : Nat) (h : (kindClasses (a % 256) (b % 256) 0).1 ≠ 4) :
    (d.raise (coded a b q)).faults.graveDue = d.faults.graveDue :=
  Device.raiseAs_grave _ _ _ _ _ (.inr (d.coded_not_grave a b q h))

theorem Device.raisePair_coded_grave (d : Device) (a b q : Nat) (h : (kindClasses (a % 256) (b % 256) 0).1 ≠ 4) :
    (d.raisePair (coded a b q)).faults.graveDue = d.faults.graveDue :=
  Device.raiseAs_grave _ _ _ _ _ (.inr (d.coded_not_grave a b q h))

theorem Device.raiseOn_coded_grave (d : Device) (p : Fin 24) (a b q : Nat) (h : (kindClasses (a % 256) (b % 256) 0).1 ≠ 4) :
    (d.raiseOn p (coded a b q)).faults.graveDue = d.faults.graveDue := by
  unfold Device.raiseOn
  split
  · rfl
  · exact Device.raisePair_coded_grave d a b q h

theorem Device.raise_coded_said (d : Device) (a b q : Nat) (hc : d.collecting = true)
    (h : (kindClasses (a % 256) (b % 256) 0).1 ≠ 4) (hl : d.faults.fifo.length < 64) :
    (d.raise (coded a b q)).Said (coded a b q) :=
  Device.raiseAs_said _ _ _ _ _ hc (.inr (d.coded_not_grave a b q h)) hl

theorem Device.raiseOn_coded_said (d : Device) (p : Fin 24) (a b q : Nat) (hp : d.pairCut p = false)
    (hc : d.collecting = true) (h : (kindClasses (a % 256) (b % 256) 0).1 ≠ 4) (hl : d.faults.fifo.length < 64) :
    (d.raiseOn p (coded a b q)).Said (coded a b q) := by
  unfold Device.raiseOn
  simp only [hp]
  exact Device.raiseAs_said _ _ _ _ _ hc (.inr (d.coded_not_grave a b q h)) hl

/-- The outcome of a command whose effect leaves no Grave message waiting. -/
theorem State.onDev_calm {s : State} {f : Device → Device} (h : (f s.dev).faults.graveDue = none) :
    s.onDev f = .next { s with dev := { f s.dev with batch := s.dev.batch } } := by
  unfold State.onDev Device.finish
  rw [h]

/-- The same for a command that may move time. -/
theorem State.onClk_calm {s : State} {f : Device → Device} (h : (f s.dev).faults.graveDue = none) :
    s.onClk f = .next { s with dev := { f s.dev with batch := { (f s.dev).batch with
      time := max s.dev.batch.time (f s.dev).batch.time } } } := by
  unfold State.onClk Device.finish
  rw [h]

/-- Where neither the effect changes the Batch timer. -/
theorem State.onDev_calm' {s : State} {f : Device → Device} (h : (f s.dev).faults.graveDue = none)
    (hb : (f s.dev).batch = s.dev.batch) : s.onDev f = .next { s with dev := f s.dev } := by
  rw [State.onDev_calm h, ← hb]

/-- Where the effect does not move time back. -/
theorem State.onClk_calm' {s : State} {f : Device → Device} (h : (f s.dev).faults.graveDue = none)
    (hb : s.dev.batch.time ≤ (f s.dev).batch.time) : s.onClk f = .next { s with dev := f s.dev } := by
  rw [State.onClk_calm h, max_eq_right hb]

/-- A command without effect. -/
theorem State.onDev_same {s : State} {f : Device → Device} (hc : s.dev.Calm) (h : f s.dev = s.dev) : s.onDev f = .next s := by
  rw [State.onDev_calm' (by rw [h]; exact hc) (by rw [h]), h]

theorem State.onClk_same {s : State} {f : Device → Device} (hc : s.dev.Calm) (h : f s.dev = s.dev) : s.onClk f = .next s := by
  rw [State.onClk_calm' (by rw [h]; exact hc) (by rw [h]), h]

/-- What the effect leaves, however it ends. -/
theorem State.onDev_onto (s : State) (f : Device → Device) : s.onDev f = .next (s.onto (f s.dev)) := rfl

theorem State.onClk_clocked (s : State) (f : Device → Device) : s.onClk f = .next (s.clocked (f s.dev)) := rfl

end Sys2Proof.Machine
end

