-- ==== Sys2Proof/Laws/Clock.lean ====
section
/-! SUPPORT. What moving device time can change, said once: the Batch timer's time and the charger's timers. An instant that
comes before every mark of the Batch still to be passed is met with nothing else done. -/
namespace Sys2Proof.Machine

/-- No time passing. -/
theorem Device.elapse_same (d : Device) : d.elapse d.batch = d := by
  unfold Device.elapse Device.chgElapse Device.updChg
  simp

@[simp] theorem Device.moveTo_chg_phase (d : Device) (t : Nat) : (d.moveTo t).chg.phase = d.chg.phase := rfl

/-- Only device time and the charger's timers move. -/
theorem Device.moveTo_eq (d : Device) (t : Nat) :
    d.moveTo t = { d with batch := d.timerAt t, chg := (d.moveTo t).chg } := rfl

/-- While the Batch runs, time moves to the instant itself, and never back. -/
theorem Device.timerAt_runs {d : Device} {t : Nat} (h : d.power.phase.batchRuns = true) :
    d.timerAt t = { d.batch with time := max d.batch.time t } := by
  unfold Device.timerAt; rw [h]; rfl

theorem Device.moveTo_batch {d : Device} {t : Nat} (h : d.power.phase.batchRuns = true) (ht : d.batch.time ≤ t) :
    (d.moveTo t).batch = { d.batch with time := t } := by
  show d.timerAt t = _
  rw [Device.timerAt_runs h, max_eq_right ht]

theorem Device.moveTo_now {d : Device} {t : Nat} (h : d.power.phase.batchRuns = true) (ht : d.batch.time ≤ t) : (d.moveTo t).now = t := by
  show (d.moveTo t).batch.time = t
  rw [Device.moveTo_batch h ht]

/-- While the Batch is stopped, the KEEP step at which an instant is met is not before it, and less than one period behind it. -/
theorem BatchTimer.keepTo_bounds (b : BatchTimer) (t : Nat) (hb : b.timeFrac < 512) (ht : b.time ≤ t) :
    512 * t ≤ 512 * (b.keepTo t).time + (b.keepTo t).timeFrac ∧
      512 * (b.keepTo t).time + (b.keepTo t).timeFrac < 512 * t + 15625 + 512 := by
  unfold BatchTimer.keepTo BatchTimer.keepSteps
  simp only
  have := Nat.div_add_mod (512 * t - (512 * b.time + b.timeFrac) + 15624) 15625
  have := Nat.mod_lt (512 * t - (512 * b.time + b.timeFrac) + 15624) (show 0 < 15625 by omega)
  omega

/-- A mark that has passed does nothing. -/
theorem Device.budgetAt_passed {d : Device} (h : d.sup.budgetPassed = true) : d.budgetAt = d := by
  unfold Device.budgetAt; rw [h]; rfl

theorem Device.deadlineAt_passed {d : Device} (h : d.sup.deadlinePassed = true) : d.deadlineAt = d := by
  unfold Device.deadlineAt; rw [h]; rfl

/-- Where every mark up to the present instant has passed, none is caught up. -/
theorem Device.catchUp_same {d : Device} (h1 : d.budgetTime ≤ d.now → d.sup.budgetPassed = true)
    (h2 : d.deadlineTime ≤ d.now → d.sup.deadlinePassed = true) : d.catchUp = d := by
  unfold Device.catchUp
  split
  · have hb : (if d.budgetTime ≤ d.now then d.budgetAt else d) = d := by
      split
      · rename_i h; exact Device.budgetAt_passed (h1 h)
      · rfl
    simp only [hb]
    split
    · rename_i h; exact Device.deadlineAt_passed (h2 h)
    · rfl
  · rfl

/-- An instant with no mark before it. -/
theorem Device.arrive_comes {d : Device} {t : Nat} (h : d.Comes t) : d.arrive t = d.moveTo t := by
  obtain ⟨hb, ht, -, h1, h2⟩ := h
  unfold Device.arrive
  apply Device.catchUp_same
  · intro hx
    apply h1
    simpa [Device.moveTo_now hb ht, Device.budgetTime, Device.moveTo_batch hb ht] using hx
  · intro hx
    apply h2
    simpa [Device.moveTo_now hb ht, Device.deadlineTime, Device.moveTo_batch hb ht] using hx

/-- An instant that comes has its place before the edge. -/
theorem Device.comes_reaches {d : Device} {t : Nat} (h : d.Comes t) : d.reaches t = true := by
  unfold Device.reaches
  rw [h.1]
  simpa using h.2.2.1

/-- An event at an instant that the Batch reaches. -/
theorem Device.dueAt_reaches {d : Device} {t : Nat} {f : Device → Device} (h : d.reaches t = true) : d.dueAt t f = f (d.arrive t) := by
  unfold Device.dueAt; rw [h]; rfl

/-- An event at an instant that comes, with no mark before it. -/
theorem Device.dueAt_comes {d : Device} {t : Nat} {f : Device → Device} (h : d.Comes t) : d.dueAt t f = f (d.moveTo t) := by
  rw [Device.dueAt_reaches (Device.comes_reaches h), Device.arrive_comes h]

/-- An instant that comes is one that is met. -/
theorem Device.comes_meets {d : Device} {t : Nat} (h : d.Comes t) : d.Meets t := by
  obtain ⟨hb, ht, he, h1, h2⟩ := h
  refine ⟨hb, he, ?_, ?_⟩ <;> rwa [max_eq_right ht]

/-- Device time at an instant that is met. -/
theorem Device.moveTo_time {d : Device} {t : Nat} (h : d.power.phase.batchRuns = true) : (d.moveTo t).now = max d.now t := by
  show (d.timerAt t).time = _
  rw [Device.timerAt_runs h]

/-- An instant that has passed moves nothing. -/
theorem Device.moveTo_past {d : Device} {t : Nat} (h : d.power.phase.batchRuns = true) (ht : t ≤ d.now) : d.moveTo t = d := by
  unfold Device.moveTo
  rw [Device.timerAt_runs h, max_eq_left (show t ≤ d.batch.time from ht)]
  exact d.elapse_same

/-- An event at an instant that is met. -/
theorem Device.dueAt_meets {d : Device} {t : Nat} {f : Device → Device} (h : d.Meets t) : d.dueAt t f = f (d.moveTo t) := by
  obtain ⟨hb, he, h1, h2⟩ := h
  have hr : d.reaches t = true := by unfold Device.reaches; rw [hb]; simpa using he
  rw [Device.dueAt_reaches hr]
  unfold Device.arrive
  have ht : (d.moveTo t).batch = { d.batch with time := max d.batch.time t } := Device.timerAt_runs hb
  rw [Device.catchUp_same]
  · intro hx
    apply h1
    rw [Device.moveTo_time hb] at hx
    simpa [Device.budgetTime, ht] using hx
  · intro hx
    apply h2
    rw [Device.moveTo_time hb] at hx
    simpa [Device.deadlineTime, ht] using hx

/-- An instant that the Batch does not reach. -/
theorem Device.dueAt_not {d : Device} {t : Nat} {f : Device → Device} (h : d.reaches t = false) : d.dueAt t f = d := by
  unfold Device.dueAt; rw [h]; rfl

/-- The outcome of an event at an instant that comes, with its effect `f`. -/
theorem State.onClk_comes {s : State} {t : Nat} {g f : Device → Device} (h : s.dev.Comes t) (hg : g s.dev = s.dev.dueAt t f)
    (hc : (f (s.dev.moveTo t)).faults.graveDue = none) (hb : (f (s.dev.moveTo t)).batch = (s.dev.moveTo t).batch) :
    s.onClk g = .next (s.put (f (s.dev.moveTo t))) := by
  have he : g s.dev = f (s.dev.moveTo t) := by rw [hg, Device.dueAt_comes h]
  have := State.onClk_calm' (s := s) (f := g) (by rw [he]; exact hc)
    (by rw [he, hb, Device.moveTo_batch h.1 h.2.1]; exact h.2.1)
  rw [this, he]; rfl

end Sys2Proof.Machine
end

