-- ==== Sys2Proof/Laws/Memory.lean ====
section
/-! SUPPORT. Memory in canonical form: every write keeps the form, and reads after writes. -/
namespace Sys2Proof.Machine

/-- Every key of a memory lies above a bound. -/
def above (b : Nat) (m : List Host.Cell) : Prop := ∀ c ∈ m, b < c.1

/-- The canonical form, entry by entry. -/
theorem memWf_cons {dflt : Nat → Byte} {k : Nat} {b : Byte} {t : List Host.Cell} :
    memWf dflt ((k, b) :: t) = true ↔ b ≠ dflt k ∧ above k t ∧ memWf dflt t = true := by
  induction t generalizing k b with
  | nil => simp [memWf, above]
  | cons c t ih =>
    obtain ⟨k', b'⟩ := c
    have h := ih (k := k') (b := b')
    constructor
    · intro hw
      simp only [memWf, Bool.and_eq_true, decide_eq_true_eq] at hw
      obtain ⟨⟨h1, h2⟩, h3⟩ := hw
      refine ⟨h1, ?_, h3⟩
      intro x hx
      rcases List.mem_cons.1 hx with rfl | hx
      · exact h2
      · exact Nat.lt_trans h2 ((h.1 h3).2.1 x hx)
    · rintro ⟨h1, h2, h3⟩
      simp only [memWf, Bool.and_eq_true, decide_eq_true_eq]
      exact ⟨⟨h1, h2 _ (List.mem_cons_self ..)⟩, h3⟩

/-- The empty memory is canonical. -/
theorem memWf_nil {dflt : Nat → Byte} : memWf dflt [] = true := rfl

/-- A bound below every key reads as unlisted. -/
theorem cellRead_above {dflt : Nat → Byte} {m : List Host.Cell} {a : Nat} (h : above a m) : cellRead dflt m a = dflt a := by
  induction m with
  | nil => rfl
  | cons c t ih =>
    obtain ⟨k, b⟩ := c
    have hk : a < k := h _ (List.mem_cons_self ..)
    simp only [cellRead]
    rw [if_neg (by omega)]
    exact ih fun x hx => h x (List.mem_cons_of_mem _ hx)

/-- A write keeps every key above a bound below its address. -/
theorem above_cellWrite {dflt : Nat → Byte} {m : List Host.Cell} {a k : Nat} {b : Byte} (hm : above k m) (hk : k < a) :
    above k (cellWrite dflt m a b) := by
  induction m with
  | nil =>
    simp only [cellWrite]
    split
    · exact hm
    · intro x hx; simp only [List.mem_singleton] at hx; subst hx; exact hk
  | cons c t ih =>
    obtain ⟨j, e⟩ := c
    have ht : above k t := fun x hx => hm x (List.mem_cons_of_mem _ hx)
    have hj : k < j := hm _ (List.mem_cons_self ..)
    simp only [cellWrite]
    split
    · intro x hx
      rcases List.mem_cons.1 hx with rfl | hx
      · exact hj
      · exact ih ht x hx
    · split
      · split
        · exact ht
        · intro x hx
          rcases List.mem_cons.1 hx with rfl | hx
          · exact hk
          · exact ht x hx
      · split
        · exact hm
        · intro x hx
          rcases List.mem_cons.1 hx with rfl | hx
          · exact hk
          · exact hm x hx

/-- One write keeps the canonical form. -/
theorem cellWrite_wf {dflt : Nat → Byte} {m : List Host.Cell} (a : Nat) (b : Byte) (h : memWf dflt m = true) :
    memWf dflt (cellWrite dflt m a b) = true := by
  induction m with
  | nil =>
    simp only [cellWrite]
    split
    · rfl
    · rename_i hb; simp [memWf, hb]
  | cons c t ih =>
    obtain ⟨k, e⟩ := c
    obtain ⟨h1, h2, h3⟩ := memWf_cons.1 h
    simp only [cellWrite]
    split
    · rename_i hk
      exact memWf_cons.2 ⟨h1, above_cellWrite h2 hk, ih h3⟩
    · split
      · rename_i hk
        subst hk
        split
        · exact h3
        · rename_i hb; exact memWf_cons.2 ⟨hb, h2, h3⟩
      · split
        · exact h
        · rename_i hk1 hk2 hb
          refine memWf_cons.2 ⟨hb, ?_, h⟩
          intro x hx
          rcases List.mem_cons.1 hx with rfl | hx
          · show a < k; omega
          · have := h2 x hx; omega

/-- Writing a byte string keeps the canonical form. -/
theorem cellsWrite_wf {dflt : Nat → Byte} {m : List Host.Cell} (a : Nat) (l : List Byte) (h : memWf dflt m = true) :
    memWf dflt (cellsWrite dflt m a l) = true := by
  induction l generalizing m a with
  | nil => exact h
  | cons b t ih => exact ih (a + 1) (cellWrite_wf a b h)

/-- Dropping entries keeps the canonical form. -/
theorem filter_wf {dflt : Nat → Byte} {m : List Host.Cell} (p : Host.Cell → Bool) (h : memWf dflt m = true) :
    memWf dflt (m.filter p) = true := by
  induction m with
  | nil => rfl
  | cons c t ih =>
    obtain ⟨k, e⟩ := c
    obtain ⟨h1, h2, h3⟩ := memWf_cons.1 h
    simp only [List.filter_cons]
    split
    · exact memWf_cons.2 ⟨h1, fun x hx => h2 x (List.mem_of_mem_filter hx), ih h3⟩
    · exact ih h3

/-- A read at the address written gives the byte written. -/
theorem cellRead_cellWrite_same {dflt : Nat → Byte} {m : List Host.Cell} (a : Nat) (b : Byte) (h : memWf dflt m = true) :
    cellRead dflt (cellWrite dflt m a b) a = b := by
  induction m with
  | nil =>
    simp only [cellWrite]
    split
    · rename_i hb; simp [cellRead, hb]
    · simp [cellRead]
  | cons c t ih =>
    obtain ⟨k, e⟩ := c
    obtain ⟨h1, h2, h3⟩ := memWf_cons.1 h
    simp only [cellWrite]
    split
    · rename_i hk
      simp only [cellRead]
      rw [if_neg (by omega)]
      exact ih h3
    · split
      · rename_i hk
        subst hk
        split
        · rename_i hb; rw [cellRead_above h2]; exact hb.symm
        · simp [cellRead]
      · split
        · rename_i hk1 hk2 hb
          rw [cellRead_above, hb]
          intro x hx
          rcases List.mem_cons.1 hx with rfl | hx
          · show a < k; omega
          · have := h2 x hx; omega
        · simp [cellRead]

/-- A read at another address gives what it gave before. -/
theorem cellRead_cellWrite_ne {dflt : Nat → Byte} {m : List Host.Cell} {a x : Nat} (b : Byte) (h : memWf dflt m = true) (hx : x ≠ a) :
    cellRead dflt (cellWrite dflt m a b) x = cellRead dflt m x := by
  induction m with
  | nil =>
    simp only [cellWrite]
    split
    · rfl
    · simp only [cellRead]; rw [if_neg (fun e => hx e.symm)]
  | cons c t ih =>
    obtain ⟨k, e⟩ := c
    obtain ⟨h1, h2, h3⟩ := memWf_cons.1 h
    simp only [cellWrite]
    split
    · simp only [cellRead]; rw [ih h3]
    · split
      · rename_i hk
        subst hk
        have hka : ¬ k = x := fun e => hx e.symm
        split
        · simp only [cellRead]; rw [if_neg hka]
        · simp only [cellRead]; rw [if_neg hka, if_neg hka]
      · split
        · rfl
        · simp only [cellRead]; rw [if_neg (fun e => hx e.symm)]

/-- A read outside a byte string written gives what it gave before. -/
theorem cellRead_cellsWrite_out {dflt : Nat → Byte} {m : List Host.Cell} {a x : Nat} (l : List Byte) (h : memWf dflt m = true)
    (hx : x < a ∨ a + l.length ≤ x) : cellRead dflt (cellsWrite dflt m a l) x = cellRead dflt m x := by
  induction l generalizing m a with
  | nil => rfl
  | cons b t ih =>
    simp only [List.length_cons] at hx
    simp only [cellsWrite]
    rw [ih (cellWrite_wf a b h) (by omega), cellRead_cellWrite_ne b h (by omega)]

/-- A read inside a byte string written gives its byte. -/
theorem cellRead_cellsWrite_in {dflt : Nat → Byte} {m : List Host.Cell} {a i : Nat} (l : List Byte) (h : memWf dflt m = true)
    (hi : i < l.length) : cellRead dflt (cellsWrite dflt m a l) (a + i) = l[i] := by
  induction l generalizing m a i with
  | nil => simp at hi
  | cons b t ih =>
    simp only [cellsWrite]
    cases i with
    | zero =>
      rw [cellRead_cellsWrite_out t (cellWrite_wf a b h) (by omega)]
      exact cellRead_cellWrite_same a b h
    | succ j =>
      have hj : j < t.length := by simpa using hi
      rw [show a + (j + 1) = a + 1 + j by omega, ih (cellWrite_wf a b h) hj]
      rfl

/-- The byte string written reads back whole. -/
theorem cellsRead_cellsWrite_same {dflt : Nat → Byte} {m : List Host.Cell} (a : Nat) (l : List Byte) (h : memWf dflt m = true) :
    cellsRead dflt (cellsWrite dflt m a l) a l.length = l := by
  apply List.ext_getElem
  · simp [cellsRead]
  · intro i h1 h2
    simp only [cellsRead, List.getElem_map, List.getElem_range]
    exact cellRead_cellsWrite_in l h h2

/-- NVM after a write is canonical. -/
theorem Device.nvmWrite_wf {d : Device} (a : Nat) (l : List Byte) (h : memWf nvmDefault d.nvm = true) :
    memWf nvmDefault (d.nvmWrite a l).nvm = true := cellsWrite_wf a l h

/-- NVM after an erase is canonical. -/
theorem Device.nvmErase_wf {d : Device} (a n : Nat) (h : memWf nvmDefault d.nvm = true) :
    memWf nvmDefault (d.nvmErase a n).nvm = true := by
  simp only [Device.nvmErase]
  split
  · exact cellsWrite_wf a _ (filter_wf _ h)
  · exact filter_wf _ h

/-- Window RAM after a write is canonical. -/
theorem Device.winWrite_wf {d : Device} (n : RoomId) (off : Nat) (l : List Byte) (h : memWf zeroByte d.wram = true) :
    memWf zeroByte (d.winWrite n off l).wram = true := cellsWrite_wf _ l h

end Sys2Proof.Machine
end

