-- ==== Sys2Proof/WellFormed.lean ====
section
/-! DEFINITION. Which operands a command of the opcode table can carry. -/
namespace Sys2Proof

/-- A request's `len` is a byte, and its argument area 56 bytes (R310). -/
def Req.wellFormed (r : Req) : Bool := decide (r.len ≤ 255) && decide (r.args.length ≤ 56)

/-- The request that a command carries, for the rows that are SMP requests (R768). -/
def Instr.request : Instr → Option Req
  | .hello r => some r
  | .bye r => some r
  | .ping r => some r
  | .time r => some r
  | .roomQuery r => some r
  | .roomReset r => some r
  | .pwrQuery r => some r
  | .pwrFloor r => some r
  | .pwrLodge r => some r
  | .pwrShipArm r => some r
  | .pwrShipCancel r => some r
  | .pwrRestart r => some r
  | .railVote r => some r
  | .railQuery r => some r
  | .railSched r => some r
  | .seqRun r => some r
  | .seqAbort r => some r
  | .chgQuery r => some r
  | .chgSet r => some r
  | .chgFaultsRead r => some r
  | .chgFaultsClear r => some r
  | .gaugeQuery r => some r
  | .gaugeSetSoc r => some r
  | .gaugeSetAgeAdd r => some r
  | .gaugeSetLearnReset r => some r
  | .larderReserve r => some r
  | .burstPair r => some r
  | .larderRelease r => some r
  | .larderQuery r => some r
  | .larderSetTod r => some r
  | .larderSetFcReset r => some r
  | .pathQuery r => some r
  | .dcLimit r => some r
  | .priPulse r => some r
  | .pvSet r => some r
  | .kinQuery r => some r
  | .kinSet r => some r
  | .kinUser r => some r
  | .adcPlan r => some r
  | .adcGroupSet r => some r
  | .adcGroupTrigger r => some r
  | .adcGroupRelease r => some r
  | .adcRead r => some r
  | .digKeyload r => some r
  | .digQueue r => some r
  | .faultRead r => some r
  | .ledgerRead r => some r
  | .faultClearSafeHold r => some r
  | .faultClearRailHeld r => some r
  | .faultClearAllHeld r => some r
  | .faultClearBatfet r => some r
  | .faultClearActive r => some r
  | .faultClearLedgerMark r => some r
  | .faultProbe r => some r
  | .wdSetPeriod r => some r
  | .wdSetClearRestarts r => some r
  | .wdQuery r => some r
  | .gwdArm r => some r
  | .wdKick r => some r
  | .keeperSwap r => some r
  | .keeperQuery r => some r
  | .keeperRevive r => some r
  | .imageStageOpen r => some r
  | .imageStageData r => some r
  | .imageStageClose r => some r
  | .imageCommitCommit r => some r
  | .imageCommitAbort r => some r
  | .imageQuery r => some r
  | .recipeSelect r => some r
  | .recipeWriteOpen r => some r
  | .recipeWriteData r => some r
  | .recipeWriteClose r => some r
  | .recipeQuery r => some r
  | .dbgChallenge r => some r
  | .dbgRespondRespond r => some r
  | .dbgRespondDrop r => some r
  | .lifecycleAdvance r => some r
  | .secQuery r => some r
  | .por _ => none
  | .brownOut => none
  | .startGatePass _ => none
  | .startTick _ => none
  | .restartGraceEnd _ => none
  | .btnRestartHold _ => none
  | .bootFloorEnd => none
  | .lodgeEntry => none
  | .lodgeAlarm => none
  | .wakeNRequest => none
  | .btnNPress => none
  | .wakeComparatorFire _ => none
  | .shipEntry => none
  | .shipBtnHold => none
  | .vioGood => none
  | .vioLost => none
  | .crystalFail => none
  | .crystalQualify _ => none
  | .dividerUpdate _ => none
  | .batchEdge _ _ _ => none
  | .budgetMark => none
  | .commitDeadline => none
  | .coldHoldEnd => none
  | .keeperRestartDone _ _ => none
  | .selfTestDue => none
  | .selfTestResult _ _ => none
  | .keeperWdKick _ _ => none
  | .keeperWdPeriodWrite _ _ => none
  | .keeperWdExpiry _ _ => none
  | .romLimitExpiry _ _ => none
  | .guestWdExpiry _ => none
  | .gwdGatingEnd _ => none
  | .sqTailWrite _ _ _ => none
  | .cqHeadWrite _ _ _ => none
  | .submissionSlotWrite _ _ _ _ => none
  | .evtFlagsClear _ _ _ => none
  | .registerWrite _ _ _ => none
  | .i2cAddressSet _ => none
  | .servicePortGap _ => none
  | .digClaimWrite _ _ _ => none
  | .digStart _ _ _ _ => none
  | .digFinish _ _ => none
  | .digAbort _ _ => none
  | .digDataWrite _ _ _ _ => none
  | .digClaimIdle => none
  | .digClaimMax => none
  | .schedDue _ => none
  | .seqDelayEnd => none
  | .seqWaitTimeout => none
  | .adcReadTimeout _ => none
  | .keystoreWriteDone _ => none
  | .digQueueTimeout _ _ => none
  | .imageEraseEnd => none
  | .stagedBytesProgrammed => none
  | .imageStageAbandon => none
  | .recipeSwitch => none
  | .recipeEraseEnd => none
  | .recipeWriteAbandon => none
  | .lifecycleProgramDone _ => none
  | .tapReset => none
  | .keyprog _ _ => none
  | .lcadv => none
  | .dbgHalt _ _ => none
  | .dbgWdhalt _ => none
  | .dbgAttach _ => none
  | .dbgChalReq => none
  | .dbgDrop => none
  | .dbgAuthSubmit _ => none
  | .dbgMemRead _ _ => none
  | .dbgMemWrite _ _ _ => none
  | .dbgMemErase _ _ => none
  | .challengeExpiry => none
  | .attachRetry => none
  | .dualRailFault _ _ _ _ => none
  | .lineFault _ _ _ => none
  | .codedMessage _ => none
  | .ledgerEntryWrite => none
  | .suppressionHourEnd => none
  | .warnExpiry _ => none
  | .graveExit _ => none
  | .railProofed _ _ => none
  | .proofFail _ _ _ => none
  | .railSag _ _ => none
  | .railTrip _ _ _ => none
  | .thermalWarning _ => none
  | .retryRelease _ => none
  | .ladderReset _ => none
  | .paSourceSwitch => none
  | .dcinValid => none
  | .dcinInvalid => none
  | .dcOv _ => none
  | .dockDetectionEnd _ _ => none
  | .ccLevelChange _ => none
  | .vsysOv => none
  | .batfetUvOpen _ => none
  | .batfetOcOpen _ => none
  | .batfetClose _ => none
  | .batfetStuck _ => none
  | .priLow _ => none
  | .passivationPulseDue _ => none
  | .priPulseEnd _ => none
  | .pvFocvSample _ => none
  | .pvColdStart => none
  | .resImbal _ => none
  | .resOv => none
  | .reservoirChargeStart => none
  | .kineticClamp => none
  | .hallEdge _ _ => none
  | .illegalTransition => none
  | .counterInterpolate => none
  | .rotorStall => none
  | .twpwrDutySample _ _ => none
  | .reverseCurrentCut _ => none
  | .qualifyPass _ => none
  | .prechargeExit => none
  | .cvReached => none
  | .chargeTerminate => none
  | .topoffEnd => none
  | .rechargeStart => none
  | .zoneChange _ => none
  | .harvestChargingPresent => none
  | .prechargeTimeout => none
  | .fastTimeout => none
  | .batteryRemoved _ _ => none
  | .chgBatOv _ => none
  | .chgOvFetfail _ => none
  | .chgNtc _ => none
  | .chgBatid _ => none
  | .goneAutoRead => none
  | .gaugeAutozero _ => none
  | .gaugeWindow _ _ _ => none
  | .shuntComparator => none
  | .ocvCorrection _ _ => none
  | .ageHour => none
  | .gaugeRecordSave => none
  | .forecastBinUpdate => none
  | .reservationEnd _ => none
  | .burstStart => none
  | .bgntRise => none
  | .burstEnd => none
  | .breqRise => none
  | .breqFall => none
  | .adcSetStart _ => none
  | .adcSetComplete _ _ => none
  | .porRelease _ _ => none
  | .hrstNHoldThreshold => none
  | .batteryStartCrossing _ => none
  | .aonNodeLoss => none
  | .vsysOvClear => none
  | .kineticClampRelease => none
  | .resOvClear => none
  | .resImbalClear => none
  | .reservoirChargeStop => none
  | .vsysCeilingCrossing => none
  | .dieCooled => none
  | .thermalWarningClear _ => none
  | .dualRailReturn _ => none
  | .harvestChargingCeases => none
  | .gaugeSippingEntry => none
  | .twpwrHoldEnd => none
  | .reservationStart _ => none
  | .authLockoutEnd => none

/-- Operand ranges that the manual gives the other commands: ring offsets (R291), frame bytes and I²C read transfers
(R271, R282), Digest data (R629), key payloads (R709), responses (R723), one code of 12 bits for each row (R606), the
codes of the dock's inputs (R423, R426), and the qualifier of a removal (R508). -/
def Instr.rangesOk : Instr → Bool
  | .submissionSlotWrite _ _ off l => decide (0x200 ≤ off) && decide (off + l.length ≤ 0xA00) && decide (l ≠ [])
  | .registerWrite port l reads =>
    if reads = 0 then decide (l ≠ []) else decide (port = .i2c) && (decide (l = []) || decide (l.length = 2))
  | .digDataWrite _ _ off l => decide (0xEC0 ≤ off) && decide (off < 0xF00) && decide (l ≠ [])
  | .adcSetComplete _ l => decide (l.length ≤ 64) && l.all (· < 4096)
  | .batteryRemoved route _ => decide (1 ≤ route) && decide (route ≤ 3)
  | .dockDetectionEnd code _ => decide (2 ≤ code) && decide (code ≤ 8)
  | .dbgAuthSubmit l => decide (l.length = 32)
  | .keyprog _ l => decide (l.length = 64)
  | _ => true

/-- A command whose operands are ones the device can be given. -/
def Instr.wellFormed (i : Instr) : Bool := (i.request.all Req.wellFormed) && i.rangesOk

end Sys2Proof
end

