-- ==== Sys2Proof/Laws/Requests.lean ====
section
/-! SUPPORT. What an accepted request does: the one law behind every request row. -/
namespace Sys2Proof.Machine

/-- A request that matches no earlier one has no record under its number. -/
theorem dedup_none {d : Device} {h : Hdr} {fp : Word} (hn : (d.dedupAnswer h fp).isNone = true) :
    ∀ r ∈ d.reqs.recs, r.id ≠ h.id := by
  intro r hr he
  unfold Device.dedupAnswer at hn
  simp only at hn
  split at hn
  · simp at hn
  · rename_i h1
    split at hn
    · simp at hn
    · rename_i h2
      rw [List.find?_eq_none] at h2
      have := h2 r (by simp [hr, he])
      simp [he] at this

/-- The record that intake enters is found under its number. -/
theorem findRec_enter {d : Device} {h : Hdr} {fp : Word} (hn : (d.dedupAnswer h fp).isNone = true) :
    ∃ r, (d.enterRec h fp).findRec h.id = some r ∧ r.id = h.id ∧ r.opcode = h.opcode ∧ r.flags = h.flags ∧ r.st = .taken ∧ r.ecc = none ∧
      r.busy = (d.keepers.busy && busyRefused h.opcode) ∧ r.args = (if h.len = 0 then none else some h.args) := by
  have hd := dedup_none hn
  unfold Device.findRec Device.enterRec Device.updReqs
  simp only [List.find?_append]
  rw [List.find?_eq_none.2]
  · simp
  · intro x hx; simp [hd x hx]

/-- The record just entered may begin where `ORDER` does not hold it. -/
theorem mayBegin_enter {d : Device} {h : Hdr} {fp : Word} {r : Rec} (hn : (d.dedupAnswer h fp).isNone = true)
    (hid : r.id = h.id) (hs : r.st = .taken) (hfl : r.flags = h.flags)
    (ho : bit h.flags 0 = true → ∀ x ∈ d.reqs.recs, x.id.room = h.id.room → x.st = .done) :
    (d.enterRec h fp).mayBegin r = true := by
  have hd := dedup_none hn
  unfold Device.mayBegin
  simp only [hs, decide_true, Bool.true_and, hfl, hid]
  cases hb : bit h.flags 0
  · simp
  · simp only [Bool.not_true, Bool.false_or, List.all_eq_true, List.mem_filter, beq_iff_eq, and_imp]
    intro x hx hr
    have hx' := List.mem_takeWhile_imp hx
    have hm := (List.takeWhile_subset _) hx
    simp only [Device.enterRec, Device.updReqs, List.mem_append, List.mem_singleton] at hm
    rcases hm with hm | hm
    · exact ho hb x hm hr
    · simp [hm] at hx'

/-- The argument area of a request without arguments. -/
theorem slice_nil_area (l : List Byte) : slice (slice l 0 (min 0 56)) 0 56 = List.replicate 56 0 := by
  simp [slice]

/-- A Room whose request may be taken at once has room in its ring and a keeper or the Starter ROM that serves. -/
theorem takesNow_open {d : Device} {n : RoomId} (h : d.takesNow n = true) :
    (d.isOpen || d.romHold) = true ∧ (d.rooms.get n).sqUsed = 0 := by
  unfold Device.takesNow at h
  simp only [Bool.and_eq_true, decide_eq_true_eq] at h
  obtain ⟨⟨⟨⟨hs, hq⟩, -⟩, -⟩, -⟩ := h
  refine ⟨?_, hq⟩
  unfold Device.serving at hs
  cases hr : d.romHold <;> simp_all

/-- Intake lets an accepted request into the table. -/
theorem take_accepts {d : Device} {c : Cmd} {r : Sys2Proof.Req} (hc : cmdOf c.op = some c) (h : d.Accepts c r) :
    d.take cmdOf (Req.hdr r c.op) = .entered (d.enterRec (Req.hdr r c.op) (fingerprint (Req.hdr r c.op))) := by
  obtain ⟨⟨-, h2⟩, ⟨h4, h5⟩, h6, h7, h8, h9, -, -, -⟩ := h
  have hver : ¬ (((d.rooms.get r.room).st ≠ .opened ∨ (d.rooms.get r.room).closing.isSome = true) ∧ c.op ≠ 0) := by
    rintro ⟨ha, hb⟩
    rcases h5 with ⟨hx, hy⟩ | hx
    · rcases ha with ha | ha
      · exact ha hx
      · simp [hy] at ha
    · exact hb hx
  have hq : (!quotaFree c.op && decide (d.held r.room ≥ (d.rooms.get r.room).quota)) = false := by
    rcases h7 with h7 | h7
    · simp [h7]
    · simp; intro _; exact h7
  have hb : ¬ (r.len ≠ 0 ∧ d.blocks r.room ≥ 128) := by
    rintro ⟨ha, hb⟩
    rcases h9 with h9 | h9
    · exact ha h9
    · omega
  have hnone : d.dedupAnswer (Req.hdr r c.op) (fingerprint (Req.hdr r c.op)) = none := by simpa using h6
  unfold Device.take
  simp only [h4, Bool.not_true, Bool.false_eq_true, if_false, show (Req.hdr r c.op).opcode = c.op from rfl,
    show (Req.hdr r c.op).id.room = r.room from rfl, hver, hnone, h2, Bool.false_and, hq, hc, h8,
    show (Req.hdr r c.op).len = r.len from rfl, hb]

/-- An accepted request runs its command on the device with its record begun. -/
theorem runReq_accepts {d : Device} {c : Cmd} {r : Sys2Proof.Req} (hc : cmdOf c.op = some c) (h : d.Accepts c r) :
    d.runReq c r = settled (Req.ident r) (c.run (d.begun c r) (Req.ident r) (Req.area r)) := by
  have htake := take_accepts hc h
  obtain ⟨⟨h1, h2⟩, -, h6, -, -, -, h10, h11, h12⟩ := h
  obtain ⟨ho, hu⟩ := takesNow_open h1
  obtain ⟨x, hx, hxid, hxop, hxf, hxs, hxe, hxb, hxa⟩ := findRec_enter (fp := fingerprint (Req.hdr r c.op)) h6
  have hmb := mayBegin_enter (fp := fingerprint (Req.hdr r c.op)) h6 hxid hxs hxf (fun a b hb => h10 a b hb)
  have harg : x.args.getD (List.replicate 56 0) = Req.area r := by
    rw [hxa]
    by_cases hl : (Req.hdr r c.op).len = 0
    · have : r.len = 0 := hl
      simp only [hl, if_true, Option.getD_none]
      unfold Req.area; rw [this, slice_nil_area]
    · simp only [hl, if_false, Option.getD_some]; rfl
  have hbz : x.busy = false := by
    rw [hxb]
    cases hk : d.keepers.busy
    · rfl
    · rw [show (Req.hdr r c.op).opcode = c.op from rfl, h11 hk]; rfl
  have key : ((d.enterRec (Req.hdr r c.op) (fingerprint (Req.hdr r c.op))).ringPass r c.op).beginNow c (Req.ident r) =
      settled (Req.ident r) (c.run (d.begun c r) (Req.ident r) (Req.area r)) := by
    have hf : ((d.enterRec (Req.hdr r c.op) (fingerprint (Req.hdr r c.op))).ringPass r c.op).findRec (Req.ident r) = some x := hx
    have hm : ((d.enterRec (Req.hdr r c.op) (fingerprint (Req.hdr r c.op))).ringPass r c.op).mayBegin x = true := hmb
    unfold Device.beginNow
    rw [hf]
    simp only [Device.when, hm, if_true]
    unfold Device.execRec
    simp only [harg, hxe, hxid, hbz, Option.isSome_none, Bool.false_eq_true, if_false]
    rw [if_neg]
    · unfold settled; rfl
    · simp only [Bool.not_eq_true', Bool.not_eq_false]
      exact h12
  unfold Device.runReq
  rw [ho, hu, h1, htake, h2]
  exact key

/-- The outcome of an accepted request. -/
theorem request_accepts {s : State} {c : Cmd} {r : Sys2Proof.Req} (hc : cmdOf c.op = some c) (h : s.dev.Accepts c r) :
    s.request c r = .next (s.served c r fun d id a => settled id (c.run d id a)) := by
  have ht : s.dev.atTick = false := by
    obtain ⟨⟨h1, h2⟩, -⟩ := h
    unfold Device.takesNow Device.serving at h1
    simp only [h2, Bool.false_or, Bool.and_eq_true, decide_eq_true_eq] at h1
    obtain ⟨⟨⟨⟨⟨-, h3⟩, -⟩, -⟩, -⟩, -⟩ := h1
    unfold Device.atTick BatchTimer.nextEdge BatchTimer.period
    unfold Device.budgetTime at h3
    simp only [Bool.and_eq_false_iff, decide_eq_false_iff_not, Nat.not_le]
    right
    split at h3 <;> simp_all <;> omega
  unfold State.request State.onFrame State.served State.onto
  simp only [ht, Bool.false_eq_true, if_false, State.onDev, runReq_accepts hc h]

/-- The action byte of a row stands in its request's argument area. -/
theorem area_withAction (r : Sys2Proof.Req) (i v : Nat) (hi : i < 56) :
    byteAt (Req.area (withAction r i v)) i = v % 256 := by
  unfold Req.area byteAt withAction
  have h1 : ∀ (l : List Byte) (n m : Nat), m < n → (slice l 0 n).getD m 0 = l.getD m 0 := by
    intro l n m h
    simp only [slice, List.drop_zero, List.getD_eq_getElem?_getD]
    rcases Nat.lt_or_ge m l.length with hl | hl
    · rw [List.getElem?_append_left (by simp; omega)]
      simp [h]
    · rw [List.getElem?_append_right (by simp; omega)]
      rw [List.getElem?_replicate]
      split <;> simp [List.getElem?_eq_none hl]
  rw [h1 _ _ _ hi, h1 _ _ _ (by simp; omega)]
  have hl : (slice r.args 0 i).length = i := by simp [slice]
  rw [List.getD_eq_getElem?_getD, List.append_assoc, List.getElem?_append_right (by omega), hl]
  simp

end Sys2Proof.Machine
end

