-- ==== Sys2Proof/Tests/Slice0.lean ====
section
/-! SUPPORT. Small tests of one step each, and for every statement that has hypotheses a theorem `meets_…` whose states and
operands meet them, clause by clause. -/
namespace Sys2Proof.Tests
set_option Elab.async false
open Sys2Proof.Machine

/-! ### Well-formed commands -/

/-- A request without arguments, from Room `n`. -/
def req (n : RoomId) : Req := { room := n, tag := 7, seq := 1, flags := 0, len := 0, args := [] }

/-- A request with `len` argument bytes. -/
def reqOf (n : RoomId) (len : Nat) (args : List Byte) : Req := { req n with len := len, args := args }

theorem test_wf_len : (Instr.ping (reqOf 0 256 [])).wellFormed = false ∧ (Instr.ping (reqOf 0 255 [])).wellFormed = true := by decide
theorem test_wf_area : (Instr.ping (reqOf 0 8 (List.replicate 57 0))).wellFormed = false ∧
    (Instr.ping (reqOf 0 8 (List.replicate 56 0))).wellFormed = true := by decide
theorem test_wf_slot_low : (Instr.submissionSlotWrite .spi 0 0x1FF [1]).wellFormed = false ∧
    (Instr.submissionSlotWrite .spi 0 0x200 [1]).wellFormed = true := by decide
theorem test_wf_slot_high : (Instr.submissionSlotWrite .spi 0 0x9FF [1, 2]).wellFormed = false ∧
    (Instr.submissionSlotWrite .spi 0 0x9FF [1]).wellFormed = true := by decide
theorem test_wf_slot_empty : (Instr.submissionSlotWrite .spi 0 0x200 []).wellFormed = false := by decide
theorem test_wf_data : (Instr.digDataWrite .spi 0 0xEBF [1]).wellFormed = false ∧ (Instr.digDataWrite .spi 0 0xF00 [1]).wellFormed = false ∧
    (Instr.digDataWrite .spi 0 0xEC0 []).wellFormed = false ∧ (Instr.digDataWrite .spi 0 0xEFF [1]).wellFormed = true := by decide
theorem test_wf_set : (Instr.adcSetComplete 0 (List.replicate 65 0)).wellFormed = false ∧
    (Instr.adcSetComplete 0 [4096]).wellFormed = false ∧ (Instr.adcSetComplete 0 [4095]).wellFormed = true := by decide
theorem test_wf_route : (Instr.batteryRemoved 0 0).wellFormed = false ∧ (Instr.batteryRemoved 4 0).wellFormed = false ∧
    (Instr.batteryRemoved 3 0).wellFormed = true := by decide
theorem test_wf_dock : (Instr.dockDetectionEnd 1 false).wellFormed = false ∧ (Instr.dockDetectionEnd 9 false).wellFormed = false ∧
    (Instr.dockDetectionEnd 8 false).wellFormed = true := by decide
theorem test_wf_response : (Instr.dbgAuthSubmit []).wellFormed = false ∧ (Instr.dbgAuthSubmit (List.replicate 32 0)).wellFormed = true := by
  decide
theorem test_wf_keyprog : (Instr.keyprog 0 []).wellFormed = false ∧ (Instr.keyprog 0 (List.replicate 64 0)).wellFormed = true := by decide
theorem test_no_words : decodeTableWord 16 5 = none := rfl

/-! ### Small states -/

/-- The device ID of these tests. -/
def base : Device := Device.resetWith (List.replicate 8 0x11)

/-- Powered, in a phase, keeper A active with its work at step 5, VIO good, a battery on the AON node. -/
def at_ (p : Phase) : Device :=
  { base with
    power := { base.power with phase := p, aonMv := 3700 }
    pins := { base.pins with vioGood := true }
    sup := { base.sup with workDone := false, stage := .targets }
    keepers := { base.keepers with a := { base.keepers.a with role := .active, romOk := true, slot := some 0, powered := true } } }

/-- RUN with Rooms open: Batch 0 runs from 0 to 1,000 µs. -/
def live : Device := at_ .open

/-- Room `n` Open, bound to SPI (1), with privilege `p` and a quota. -/
def withRoom (d : Device) (n : RoomId) (p : Nat := 0) : Device :=
  d.updRoom n fun r => { r with st := .opened, version := 0x0300, idPort := 1, idPriv := p, quota := 2048 }

/-- Rooms 0 and 1 Open for OWNERs. -/
def rooms : Device := withRoom (withRoom live 0) 1

/-- The state of a device with no command waiting. -/
def st (d : Device) : State := { dev := d, pending := [] }

/-- The device after one command. -/
def after (i : Instr) (d : Device) : Device :=
  match exec i (st d) with
  | .next t => t.dev
  | _ => d

/-- A Recipe with one field changed. -/
def withFld (d : Device) (f : FieldId) (v : Int) (e : Nat := 0) : Device :=
  d.updRcp fun r => { r with inForce := some { factoryRecipe with
    sections := factoryRecipe.sections.modify f.sec fun l => l.set (f.offset + e) v } }


/-- A start that finds everything in order. -/
def good : StartSense :=
  { romOkA := true, romOkB := true, keystoreOk := true, calOk := true, rsel0 := some false, rsel1 := some false, rsel2 := some false,
    vsysMv := 3700, priMv := 0, batMv := 3700, batTemp := 250 }
/-- Both marks of the Batch have passed. -/
def passed (d : Device) : Device := d.updSup fun s => { s with budgetPassed := true, deadlinePassed := true }
/-- A device whose work of the Batch is done. -/
def idle (d : Device) : Device := d.updSup fun s => { s with stage := .idle, workDone := true }

/-! ### Hypotheses of the statements: the whole machine and faults -/

theorem meets_empty_queue : (st (at_ .por)).pending = [] ∧ (at_ .ship).power.phase = .ship ∧ (at_ .sealed).power.phase = .sealed ∧
    (at_ .por).power.phase = .por ∧ live.Calm ∧ live.power.phase.batchRuns = true ∧ live.now < live.batch.nextEdge ∧ live.Comes (live.now + 1) ∧
    (passed (live.moveTo 1000)).power.phase.batchRuns = true ∧
    (passed (live.moveTo 1000)).now = (passed (live.moveTo 1000)).batch.nextEdge ∧
    (passed (live.moveTo 1000)).sup.budgetPassed = true ∧ (passed (live.moveTo 1000)).sup.deadlinePassed = true ∧
    (at_ .gate).power.phase = .gate ∧ (at_ .lodge).power.phase = .lodge ∧ (at_ .dark).power.phase = .dark := by
  decide +kernel

theorem meets_time : exec .dieCooled (st live) = .next (st live) ∧ (∀ mv, Instr.dieCooled ≠ .por mv) ∧
    (∀ mv h, Instr.dieCooled ≠ .porRelease mv h) ∧ ∃ t, step (st (at_ .por)) = .next t :=
  ⟨rfl, nofun, nofun, _, rfl⟩

theorem meets_invariants : live.Calm ∧ live.MemWf := by decide +kernel

theorem meets_invariants_step : (st (at_ .por)).dev.Calm ∧ step (st (at_ .por)) = .next (st (at_ .por)) := ⟨rfl, rfl⟩

/-- VIO_LOST, a message of C1. -/
def warning : Word := 0x04010000

theorem meets_coded : live.Calm ∧ (at_ .por).collecting = false ∧ live.collecting = true ∧ live.classify warning ≠ .grave ∧
    live.faults.fifo.length < 64 ∧ live.classify warning = .warn ∧ live.classify 0x12070000 = .hold ∧ live.classify 0x11020000 = .note := by
  decide +kernel

theorem meets_grave : live.Calm ∧ live.collecting = true ∧ live.classify 0x0A050000 = .grave := by decide +kernel

/-- A collector with a full FIFO of messages of one class. -/
def fullOf (c : Cls) : Faults := { live.faults with fifo := List.replicate 64 (live.stamped warning c) }

theorem meets_bounds : live.faults.fifo.length ≤ 64 ∧ live.faults.fifo.length < 64 ∧ (fullOf .warn).fifo.length = 64 ∧
    (live.stamped warning .warn).cls.code ≤ 1 ∧ 2 ≤ (live.stamped warning .trip).cls.code ∧
    (∀ x ∈ (fullOf .trip).fifo, 2 ≤ x.cls.code) ∧
    (fullOf .warn).fifo = List.replicate 63 (live.stamped warning .warn) ++ live.stamped warning .warn :: [] := by decide +kernel

/-- One active entry of C1. -/
def entry : ActiveEntry :=
  { msg := warning, batch := 0, cls := .warn, occurrences := 1, ticket := 1, ledgerSeq := 0, read := false, time := 0 }

theorem meets_active : live.faults.active.length ≤ 32 ∧ (live.stamped warning .note).cls = .note ∧
    (live.stamped warning .warn).cls ≠ .note ∧ (∃ a ∈ [entry], a.msg = (live.stamped warning .warn).msg) ∧
    (∃ a ∈ [entry], a.cls.code ≤ 1) := by decide +kernel

/-- A message waits for the writer; in the second, its kind has used up its hour. -/
def oneWaits : Device := live.updFaults fun f => { f with fifo := [live.stamped warning .warn] }
def hourUsed : Device := oneWaits.updFaults fun f => { f with rates := [{ source := 4, kind := 1, written := 1000, suppressed := 0 }] }

theorem meets_ledger : oneWaits.Calm ∧ oneWaits.MemWf ∧ oneWaits.writerOn = true ∧
    oneWaits.faults.fifo = [live.stamped warning .warn] ∧ oneWaits.faults.lost = 0 ∧ oneWaits.faults.slot < 8192 ∧
    rateAllows (oneWaits.fn Fld.fltRate) (rateOf oneWaits.faults.rates 4 1) (live.stamped warning .warn) = true ∧
    warning.toNat / 2 ^ 16 ≠ 0x1301 ∧ oneWaits.faults.seq.toNat < 0xFFFFFFFE ∧ msgSource warning = 4 ∧ msgKind warning = 1 ∧
    rateAllows (hourUsed.fn Fld.fltRate) (rateOf hourUsed.faults.rates 4 1) (live.stamped warning .warn) = false := by decide +kernel

/-- RUN in a Batch that began at device time `t`. -/
def at_time (d : Device) (t : Nat) : Device := d.updBatch fun b => { b with time := t, edgeTime := t }

theorem meets_collector_times :
    ((at_time live 9999500).updFaults fun f => { f with active := [entry] }).faults.active.find?
      (fun x => x.msg == warning && decide (x.cls = .warn)) = some entry ∧
    (at_time live 9999500).Comes (entry.time + 10000000) ∧ (at_time live 9999500).reaches (entry.time + 10000000) = true ∧
    live.reaches (entry.time + 10000000) = false ∧ live.writerOn = true ∧ live.reaches (live.faults.hourStart + 3600000000) = false ∧
    (at_time live 3599999500).writerOn = true ∧ (at_time live 3599999500).Comes (live.faults.hourStart + 3600000000) ∧
    (∀ r ∈ live.faults.rates, r.suppressed = 0) := by decide +kernel

/-- Pair `p` treated as reporting fault, with separate wires. -/
def treated (d : Device) (p : Fin 24) : Device := d.pairWires p true false true

theorem meets_pairs : live.Calm ∧ (at_ .por).collecting = false ∧ live.collecting = true ∧
    ((treated live 6).faults.pairs.get 6).treated = true ∧ (live.faults.pairs.get 6).treated = false ∧
    (live.faults.pairs.get 18).treated = false ∧ (live.faults.pairs.get 19).treated = false ∧ live.dieAgain = false ∧
    ((live.updRail 0 fun h => { h with st := .proofed }).railSt 0).isOn = true ∧
    (treated live 14).pairCut 14 = false ∧ ((treated live 14).faults.pairs.get 14).treated = true ∧
    live.pairCut 14 = false ∧ live.pairCut 18 = false := by decide +kernel

/-! ### Power, resets, wake events and the Batch -/

theorem meets_por : (at_ .ship).power.phase = .ship ∧ (at_ .sealed).power.phase = .sealed ∧
    live.power.phase ≠ .ship ∧ live.power.phase ≠ .sealed ∧ live.power.phase ≠ .por ∧ (at_ .por).power.phase = .por ∧ (at_ .por).Calm ∧
    1500 ≤ (at_ .ship).power.aonMv ∧ base.power.aonMv < 1500 ∧
    ((at_ .sealed).updFaults fun f => { f with graveLow := true, graveWake := 1 }).faults.graveLow = true ∧
    ((at_ .sealed).updPath fun p => { p with dcValid := true }).path.dcValid = true ∧ (at_ .sealed).path.dcValid = false ∧
    ((at_ .sealed).updFaults fun f => { f with graveLow := true, graveWake := 1 }).faults.graveWake = 1 ∧
    (at_ .sealed).faults.graveWake ≠ 1 ∧ (at_ .sealed).faults.graveLow = false := by decide +kernel

theorem meets_brown_out : live.Calm ∧ (at_ .ship).power.phase = .ship ∧ (at_ .dark).power.phase = .dark ∧ live.collecting = true ∧
    live.power.phase ≠ .dark ∧ live.kin.synced = false ∧ live.priv.seqRun = none ∧ live.power.exitPeriod = none := by decide +kernel
/-- Straps and levels of form A and of form H. -/
def formH : StartSense := { good with vsysMv := 2400 }

/-- At the start gate. -/
def gate (test : Bool) : Device := (at_ .gate).updPower fun p => { p with testHigh := test, resetCause := 1 }
/-- At the gate with no working Starter ROM known. -/
def gateNoRom : Device := (gate false).updKeepers fun k => { k with a := base.keepers.a }

theorem meets_starts : (gate true).Calm ∧ live.power.phase ≠ .gate ∧
    (false = true ↔ (gate true).path.fet ≠ .off ∨ (gate true).path.dcValid = true ∨ 2200 ≤ formH.priMv) ∧ 2400 ≤ formH.vsysMv ∧
    (true = true ↔ (gate true).path.fet ≠ .off ∨ (gate true).path.dcValid = true ∨ 2200 ≤ ({ formH with priMv := 2200 } : StartSense).priMv) ∧
    ({ formH with vsysMv := 2399 } : StartSense).vsysMv < 2400 ∧ (gate true).power.phase = .gate ∧ (gate true).power.testHigh = true ∧
    gateNoRom.power.phase = .gate ∧ gateNoRom.power.testHigh = false ∧ gateNoRom.power.resetCause = 1 ∧
    ({ formH with romOkA := false, romOkB := false } : StartSense).romOkA = false ∧ gateNoRom.keepers.a.romOk = false ∧
    gateNoRom.keepers.b.romOk = false ∧ (gate false).power.exitPeriod = none ∧ live.power.phase ≠ .starting ∧
    (at_ .starting).power.phase = .starting ∧ (at_ .starting).sup.published = false := by decide +kernel

theorem meets_button : live.Calm ∧ (at_ .gate).isOpen = false ∧ live.power.btnFresh = false ∧ base.power.aonMv < 1500 ∧
    (live.updPower fun p => { p with btnFresh := true }).power.btnFresh = true ∧ live.isOpen = true ∧ 1500 ≤ live.power.aonMv ∧
    live.fn Fld.pwrBtnRestart ≠ 0 ∧ (withFld live Fld.pwrBtnRestart 0).fn Fld.pwrBtnRestart = 0 ∧ (at_ .gate).wakeInputs = false ∧
    live.power.phase = .open ∧ bit (live.updPower fun p => { p with wakeMask := 2, wakeArmed := true }).power.wakeMask 1 = true ∧
    (live.updPower fun p => { p with wakeArmed := true }).power.wakeArmed = true := by decide +kernel

/-- Wake sources armed: every source, an alarm 1 s after LODGE began at 0, at 999,500 µs. -/
def armed (p : Phase) : Device :=
  (at_time (at_ p) 999500).updPower fun x => { x with
    wakeArmed := true, wakeMask := 31, wakeAlarm := 1, lodgeStart := 0, wakeCause := 5, exitPeriod := some 32751 }
theorem meets_wake : (armed .lodgeDown).Calm ∧ (armed .lodgeDown).power.phase = .lodgeDown ∧ (armed .lodgeDown).power.wakeArmed = true ∧
    (armed .lodgeDown).power.wakeAlarm ≠ 0 ∧
    (armed .lodgeDown).Comes ((armed .lodgeDown).power.lodgeStart + 1000000 * (armed .lodgeDown).power.wakeAlarm) ∧
    (armed .lodgeDown).wakeInputs = true ∧ bit (armed .lodgeDown).power.wakeMask 0 = true ∧
    (armed .lodge).power.phase = .lodge ∧ (withFld (armed .lodge) Fld.pwrCmp0 1).cmpOn 0 = true ∧
    (withFld (armed .lodge) Fld.pwrCmp1 1).cmpOn 1 = true ∧ bit (armed .lodge).power.wakeMask 3 = true ∧
    bit (armed .lodge).power.wakeMask 4 = true ∧ (armed .gate).power.phase = .gate ∧
    (armed .gate).power.exitPeriod = some ((armed .gate).now * 512 / 15625) ∧ 2 < (armed .gate).power.wakeCause ∧
    (armed .lodge).batch.timeFrac < 512 ∧
    (armed .lodge).now ≤ (armed .lodge).power.lodgeStart + 1000000 * (armed .lodge).power.wakeAlarm ∧
    live.power.wakeArmed = false := by decide +kernel

theorem meets_vio_crystal : live.Calm ∧ base.pins.vioGood = false ∧ live.pins.vioGood = true ∧ live.collecting = true ∧
    (at_ .por).collecting = false ∧ (at_ .por).pins.vioGood = true ∧ live.faults.fifo.length < 64 ∧ (at_ .por).power.phase.silent = true ∧
    live.power.phase.batchRuns = true ∧ live.power.phase.silent = false ∧ (at_ .lodge).power.phase.silent = false ∧
    (at_ .lodge).power.phase.batchRuns = false ∧ live.batch.xtalQualified = false ∧ live.power.phase ≠ .lodge ∧
    (live.updBatch fun b => { b with xtalQualified := true }).batch.xtalQualified = true ∧ (at_ .lodge).power.phase = .lodge ∧
    (live.updBatch fun b => { b with mode := .disciplined }).batch.mode = .disciplined ∧
    live.batch.divider - live.batch.divider / 10000 ≤ 48000000 ∧ 48000000 ≤ live.batch.divider + live.batch.divider / 10000 := by
  decide +kernel

/-- At the last instant of Batch 0. -/
def restarting : Device := (idle live).updPriv fun p => { p with restart := some (0, 3) }
def lodging : Device := (idle live).updPriv fun p => { p with lodge := some { batch := 0, alarm := 0, mask := 1, forced := true } }
def shipping : Device := (at_time (idle live) 1000000000).updPriv fun p => { p with shipArmed := true }

theorem meets_edge : (at_ .lodge).power.phase.batchRuns = false ∧ live.power.phase = .open ∧
    (restarting.atEdge good).isOpen = true ∧ (restarting.atEdge good).Calm ∧ (restarting.atEdge good).restartDue = some 3 ∧
    (lodging.atEdge good).isOpen = true ∧ (lodging.atEdge good).Calm ∧ (lodging.atEdge good).restartDue = none ∧
    (lodging.atEdge good).lodgeDue = true ∧ (shipping.atEdge good).isOpen = true ∧ (shipping.atEdge good).Calm ∧
    (shipping.atEdge good).restartDue = none ∧ (shipping.atEdge good).lodgeDue = false ∧
    (shipping.atEdge good).shipDue (shipping.atEdge good).now = true ∧
    ((idle live).atEdge good).isOpen = true ∧ ((idle live).atEdge good).Calm ∧ ((idle live).atEdge good).restartDue = none ∧
    ((idle live).atEdge good).lodgeDue = false ∧
    ((idle live).atEdge good).shipDue ((idle live).atEdge good).now = false ∧
    (((idle live).atEdge good).arbiterEdge good).2.isOpen = true ∧ (((idle live).atEdge good).arbiterEdge good).2.Calm := by decide +kernel

theorem meets_lodge_ship : lodging.priv.lodge = some { batch := 0, alarm := 0, mask := 1, forced := true } ∧ lodging.Calm ∧
    lodging.power.wakeArmed = false := by decide +kernel

/-- A rail vote of a hold period that ends with Batch 0, a gating that ends at 500, and a scheduled vote with its record. -/
def rid (n : RoomId) : ReqId := { room := n, tag := 7, seq := 1 }
def rec_ (n : RoomId) (op : Nat) (wait : List Nat) : Rec :=
  { id := rid n, opcode := op, flags := 0, len := 0, fp := 0, args := none, held := false, st := .waiting, intent := .none, takenBatch := 0,
    execBatch := some 0, compl := none, producedTime := 0, index := 0, postedAt := none, wait := wait, late := false, busy := false, slot := 0,
    block := 0, ecc := none }
def withRec (d : Device) (r : Rec) : Device := d.updReqs fun q => { q with recs := [r] }
def sched (en : Bool) : Sched := { id := rid 0, rail := 2, enable := en, mv := 1800, code := 0, batch := 0 }

theorem meets_edges_end : (live.updPower fun p => { p with bootFloor := true }).power.bootFloor = true ∧
    live.power.bootFloorEnd ≤ live.batch.number.toNat ∧ (withRec rooms (rec_ 0 0x103 [])).findRec (sched true).id = some (rec_ 0 0x103 []) ∧
    (sched true).enable = true ∧ (sched false).enable = false ∧ 3700 ≥ 10 * live.fn Fld.pathBatRecover ∧
    (live.updPath fun p => { p with fetReady := true }).fetMayClose live.now = true := by decide +kernel

/-- The guest watchdog of Room 1 at a step of its ladder. -/
def gwdAt (k : Nat) : Device := rooms.updPriv fun p => { p with gwds := vput p.gwds 1 { t := 1000, deadline := 1000, step := k } }

theorem meets_gwd : (gwdAt 0).Calm ∧ (gwdAt 0).collecting = true ∧ ((gwdAt 0).priv.gwds.get 1).step = 0 ∧ ((gwdAt 0).rooms.get 1).st ≠ .closed ∧
    ((gwdAt 1).priv.gwds.get 1).step = 1 ∧ 2 ≤ ((gwdAt 2).priv.gwds.get 1).step := by decide +kernel

/-- A Recipe whose sequence 0 begins with one step: its kind, rail and value. -/
def withStep (op rail value : Int) : Device := withFld live Fld.seqSteps (op + 256 * rail + 256 ^ 4 * value)
/-- A run of sequence 0 at its first step, reached at `t`. -/
def runAt (t : Option Nat) : SeqRun :=
  { num := 0, origin := .guest (rid 0), pc := 0, reached := t, failed := 0, failStep := none, placed := [], steps := 0, skips := false,
    unwinding := none }

theorem meets_sequences : ((withStep 5 0 10).seqStep 0 0).op = .delay ∧ (runAt none).reached = none ∧ (runAt (some 5)).reached = some 5 ∧
    5 + 1000 * ((withStep 5 0 10).seqStep 0 0).value ≤ 10005 ∧ 10004 < 5 + 1000 * ((withStep 5 0 10).seqStep 0 0).value ∧
    ((withStep 3 2 10).seqStep 0 0).op = .waitPg ∧ (runAt none).failed.getLsbD ((withStep 3 2 10).seqStep 0 0).rail.val = false ∧
    (((withStep 3 2 10).updRails fun b => { b with seen := vput b.seen 2 { (b.seen.get 2) with st := .proofed } }).rails.seen.get
      ((withStep 3 2 10).seqStep 0 0).rail).st = .proofed ∧
    ((withStep 3 2 10).rails.seen.get ((withStep 3 2 10).seqStep 0 0).rail).st ≠ .proofed ∧
    ((withStep 3 2 10).rails.seen.get ((withStep 3 2 10).seqStep 0 0).rail).st ≠ .held ∧
    ((withStep 3 2 10).updVotes fun _ => [{ holder := .room 0, rail := 2, mv := 1800, code := 0 }]).votedOn 2 = true ∧
    ((withStep 3 2 10).seqStep 0 0).rail = 2 ∧
    ((withStep 2 2 0).seqStep 0 0).op = .disable ∧ ((withStep 1 2 0).seqStep 0 0).op = .enable ∧ (runAt none).failed = 0 := by
  decide +kernel

/-- A burst entry armed for Batch 1. -/
def burstEntry : BurstEntry := { batch := 1, len := 5, mv := 3300, policy := .slide, sched := 1000, slip := 0, st := .armed }

theorem meets_edge_events : live.Calm ∧ (restarting.isOpen && restarting.restartDue.isSome) = true ∧ live.restartDue.isSome = false ∧
    (live.updPower fun p => { p with bootFloor := true }).power.bootFloor = true ∧ live.power.bootFloorEnd ≤ live.batch.number.toNat + 1 ∧
    lodging.lodgeDue = true ∧ shipping.shipDue shipping.batch.nextEdge = true ∧
    (live.updVotes fun _ => [{ holder := .hold 1, rail := 2, mv := 1800, code := 0 }]).holdDue 1 = true ∧ ((gwdAt 0).priv.gwds.get 1).t ≠ 0 ∧
    ((gwdAt 0).priv.gwds.get 1).deadline ≤ (gwdAt 0).batch.nextEdge ∧
    (((live.updWd fun w => { w with gating := [{ room := 1, rail := 2, ends := some 1000, chosen := true }] }).wd.gating.any fun g =>
      g.rail == 2 && (match g.ends with | some e => decide (e ≤ live.batch.nextEdge) | none => false)) = true) ∧
    ([sched true].any fun x => x.id == rid 0 && decide (x.batch ≤ live.batch.number.toNat + 2)) = true ∧ live.power.phase ≠ .starting ∧
    ((withStep 5 0 0).updPriv fun p => { p with seqRun := some (runAt (some 0)) }).seqStepDue [.delay] 1000 = true ∧
    ((withStep 3 2 0).updPriv fun p => { p with seqRun := some (runAt (some 0)) }).seqStepDue [.waitPg, .waitLow] 1000 = true ∧
    (withRec live { rec_ 0 0x910 [0] with args := some [2] }).stagedRecs 0x910 ≠ [] ∧
    (at_time live 899999500).priv.larder.binAt (at_time live 899999500).batch.nextEdge ≠ (at_time live 899999500).priv.larder.curBin ∧
    (live.updBurst fun b => { b with first := some burstEntry }).burstNext = true ∧
    (live.updSec fun x => { x with attach := true, level := .auth, retryAt := some 1000 }).attachNext = true := by decide +kernel

theorem meets_marks : live.Calm ∧ (at_ .lodge).power.phase.batchRuns = false ∧ (passed live).sup.budgetPassed = true ∧
    live.power.phase.batchRuns = true ∧ live.sup.budgetPassed = false ∧ live.batch.time ≤ live.budgetTime ∧
    (idle live).sup.stage = .idle ∧ (idle live).sup.workDone = true ∧
    (live.updSup fun x => { x with stage := .idle }).sup.stage = .idle ∧
    (live.updSup fun x => { x with stage := .idle }).sup.workDone = false ∧ live.sup.overrunReported = false ∧
    live.activeHalted = false ∧ live.sup.haltCut = false ∧ live.faults.fifo.length < 64 ∧ (passed live).sup.deadlinePassed = true ∧
    (idle ((live.moveTo 700).updSup fun x => { x with budgetPassed := true })).sup.deadlinePassed = false ∧
    (idle ((live.moveTo 700).updSup fun x => { x with budgetPassed := true })).sup.budgetPassed = true ∧
    (live.moveTo 700).batch.time ≤ live.deadlineTime ∧ live.batch.bubble = none ∧ live.sup.committed = false ∧
    1 ≤ (live.updSup fun x => { x with missed := 1 }).sup.missed := by decide +kernel

/-! ### Links, the digest engine and waiting work -/

/-- Rings of Room 0: `SQ_HEAD` 0, `SQ_TAIL` 2, `CQ_HEAD` 0, `CQ_TAIL` 3. -/
def rings : Device := rooms.updRoom 0 fun r => { r with sqTail := 2, cqTail := 3 }

/-- Occupancies at their limits: 2 and 32 are legal for `SQ_TAIL`, 1 and 33 are not; 3 is legal for `CQ_HEAD`, 4 is not. -/
theorem meets_doorbells : rings.Calm ∧ rings.Reaches .spi 0 ∧ (rings.rooms.get 0).sqUsed = 2 ∧ (rings.rooms.get 0).cqUsed = 3 ∧
    ((2 - (rings.rooms.get 0).sqHead : Byte).toNat ≤ 32 ∧ (rings.rooms.get 0).sqUsed ≤ (2 - (rings.rooms.get 0).sqHead : Byte).toNat) ∧
    ((32 - (rings.rooms.get 0).sqHead : Byte).toNat ≤ 32 ∧ (rings.rooms.get 0).sqUsed ≤ (32 - (rings.rooms.get 0).sqHead : Byte).toNat) ∧
    ¬ ((33 - (rings.rooms.get 0).sqHead : Byte).toNat ≤ 32) ∧
    ¬ ((rings.rooms.get 0).sqUsed ≤ (1 - (rings.rooms.get 0).sqHead : Byte).toNat) ∧
    ((3 - (rings.rooms.get 0).cqHead : Byte).toNat ≤ (rings.rooms.get 0).cqUsed) ∧
    (rings.rooms.get 0).cqUsed < (4 - (rings.rooms.get 0).cqHead : Byte).toNat ∧ (rings.rooms.get 0).st ≠ .closed := by decide +kernel

theorem meets_slots : rings.MemWf ∧ 0x200 + [1, 2].length ≤ 0xA00 ∧ (rings.rooms.get 0).slotClash 0x200 [1, 2] = true ∧
    (rings.rooms.get 0).slotClash 0x23F [1, 2] = true ∧ (rings.rooms.get 0).slotClash 0x280 [1, 2] = false ∧
    (rings.rooms.get 0).slotClash 0x9FE [1, 2] = false := by decide +kernel

theorem meets_frames : rings.Calm ∧ rings.Reaches .spi 0 ∧ rings.fn Fld.linkSpiCrc = 0 ∧ ([1, 2, 3] : List Byte).length = 1 + 2 ∧
    (passed (rings.moveTo 1000)).atTick = true ∧ rings.atTick = false ∧ (at_ .gate).atTick = false ∧
    (at_ .gate).portActive .spi = false ∧ (at_ .gate).portActive .i2c = false ∧ (0x10 : Byte).toNat / 2 ≠ live.fn Fld.linkI2cAddr ∧
    live.portActive .i2c = true ∧ base.portActive .uart = false ∧
    ((at_ .romSafeHold).updPath fun p => { p with dcValid := true }).portActive .uart = true ∧
    ((at_ .romSafeHold).updPath fun p => { p with dcValid := true }).atTick = false ∧ 0 < ([1, 2, 3] : List Byte).length ∧
    ([1, 2, 3] : List Byte).length < 4 := by decide +kernel

/-- Room 0 holds the engine by a claim; in the second, a PLAIN message runs. -/
def claimed : Device := rooms.updDig fun g => { g with claim := 0 }
def digesting : Device := claimed.updDig fun g => { g with running := true }
/-- Key slot 2 is allotted to Room 0, and loaded in the second. -/
def keyed : Device := withFld claimed Fld.roomKeys 4
def keyLoaded : Device := keyed.updKeys fun k => { k with slots := k.slots.set 2 (some (slotKeys (List.replicate 32 1))) }

theorem meets_claims : rooms.Calm ∧ rooms.Reaches .spi 0 ∧ (0 : Byte).toNat = (0 : RoomId).val ∧ (rooms.rooms.get 0).st = .opened ∧
    rooms.hasFeature 0 8 = true ∧ rooms.dig.claim = 0xFF ∧ rooms.dig.resv = false ∧ claimed.dig.claim ≠ 0xFF ∧
    claimed.dig.guest = some 0 ∧ claimed.Reaches .spi 1 ∧ (0 : RoomId) ≠ 1 := by decide +kernel

theorem meets_messages : claimed.Calm ∧ claimed.Reaches .spi 0 ∧ claimed.dig.guest = some 0 ∧
    keyLoaded.dig.guest = some 0 ∧ keyLoaded.mayKey 0 2 = true ∧ (keyLoaded.keys.slots.get 2).isSome = true ∧
    claimed.mayKey 0 2 = false ∧ keyed.mayKey 0 2 = true ∧ keyed.keys.slots.get 2 = none ∧ digesting.dig.running = true ∧
    claimed.dig.running = false ∧ 0xEC0 + [1].length ≤ 0xF00 ∧ 0xEFF + [1].length ≤ 0xF00 ∧ digesting.dig.resv = false ∧
    digesting.dig.hmac = false ∧ digesting.dig.err = 0 ∧ (digesting.updDig fun g => { g with err := 1 }).dig.err = 1 ∧
    2 ≤ (digesting.updDig fun g => { g with err := 2 }).dig.err := by decide +kernel

/-- A part of Room 0's message 5, and a waiting `ADC_READ`. -/
def part : Rec := { rec_ 0 0x601 [0] with len := 8, args := some [0, 0, 0, 0, 5, 0, 0, 0], held := true }
def reading : Rec := rec_ 0 0x502 [0, 0, 500]

theorem meets_waits : claimed.Calm ∧ claimed.dig.guest = some 0 ∧ claimed.dig.resv = false ∧
    (at_time claimed (1000 * claimed.fn Fld.digClaimIdle)).Comes (claimed.dig.lastWrite + 1000 * claimed.fn Fld.digClaimIdle) ∧
    (at_time claimed (10000 * claimed.fn Fld.digClaimMax)).Comes (claimed.dig.claimTime + 10000 * claimed.fn Fld.digClaimMax) ∧
    (rooms.updKeys fun k => { k with loading := some (rid 0, 2, none) }).keys.loading = some (rid 0, 2, none) ∧
    ((withRec (at_time rooms 10000000) part).parts 0 5).head? = some part ∧
    wholeMessage ((withRec (at_time rooms 10000000) part).parts 0 5) = false ∧
    (withRec (at_time rooms 10000000) part).Comes (part.wait.getD 0 0 + 10000000) ∧
    (withRec rooms reading).findRec (rid 0) = some reading ∧ reading.opcode = 0x502 ∧ reading.st = .waiting ∧
    (withRec rooms reading).Comes (reading.wait.getD 2 0) := by decide +kernel

theorem meets_writes_stay : rings.Calm ∧ rings.MemWf ∧ rings.atTick = false ∧ (1 : RoomId) ≠ 0 ∧ exec (.sqTailWrite .spi 0 3) (st rings) =
    .next (st (after (.sqTailWrite .spi 0 3) rings)) := ⟨by decide +kernel, by decide +kernel, by decide +kernel, by decide, rfl⟩

/-- A header of Room 0. -/
def hdr (op : Nat) : Hdr := Req.hdr (reqOf 0 0 []) op

theorem meets_intake : rooms.MemWf ∧ (hdr 2).id.room = 0 ∧ (rooms.rooms.get 0).cqUsed + rooms.waitingOf 0 < 64 ∧ rooms.waitingOf 0 = 0 ∧
    ({ hdr 2 with crcOk := false } : Hdr).wellFormed = false ∧ ({ hdr 2 with len := 57 } : Hdr).wellFormed = false ∧
    ({ hdr 2 with len := 56 } : Hdr).wellFormed = true ∧ (hdr 2).opcode ≠ 0 ∧ (live.rooms.get 0).st ≠ .opened ∧
    (hdr 2).wellFormed = true ∧ (rooms.rooms.get 0).st = .opened ∧ (rooms.rooms.get 0).closing = none ∧
    ((withRec rooms (rec_ 0 2 [])).reqs.recs.filter fun x => x.id.room == 0 && x.id.tag == 7).find? (fun x => x.st ≠ .done) =
      some (rec_ 0 2 []) ∧ rooms.dedupAnswer (hdr 2) (fingerprint (hdr 2)) = none ∧ rooms.romHold = false ∧
    quotaFree 0x600 = false ∧ (rooms.updRoom 0 fun r => { r with quota := 0 }).held 0 = 0 ∧ rooms.held 0 < (rooms.rooms.get 0).quota ∧
    (cmdOf 0xFFF).isNone = true ∧
    (cmdOf 0x600).isSome = true ∧ ((cmdOf 0x600).bind fun c => c.check rooms (hdr 0x600)).isSome = true := by decide +kernel

/-! ### Keepers and images -/

/-- Both keepers up: A ACTIVE, B STANDBY_HOT; and B as it fails for the third time. -/
def both : Device := live.updKeepers fun k => { k with b := { k.a with role := .standbyHot, slot := some 1 } }
def bFailed : Device := both.updKeepers fun k => { k with b := { k.b with failTimes := [0, 0] } }

theorem meets_keeper_failure : both.Calm ∧ both.Caught ∧ both.isOpen = true ∧ both.ladderTwo .a = false ∧ both.ladderTwo .b = false ∧
    (both.keeper .b).role ≠ .quarantined ∧ (both.keeper .a).role ≠ .quarantined ∧ both.activeKeeper = some .a ∧
    (both.keeper .a).role = .active ∧ both.standbyAble = true ∧ (both.keeper .b).role.able = true ∧ (both.keeper .b).failTimes = [] ∧
    (bFailed.keeper .b).failTimes = 0 :: 0 :: [] ∧ bFailed.now ≤ 0 + 86400000000 ∧ bFailed.ladderTwo .b = false ∧
    (at_time bFailed 86400000001).Caught ∧ 0 + 86400000000 < (at_time bFailed 86400000001).now := by decide +kernel

/-- Keeper B restarts, or is under test. -/
def bRestarts : Device := both.updKeepers fun k => { k with b := { k.b with role := .offline, offUse := .restarting } }
def bTested : Device := both.updKeepers fun k => { k with b := { k.b with role := .offline, offUse := .selfTest } }

theorem meets_keepers_return : bRestarts.Calm ∧ bRestarts.isOpen = true ∧ (bRestarts.keeper .b).offUse = .restarting ∧
    bRestarts.keeperPairs .b = false ∧ bRestarts.engineIdle = true ∧ (bRestarts.bootSlots .b (bRestarts.bootOrder .b true)).1 = none ∧
    (bRestarts.updDig fun g => { g with claim := 0 }).engineIdle = false ∧ (both.keeper .b).offUse ≠ .restarting ∧
    (withFld both Fld.kprSelftest 24).fn Fld.kprSelftest ≠ 0 ∧ both.Comes both.keepers.selfTestDue ∧
    (withFld both Fld.kprSelftest 0).fn Fld.kprSelftest = 0 ∧ bTested.testedKeeper = some .b ∧
    bTested.now ≤ bTested.keepers.selfTestStart + 50000 ∧
    (at_time bTested 50001).keepers.selfTestStart + 50000 < (at_time bTested 50001).now ∧ both.testedKeeper = none := by decide +kernel
/-- Rail 2 in a state since 0, with its setpoint reached, in RUN at 50,000 µs. -/
def railAt (x : RailSt) : Device :=
  (at_time live 50000).updRail 2 fun h => { h with st := x, mv := 1800, ref0 := 1800 }

/-- A slot is accepted wherever the signature check, which no kernel evaluates, passes: its verdict is then 0. -/
theorem meets_accepted_slot (d : Device) (n : Nat) (h : d.imgVerdict n = 0) : (d.bootSlots .b [(n, false)]).1 = some n := by
  simp [Device.bootSlots, h]

/-- Watchdogs of keeper A counting: its window open and closed, and in the Starter ROM. -/
def wdOpen : Device := live.updKwd .a fun w => { w with mode := .counting, count := 128 }
def wdClosed : Device := live.updKwd .a fun w => { w with mode := .counting, count := 127 }
def wdRom : Device := (at_time live 11999500).updKwd .a fun w => { w with mode := .rom 0 }

theorem meets_keeper_wd : wdOpen.Calm ∧ wdOpen.isOpen = true ∧ wdOpen.wdWrites .a = true ∧ (wdOpen.kwd .a).isOpen = true ∧
    wdClosed.wdWrites .a = true ∧ (wdClosed.kwd .a).isOpen = false ∧ (wdOpen.kwd .a).mode = .counting ∧ (wdRom.kwd .a).mode = .rom 0 ∧
    wdRom.Comes (0 + 12000000) := by decide +kernel

/-- A stage for keeper B's slot 3 and a Recipe write, with their erases. -/
def stage : Stage := { keeper := .b, slot := 3, total := 400, written := [], lastUse := 0 }
def rcpWrite : RcpWrite := { slot := 2, total := 400, written := [], lastUse := 0 }
def staging : Device := ((at_time live 59999500).updImages fun i => { i with stage := some stage }).updRcp fun r => { r with write := some rcpWrite }
def dataRec : Rec := { rec_ 0 0x910 [0] with args := some ([2, 1, 4, 0, 8, 0, 0, 0] ++ [1, 2, 3, 4]) }

theorem meets_stages : staging.Calm ∧ (live.updImages fun i => { i with erasing := some stage }).images.erasing = some stage ∧
    live.romHold = false ∧ staging.images.stage = some stage ∧ staging.Comes (stage.lastUse + 60000000) ∧
    (live.updRcp fun r => { r with erasing := some (rcpWrite, rid 0) }).rcp.erasing = some (rcpWrite, rid 0) ∧
    staging.rcp.write = some rcpWrite ∧ staging.Comes (rcpWrite.lastUse + 60000000) ∧ live.images.erasing = none ∧
    live.images.stage = none ∧ live.rcp.erasing = none ∧ live.rcp.write = none ∧ staging.MemWf ∧
    (withRec staging dataRec).stagedRecs 0x910 = [dataRec] ∧ dataRec.wait.getD 0 0 = 0 ∧ dataRec.staged.2.length ≤ 256 ∧
    dataRec.staged = (8, [1, 2, 3, 4]) := by decide +kernel

/-! ### Rails and the power path -/

/-- Rail `r` in a state. -/
def rail (r : RailId) (x : RailSt) : Device := live.updRail r fun h => { h with st := x }
/-- Rail 2's target enabled. -/
def wanted : Device := live.updActive fun t => { t with rails := vput t.rails 2 { en := true, mv := 1800, ilim := 25 } }
def vote (r : RailId) (mv code : Nat) : Vote := { holder := .room 0, rail := r, mv := mv, code := code }

theorem meets_votes : (∀ v ∈ [vote 1 1800 0], v.rail ≠ 2) ∧ (vote 2 1800 4).rail = 2 ∧ (vote 2 1800 4).code ≠ 0 ∧
    (∀ w ∈ [vote 2 1800 0], w.rail = 2 → w.code = 0) ∧ settable 2 = true ∧ (vote 2 1800 0).mv ≤ live.fn Fld.railVmax 2 := by decide +kernel

theorem meets_rail_edge : (rail 2 .held).railSt 2 = .held ∧ live.railSt 2 = .off ∧ (live.railTarget 2).en = false ∧
    (wanted.railTarget 2).en = true ∧ wanted.supplyOk 2 = true ∧ wanted.faults.dieHot = false ∧
    (rail 2 .tripped).railSt 2 = .tripped ∧
    ((rail 2 .tripped).updRail 2 fun h => { h with retryAt := 1001 }).retryReady 1000
      (((rail 2 .tripped).updRail 2 fun h => { h with retryAt := 1001 }).rails.rails.get 2) = false ∧
    ((rail 2 .tripped).updRail 2 fun h => { h with retryAt := 1000 }).retryReady 1000
      (((rail 2 .tripped).updRail 2 fun h => { h with retryAt := 1000 }).rails.rails.get 2) = true ∧
    ((rail 2 .tripped).railTarget 2).en = false ∧ ((rail 2 .proofed).railSt 2).isOn = true ∧ ((rail 2 .proofed).railTarget 2).en = false ∧
    ((wanted.updRail 2 fun h => { h with st := .proofed }).railSt 2).isOn = true ∧
    (live.updWd fun w => { w with gating := [{ room := 1, rail := 2, ends := some 5, chosen := true }] }).gated 2 = true := by decide +kernel

theorem meets_rail_events : (railAt .proofing).Calm ∧ (railAt .sagging).railSt 2 = .sagging ∧
    (railAt .sagging).aboveRising 2 (max (railAt .sagging).now (0 + (railAt .sagging).pgHold 2) - (railAt .sagging).pgHold 2) 1656 = true ∧
    (railAt .sagging).aboveRising 2 (max (railAt .sagging).now (0 + (railAt .sagging).pgHold 2) - (railAt .sagging).pgHold 2) 1655 = false ∧
    (railAt .sagging).Meets (0 + (railAt .sagging).pgHold 2) ∧ (at_time (railAt .proofing) 0).railSt 2 = .proofing ∧
    max (at_time (railAt .proofing) 0).now (0 + (railAt .proofing).pgHold 2) - (railAt .proofing).pgHold 2 ≤
      0 + (railAt .proofing).proofUs 2 ∧
    (at_time (railAt .proofing) 0).aboveRising 2 0 1656 = true ∧ (at_time (railAt .proofing) 0).Meets (0 + (railAt .proofing).pgHold 2) ∧
    live.railSt 2 ≠ .proofing ∧ live.railSt 2 ≠ .sagging := by decide +kernel
theorem meets_rail_trips :
    (at_time (railAt .proofing) 0).failsBy 2 .halfWindow ((at_time (railAt .proofing) 0).failAt 2 .halfWindow) 539 = true ∧
    (at_time (railAt .proofing) 0).failsBy 2 .halfWindow ((at_time (railAt .proofing) 0).failAt 2 .halfWindow) 540 = false ∧
    (passed (at_time (railAt .proofing) 0)).Meets ((at_time (railAt .proofing) 0).failAt 2 .halfWindow) ∧
    (railAt .proofed).railSt 2 = .proofed ∧ ((railAt .proofed).rails.rails.get 2).inLimit = false ∧
    (railAt .proofed).belowFalling 2 (railAt .proofed).now 1583 = true ∧ (railAt .proofed).belowFalling 2 (railAt .proofed).now 1584 = false ∧
    (railAt .proofed).Meets (max (railAt .proofed).now (0 + 20)) ∧ (railAt .proofed).collecting = true ∧
    (railAt .proofed).faults.fifo.length < 60 ∧ ((railAt .proofed).railSt 2).inService = true ∧
    (railAt .proofed).Meets (max (railAt .proofed).now (0 + foldUs 2)) ∧ (∀ x, (railAt .proofed).supplyOf x ≠ some 2) ∧
    ((railAt .proofed).railSt 2).isOn = true ∧ (railAt .proofed).overTop 2 (railAt .proofed).now 1981 = true ∧
    (railAt .proofed).Meets (max (railAt .proofed).now (0 + 10)) ∧ sensorOf 0 = some 0 ∧ ((rail 0 .proofed).railSt 0).isOn = true ∧
    (at_ .por).collecting = false := by decide +kernel

theorem meets_rail_delays : live.Calm ∧ (rail 2 .tripped).railSt 2 = .tripped ∧ (rail 2 .tripped).Meets ((rail 2 .tripped).rails.rails.get 2).retryAt ∧
    live.railSt 2 ≠ .tripped ∧ (at_time (rail 2 .proofed) 9999500).railSt 2 = .proofed ∧
    (at_time (rail 2 .proofed) 9999500).Meets (((rail 2 .proofed).rails.rails.get 2).since + 10000000) ∧ live.railSt 2 ≠ .proofed ∧
    (live.updRails fun b => { b with thermWarn := 1 }).rails.thermWarn.getLsbD 0 = true ∧ live.collecting = true ∧
    live.rails.thermWarn.getLsbD 0 = false ∧ sensorOf 0 = some 0 ∧ ((rail 3 .proofed).railSt 3).isOn = true ∧
    (withFld live Fld.paSrc 0).fn Fld.paSrc = 0 ∧ (live.railSt 3).isOn = false ∧ (withFld live Fld.paSrc 1).fn Fld.paSrc ≠ 0 := by decide +kernel

/-- A valid dock, with detection ended at a code. -/
def dock (code : Nat) : Device := live.updPath fun p => { p with dcValid := true, dock := code }
def path (f : Path → Path) : Device := live.updPath f

theorem meets_dock : (dock 1).Calm ∧ (dock 1).path.dcValid = true ∧ live.path.dcValid = false ∧ (at_ .ship).power.phase = .ship ∧
    (at_ .sealed).power.phase = .sealed ∧ (path fun p => { p with dcOv := true }).path.dcOv = true ∧ live.path.dcOv = false ∧ 6800 < 6801 ∧
    live.collecting = true ∧ live.pairCut 17 = false ∧ (dock 1).path.dock = 1 ∧
    (at_time (dock 1) 149500).Meets ((dock 1).path.dcSince + dockTime 8) ∧ (dock 2).path.dock ≠ 1 ∧ (dock 2).path.bcResult = none ∧
    ((dock 2).updPath fun p => { p with bcResult := some 4 }).path.bcResult = some 4 := by decide +kernel

theorem meets_fet : live.Calm ∧ (path fun p => { p with vsysOv := true }).path.vsysOv = true ∧ (at_ .por).powered = false ∧
    live.path.vsysOv = false ∧ live.powered = true ∧ live.pairCut 16 = false ∧
    (path fun p => { p with fet := .supply }).fetWatched = true ∧ (path fun p => { p with fet := .supply }).path.dcValid = false ∧
    10 * live.fn Fld.pathBatUv - 1 < 10 * live.fn Fld.pathBatUv ∧ 10 * live.fn Fld.pathBatRecover ≤ 10 * live.fn Fld.pathBatRecover ∧
    live.fetWatched = false ∧ live.path.fet = .off ∧ live.isOpen = true ∧ (path fun p => { p with fet := .supply }).path.fet ≠ .off ∧
    ((path fun p => { p with ocHeld := true, fetReady := true }).fetMayClose live.batch.nextEdge = false) ∧
    ((path fun p => { p with fetReady := true }).fetMayClose live.batch.nextEdge = true) ∧ 5 < 6 := by decide +kernel

/-- The primary reserve present, with a pulse running or a repeat due. -/
def reserve (f : Path → Path) : Device := (withFld (at_time live 999500) Fld.priPresent 1).updPath f
def pulse : Pulse := { req := some (rid 0), start := 0, before := 3000, ma := 10, ms := 1000, rep := false }

theorem meets_reserve : live.Calm ∧ live.path.priInUse = false ∧ (path fun p => { p with priInUse := true }).path.priInUse = true ∧
    0 < 10 * live.fn Fld.priVmin ∧ (reserve fun p => { p with pulseAt := 1000000 }).isOpen = true ∧
    (reserve fun p => { p with pulseAt := 1000000 }).pulseFree = true ∧ (reserve id).fn Fld.priPresent = 1 ∧
    (reserve fun p => { p with priInUse := true, pulseAt := 1000000 }).pulseFree = false ∧
    (reserve fun p => { p with pulseAt := 1000000 }).path.repeatAt = none ∧ (reserve id).fn Fld.priPulseH ≠ 0 ∧
    (reserve fun p => { p with pulseAt := 1000000 }).Meets 1000000 ∧
    (reserve fun p => { p with repeatAt := some (1000000, 10, 100) }).path.repeatAt = some (1000000, 10, 100) ∧
    (reserve fun p => { p with pulse := some pulse }).path.pulse = some pulse ∧ live.path.pulse = none ∧
    (reserve fun p => { p with pulse := some pulse }).Meets (pulse.start + 1000 * pulse.ms) ∧ pulse.req = some (rid 0) := by decide +kernel

/-- PV and the reservoir present. -/
def pvOnly : Device := withFld live Fld.pvPresent 1
def resOnly (f : Path → Path) : Device := (withFld live Fld.resPresent 1).updPath f

theorem meets_pv_reservoir : live.Calm ∧ pvOnly.powered = true ∧ pvOnly.fn Fld.pvPresent = 1 ∧ pvOnly.pvInForce.1 = .focv ∧
    (at_time pvOnly 3500).Meets (pvOnly.path.pvAt + 4000) ∧
    (at_ .por).powered = false ∧ (withFld live Fld.pvPresent 0).fn Fld.pvPresent ≠ 1 ∧
    (pvOnly.updActive fun t => { t with pvMode := .off }).pvInForce.1 ≠ .focv ∧ (at_ .por).power.phase = .por ∧ live.power.phase ≠ .por ∧
    (withFld live Fld.resPresent 0).resWatched = false ∧ (resOnly id).resWatched = true ∧ (resOnly id).path.resImbal = false ∧
    (resOnly id).showsOpen ((resOnly id).resOff (10 * (0 : Half).toNat) || (resOnly id).resOff (10 * (0 : Half).toNat + 9)) = false ∧
    (resOnly id).showsOpen ((resOnly id).resOff (10 * (300 : Half).toNat) || (resOnly id).resOff (10 * (300 : Half).toNat + 9)) = true ∧
    (resOnly fun p => { p with resImbal := true }).path.resImbal = true ∧ (resOnly id).pairCut 18 = false ∧
    (resOnly id).showsOpen (!(resOnly id).resOff (resOnly id).sample.capmMv) = true ∧
    (resOnly id).path.resOv = false ∧ (resOnly fun p => { p with resOv := true }).path.resOv = true ∧
    (resOnly id).resMayCharge = true ∧ (resOnly id).resTarget ≠ 0 ∧
    (resOnly fun p => { p with resOv := true }).resMayCharge = false := by decide +kernel

/-! ### The angle engine, the charger and the gauge -/

def kin (f : Kinetic → Kinetic) : Device := (withFld (rail 9 .proofed) Fld.kinPresent 1).updKin f
/-- Synchronised, moving, with a speed estimate of 4 positions in 800 µs up to 900 µs; the next count is due at its time. -/
def spinning (k : Kinetic) : Kinetic :=
  { k with synced := true, seen := true, stopped := false, twCont := true, lastEdge := 900,
           hist := [(900, 4), (700, 3), (500, 2), (300, 1), (100, 0)], pos := 4, counter := 171 }
/-- In the duty cycle of `TWPWR`: stopped, with a last sample; LDO6 as given. -/
def dutied (x : RailSt) (on : Bool) : Device :=
  (((kin fun k => { k with twSample := some (true, false) }).updRail 9 fun h => { h with st := x }).updRails
    fun b => { b with twDuty := on })

theorem meets_gates : live.Calm ∧ (at_ .por).powered = false ∧ live.powered = true ∧ live.kin.ceiling = false ∧
    live.kin.gates.getLsbD 0 = false ∧ (kin fun k => { k with gates := 1 }).kin.gates.getLsbD 0 = true ∧
    (kin fun k => { spinning k with lowSpeed := false }).path.vsysOv = false := by decide +kernel

theorem meets_rotor : (kin spinning).Calm ∧ live.sensorsOn = false ∧ (kin spinning).sensorsOn = true ∧
    (kin spinning).Comes (max 600 (kin spinning).now) ∧ (kin spinning).kin.twCont = true ∧ (kin spinning).kin.seen = true ∧
    edgeOnA .bRise = false ∧ (kin spinning).kin.synced = true ∧ (kin spinning).kin.pos ≤ 91 ∧ live.kin.mayStep = false ∧
    (kin spinning).kin.mayStep = true ∧ (kin spinning).kin.stepTime = some 909 ∧ (passed (kin spinning)).Meets 909 ∧
    (kin spinning).kinPresent = true ∧ (kin spinning).isOpen = true ∧
    (kin spinning).kin.stopped = false ∧ (at_time (kin spinning) 200500).Meets ((kin spinning).kin.lastEdge + 200000) ∧
    (kin fun k => { k with twCont := true }).kin.stopped = true ∧ (kin id).kin.stopTime = 0 ∧
    (at_time (kin fun k => { k with twCont := true }) (1000 * live.fn Fld.kinTwHold)).Meets (0 + 1000 * live.fn Fld.kinTwHold) ∧
    (kin id).ldo6Voted = false ∧ (kin id).railSt 9 = .proofed := by
  decide +kernel
theorem meets_duty_cycle : (dutied .off false).kinPresent = true ∧ (dutied .off false).isOpen = true ∧
    (dutied .off false).kin.twCont = false ∧ (dutied .off false).ldo6Voted = false ∧ (dutied .off false).ldo6Down = false ∧
    (dutied .tripped false).ldo6Down = true ∧
    (dutied .off false).rails.twDuty = false ∧ (dutied .off false).railSt 9 = .off ∧
    (at_time (dutied .off false) (1000 * live.fn Fld.kinTwPeriod)).Meets ((dutied .off false).kin.twAt + 1000 * live.fn Fld.kinTwPeriod) ∧
    (dutied .off false).railThere 9 = true ∧ (dutied .off false).gated 9 = false ∧ (dutied .off false).faults.dieHot = false ∧
    (dutied .proofed true).rails.twDuty = true ∧ (dutied .proofed true).railSt 9 = .proofed ∧
    (at_time (dutied .proofed true) (10 * live.fn Fld.kinTwSettle)).Meets
      (((dutied .proofed true).rails.rails.get 9).since + 10 * live.fn Fld.kinTwSettle) ∧
    (dutied .proofed true).kin.twSample = some (true, false) ∧ (dutied .proofed true).ldo6Down = false ∧ (true, false) ≠ (false, false) := by
  decide +kernel
/-- RUN, with the last sample's battery voltage, VSYS and current. -/
def seen (d : Device) (bat vsys : Nat) (ua : Int) : Device :=
  { d with sample := { d.sample with batMv := bat, vsysMv := vsys, batUa := ua } }

/-- The charger in a phase with the dock valid and the FET in CHARGE. -/
def chg (p : ChgPhase) (f : Charger → Charger := id) : Device :=
  (dock 2).updChg (fun c => f { c with phase := p }) |>.updPath fun x => { x with fet := .charge }
def drawn (d : Device) : Device := { d with sample := { d.sample with batUa := 2000000 } }

theorem meets_charger : live.Calm ∧ (chg .qualify).chgRuns = true ∧ (chg .qualify).chg.phase = .qualify ∧ (chg .qualify).chgStopped = false ∧
    (chg .qualify).chg.zone.permits = true ∧ (chg .qualify).inputPresent = true ∧ (chg .qualify).faults.dieHot = false ∧
    (chg .qualify).chg.latched = 0 ∧ (chg .qualify).chg.removed = false ∧ 1500 ≤ 2000 ∧
    (at_time (chg .qualify fun c => { c with okSince := some 0 }) 999500).Meets (max ((some 0).getD 999500) 0 + 1000000) ∧
    2000 < 10 * live.fn Fld.chgVPre ∧ 10 * live.fn Fld.chgVPre ≤ 3500 ∧ (chg .qualify).fetIsOff = false ∧
    3500 ≤ (chg .qualify).rechargeLevel ∧ (chg .qualify).rechargeLevel < 4199 ∧ (at_ .por).chgRuns = false ∧
    live.chg.phase ≠ .precharge ∧ (chg .precharge).chg.phase = .precharge ∧
    (chg .precharge).showsOpen (decide ((chg .precharge).prechargeExit ≤ (chg .precharge).sample.batMv)) = false ∧
    (seen (chg .precharge) 3500 3700 0).showsOpen (decide ((chg .precharge).prechargeExit ≤ 3500)) = true ∧
    live.chg.phase ≠ .fast ∧ live.chg.phase ≠ .recharge ∧ (chg .fast).chg.phase = .fast ∧ (chg .recharge).chg.phase = .recharge ∧
    (chg .taper).chg.phase = .taper ∧ (chg .topoff).chg.phase = .topoff ∧
    (at_time (chg .topoff fun c => { c with tTop := 60000000 * live.fn Fld.chgTopoffMin }) 0).Comes
      (0 + (60000000 * live.fn Fld.chgTopoffMin - 60000000 * live.fn Fld.chgTopoffMin)) := by decide +kernel
theorem meets_charger_levels : (chg .taper).showsOpen ((chg .taper).cvGoverns && decide ((chg .taper).sample.batUa < 5000 * ((chg .taper).fn Fld.chgITerm : Int))) = false ∧
    (seen (chg .taper) (chg .taper).cv 4300 100).showsOpen ((seen (chg .taper) (chg .taper).cv 4300 100).cvGoverns &&
      decide ((100 : Int) < 5000 * ((chg .taper).fn Fld.chgITerm : Int))) = true ∧
    (chg .done).chg.phase = .done ∧ (chg .done).showsOpen (decide ((chg .done).sample.batMv < (chg .done).rechargeLevel)) = true ∧
    live.inputPresent = false ∧ (chg .fast).chg.phase ≠ .idle ∧ live.path.dcValid = false ∧
    live.chg.phase = .idle ∧ (chg .fast).path.dcValid = true ∧ live.harvestMargin = false ∧
    (seen live 3700 2600 0).harvestMargin = true ∧ live.chgRuns = true ∧ live.chgStopped = false ∧
    live.showsOpen (decide (live.sample.batUa < -1000)) = false ∧ (seen live 3700 3600 (-1001)).showsOpen (decide ((-1001 : Int) < -1000)) = true ∧
    (live.updChg fun c => { c with phase := .fast, harvest := true }).chg.phase.charging = true := by decide +kernel

theorem meets_charger_faults : (chg .fast).Calm ∧ (chg .fast).isOpen = true ∧ (chg .fast).chgRuns = true ∧ (chg .fast).faults.fifo.length < 60 ∧
    (drawn (chg .precharge fun c => { c with tPre := 60000000 * live.fn Fld.chgTPreMin })).preCounts = true ∧
    (drawn (chg .precharge fun c => { c with tPre := 60000000 * live.fn Fld.chgTPreMin })).Comes 0 ∧ (chg .fast).preCounts = false ∧
    (chg .fast fun c => { c with tFast := 600000000 * live.fn Fld.chgTFastMin }).fastCounts = true ∧
    (chg .fast fun c => { c with tFast := 600000000 * live.fn Fld.chgTFastMin }).Comes 0 ∧ live.fastCounts = false ∧
    (chg .fast).chg.phase.charging = true ∧ live.chg.phase.charging = false ∧ (withFld live Fld.chgBatid 1).fn Fld.chgBatid = 1 ∧
    (chg .fast).batStep (10 * live.fn Fld.chgStepMv) = true ∧ (chg .fast).batStep (10 * live.fn Fld.chgStepMv - 1) = false ∧
    (chg .fast).path.fet = .charge ∧ live.path.fet ≠ .charge ∧ (chg .fast).cv + 100 < (chg .fast).cv + 101 ∧ live.pairCut 15 = false ∧
    live.path.fet = .off ∧ live.chemLimit < 4501 ∧ (live.pairWires 15 true true true).pairCut 15 = true ∧ (chg .fast).path.fet ≠ .off ∧
    live.fn Fld.chgBatidMax < 60000 ∧ (withFld live Fld.chgBatid 0).fn Fld.chgBatid ≠ 1 ∧
    live.fn Fld.chgBatidMin ≤ live.fn Fld.chgBatidMax ∧
    (withFld live Fld.chgGoneAutoS 60).fn Fld.chgGoneAutoS ≠ 0 ∧ (chg .fault fun c => { c with latched := 1 }).chg.latched.getLsbD 0 = true ∧
    live.chgRoomOpen = false ∧ (chg .fault fun c => { c with latched := 1, okSince := some 0 }).chg.okSince = some 0 ∧
    (at_time (withFld live Fld.chgGoneAutoS 60) 59999500).Meets (0 + 1000000 * 60) ∧
    (withFld live Fld.chgGoneAutoS 0).fn Fld.chgGoneAutoS = 0 ∧ live.chg.latched.getLsbD 0 = false ∧
    rooms.chgRoomOpen = true ∧ live.chg.okSince = none := by decide +kernel

/-- The gauge in a mode, its next window 1 s after 0. -/
def gauge (m : GaugeMode) : Device := live.updGaugeHw fun g => { g with mode := m, winNext := 1000000 }

theorem meets_gauge : live.Calm ∧ live.gaugeHw.mode = .off ∧ (gauge .full).gaugeHw.mode = .full ∧ (gauge .full).Meets (gauge .full).gaugeHw.azNext ∧
    (50 : Int).natAbs ≤ 50 ∧ 50 < (-51 : Int).natAbs ∧ (gauge .full).faults.fifo.length < 64 ∧ (gauge .sipping).gaugeHw.mode = .sipping ∧
    (gauge .sipping).gaugeHw.azNext ≤ (gauge .sipping).gaugeHw.winNext - 8000 ∧
    (at_time (gauge .sipping) 991500).Meets ((gauge .sipping).gaugeHw.winNext - 8000) ∧
    ((gauge .sipping).updGaugeHw fun g => { g with azNext := 1000000 }).gaugeHw.winNext - 8000 < 1000000 ∧
    (at_time (gauge .sipping) 999500).Meets (gauge .sipping).gaugeHw.winNext ∧ (gauge .lodge).gaugeHw.mode = .lodge ∧
    (at_time (gauge .lodge) 999500).Meets (gauge .lodge).gaugeHw.winNext ∧ (at_ .lodge).power.phase = .lodge := by
  decide +kernel
theorem meets_gauge_times : (withFld (gauge .full) Fld.gaugeSip 1).fn Fld.gaugeSip = 1 ∧
    (at_time (gauge .full) 9999500).Meets ((gauge .full).gaugeHw.lowFrom + 10000000) ∧
    (withFld (gauge .full) Fld.gaugeSip 0).fn Fld.gaugeSip ≠ 1 ∧ (gauge .lodge).gaugeHw.lodgeFast = false ∧
    ((gauge .lodge).updGaugeHw fun g => { g with lodgeFast := true }).gaugeHw.lodgeFast = true ∧
    live.isOpen = true ∧ live.ocvNext = false ∧ (at_ .lodge).isOpen = false ∧ (at_ .por).powered = false ∧ live.powered = true ∧
    (at_time live 3599999500).Meets live.gaugeHw.hourEnd ∧ live.cfg.gaugeRec = none ∧
    (at_time live (3600000000 * live.fn Fld.gaugeSaveH)).Meets (live.priv.gauge.recordTime + 3600000000 * live.fn Fld.gaugeSaveH) := by
  decide +kernel

/-- A reservation of Room 1, a burst under way, a set that is due and one that runs. -/
def resv : Reservation := { handle := 9, room := some 1, app := 0, start := 500, stop := 600, mw := 10, energy := 0, begun := false }
def reserved : Device := rooms.updLarder fun l => { l with reservations := [resv] }
def bursting (raw : Bool) : Device :=
  (live.updBurst fun b => { b with first := some { burstEntry with st := .running }, raw := raw }).updRail 3 fun h => { h with st := .proofed, since := 0 }
def setRun (started : Bool) : AdcRun :=
  { cfg := AdcCfg.reset, rowWords := [], trig := 1, angle := 0, trigC := 24000, started := started, startC := 24000, latency := 96 }
def sampling (started : Bool) : Device := live.updAdcGroup 2 fun g => { g with run := some (setRun started) }

theorem meets_larder : live.Calm ∧ live.priv.larder.reservations.find? (fun r => r.handle == 9) = none ∧ reserved.isOpen = true ∧
    reserved.priv.larder.reservations.find? (fun r => r.handle == 9) = some resv ∧ resv.begun = false ∧ reserved.Meets resv.start ∧
    reserved.Meets resv.stop ∧ live.burst.running = none ∧ (bursting false).burst.running = some { burstEntry with st := .running } ∧
    (bursting false).pins.bgnt = false ∧ (bursting false).railSt 3 = .proofed ∧ live.railSt 3 ≠ .proofed ∧
    (at_time (bursting false) 2500).Meets (max burstEntry.startTime 0 + 2000) ∧
    ((bursting false).updPins fun p => { p with bgnt := true }).pins.bgnt = true ∧
    (at_time (bursting false) 4500).Meets ((bursting false).burst.riseAt + 1000 * burstEntry.len) ∧ (bursting false).burst.firstRuns = true ∧
    (bursting false).burst.second = none ∧ (live.updBurst fun b => { b with breqHigh := true }).burst.breqHigh = true ∧
    base.pins.vioGood = false ∧ live.burst.breqHigh = false ∧ live.pins.vioGood = true ∧ live.burst.raw = false ∧
    (bursting true).burst.raw = true ∧ (bursting true).burst.running ≠ none := by decide +kernel

theorem meets_sets : live.Calm ∧ (live.adcGroup 2).run = none ∧ (sampling false).isOpen = true ∧
    ((sampling false).adcGroup 2).run = some (setRun false) ∧ (setRun false).started = false ∧
    (sampling false).Meets ((sampling false).adcBeginC 2 (setRun false) / 48) ∧
    (∀ h, h ≠ 2 → ((sampling false).adcGroup h).run = none) ∧ ((sampling true).adcGroup 2).run = some (setRun true) ∧
    (setRun true).started = true ∧ (setRun true).cfg.limEn = false ∧ (sampling true).isOpen = true ∧
    (sampling true).Meets ((setRun true).endC (setRun true).cfg.rows / 48) := by decide +kernel

/-! ### The debug port, the lifecycle and the Recipe switch -/

def level (x : Level) : Device := live.updSec fun s => { s with level := x }
/-- BLANK with a device root key, a debug key and an image-signing key. -/
def provisioned : Device := live.updKeys fun k => { k with
  slots := (k.slots.set 0 (some (slotKeys (List.replicate 32 1)))).set 1 (some (slotKeys (List.replicate 32 2))),
  pubKeys := k.pubKeys.set 0 (some (List.replicate 64 3)) }

theorem meets_tap : live.Calm ∧ base.tapLive = false ∧ live.tapLive = true ∧ (level .closed).sec.level = .closed ∧
    (level .auth).sec.level ≠ .closed ∧ live.Caught ∧ (at_ .romSafeHold).romHold = true ∧ live.asleep = false ∧
    (idle (live.updPower fun p => { p with state := .doze })).asleep = true ∧ live.keepers.a.role = .active := by decide +kernel

theorem meets_tap_levels : (level .opened).sec.level = .opened ∧ (level .auth).sec.level = .auth ∧ live.lifecycle ≠ 1 ∧
    (live.updSec fun s => { s with attach := true }).sec.attach ≠ false ∧ live.sec.attach = false := by decide +kernel

theorem meets_lifecycle : live.Calm ∧ live.tapLive = true ∧ live.sec.level = .opened ∧ live.lifecycle ≤ 1 ∧ 3 < (4 : Byte).toNat ∧
    (level .auth).sec.level ≠ .opened ∧ (live.programLifecycle 2).lifecycle = 2 ∧ live.lifecycle = 0 ∧ live.sec.advance = none ∧
    ((provisioned.keys.slots.toList.getD 0 none).isSome ∧ provisioned.debugKey.isSome ∧
      provisioned.keys.pubKeys.toList.any (·.isSome) = true) ∧ live.debugKey = none ∧
    (live.updSec fun s => { s with advance := some { target := 3, req := some (rid 0) } }).sec.advance =
      some { target := 3, req := some (rid 0) } ∧ (at_ .lodge).isOpen = false ∧ (at_ .lodge).romHold = false := by decide +kernel

/-- A challenge issued at 0, and a lockout that ends at 500. -/
def challenged : Device := live.updSec fun s => { s with challenge := some (List.replicate 32 5, 0), lockEnd := some 500 }

theorem meets_debug_memory : live.Calm ∧ challenged.tapLive = true ∧ challenged.challenge = some (List.replicate 32 5, 0) ∧
    live.challenge = none ∧ challenged.sec.challenge = some (List.replicate 32 5, 0) ∧
    (at_time challenged 9999500).Meets (0 + 10000000) ∧ live.sec.challenge = none ∧ challenged.sec.lockEnd = some 500 ∧
    challenged.Meets 500 ∧ live.sec.lockEnd = none ∧ (level .closed).sec.level = .closed ∧ live.portOpen = true ∧ live.MemWf ∧
    memKind .nvm 1 = 0 ∧ memKind .nvm 0x100000 = 0 ∧ memKind .sramA 0x18000 = 0 ∧ memKind .nvm 0xEFFFC = 3 ∧ memKind .nvm 0xFFFFC = 3 ∧
    live.nvmWritable 0xEFFFC = true ∧ live.nvmWritable 0xF0000 = false ∧ (0xEFFFC : Word).toNat % 4 = 0 ∧
    (0xEFFFC : Word).toNat < 0xF0000 ∧ 0xFF000 ≤ (0xFF000 : Word).toNat := by decide +kernel

/-- A switch to the factory Recipe itself: in its bubble, and one Batch ahead of it. -/
def switch (now : Bool) : RcpSwitch := { recipe := factoryRecipe, batch := 1, req := rid 0, now := now, passed := false }
def switching (now : Bool) : Device := live.updRcp fun r => { r with inForce := some factoryRecipe, switch := some (switch now) }

theorem meets_switch : (switching true).Calm ∧ (switching true).isOpen = true ∧ (switching true).Caught ∧
    (switching true).rcp.switch = some (switch true) ∧
    (switch true).now = true ∧ (switch true).passed = false ∧ (switching true).keeperWorks = true ∧
    (switching true).sup.stage = .targets ∧ (switching true).sup.budgetPassed = false ∧ (idle (switching true)).sup.stage ≠ .targets ∧
    (∀ n, roomDiffers ((switching true).rcp.inForce.getD factoryRecipe) factoryRecipe n = false) ∧ (switch false).now = false ∧
    (switch false).batch ≤ (switching false).batch.number.toNat + 1 ∧ ({ switch true with passed := true } : RcpSwitch).passed = true := by
  decide +kernel

/-! ### Requests that are accepted -/

/-- Room 0's requests of commands whose arguments may be as given. -/
def asks (d : Device) (l : List (Cmd × Nat × List Byte)) : Bool :=
  l.all fun x => decide (d.Accepts x.1 (reqOf 0 x.2.1 x.2.2))

theorem meets_sessions : asks rooms [(cmdHello, 9, [0, 3, 0, 3, 1, 0, 0, 0, 1]), (cmdBye, 1, [1]), (cmdPing, 8, [1, 2]), (cmdTime, 0, []),
    (cmdRoomQuery, 1, [15]), (cmdRoomReset, 2, [1, 0xA5]), (cmdPwrQuery, 0, []), (cmdRailQuery, 1, [15]), (cmdChgQuery, 0, []),
    (cmdGaugeQuery, 0, []), (cmdLarderQuery, 0, []), (cmdPathQuery, 0, []), (cmdKinQuery, 0, []), (cmdKeeperQuery, 0, []),
    (cmdImageQuery, 0, []), (cmdRecipeQuery, 0, []), (cmdSecQuery, 0, [])] = true := by decide +kernel

theorem meets_power_requests : asks rooms [(cmdPwrFloor, 1, [2]), (cmdPwrLodge, 5, [60, 0, 0, 0, 1]), (cmdPwrShip, 1, [1]), (cmdPwrShip, 1, [2]),
    (cmdPwrRestart, 1, [0x5A]), (cmdRailVote, 8, [2, 1, 0, 0, 0x08, 7]), (cmdRailVote, 8, [2, 0, 0, 0, 0, 0]),
    (cmdRailSched, 14, [2, 1, 0, 0, 0x08, 7, 0, 0, 9]), (cmdRailSched, 14, [2, 3, 0, 0, 0x08, 7, 0, 0, 9]),
    (cmdSeqRun, 1, [2]), (cmdSeqAbort, 1, [1])] = true ∧ bit 1 1 = false ∧ bit 3 1 = true := by decide +kernel

/-- The primary reserve present; the kinetic function present; activity 2 made of bursts. -/
def priRooms : Device := withFld rooms Fld.priPresent 1
def kinRooms : Device := withFld rooms Fld.kinPresent 1
def burstRooms : Device := withFld rooms Fld.larAppSrc 1 2

theorem meets_energy_requests : asks rooms [(cmdChgSet, 4, [1, 0, 10, 0]), (cmdChgFaults, 1, [0]), (cmdChgFaults, 1, [1]),
    (cmdGaugeSet, 5, [1, 0, 0x10, 0x27, 0]), (cmdGaugeSet, 5, [2, 0, 1, 0, 25]), (cmdGaugeSet, 5, [3, 0, 0, 0, 0]),
    (cmdLarderReserve, 16, [15, 0, 0, 0, 1, 0, 0, 0]), (cmdLarderRelease, 2, [9, 0]), (cmdLarderSet, 8, [1, 0, 0, 0, 10]),
    (cmdLarderSet, 8, [2]), (cmdDcLimit, 2, [100, 0]), (cmdPvSet, 4, [2, 0, 0, 0])] = true ∧
    asks priRooms [(cmdPriPulse, 4, [50, 0, 10, 0])] = true ∧ asks kinRooms [(cmdKinSet, 1, [1]), (cmdKinUser, 6, [15, 0])] = true ∧
    asks burstRooms [(cmdBurstPair, 20, [2, 0, 0xE4, 0x0C, 20, 0, 20, 0, 0xE8, 3])] = true ∧
    (burstRooms.begun cmdBurstPair (reqOf 0 20 [2, 0, 0xE4, 0x0C, 20, 0, 20, 0, 0xE8, 3])).burstHeld = false ∧
    (burstRooms.begun cmdBurstPair (reqOf 0 20 [2, 0, 0xE4, 0x0C, 20, 0, 20, 0, 0xE8, 3])).larderFull = false := by decide +kernel

/-- Room 0 on the service port, a stage and a Recipe write open, keeper B QUARANTINED, a challenge issued, lifecycle 2. -/
def uartRoom : Device := rooms.updRoom 0 fun r => { r with idPort := 3 }
def stageRooms : Device := (rooms.updImages fun i => { i with stage := some stage }).updRcp fun r => { r with write := some rcpWrite }
def quarRooms : Device := rooms.updKeepers fun k => { k with b := { k.b with role := .quarantined } }
def challRooms : Device := rooms.updSec fun s => { s with challenge := some (List.replicate 32 5, 0) }
def liveRooms : Device := rooms.programLifecycle 2
/-- Room 0 holds group 1 with a COMMAND trigger. -/
def trigRooms : Device := rooms.updPriv fun p => { p with
  adcHolds := vput p.adcHolds 1 (some { room := 0, cfg := { AdcCfg.reset with trig := 4, rows := 1, mask := 1, div := 1 }, rowWords := [0] }) }
def keyRooms : Device := withFld rooms Fld.roomKeys 4

theorem meets_measure_requests : asks rooms [(cmdAdcPlan, 8, [1, 0, 1]), (cmdAdcGroup, 16, [1, 1, 1, 4, 1, 0, 0, 0, 1]), (cmdAdcGroup, 16, [1, 3]),
    (cmdAdcRead, 4, [1, 1, 1, 0]), (cmdDigQueue, 9, [0, 0, 0, 1, 5]), (cmdFaultRead, 2, [31, 1]), (cmdLedgerRead, 5, [0, 0, 0, 0, 16]),
    (cmdFaultClear, 2, [1]), (cmdFaultClear, 2, [2, 15]), (cmdFaultClear, 2, [3]), (cmdFaultClear, 2, [4]), (cmdFaultClear, 2, [5]),
    (cmdFaultClear, 2, [6]), (cmdWdSet, 4, [1, 0, 4, 0]), (cmdWdSet, 4, [2]), (cmdWdQuery, 0, []), (cmdGwdArm, 4, [10]),
    (cmdWdKick, 0, [])] = true ∧
    asks trigRooms [(cmdAdcGroup, 16, [1, 2])] = true ∧ asks keyRooms [(cmdDigKeyload, 8, [2, 0])] = true ∧ asks uartRoom [(cmdFaultProbe, 0, [])] = true ∧
    ((rooms.begun cmdDigQueue (reqOf 0 9 [0, 0, 0, 1, 5])).parts 0 5).filter (fun x => x.id != rid 0) = [] := by decide +kernel

theorem meets_security_requests : asks rooms [(cmdKeeperSwap, 1, [0]), (cmdKeeperSwap, 1, [1]), (cmdImageStage, 8, [1, 1, 0, 0, 0x90, 1, 0, 0]),
    (cmdImageStage, 12, [2, 1, 4, 0, 8]), (cmdImageStage, 8, [3, 1]), (cmdImageCommit, 2, [1, 1]), (cmdImageCommit, 2, [2]),
    (cmdRecipeSelect, 2, [3, 0xA5]), (cmdRecipeWrite, 8, [1, 2, 0, 0, 0xB8]), (cmdRecipeWrite, 12, [2, 2, 4, 0, 8]),
    (cmdRecipeWrite, 8, [3, 2]), (cmdDbgChallenge, 0, []), (cmdDbgRespond, 8, [2])] = true ∧
    asks quarRooms [(cmdKeeperRevive, 1, [1])] = true ∧ asks stageRooms [(cmdImageStage, 12, [2, 1, 4, 0, 8]), (cmdRecipeWrite, 12, [2, 2, 4, 0, 8])] = true ∧
    stageRooms.images.stage = some stage ∧ rooms.images.stage = none ∧ asks challRooms [(cmdDbgRespond, 40, [1])] = true ∧
    asks liveRooms [(cmdLifecycleAdvance, 2, [3, 0xA5])] = true ∧ live.cfg.manifest.isSome = true ∧
    (live.updImages fun i => { i with trialA := true }).runsTrial .b = false ∧ live.runsTrial .a = false := by decide +kernel

/-! ### Effects of single commands; the expected values are the spec's own check values and rules -/

/-- The ASCII bytes 123456789. -/
def digits : List Byte := (List.range 9).map fun i => BitVec.ofNat 8 (0x31 + i)

/-- R163, R275, R311: the check values that the spec prints. -/
theorem test_crcs : crc32 digits = 0xCBF43926 ∧ crc16 digits = 0x29B1 ∧ crc8 digits = 0xF4 := by decide +kernel

/-- FIPS 180-4's example: the digest of abc begins BA7816BF and ends F20015AD. -/
theorem test_sha : (sha256 [0x61, 0x62, 0x63]).take 4 = [0xBA, 0x78, 0x16, 0xBF] ∧ (sha256 [0x61, 0x62, 0x63]).drop 28 = [0xF2, 0, 0x15, 0xAD] := by
  decide +kernel

/-- R265, R314: PING's completion, once step 6 posts it, stands in slot 0 with `tag` 7, `seq` 1, status OK and the argument bytes. -/
theorem test_ping : (List.range 16).map (fun i => (after (.ping (reqOf 0 8 [1, 2, 3, 4, 5, 6, 7, 8])) rooms).postAll.winRead 0 (0xA00 + i)) =
    [7, 0, 1, 0, 0, 0, 0, 0, 1, 2, 3, 4, 5, 6, 7, 8] := by decide +kernel
/-- R245: a request of a Room that is not Open is answered with a refusal and makes no record; its completion counts. -/
theorem test_ping_closed : (after (.ping (reqOf 2 8 [1])) rooms).reqs.recs = [] ∧ ((after (.ping (reqOf 2 8 [1])) rooms).rooms.get 2).cqTail = 1 := by
  decide +kernel
/-- R297: 33 is beyond the ring, 32 is not. -/
theorem test_sq_tail : ((after (.sqTailWrite .spi 0 32) rings).rooms.get 0).sqTail = 32 ∧
    ((after (.sqTailWrite .spi 0 33) rings).rooms.get 0).sqTail = 2 ∧ ((after (.sqTailWrite .spi 0 33) rings).rooms.get 0).ringErrs = 1 := by
  decide +kernel
/-- R301: releasing one slot more than the ring holds is an error. -/
theorem test_cq_head : ((after (.cqHeadWrite .spi 0 3) rings).rooms.get 0).cqHead = 3 ∧
    ((after (.cqHeadWrite .spi 0 4) rings).rooms.get 0).cqHead = 0 := by decide +kernel
/-- R298: bytes of slots 0 and 1 are held, byte 0 of slot 2 is not. -/
theorem test_slot_write : (after (.submissionSlotWrite .spi 0 0x27F [9, 8]) rings).winRead 0 0x27F = 0 ∧
    (after (.submissionSlotWrite .spi 0 0x27F [9, 8]) rings).winRead 0 0x280 = 8 := by decide +kernel
/-- R303: a flag written as 1 clears, another stays. -/
theorem test_flags : ((after (.evtFlagsClear .spi 0 1) (rooms.updRoom 0 fun r => { r with evFlags := 3 })).rooms.get 0).evFlags = 2 := by decide +kernel
/-- R52: the loss of VIO is message 0x0401_0000. -/
theorem test_vio_lost : (after .vioLost live).faults.fifo.map (·.msg) = [0x04010000] ∧ (after .vioLost live).pins.vioGood = false := by
  decide +kernel
/-- R630: FINISH publishes the digest and frees the engine. -/
theorem test_digest : (after (.digFinish .spi 0) (digesting.updDig fun g => { g with msg := [0x61, 0x62, 0x63] })).dig.result.take 4 =
    [0xBA, 0x78, 0x16, 0xBF] ∧ (after (.digFinish .spi 0) digesting).dig.claim = 0xFF ∧ (after (.digFinish .spi 0) digesting).dig.rSeq = 1 := by
  decide +kernel
/-- R628: without the slot's allotment START is refused with `err` 1. -/
theorem test_dig_start : (after (.digStart .spi 0 true 2) claimed).dig.err = 1 ∧ (after (.digStart .spi 0 true 2) keyed).dig.err = 2 ∧
    (after (.digStart .spi 0 true 2) keyLoaded).dig.running = true := by decide +kernel
/-- R421, R426: the dock's arrival begins detection at 100 mA. -/
theorem test_dcin : (after .dcinValid live).path.dock = 1 ∧ (after .dcinValid live).path.dockMa = 100 := by decide +kernel
/-- R101: DCIN ends SHIP. -/
theorem test_ship_dcin : (after .dcinValid ((at_ .ship).updPower fun p => { p with shipLatch := true })).power.shipLatch = false := by decide +kernel
/-- R359, R361: power-good at 92 % of the setpoint makes a rail PROOFED, and not below; an output below 30 % at half the window trips it,
one step up its ladder. -/
theorem test_rail : (after (.railProofed 2 1656) (at_time (railAt .proofing) 0)).railSt 2 = .proofed ∧
    (after (.railProofed 2 1655) (at_time (railAt .proofing) 0)).railSt 2 = .proofing ∧
    (after (.proofFail 2 .halfWindow 539) (idle (at_time (railAt .proofing) 0))).railSt 2 = .tripped ∧
    ((after (.proofFail 2 .halfWindow 539) (idle (at_time (railAt .proofing) 0))).rails.rails.get 2).ladder = 1 := by decide +kernel
/-- R659: over-voltage with the FET commanded OFF is Grave and seals the device. -/
theorem test_grave : (after (.codedMessage 0x0A050000) live).power.phase = .sealed ∧ (after (.codedMessage 0x0A050000) live).faults.fifo = [] := by
  decide +kernel
/-- R649, R665: the entry of the first message stands in slot 0 of the Ledger with `seq` 1. -/
theorem test_ledger : (after .ledgerEntryWrite oneWaits).faults.seq = 1 ∧ (after .ledgerEntryWrite oneWaits).nvmRead (ledgerAddr 0) 4 = [1, 0, 0, 0] := by
  decide +kernel
/-- R504: the precharge timer's end latches bit 1. -/
theorem test_precharge_timeout : (after .prechargeTimeout (drawn (chg .precharge fun c => { c with tPre := 60000000 * live.fn Fld.chgTPreMin }))).chg.latched = 2 := by
  decide +kernel
/-- R676: a kick in a closed window is an early failure, in an open one it zeroes the count. -/
theorem test_kick : (after (.keeperWdKick .a good) wdOpen).wd.a.count = 0 ∧ (after (.keeperWdKick .a good) wdClosed).faults.fifo.length ≠ 0 := by
  decide +kernel
/-- R709: KEYPROG of target 4 is refused, of target 1 done. -/
theorem test_keyprog : (after (.keyprog 4 []) live).sec.prog = 3 ∧ (after (.keyprog 1 (List.replicate 64 1)) live).sec.prog = 2 := by decide +kernel
/-- R721: at CLOSED a write leaves NVM. -/
theorem test_dbg_write : (after (.dbgMemWrite .nvm 0 0xAABBCCDD) live).nvmRead 0 4 = [0xDD, 0xCC, 0xBB, 0xAA] ∧
    (after (.dbgMemWrite .nvm 0 0xAABBCCDD) (level .closed)).nvm = [] := by decide +kernel
/-- R137: the edge at 1,000 µs begins Batch 1. -/
theorem test_edge : (after (.batchEdge base.sample .full good) (idle live)).batch.number = 1 ∧
    (after (.batchEdge base.sample .full good) (idle live)).now = 1000 := by
  decide +kernel
/-- R141: the budget mark of a 1 ms Batch lies at 700 µs. -/
theorem test_budget : (after .budgetMark (idle live)).now = 700 := by decide +kernel
/-- R460: the counter steps one count. -/
theorem test_counter : (after .counterInterpolate (idle (kin spinning))).kin.counter = 172 := by decide +kernel
/-- R525: a SIPPING window of 1 s at -10 µA counts -10 µAs. -/
theorem test_window : (after (.gaugeWindow (-10) 3700 250) (at_time (gauge .sipping) 999500)).gaugeHw.integ = -10 := by decide +kernel
/-- R104: POR release begins the start gate. -/
theorem test_por_release : (after (.porRelease 3700 false) base).power.phase = .gate ∧ (after (.porRelease 3700 false) base).path.fet = .supply := by
  decide +kernel

end Sys2Proof.Tests
end

/-! PROOFS. `BTN_N` (R37, R71, R108, R109): what a hold and a recognised low do, and that no start leaves a low that counts. -/
namespace Sys2Proof.Machine

/-! ### The AON node's supply -/

theorem Power.aonLive_of_le {p : Power} (h : 1500 ≤ p.aonMv) : p.aonLive = true := decide_eq_true h

theorem Power.aonLive_of_lt {p : Power} (h : p.aonMv < 1500) : p.aonLive = false := decide_eq_false (Nat.not_le.mpr h)

/-! ### A hold of the button (R108, R109) -/

/-- A hold restarts nothing unless all four of its conditions are met. -/
theorem Device.btnRestart_same {d : Device}
    (h : d.isOpen = false ∨ d.power.btnFresh = false ∨ d.power.aonMv < 1500 ∨ d.fn Fld.pwrBtnRestart = 0)
    (ss : Sys2Proof.StartSense) : d.btnRestart ss = d := by
  refine if_neg ?_
  rintro ⟨hopen, hfresh, hlive, hfield⟩
  rcases h with h | h | h | h
  · simp [h] at hopen
  · simp [h] at hfresh
  · simp [Power.aonLive_of_lt h] at hlive
  · exact hfield h

/-- A hold that meets them is a chip restart with cause 5. -/
theorem Device.btnRestart_restarts {d : Device} (hopen : d.isOpen = true) (hfresh : d.power.btnFresh = true)
    (hlive : 1500 ≤ d.power.aonMv) (hfield : d.fn Fld.pwrBtnRestart ≠ 0) (ss : Sys2Proof.StartSense) :
    d.btnRestart ss = d.chipRestart 5 ss :=
  if_pos ⟨hopen, hfresh, Power.aonLive_of_le hlive, hfield⟩

/-! ### A recognised low (R37, R71, R96) -/

/-- Without the AON node's supply `BTN_N` is not active (R37). -/
theorem Device.btnLow_unsupplied {d : Device} (h : d.power.aonMv < 1500) : d.btnLow = d := by
  simp [Device.btnLow, Device.when, Power.aonLive_of_lt h]

/-- With it, a low is noted as one that counts with Rooms open alone, and goes on to the wake inputs. -/
theorem Device.btnLow_supplied {d : Device} (h : 1500 ≤ d.power.aonMv) :
    d.btnLow = (d.updPower fun p => { p with btnFresh := d.isOpen }).when d.wakeInputs (·.wakeEvent 3) := by
  simp only [Device.btnLow, Device.when, Power.aonLive_of_le h, if_true]

/-- With Rooms open, an enabled wake event other than the alarm is latched with its KEEP clock period (R95, R96). -/
theorem Device.wakeEvent_open {d : Device} {code : Nat} (hopen : d.power.phase = .open) (hwakes : d.power.wakes code = true) :
    d.wakeEvent code =
      d.updPower fun p => { p with wakeLatched := p.wakeLatched ++ [16 * keepPeriod d.now + code] } := by
  simp [Device.wakeEvent, hwakes, hopen]

/-- Bit 1 of the mask enables the button, wake code 3 (R96). -/
theorem Power.wakes_button {p : Power} (harmed : p.wakeArmed = true) (hmask : bit p.wakeMask 1 = true) : p.wakes 3 = true := by
  simp [Power.wakes, harmed, hmask]

/-- A low with Rooms open, of a button enabled as a wake source, counts for a restart and is latched as a wake event. -/
theorem Device.btnLow_wakes {d : Device} (hopen : d.power.phase = .open) (hmask : bit d.power.wakeMask 1 = true)
    (harmed : d.power.wakeArmed = true) (hlive : 1500 ≤ d.power.aonMv) :
    d.btnLow = d.updPower fun p =>
      { p with btnFresh := true, wakeLatched := p.wakeLatched ++ [16 * keepPeriod d.now + 3] } := by
  have hinputs : d.wakeInputs = true := by simp [Device.wakeInputs, hopen]
  have hisOpen : d.isOpen = true := decide_eq_true hopen
  rw [Device.btnLow_supplied hlive, hinputs, hisOpen]
  exact Device.wakeEvent_open hopen (Power.wakes_button harmed hmask)

/-! ### A start (R109) -/

@[simp] theorem Device.chgPause_power (d : Device) : d.chgPause.power = d.power := by
  unfold Device.chgPause
  split
  · rfl
  · split <;> rfl

@[simp] theorem Device.priUpdate_power (d : Device) : d.priUpdate.power = d.power := by
  unfold Device.priUpdate
  split
  · split
    · rfl
    · exact (Device.raise_same _ _).power
  · split <;> rfl

/-- What a start clears holds no low that counts. -/
theorem Device.startClear_btnFresh (d : Device) (keep : RailId → Bool) (votes : List Vote) :
    (d.startClear keep votes).power.btnFresh = false := by
  unfold Device.startClear
  simp only [Device.priUpdate_power, Device.chgPause_power, Device.updPower_power]

/-! ### The rows -/

/-- A low that changes nothing but the power state takes no time. -/
theorem exec_btnNPress_updPower {s : State} {f : Power → Power} (hcalm : s.dev.Calm) (hlow : s.dev.btnLow = s.dev.updPower f) :
    exec .btnNPress s = .next (s.put (s.dev.updPower f)) := by
  rw [← hlow]
  exact State.onDev_calm' (f := (·.btnLow)) (by rw [hlow]; exact hcalm) (by rw [hlow]; rfl)

/-- Settles O18: each clause from what the hold, the low and the start do. -/
theorem buttonRestartsOnce : Obligations.ButtonRestartsOnce := by
  unfold Obligations.ButtonRestartsOnce
  intro s hcalm
  refine ⟨?_, ?_, ?_, ?_, ?_, Device.startClear_btnFresh⟩
  · intro ss h
    exact State.onClk_same hcalm (Device.btnRestart_same h ss)
  · intro ss hopen hfresh hlive hfield
    rw [← Device.btnRestart_restarts hopen hfresh hlive hfield ss]
    exact State.onClk_clocked s _
  · intro hinputs hlive
    refine exec_btnNPress_updPower hcalm ?_
    rw [Device.btnLow_supplied hlive, hinputs]
    rfl
  · intro hdead
    exact State.onDev_same hcalm (Device.btnLow_unsupplied hdead)
  · intro hopen hmask harmed hlive
    exact exec_btnNPress_updPower hcalm (Device.btnLow_wakes hopen hmask harmed hlive)

end Sys2Proof.Machine

/-! PROOFS. The doorbells and the submission slots (R271, R297, R298, R301, R323): what a write frame does to the rings of the Room
that it reaches, and to nothing else. -/
namespace Sys2Proof.Machine

/-! ### A Room's registers -/

/-- Two updates that make the same of a Room's registers as they stand are the same update of the device. -/
theorem Device.updRoom_congr {d : Device} {n : RoomId} {f g : RoomRegs → RoomRegs} (h : f (d.rooms.get n) = g (d.rooms.get n)) :
    d.updRoom n f = d.updRoom n g := by
  simp only [Device.updRoom, vmod, h]

theorem Device.updRoom_id (d : Device) (n : RoomId) : d.updRoom n id = d := by
  have hrooms : vmod d.rooms n id = d.rooms := Vector.set_getElem_self n.isLt
  rw [Device.updRoom, hrooms]

theorem Device.updRoom_same {d : Device} {n : RoomId} {f : RoomRegs → RoomRegs} (h : f (d.rooms.get n) = d.rooms.get n) :
    d.updRoom n f = d :=
  (Device.updRoom_congr (g := id) h).trans (d.updRoom_id n)

theorem Device.updRoom_updRoom (d : Device) (n : RoomId) (f g : RoomRegs → RoomRegs) :
    (d.updRoom n f).updRoom n g = d.updRoom n fun r => g (f r) := by
  simp [Device.updRoom, vmod, vput, Vector.get_eq_getElem]

/-- A Room's registers after a ring protocol error: it is counted, and flagged unless the Room is Closed (R291, R303, R304). -/
def RoomRegs.withRingErr (r : RoomRegs) : RoomRegs :=
  { r with ringErrs := min 255 (r.ringErrs + 1), evFlags := if r.st = .closed then r.evFlags else r.evFlags ||| 0x200 }

/-- The flag of a ring protocol error is bit 9 (R303). -/
theorem RoomRegs.setFlag_ringErr (r : RoomRegs) :
    r.setFlag evRingErr = { r with evFlags := if r.st = .closed then r.evFlags else r.evFlags ||| 0x200 } := by
  unfold RoomRegs.setFlag
  split
  · rfl
  · rw [show (BitVec.twoPow 32 evRingErr : Word) = 0x200 by decide]

theorem Device.ringErr_eq (d : Device) (n : RoomId) : d.ringErr n = d.updRoom n RoomRegs.withRingErr := by
  simp only [Device.ringErr, Device.flag, Device.updRoom_updRoom, RoomRegs.setFlag_ringErr]
  rfl

theorem RoomRegs.withRingErr_evFlags {r : RoomRegs} (h : r.st ≠ .closed) : r.withRingErr.evFlags = r.evFlags ||| 0x200 := if_neg h

/-- The device as the effect of a good frame for Room `n` finds it: the port's registers changed by `f`, and the Room's link error
cleared (R279, R291). -/
def Device.linkCleared (d : Device) (n : RoomId) (f : LinkState → LinkState) : Device :=
  (d.updLink f).updRoom n fun r => { r with linkErr := false }

section
variable (d : Device) (n : RoomId) (f : LinkState → LinkState)

@[simp] theorem Device.linkCleared_get_same : (d.linkCleared n f).rooms.get n = { d.rooms.get n with linkErr := false } :=
  vget_vmod_same ..

theorem Device.linkCleared_get_ne {m : RoomId} (h : m ≠ n) : (d.linkCleared n f).rooms.get m = d.rooms.get m :=
  vget_vmod_ne _ _ h

end

/-! ### A frame that reaches its Room (R271, R279, R288) -/

/-- Before its effect, a write frame leaves its mark on its port alone. -/
theorem Device.writeSeen_updLink (d : Device) (p : Sys2Proof.Port) (n : RoomId) (off k : Nat) :
    ∃ f, d.writeSeen p n off k = d.updLink f := by
  refine ⟨fun _ => (d.writeSeen p n off k).link, ?_⟩
  cases p with
  | spi => rfl
  | i2c => rfl
  | uart => rfl

/-- Behind its effect, a good frame leaves its answer on its port alone. -/
theorem Device.frameGood_bound {d : Device} {p : Sys2Proof.Port} {n : RoomId} (hbound : (d.rooms.get n).boundTo p = true)
    (f : Device → Device) (off len : Nat) :
    ∃ g, d.frameGood p n f off len = (f (d.linkCleared n (·.setErr p false))).updLink g := by
  have hin : (d.updLink (·.setErr p false)).when ((d.rooms.get n).boundTo p)
      (·.updRoom n fun r => { r with linkErr := false }) = d.linkCleared n (·.setErr p false) := if_pos hbound
  refine ⟨fun _ => (d.frameGood p n f off len).link, ?_⟩
  simp only [Device.frameGood, hin]
  cases p with
  | spi => rfl
  | i2c => rfl
  | uart => rfl

/-- A frame does not cover a byte outside it. -/
theorem frameByte_out {off a : Nat} {l : List Byte} (h : a < off ∨ off + l.length ≤ a) : frameByte off l a = none := by
  unfold frameByte
  split
  · exact List.getElem?_eq_none (by omega)
  · rfl

/-- A frame that ends below the digest engine's registers writes nothing in the common page. -/
theorem Device.commonWrite_below (d : Device) (p : Sys2Proof.Port) (n : RoomId) {off : Nat} {l : List Byte}
    (h : off + l.length ≤ 0xE80) : d.commonWrite p n off l = d := by
  have hdata : dataBad off l = false := by simp [dataBad]; omega
  have hclaim : frameByte off l 0xE80 = none := frameByte_out (by omega)
  have hctrl : frameByte off l 0xE84 = none := frameByte_out (by omega)
  have hoff : ¬ 0xEC0 ≤ off := by omega
  simp [Device.commonWrite, hdata, hclaim, hctrl, hoff, Device.when]

/-- A frame that reaches its Room below the common page's writable registers has its effect on the Room and leaves its mark on the
port. -/
theorem Device.hostWrite_reaches {d : Device} {p : Sys2Proof.Port} {n : RoomId} {off : Nat} {l : List Byte} (h : d.Reaches p n)
    (hsome : 0 < l.length) (hmost : l.length ≤ 512) (hend : off + l.length ≤ 0xE80) :
    ∃ f g, d.hostWrite p n off l = ((d.linkCleared n f).roomWrite n off l).updLink g := by
  obtain ⟨hactive, hbound, hserved, -⟩ := h
  obtain ⟨f, hseen⟩ := d.writeSeen_updLink p n off l.length
  obtain ⟨g, hgood⟩ := Device.frameGood_bound (d := d.updLink f) hbound (·.frameWrite p n off l) 0 0
  have hwhole : ¬ (l.length = 0 ∨ 512 < l.length ∨ 0x1000 < off + l.length ∨ (d.updLink f).roomServed n = false) := by
    rintro (h | h | h | h)
    · omega
    · omega
    · omega
    · exact Bool.noConfusion (h.symm.trans hserved)
  have hbound' : (((d.updLink f).linkCleared n (·.setErr p false)).rooms.get n).boundTo p = true := by
    rw [Device.linkCleared_get_same]; exact hbound
  refine ⟨fun x => (f x).setErr p false, g, ?_⟩
  calc d.hostWrite p n off l
      = (d.updLink f).writeFrame p n off l := by simp only [Device.hostWrite, Device.when, hactive, hseen, if_true]
    _ = (((d.updLink f).linkCleared n (·.setErr p false)).frameWrite p n off l).updLink g := (if_neg hwhole).trans hgood
    _ = _ := by
      rw [Device.frameWrite, Device.when, if_pos hbound', Device.commonWrite_below _ p n hend]
      rfl

/-- The outcome of such a frame away from an edge, where its effect neither moves time nor raises a message. -/
theorem State.onFrame_hostWrite {s : State} {p : Sys2Proof.Port} {n : RoomId} {off : Nat} {l : List Byte} (hcalm : s.dev.Calm)
    (hreach : s.dev.Reaches p n) (hsome : 0 < l.length) (hmost : l.length ≤ 512) (hend : off + l.length ≤ 0xE80)
    (hkeeps : ∀ d : Device, (d.roomWrite n off l).faults = d.faults ∧ (d.roomWrite n off l).batch = d.batch) :
    ∃ f g, s.onFrame (·.hostWrite p n off l) = .next (s.put (((s.dev.linkCleared n f).roomWrite n off l).updLink g)) := by
  obtain ⟨f, g, hwrite⟩ := Device.hostWrite_reaches hreach hsome hmost hend
  obtain ⟨hfaults, hbatch⟩ := hkeeps (s.dev.linkCleared n f)
  obtain ⟨-, -, -, htick⟩ := hreach
  have hcalm' : (s.dev.hostWrite p n off l).faults.graveDue = none := by
    rw [hwrite, Device.updLink_faults, hfaults]; exact hcalm
  have hbatch' : (s.dev.hostWrite p n off l).batch = s.dev.batch := by rw [hwrite, Device.updLink_batch, hbatch]; rfl
  refine ⟨f, g, ?_⟩
  rw [State.onFrame, htick, ← hwrite]
  exact State.onDev_calm' (f := (·.hostWrite p n off l)) hcalm' hbatch'

/-! ### What a frame writes of the rings (R271, R298, R303) -/

section
variable {off : Nat} {l : List Byte}

/-- A frame writes no flag of a register that it does not cover. -/
theorem frameWord_out {reg : Nat} (h : off + l.length ≤ reg ∨ reg + 4 ≤ off) : frameWord off l reg 0 = 0 := by
  have hbyte : ∀ i ∈ List.range 4,
      (frameByte off l (reg + i)).getD (BitVec.ofNat 8 ((0 : Word).toNat / 2 ^ (8 * i))) = 0 := by
    intro i hi
    have hi4 : i < 4 := List.mem_range.mp hi
    rw [frameByte_out (by omega)]
    simp
  rw [frameWord, List.map_congr_left hbyte]
  rfl

theorem frameEnable_out (h : off + l.length ≤ 0x114 ∨ 0x118 ≤ off) (old : Word) : frameEnable off l old = old := by
  refine if_neg ?_
  simp only [List.any_eq_true, List.mem_range, not_exists, not_and]
  intro i hi
  rw [frameByte_out (by omega)]
  simp

variable (d : Device) (n : RoomId)

/-- A frame off the event registers clears no flag. -/
theorem Device.evtClear_out (h : off + l.length ≤ 0x110 ∨ 0x118 ≤ off) : d.evtClear n (frameWord off l 0x110 0) = d := by
  rw [frameWord_out (by omega)]
  refine Device.updRoom_same ?_
  rw [show (~~~0 : Word) = BitVec.allOnes 32 by decide, BitVec.and_allOnes]

/-- A frame off the event registers enables no flag. -/
theorem Device.evtEnable_out (h : off + l.length ≤ 0x110 ∨ 0x118 ≤ off) :
    (d.updRoom n fun r => { r with evEnable := frameEnable off l r.evEnable }) = d :=
  Device.updRoom_same (by rw [frameEnable_out (by omega)])

/-- A frame below the submission ring writes no slot. -/
theorem Device.slotBytes_below (h : off + l.length ≤ 0x200) : d.slotBytes n off l = d := by
  induction l generalizing off with
  | nil => rfl
  | cons b l ih =>
    rw [List.length_cons] at h
    have hbyte : d.slotByte n off b = d := if_neg (by omega)
    rw [Device.slotBytes, hbyte]
    exact ih (by omega)

theorem RoomRegs.slotClash_below (r : RoomRegs) (h : off + l.length ≤ 0x200) : r.slotClash off l = false := by
  simp only [RoomRegs.slotClash, List.any_eq_false, List.mem_range]
  intro i hi
  have hlow : ¬ 0x200 ≤ off + i := by omega
  simp [hlow]

end

/-- The doorbells that a frame covers take effect in ascending offset order (R271). -/
def Device.ringBells (d : Device) (n : RoomId) (off : Nat) (l : List Byte) : Device :=
  let d := match frameByte off l 0x100 with | some v => d.sqTailSet n v | none => d
  match frameByte off l 0x104 with | some v => d.cqHeadSet n v | none => d

/-- Off the event registers, a frame writes slot bytes and then doorbells, and a byte of a held slot is a ring protocol error. -/
theorem Device.roomWrite_rings (d : Device) (n : RoomId) {off : Nat} {l : List Byte}
    (h : off + l.length ≤ 0x110 ∨ 0x118 ≤ off) : d.roomWrite n off l =
      ((d.slotBytes n off l).ringBells n off l).when ((d.rooms.get n).slotClash off l) (·.ringErr n) := by
  rw [Device.roomWrite, Device.evtClear_out _ _ h, Device.evtEnable_out _ _ h]
  rfl

/-- A frame below the submission ring rings doorbells and does nothing else. -/
theorem Device.roomWrite_bells (d : Device) (n : RoomId) {off : Nat} {l : List Byte} (h : off + l.length ≤ 0x110) :
    d.roomWrite n off l = d.ringBells n off l := by
  have hslots : off + l.length ≤ 0x200 := by omega
  rw [Device.roomWrite_rings d n (.inl h), Device.slotBytes_below d n hslots, RoomRegs.slotClash_below _ hslots]
  rfl

theorem Device.roomWrite_sqTail (d : Device) (n : RoomId) (v : Byte) : d.roomWrite n 0x100 [v] = d.sqTailSet n v :=
  d.roomWrite_bells n (by simp)

theorem Device.roomWrite_cqHead (d : Device) (n : RoomId) (v : Byte) : d.roomWrite n 0x104 [v] = d.cqHeadSet n v :=
  d.roomWrite_bells n (by simp)

/-- A frame behind the registers rings no doorbell. -/
theorem Device.ringBells_behind (d : Device) (n : RoomId) {off : Nat} (l : List Byte) (h : 0x200 ≤ off) :
    d.ringBells n off l = d := by
  have hsqTail : frameByte off l 0x100 = none := frameByte_out (by omega)
  have hcqHead : frameByte off l 0x104 = none := frameByte_out (by omega)
  simp only [Device.ringBells, hsqTail, hcqHead]

/-! ### `SQ_TAIL` (R297) -/

/-- The new occupancy that a write of `SQ_TAIL` asks for is legal: at most 32, and no less than before. -/
def RoomRegs.sqTailLegal (r : RoomRegs) (v : Byte) : Prop := (v - r.sqHead).toNat ≤ 32 ∧ r.sqUsed ≤ (v - r.sqHead).toNat

theorem Device.sqTailSet_legal {d : Device} {n : RoomId} {v : Byte} (h : (d.rooms.get n).sqTailLegal v) :
    d.sqTailSet n v = d.updRoom n fun r => { r with sqTail := v } := if_pos h

theorem Device.sqTailSet_illegal {d : Device} {n : RoomId} {v : Byte} (h : ¬ (d.rooms.get n).sqTailLegal v) :
    d.sqTailSet n v = d.updRoom n RoomRegs.withRingErr := (if_neg h).trans (d.ringErr_eq n)

/-- A write of `SQ_TAIL` changes its Room's registers and nothing else, whether it is legal or not. -/
theorem Device.sqTailSet_updRoom (d : Device) (n : RoomId) (v : Byte) : ∃ f, d.sqTailSet n v = d.updRoom n f := by
  by_cases h : (d.rooms.get n).sqTailLegal v
  · exact ⟨_, Device.sqTailSet_legal h⟩
  · exact ⟨_, Device.sqTailSet_illegal h⟩

theorem exec_sqTailWrite {s : State} {p : Sys2Proof.Port} {n : RoomId} (hcalm : s.dev.Calm) (h : s.dev.Reaches p n) (v : Byte) :
    ∃ f g, exec (.sqTailWrite p n v) s = .next (s.put (((s.dev.linkCleared n f).sqTailSet n v).updLink g)) := by
  simp only [← Device.roomWrite_sqTail]
  refine State.onFrame_hostWrite hcalm h (by simp) (by simp) (by simp) fun d => ?_
  obtain ⟨f, hset⟩ := d.sqTailSet_updRoom n v
  rw [Device.roomWrite_sqTail, hset]
  exact ⟨rfl, rfl⟩

/-- Settles O27: a legal write sets the Room's `SQ_TAIL`, any other counts a ring protocol error, and both are updates of that
Room's registers. -/
theorem submissionDoorbellIsChecked : Obligations.SubmissionDoorbellIsChecked := by
  unfold Obligations.SubmissionDoorbellIsChecked
  intro s p n v hcalm hreach
  obtain ⟨f, g, hexec⟩ := exec_sqTailWrite hcalm hreach v
  have hroom := s.dev.linkCleared_get_same n f
  obtain ⟨k, hset⟩ := (s.dev.linkCleared n f).sqTailSet_updRoom n v
  refine ⟨_, hexec, rfl, ?_, ?_, ?_, ?_⟩
  · intro hlegal
    have hlegal' : ((s.dev.linkCleared n f).rooms.get n).sqTailLegal v := by rw [hroom]; exact hlegal
    simp only [State.put, Device.sqTailSet_legal hlegal', Device.updLink_rooms, Device.updRoom_rooms, vget_vmod_same, hroom]
  · intro hillegal
    have hillegal' : ¬ ((s.dev.linkCleared n f).rooms.get n).sqTailLegal v := by rw [hroom]; exact hillegal
    simp only [State.put, Device.sqTailSet_illegal hillegal', Device.updLink_rooms, Device.updRoom_rooms, vget_vmod_same, hroom]
    exact ⟨rfl, rfl, RoomRegs.withRingErr_evFlags⟩
  · intro m hm
    simp only [State.put, hset, Device.updLink_rooms, Device.updRoom_rooms, vget_vmod_ne _ _ hm, Device.linkCleared_get_ne _ _ _ hm]
  · simp only [State.put, hset]
    exact ⟨rfl, rfl, rfl, rfl, rfl, rfl⟩

/-! ### `CQ_HEAD` (R301, R323) -/

/-- What a passage of `CQ_HEAD` retires: the Room's records whose completion slot lies between its former and its new place. -/
theorem Device.mem_retire {d : Device} {n : RoomId} {old new : Byte} {r : Rec} :
    r ∈ (d.retire n old new).reqs.recs ↔ r ∈ d.reqs.recs ∧
      ¬ (r.id.room = n ∧ ∃ q, r.postedAt = some q ∧ (q - old).toNat < (new - old).toNat) := by
  simp only [Device.retire, Device.updReqs_reqs, List.mem_filter]
  cases r.postedAt with
  | none => simp
  | some q => simp [imp_iff_not_or]

@[simp] theorem Device.retire_rooms (d : Device) (n : RoomId) (old new : Byte) : (d.retire n old new).rooms = d.rooms := rfl

theorem Device.cqHeadSet_within {d : Device} {n : RoomId} {v : Byte}
    (h : (v - (d.rooms.get n).cqHead).toNat ≤ (d.rooms.get n).cqUsed) :
    d.cqHeadSet n v = (d.retire n (d.rooms.get n).cqHead v).updRoom n fun r => { r with cqHead := v } := if_pos h

theorem Device.cqHeadSet_beyond {d : Device} {n : RoomId} {v : Byte}
    (h : (d.rooms.get n).cqUsed < (v - (d.rooms.get n).cqHead).toNat) : d.cqHeadSet n v = d.updRoom n RoomRegs.withRingErr :=
  (if_neg (Nat.not_le.mpr h)).trans (d.ringErr_eq n)

/-- A write of `CQ_HEAD` changes the record table and its Room's registers and nothing else, whether it lies within the occupancy
or not. -/
theorem Device.cqHeadSet_updRoom (d : Device) (n : RoomId) (v : Byte) :
    ∃ f k, d.cqHeadSet n v = (d.updReqs f).updRoom n k := by
  rcases Nat.lt_or_ge (d.rooms.get n).cqUsed (v - (d.rooms.get n).cqHead).toNat with h | h
  · exact ⟨id, _, Device.cqHeadSet_beyond h⟩
  · exact ⟨fun _ => (d.retire n (d.rooms.get n).cqHead v).reqs, _, Device.cqHeadSet_within h⟩

theorem exec_cqHeadWrite {s : State} {p : Sys2Proof.Port} {n : RoomId} (hcalm : s.dev.Calm) (h : s.dev.Reaches p n) (v : Byte) :
    ∃ f g, exec (.cqHeadWrite p n v) s = .next (s.put (((s.dev.linkCleared n f).cqHeadSet n v).updLink g)) := by
  simp only [← Device.roomWrite_cqHead]
  refine State.onFrame_hostWrite hcalm h (by simp) (by simp) (by simp) fun d => ?_
  obtain ⟨f, k, hset⟩ := d.cqHeadSet_updRoom n v
  rw [Device.roomWrite_cqHead, hset]
  exact ⟨rfl, rfl⟩

/-- Settles O28: a write within the occupancy moves `CQ_HEAD` and retires what it passes, any other counts a ring protocol error
and leaves the record table. -/
theorem completionDoorbellRetiresRecords : Obligations.CompletionDoorbellRetiresRecords := by
  unfold Obligations.CompletionDoorbellRetiresRecords
  intro s p n v hcalm hreach
  obtain ⟨f, g, hexec⟩ := exec_cqHeadWrite hcalm hreach v
  have hroom := s.dev.linkCleared_get_same n f
  have hhead : ((s.dev.linkCleared n f).rooms.get n).cqHead = (s.dev.rooms.get n).cqHead := by rw [hroom]
  have hused : ((s.dev.linkCleared n f).rooms.get n).cqUsed = (s.dev.rooms.get n).cqUsed := by rw [hroom]; rfl
  obtain ⟨j, k, hset⟩ := (s.dev.linkCleared n f).cqHeadSet_updRoom n v
  refine ⟨_, hexec, ?_, ?_, ?_, ?_⟩
  · intro hwithin
    rw [← hhead, ← hused] at hwithin
    simp only [State.put, Device.cqHeadSet_within hwithin]
    refine ⟨?_, fun r => ?_⟩
    · simp only [Device.updLink_rooms, Device.updRoom_rooms, Device.retire_rooms, vget_vmod_same, hroom]
    · rw [Device.updLink_reqs, Device.updRoom_reqs, Device.mem_retire, hhead]
      rfl
  · intro hbeyond
    rw [← hhead, ← hused] at hbeyond
    simp only [State.put, Device.cqHeadSet_beyond hbeyond, Device.updLink_rooms, Device.updRoom_rooms, vget_vmod_same, hroom]
    exact ⟨rfl, rfl, rfl, RoomRegs.withRingErr_evFlags⟩
  · intro m hm
    simp only [State.put, hset, Device.updLink_rooms, Device.updRoom_rooms, Device.updReqs_rooms, vget_vmod_ne _ _ hm,
      Device.linkCleared_get_ne _ _ _ hm]
  · simp only [State.put, hset]
    exact ⟨rfl, rfl, rfl⟩

/-! ### Submission slots (R298) -/

section
variable {d : Device}

/-- A byte of window RAM after one byte of it is written: no two Rooms share one. -/
theorem Device.winRead_winWrite (hwf : memWf zeroByte d.wram = true) (n m : RoomId) {x a : Nat} (b : Byte) (hx : x < 4096)
    (ha : a < 4096) : (d.winWrite n x [b]).winRead m a = if m = n ∧ a = x then b else d.winRead m a := by
  simp only [Device.winRead, Device.winWrite]
  split
  case isTrue h =>
    obtain ⟨rfl, rfl⟩ := h
    exact cellRead_cellWrite_same _ b hwf
  case isFalse h =>
    refine cellRead_cellWrite_ne b hwf fun heq => h ⟨Fin.ext ?_, ?_⟩
    · omega
    · omega

/-- The byte of a frame at `x` is written: it lies in the submission ring, in a slot that is not held. -/
def Device.slotTakes (d : Device) (n : RoomId) (x : Nat) : Prop :=
  0x200 ≤ x ∧ x < 0xA00 ∧ (d.rooms.get n).slotHeld ((x - 0x200) / 64) = false

theorem Device.slotByte_taken {n : RoomId} {x : Nat} (h : d.slotTakes n x) (b : Byte) :
    d.slotByte n x b = d.winWrite n x [b] := if_pos h

theorem Device.slotByte_discarded {n : RoomId} {x : Nat} (h : ¬ d.slotTakes n x) (b : Byte) : d.slotByte n x b = d := if_neg h

theorem Device.slotByte_winRead_same (hwf : memWf zeroByte d.wram = true) {n : RoomId} {x : Nat} (b : Byte) (hlow : 0x200 ≤ x)
    (hhigh : x < 0xA00) : (d.slotByte n x b).winRead n x =
      if (d.rooms.get n).slotHeld ((x - 0x200) / 64) then d.winRead n x else b := by
  split
  case isTrue hheld =>
    rw [Device.slotByte_discarded fun ⟨_, _, hfree⟩ => Bool.noConfusion (hheld.symm.trans hfree)]
  case isFalse hfree =>
    rw [Device.slotByte_taken ⟨hlow, hhigh, Bool.eq_false_of_not_eq_true hfree⟩, Device.winRead_winWrite hwf _ _ _ (by omega) (by omega),
      if_pos ⟨rfl, rfl⟩]

theorem Device.slotByte_winRead_ne (hwf : memWf zeroByte d.wram = true) {n m : RoomId} {x a : Nat} (b : Byte) (ha : a < 4096)
    (hne : ¬ (m = n ∧ a = x)) : (d.slotByte n x b).winRead m a = d.winRead m a := by
  by_cases h : d.slotTakes n x
  case pos =>
    obtain ⟨_, hhigh, _⟩ := id h
    rw [Device.slotByte_taken h, Device.winRead_winWrite hwf _ _ _ (by omega) ha, if_neg hne]
  case neg => rw [Device.slotByte_discarded h]

theorem Device.slotByte_wf (hwf : memWf zeroByte d.wram = true) (n : RoomId) (x : Nat) (b : Byte) :
    memWf zeroByte (d.slotByte n x b).wram = true := by
  by_cases h : d.slotTakes n x
  · rw [Device.slotByte_taken h]; exact Device.winWrite_wf n x [b] hwf
  · rw [Device.slotByte_discarded h]; exact hwf

end

/-- A byte of a frame changes window RAM and nothing else. -/
theorem Device.slotByte_wram (d : Device) (n : RoomId) (x : Nat) (b : Byte) : ∃ m, d.slotByte n x b = { d with wram := m } := by
  by_cases h : d.slotTakes n x
  · exact ⟨_, Device.slotByte_taken h b⟩
  · exact ⟨d.wram, Device.slotByte_discarded h b⟩

@[simp] theorem Device.slotByte_rooms (d : Device) (n : RoomId) (x : Nat) (b : Byte) : (d.slotByte n x b).rooms = d.rooms := by
  obtain ⟨m, h⟩ := d.slotByte_wram n x b
  rw [h]

/-- The bytes of a frame change window RAM and nothing else. -/
theorem Device.slotBytes_wram (d : Device) (n : RoomId) (x : Nat) (l : List Byte) :
    ∃ m, d.slotBytes n x l = { d with wram := m } := by
  induction l generalizing d x with
  | nil => exact ⟨d.wram, rfl⟩
  | cons b l ih =>
    obtain ⟨m, hbyte⟩ := d.slotByte_wram n x b
    obtain ⟨m', hrest⟩ := ih (d.slotByte n x b) (x + 1)
    exact ⟨m', by rw [Device.slotBytes, hrest, hbyte]⟩

@[simp] theorem Device.slotBytes_rooms (d : Device) (n : RoomId) (x : Nat) (l : List Byte) :
    (d.slotBytes n x l).rooms = d.rooms := by
  obtain ⟨m, h⟩ := d.slotBytes_wram n x l
  rw [h]

/-- A byte that the frame does not cover stays. -/
theorem Device.slotBytes_winRead_out {d : Device} (hwf : memWf zeroByte d.wram = true) {n m : RoomId} {x a : Nat} {l : List Byte}
    (ha : a < 4096) (hout : ¬ (m = n ∧ x ≤ a ∧ a < x + l.length)) : (d.slotBytes n x l).winRead m a = d.winRead m a := by
  induction l generalizing d x with
  | nil => rfl
  | cons b l ih =>
    rw [List.length_cons] at hout
    calc (d.slotBytes n x (b :: l)).winRead m a
        = (d.slotByte n x b).winRead m a :=
          ih (Device.slotByte_wf hwf n x b) fun ⟨hm, hge, hlt⟩ => hout ⟨hm, by omega, by omega⟩
      _ = d.winRead m a := Device.slotByte_winRead_ne hwf b ha fun ⟨hm, hx⟩ => hout ⟨hm, by omega, by omega⟩

/-- A byte that the frame covers is written unless its slot is held. -/
theorem Device.slotBytes_winRead_in {d : Device} (hwf : memWf zeroByte d.wram = true) {n : RoomId} {x i : Nat} {l : List Byte}
    (hlow : 0x200 ≤ x) (hhigh : x + l.length ≤ 0xA00) (hi : i < l.length) :
    (d.slotBytes n x l).winRead n (x + i) =
      if (d.rooms.get n).slotHeld ((x + i - 0x200) / 64) then d.winRead n (x + i) else l[i] := by
  induction l generalizing d x i with
  | nil => exact absurd hi (Nat.not_lt_zero i)
  | cons b l ih =>
    rw [List.length_cons] at hhigh hi
    have hwf' := Device.slotByte_wf hwf n x b
    cases i with
    | zero =>
      exact (Device.slotBytes_winRead_out hwf' (by omega) (by omega)).trans
        (Device.slotByte_winRead_same hwf b hlow (by omega))
    | succ i =>
      rw [show x + (i + 1) = x + 1 + i by omega]
      refine (ih hwf' (by omega) (by omega) (by omega)).trans ?_
      rw [Device.slotByte_rooms, Device.slotByte_winRead_ne hwf b (by omega) (by omega)]
      rfl

/-- A Room's registers after a frame of slot bytes: a byte of a held slot among them is a ring protocol error. -/
def RoomRegs.afterSlots (r : RoomRegs) (off : Nat) (l : List Byte) : RoomRegs := if r.slotClash off l then r.withRingErr else r

theorem RoomRegs.afterSlots_clash {r : RoomRegs} {off : Nat} {l : List Byte} (h : r.slotClash off l = true) :
    r.afterSlots off l = r.withRingErr := if_pos h

theorem RoomRegs.afterSlots_free {r : RoomRegs} {off : Nat} {l : List Byte} (h : r.slotClash off l = false) :
    r.afterSlots off l = r := if_neg (by rw [h]; decide)

/-- A frame behind the registers writes slot bytes, and its Room's registers meet a held slot or stay. -/
theorem Device.roomWrite_slots (d : Device) (n : RoomId) {off : Nat} (l : List Byte) (h : 0x200 ≤ off) :
    d.roomWrite n off l = (d.slotBytes n off l).updRoom n (·.afterSlots off l) := by
  rw [Device.roomWrite_rings d n (.inr (by omega)), Device.ringBells_behind _ n l h]
  cases hclash : (d.rooms.get n).slotClash off l with
  | true =>
    refine ((d.slotBytes n off l).ringErr_eq n).trans (Device.updRoom_congr ?_)
    rw [Device.slotBytes_rooms, RoomRegs.afterSlots_clash hclash]
  | false =>
    show d.slotBytes n off l = _
    refine (Device.updRoom_same ?_).symm
    rw [Device.slotBytes_rooms, RoomRegs.afterSlots_free hclash]

theorem exec_submissionSlotWrite {s : State} {p : Sys2Proof.Port} {n : RoomId} {off : Nat} {l : List Byte} (hcalm : s.dev.Calm)
    (h : s.dev.Reaches p n) (hlow : 0x200 ≤ off) (hhigh : off + l.length ≤ 0xA00) (hsome : 0 < l.length) (hmost : l.length ≤ 512) :
    ∃ f g, exec (.submissionSlotWrite p n off l) s =
      .next (s.put (((s.dev.linkCleared n f).roomWrite n off l).updLink g)) := by
  have hrow : exec (.submissionSlotWrite p n off l) s = s.onFrame (·.hostWrite p n off l) := by
    show execSubmissionSlotWrite p n off l s = _
    simp only [execSubmissionSlotWrite, Device.when, hlow, hhigh, decide_true, Bool.and_self, if_true]
  rw [hrow]
  refine State.onFrame_hostWrite hcalm h hsome hmost (by omega) fun d => ?_
  obtain ⟨m, hslots⟩ := d.slotBytes_wram n off l
  rw [Device.roomWrite_slots d n l hlow, hslots]
  exact ⟨rfl, rfl⟩

/-- Settles O29: byte by byte, what the frame writes and what it discards; a byte discarded is a clash, which is a ring protocol
error. -/
theorem heldSlotsAreNotWritten : Obligations.HeldSlotsAreNotWritten := by
  unfold Obligations.HeldSlotsAreNotWritten
  intro s p n off l hcalm ⟨hwf, _⟩ hreach hlow hhigh hsome hmost
  obtain ⟨f, g, hexec⟩ := exec_submissionSlotWrite hcalm hreach hlow hhigh hsome hmost
  rw [Device.roomWrite_slots _ n l hlow] at hexec
  have hroom := s.dev.linkCleared_get_same n f
  have hwf' : memWf zeroByte (s.dev.linkCleared n f).wram = true := hwf
  have hafter : (((s.dev.linkCleared n f).slotBytes n off l).updRoom n (·.afterSlots off l)).rooms.get n =
      { s.dev.rooms.get n with linkErr := false }.afterSlots off l := by
    rw [Device.updRoom_rooms, vget_vmod_same, Device.slotBytes_rooms, hroom]
  obtain ⟨m, hslots⟩ := (s.dev.linkCleared n f).slotBytes_wram n off l
  refine ⟨_, hexec, ?_, ?_, ?_, ?_, ?_⟩
  · intro i hi
    refine (Device.slotBytes_winRead_in hwf' hlow hhigh hi).trans ?_
    rw [hroom]
    rfl
  · intro k a hout ha
    exact Device.slotBytes_winRead_out hwf' ha hout
  · intro hclash hopen
    exact (congrArg RoomRegs.evFlags (hafter.trans (RoomRegs.afterSlots_clash hclash))).trans (RoomRegs.withRingErr_evFlags hopen)
  · intro hclash
    exact hafter.trans (RoomRegs.afterSlots_free hclash)
  · simp only [State.put, hslots]
    exact ⟨rfl, rfl, rfl⟩

end Sys2Proof.Machine

/-! PROOFS. The outcome of every row: a next state with the queue's rest, no Grave message waiting, and device time no earlier
(R136, R659). -/
namespace Sys2Proof.Machine

/-! ### Where a row ends -/

/-- A row whose effect leaves some device: the Grave path follows, and the Batch timer's time is no earlier than before. -/
def State.Finishes (s : State) (o : Res) : Prop :=
  ∃ (d : Device) (b : BatchTimer), o = .next { s with dev := { d.finish with batch := b } } ∧ s.dev.now ≤ b.time

theorem State.onDev_finishes (s : State) (f : Device → Device) : s.Finishes (s.onDev f) := ⟨_, _, rfl, le_rfl⟩

theorem State.onClk_finishes (s : State) (f : Device → Device) : s.Finishes (s.onClk f) := ⟨_, _, rfl, le_max_left ..⟩

theorem State.onFrame_finishes (s : State) (f : Device → Device) : s.Finishes (s.onFrame f) := by
  unfold State.onFrame
  split
  · exact s.onClk_finishes _
  · exact s.onDev_finishes f

theorem State.request_finishes (s : State) (c : Cmd) (r : Sys2Proof.Req) : s.Finishes (s.request c r) := s.onFrame_finishes _

/-- Every row but those of POR and its release: rows that take no time, rows that may move time on, frames, and requests. -/
theorem exec_finishes (i : Sys2Proof.Instr) (s : State) :
    (∃ mv, i = .por mv) ∨ (∃ mv h, i = .porRelease mv h) ∨ s.Finishes (exec i s) := by
  match i with
  | .por mv => exact .inl ⟨mv, rfl⟩
  | .porRelease mv h => exact .inr (.inl ⟨mv, h, rfl⟩)
  | .wakeNRequest | .btnNPress | .wakeComparatorFire .. | .shipBtnHold | .vioGood | .vioLost
  | .keeperWdPeriodWrite .. | .keystoreWriteDone .. | .imageEraseEnd | .recipeEraseEnd | .tapReset | .keyprog ..
  | .lcadv | .dbgHalt .. | .dbgWdhalt .. | .dbgAttach .. | .dbgChalReq | .dbgDrop | .dbgAuthSubmit ..
  | .dbgMemRead .. | .dbgMemWrite .. | .dbgMemErase .. | .codedMessage .. | .ledgerEntryWrite | .graveExit ..
  | .thermalWarning .. | .paSourceSwitch | .dcinValid | .dcinInvalid | .dcOv .. | .ccLevelChange .. | .vsysOv
  | .batfetUvOpen .. | .batfetOcOpen .. | .batfetStuck .. | .priLow .. | .pvColdStart | .resImbal .. | .resOv
  | .reservoirChargeStart | .kineticClamp | .illegalTransition | .reverseCurrentCut .. | .prechargeExit | .cvReached
  | .chargeTerminate | .rechargeStart | .zoneChange .. | .harvestChargingPresent | .batteryRemoved .. | .chgBatOv ..
  | .chgOvFetfail .. | .chgNtc .. | .chgBatid .. | .shuntComparator | .breqRise | .breqFall | .hrstNHoldThreshold
  | .batteryStartCrossing .. | .aonNodeLoss | .vsysOvClear | .kineticClampRelease | .resOvClear | .resImbalClear
  | .reservoirChargeStop | .vsysCeilingCrossing | .dieCooled | .thermalWarningClear .. | .dualRailReturn ..
  | .harvestChargingCeases =>
    exact .inr (.inr (by dsimp only [exec]; exact s.onDev_finishes _))
  | .brownOut | .startGatePass .. | .startTick .. | .restartGraceEnd .. | .btnRestartHold .. | .bootFloorEnd
  | .lodgeEntry | .lodgeAlarm | .shipEntry | .crystalFail | .crystalQualify .. | .dividerUpdate .. | .batchEdge ..
  | .budgetMark | .commitDeadline | .coldHoldEnd | .keeperRestartDone .. | .selfTestDue | .selfTestResult ..
  | .keeperWdKick .. | .keeperWdExpiry .. | .romLimitExpiry .. | .guestWdExpiry .. | .gwdGatingEnd .. | .digClaimIdle
  | .digClaimMax | .schedDue .. | .seqDelayEnd | .seqWaitTimeout | .adcReadTimeout .. | .digQueueTimeout ..
  | .stagedBytesProgrammed | .imageStageAbandon | .recipeSwitch | .recipeWriteAbandon | .lifecycleProgramDone ..
  | .challengeExpiry | .attachRetry | .dualRailFault .. | .lineFault .. | .suppressionHourEnd | .warnExpiry ..
  | .railProofed .. | .proofFail .. | .railSag .. | .railTrip .. | .retryRelease .. | .ladderReset ..
  | .dockDetectionEnd .. | .batfetClose .. | .passivationPulseDue .. | .priPulseEnd .. | .pvFocvSample ..
  | .hallEdge .. | .counterInterpolate | .rotorStall | .twpwrDutySample .. | .qualifyPass .. | .topoffEnd
  | .prechargeTimeout | .fastTimeout | .goneAutoRead | .gaugeAutozero .. | .gaugeWindow .. | .ocvCorrection ..
  | .ageHour | .gaugeRecordSave | .forecastBinUpdate | .reservationEnd .. | .burstStart | .bgntRise | .burstEnd
  | .adcSetStart .. | .adcSetComplete .. | .gaugeSippingEntry | .twpwrHoldEnd | .reservationStart ..
  | .authLockoutEnd =>
    exact .inr (.inr (by dsimp only [exec]; exact s.onClk_finishes _))
  | .sqTailWrite .. | .cqHeadWrite .. | .submissionSlotWrite .. | .evtFlagsClear .. | .registerWrite ..
  | .i2cAddressSet .. | .servicePortGap .. | .digClaimWrite .. | .digStart .. | .digFinish .. | .digAbort ..
  | .digDataWrite .. =>
    exact .inr (.inr (s.onFrame_finishes _))
  | .hello .. | .bye .. | .ping .. | .time .. | .roomQuery .. | .roomReset .. | .pwrQuery .. | .pwrFloor ..
  | .pwrLodge .. | .pwrShipArm .. | .pwrShipCancel .. | .pwrRestart .. | .railVote .. | .railQuery .. | .railSched ..
  | .seqRun .. | .seqAbort .. | .chgQuery .. | .chgSet .. | .chgFaultsRead .. | .chgFaultsClear .. | .gaugeQuery ..
  | .gaugeSetSoc .. | .gaugeSetAgeAdd .. | .gaugeSetLearnReset .. | .larderReserve .. | .burstPair ..
  | .larderRelease .. | .larderQuery .. | .larderSetTod .. | .larderSetFcReset .. | .pathQuery .. | .dcLimit ..
  | .priPulse .. | .pvSet .. | .kinQuery .. | .kinSet .. | .kinUser .. | .adcPlan .. | .adcGroupSet ..
  | .adcGroupTrigger .. | .adcGroupRelease .. | .adcRead .. | .digKeyload .. | .digQueue .. | .faultRead ..
  | .ledgerRead .. | .faultClearSafeHold .. | .faultClearRailHeld .. | .faultClearAllHeld .. | .faultClearBatfet ..
  | .faultClearActive .. | .faultClearLedgerMark .. | .faultProbe .. | .wdSetPeriod .. | .wdSetClearRestarts ..
  | .wdQuery .. | .gwdArm .. | .wdKick .. | .keeperSwap .. | .keeperQuery .. | .keeperRevive .. | .imageStageOpen ..
  | .imageStageData .. | .imageStageClose .. | .imageCommitCommit .. | .imageCommitAbort .. | .imageQuery ..
  | .recipeSelect .. | .recipeWriteOpen .. | .recipeWriteData .. | .recipeWriteClose .. | .recipeQuery ..
  | .dbgChallenge .. | .dbgRespondRespond .. | .dbgRespondDrop .. | .lifecycleAdvance .. | .secQuery .. =>
    exact .inr (.inr (s.request_finishes _ _))

theorem exec_por (mv : Nat) (s : State) : exec (.por mv) s = .next (s.put (s.dev.porAssert mv)) := rfl

theorem exec_porRelease (mv : Nat) (h : Bool) (s : State) :
    exec (.porRelease mv h) s = .next (s.put (s.dev.porRelease mv h)) := rfl

theorem step_cons {s : State} {c : Sys2Proof.Instr} {rest : List Sys2Proof.Instr} (h : s.pending = c :: rest) :
    step s = exec c { s with pending := rest } := by
  unfold step; rw [h]

theorem step_nil {s : State} (h : s.pending = []) : step s = s.onClk (·.idleTick) := by
  unfold step; rw [h]

/-- Settles O3: each row answers a next state and touches the device alone. -/
theorem everyCommandCompletes : Obligations.EveryCommandCompletes := by
  unfold Obligations.EveryCommandCompletes
  intro i s
  obtain ⟨mv, rfl⟩ | ⟨mv, h, rfl⟩ | ⟨d, b, hexec, -⟩ := exec_finishes i s
  · exact ⟨_, exec_por mv s, rfl⟩
  · exact ⟨_, exec_porRelease mv h s, rfl⟩
  · exact ⟨_, hexec, rfl⟩

/-- A row that finishes keeps device time from going back. -/
theorem State.Finishes.now_le {s t : State} {o : Res} (h : s.Finishes o) (ht : o = .next t) : s.dev.now ≤ t.dev.now := by
  obtain ⟨d, b, rfl, hb⟩ := h
  cases ht
  exact hb

/-- Settles O4: every other row, and the passing of time on an empty queue, ends with the later of two times. -/
theorem deviceTimeNeverDecreases : Obligations.DeviceTimeNeverDecreases := by
  unfold Obligations.DeviceTimeNeverDecreases
  refine ⟨fun i s t hpor hrelease hexec => ?_, fun s t hqueue hstep => ?_⟩
  · obtain ⟨mv, rfl⟩ | ⟨mv, h, rfl⟩ | hfin := exec_finishes i s
    · exact absurd rfl (hpor mv)
    · exact absurd rfl (hrelease mv h)
    · exact hfin.now_le hexec
  · rw [step_nil hqueue] at hstep
    exact (s.onClk_finishes _).now_le hstep

/-! ### No Grave message waits (R659) -/

theorem Device.porReset_calm (d : Device) : d.porReset.Calm := rfl

/-- The Grave path leaves no message waiting, and without a message nothing follows. -/
theorem Device.finish_calm (d : Device) : d.finish.Calm := by
  unfold Device.finish
  cases h : d.faults.graveDue with
  | none => exact h
  | some m => rfl

theorem Device.porAssert_calm {d : Device} (h : d.Calm) (mv : Nat) : (d.porAssert mv).Calm := by
  unfold Device.porAssert
  split
  · exact h
  · exact h
  · exact h
  · exact d.porReset_calm

theorem Device.porRelease_calm {d : Device} (h : d.Calm) (mv : Nat) (test : Bool) : (d.porRelease mv test).Calm := by
  unfold Device.porRelease
  split
  · exact h
  · exact h

theorem State.Finishes.calm {s t : State} {o : Res} (h : s.Finishes o) (ht : o = .next t) : t.dev.Calm := by
  obtain ⟨d, b, rfl, -⟩ := h
  cases ht
  exact d.finish_calm

/-- Settles O5: every row ends with the Grave path of the message it accepted, and POR and its release accept none. -/
theorem graveNeverOutstanding : Obligations.GraveNeverOutstanding := by
  unfold Obligations.GraveNeverOutstanding
  intro s t hcalm hstep
  cases hqueue : s.pending with
  | nil =>
    rw [step_nil hqueue] at hstep
    exact (s.onClk_finishes _).calm hstep
  | cons c rest =>
    rw [step_cons hqueue] at hstep
    obtain ⟨mv, rfl⟩ | ⟨mv, h, rfl⟩ | hfin := exec_finishes c { s with pending := rest }
    · cases hstep
      exact Device.porAssert_calm hcalm mv
    · cases hstep
      exact Device.porRelease_calm hcalm mv h
    · exact hfin.calm hstep

end Sys2Proof.Machine

/-! PROOFS. The passing of time on an empty queue (R135 to R137, log entry 10). -/
namespace Sys2Proof.Machine

/-- A phase in which the Batch runs is one in which time does. -/
theorem Phase.timeRuns_of_batchRuns {p : Phase} (h : p.batchRuns = true) : p.timeRuns = true :=
  match p, h with
  | .open, _ | .lodgeDown, _ | .shipDown, _ => rfl

theorem Device.idleTick_still {d : Device} (h : d.power.phase.timeRuns = false) : d.idleTick = d := by
  simp [Device.idleTick, h]

theorem Device.idleTick_runs {d : Device} (h : d.power.phase.batchRuns = true) :
    d.idleTick = d.arrive (min (d.now + 1) d.batch.nextEdge) := by
  simp [Device.idleTick, Device.arrive, h, Phase.timeRuns_of_batchRuns h]

/-- While nothing paces the device, one period of the KEEP clock passes. -/
theorem Device.idleTick_keeps {d : Device} (htime : d.power.phase.timeRuns = true) (hbatch : d.power.phase.batchRuns = false)
    (htick : d.power.phase.ticks = false) : d.idleTick = d.elapse (d.batch.keepSteps 1) := by
  simp [Device.idleTick, Device.reaches, Device.when, htime, hbatch, htick]

/-- One period of the KEEP clock is 15,625/512 µs. -/
theorem BatchTimer.keepSteps_one (b : BatchTimer) : (b.keepSteps 1).timeFrac < 512 ∧
    512 * (b.keepSteps 1).time + (b.keepSteps 1).timeFrac = 512 * b.time + b.timeFrac + 15625 := by
  simp only [BatchTimer.keepSteps]
  omega

theorem BatchTimer.time_le_keepSteps_one (b : BatchTimer) : b.time ≤ (b.keepSteps 1).time := by
  simp only [BatchTimer.keepSteps]
  omega

/-- An idle step of a device that nothing paces. -/
theorem step_idle_keeps {s : State} (hqueue : s.pending = []) (hcalm : s.dev.Calm) (htime : s.dev.power.phase.timeRuns = true)
    (hbatch : s.dev.power.phase.batchRuns = false) (htick : s.dev.power.phase.ticks = false) :
    step s = .next (s.put (s.dev.elapse (s.dev.batch.keepSteps 1))) := by
  have htick' := Device.idleTick_keeps htime hbatch htick
  rw [step_nil hqueue, ← htick']
  refine State.onClk_calm' ?_ ?_
  · rw [htick']; exact hcalm
  · rw [htick']; exact s.dev.batch.time_le_keepSteps_one

/-- Settles O2: what a tick on an empty queue does in each phase. -/
theorem emptyQueueLetsTimePass : Obligations.EmptyQueueLetsTimePass := by
  unfold Obligations.EmptyQueueLetsTimePass
  intro s hqueue hcalm
  refine ⟨?still, ?runs, ?comes, ?edge, ?keeps⟩
  case still =>
    intro h
    have htime : s.dev.power.phase.timeRuns = false := by
      rcases h with h | h | h <;> rw [h] <;> rfl
    rw [step_nil hqueue]
    exact State.onClk_same hcalm (Device.idleTick_still htime)
  case runs =>
    intro hbatch hbefore
    rw [step_nil hqueue, State.onClk_clocked, Device.idleTick_runs hbatch, min_eq_left hbefore]
  case comes =>
    intro hcomes
    have hidle : s.dev.idleTick = s.dev.moveTo (s.dev.now + 1) := by
      rw [Device.idleTick_runs hcomes.1, min_eq_left hcomes.2.2.1, Device.arrive_comes hcomes]
    have hmoved := Device.moveTo_batch hcomes.1 hcomes.2.1
    have hstep : step s = .next (s.put s.dev.idleTick) := by
      rw [step_nil hqueue]
      refine State.onClk_calm' (f := (·.idleTick)) ?_ ?_
      · rw [hidle]; exact hcalm
      · rw [hidle, hmoved]; exact hcomes.2.1
    rw [hidle] at hstep
    refine ⟨_, hstep, hqueue, Device.moveTo_now hcomes.1 hcomes.2.1, ?_, rfl⟩
    rw [State.put, ← hmoved]
    rfl
  case edge =>
    intro hbatch hedge hbudget hdeadline
    rw [step_nil hqueue]
    refine State.onClk_same hcalm ?_
    have hpast : s.dev.moveTo (min (s.dev.now + 1) s.dev.batch.nextEdge) = s.dev :=
      Device.moveTo_past hbatch (by omega)
    rw [Device.idleTick_runs hbatch, Device.arrive, hpast]
    exact Device.catchUp_same (fun _ => hbudget) (fun _ => hdeadline)
  case keeps =>
    intro h
    have hphase : s.dev.power.phase.timeRuns = true ∧ s.dev.power.phase.batchRuns = false ∧
        s.dev.power.phase.ticks = false := by
      rcases h with h | h | h <;> rw [h] <;> exact ⟨rfl, rfl, rfl⟩
    obtain ⟨htime, hbatch, htick⟩ := hphase
    obtain ⟨hfrac, hsum⟩ := s.dev.batch.keepSteps_one
    exact ⟨_, step_idle_keeps hqueue hcalm htime hbatch htick, hqueue, hfrac, hsum, rfl, rfl, rfl, rfl⟩

end Sys2Proof.Machine

/-! PROOFS. Messages (R643, R647 to R653, R656, R659): how one is classified, what its class does, the Grave path, and the Ledger
writer (R649, R666). -/
namespace Sys2Proof.Machine

/-! ### Classes (R652) -/

/-- No kind has a floor above C4 (R651). -/
theorem kindClasses_floor_le (source kind qual : Nat) : (kindClasses source kind qual).1 ≤ 4 := by
  have htable : ∀ k ∈ faultKinds, k.2.2.1 ≤ 4 := by decide
  unfold kindClasses
  split
  case h_1 a b fl fac hfind =>
    have hle : fl ≤ 4 := htable _ (List.mem_of_find?_eq_some hfind)
    split <;> exact hle
  case h_2 => exact Nat.zero_le 4

theorem classOfNat_code (n : Nat) : (classOfNat n).code = min n 4 := by
  match n with
  | 0 => rfl
  | 1 => rfl
  | 2 => rfl
  | 3 => rfl
  | n + 4 => rw [Nat.min_eq_right (by omega)]; rfl

/-- Settles O8: a kind's floor bounds the mapped class from below, and C4 is lowered to C3 for every kind but those whose floor it
is. -/
theorem classNeverBelowItsFloor : Obligations.ClassNeverBelowItsFloor := by
  unfold Obligations.ClassNeverBelowItsFloor
  intro d m
  refine ⟨?_, fun hgrave => ?_⟩
  · have hle := kindClasses_floor_le (msgSource m) (msgKind m) (msgQual m)
    unfold Device.classify
    dsimp only
    rw [classOfNat_code]
    split <;> omega
  · by_contra hfloor
    exact d.classify_not_grave m hfloor hgrave

/-! ### What the class of a message does (R643, R648, R653, R656) -/

section
variable {d : Device} {m : Word}

theorem Device.raise_deaf (h : d.collecting = false) : d.raise m = d := by
  simp [Device.raise, Device.raiseAs, h]

theorem Device.raise_record (hcoll : d.collecting = true) (hgrave : d.classify m ≠ .grave) (hhold : d.classify m ≠ .hold) :
    d.raise m = d.record m (d.classify m) false false d.entryTime := by
  unfold Device.raise Device.raiseAs
  cases h : d.classify m with
  | grave => exact absurd h hgrave
  | hold => exact absurd h hhold
  | _ => simp [hcoll]

theorem Device.raise_hold (hcoll : d.collecting = true) (hhold : d.classify m = .hold) :
    d.raise m = (d.record m .hold false false d.entryTime).enterSafeHold := by
  simp [Device.raise, Device.raiseAs, hcoll, hhold]

/-- A Grave message waits for the end of the command, the first of them where several are accepted. -/
theorem Device.raise_waits (hcoll : d.collecting = true) (hgrave : d.classify m = .grave) (hcalm : d.Calm) :
    d.raise m = d.updFaults fun f => { f with graveDue := some (m, false) } := by
  simp [Device.raise, Device.raiseAs, Device.updFaults, hcoll, hgrave, hcalm]

end

/-- A flag that is set stays as it is when it is set again. -/
theorem RoomRegs.setFlag_setFlag (k : Nat) (r : RoomRegs) : (r.setFlag k).setFlag k = r.setFlag k := by
  unfold RoomRegs.setFlag
  by_cases h : r.st = .closed
  · simp [h]
  · simp [h, BitVec.or_assoc]

/-- The flag FAULT is bit 3, and a Closed Room holds none (R303, R304). -/
theorem RoomRegs.setFlag_fault_evFlags (r : RoomRegs) :
    (r.setFlag evFault).evFlags = if r.st = .closed then r.evFlags else r.evFlags ||| 8 := by
  unfold RoomRegs.setFlag
  split
  · rfl
  · rw [show (BitVec.twoPow 32 evFault : Word) = 8 by decide]

/-- Every class from C1 on flags each Room once, whether Safe Hold is entered or not. -/
theorem Device.raise_rooms_get {d : Device} {m : Word} (hcoll : d.collecting = true) (hgrave : d.classify m ≠ .grave)
    (hnote : d.classify m ≠ .note) (n : RoomId) : (d.raise m).rooms.get n = RoomRegs.setFlag evFault (d.rooms.get n) := by
  have hcode : 1 ≤ (d.classify m).code := by
    cases h : d.classify m with
    | note => exact absurd h hnote
    | _ => simp [Cls.code]
  by_cases hhold : d.classify m = .hold
  case pos =>
    have hrec : (d.record m .hold false false d.entryTime).rooms.get n = RoomRegs.setFlag evFault (d.rooms.get n) := by
      rw [Device.record_rooms, if_pos (by simp [Cls.code])]
    rw [Device.raise_hold hcoll hhold]
    rcases Device.enterSafeHold_rooms (d.record m .hold false false d.entryTime) n with h | h
    · rw [h, hrec]
    · rw [h, hrec, RoomRegs.setFlag_setFlag]
  case neg => rw [Device.raise_record hcoll hgrave hhold, Device.record_rooms, if_pos hcode]

theorem Faults.enqueue_active (f : Faults) (x : FaultMsg) : (f.enqueue x).active = f.active := by
  unfold Faults.enqueue
  split
  · rfl
  · split
    · split <;> rfl
    · rfl

/-- A C0 message enters neither the active table nor a Room (R653, R654). -/
theorem Device.record_note (d : Device) (m : Word) (p l : Bool) (t : Nat) :
    (d.record m .note p l t).faults.active = d.faults.active ∧ (d.record m .note p l t).rooms = d.rooms :=
  ⟨Faults.enqueue_active _ _, rfl⟩

theorem Device.enterSafeHold_held {d : Device} (h : d.faults.safeHold = true) : d.enterSafeHold = d := by
  simp [Device.enterSafeHold, h]

/-- The message stands last in a FIFO with room, unless `SAFE_HOLD` follows it. -/
theorem Device.raise_fifo {d : Device} {m : Word} (hcoll : d.collecting = true) (hgrave : d.classify m ≠ .grave)
    (hroom : d.faults.fifo.length < 64) (hheld : d.classify m = .hold → d.faults.safeHold = true) :
    (d.raise m).faults.fifo = d.faults.fifo ++ [d.stamped m (d.classify m)] := by
  by_cases hhold : d.classify m = .hold
  case pos =>
    have hsafe : (d.record m .hold false false d.entryTime).faults.safeHold = true := by
      rw [Device.record_safeHold, hheld hhold]
    rw [Device.raise_hold hcoll hhold, Device.enterSafeHold_held hsafe, hhold]
    exact d.record_fifo m .hold false false _ hroom
  case neg =>
    rw [Device.raise_record hcoll hgrave hhold]
    exact d.record_fifo m _ false false _ hroom

/-- Settles O9: which part of the collector each class reaches, and the frame of a message. -/
theorem codedMessageTakesItsClass : Obligations.CodedMessageTakesItsClass := by
  unfold Obligations.CodedMessageTakesItsClass
  intro s m hcalm
  refine ⟨fun hdeaf => State.onDev_same hcalm (Device.raise_deaf hdeaf), fun hcoll hgrave => ?_⟩
  have hsame := s.dev.raise_same m
  have hcalm' : (s.dev.raise m).Calm := (Device.raiseAs_grave _ _ _ _ _ (.inr hgrave)).trans hcalm
  refine ⟨_, State.onDev_calm' (f := (·.raise m)) hcalm' hsame.batch, rfl, ?_, ?_, ?_, ?_, ?_, hsame.nvm, hsame.wram, hsame.power,
    hsame.rails, hsame.priv, hsame.reqs, hsame.batch⟩
  · exact Device.raise_fifo hcoll hgrave
  · intro hnote
    have hraise := Device.raise_record hcoll hgrave (by rw [hnote]; decide)
    rw [hnote] at hraise
    simp only [hraise]
    exact s.dev.record_note m false false _
  · intro hnote n
    simp only [Device.raise_rooms_get hcoll hgrave hnote, RoomRegs.setFlag_fault_evFlags]
  · intro hhold
    simp only [Device.raise_hold hcoll hhold, Device.enterSafeHold_safeHold]
  · intro hhold
    simp only [Device.raise_record hcoll hgrave hhold, Device.record_safeHold]

/-! ### The Ledger's entries (R649, R663 to R666) -/

/-- NVM with the bytes of a range erased. -/
def cellsErase (m : List Host.Cell) (a n : Nat) : List Host.Cell :=
  let rest := m.filter fun c => decide (c.1 < a) || decide (a + n ≤ c.1)
  if 0xEE000 < a + n ∧ a < 0xF0000 then cellsWrite nvmDefault rest a (List.replicate n 0xFF) else rest

theorem Device.nvmErase_eq (d : Device) (a n : Nat) : d.nvmErase a n = { d with nvm := cellsErase d.nvm a n } := rfl

theorem cellsErase_wf {m : List Host.Cell} (a n : Nat) (h : memWf nvmDefault m = true) :
    memWf nvmDefault (cellsErase m a n) = true := by
  unfold cellsErase
  dsimp only
  split
  · exact cellsWrite_wf _ _ (filter_wf _ h)
  · exact filter_wf _ h

/-- NVM as the entry in a slot finds it: its sector erased first where the slot begins one (R663). -/
def ledgerSector (m : List Host.Cell) (slot : Nat) : List Host.Cell :=
  if slot % 256 = 0 then cellsErase m (ledgerAddr slot) 4096 else m

theorem ledgerSector_wf {m : List Host.Cell} (slot : Nat) (h : memWf nvmDefault m = true) :
    memWf nvmDefault (ledgerSector m slot) = true := by
  unfold ledgerSector
  split
  · exact cellsErase_wf _ _ h
  · exact h

/-- The `seq` that an entry takes (R664). -/
def ledgerSeq (seq : Word) : Word := if seq.toNat ≥ 0xFFFFFFFE then 1 else seq + 1

/-- The epoch that an entry carries: the first of a start begins the next one (R664). -/
def ledgerEpoch (epoch : Nat) (m : FaultMsg) : Nat :=
  if msgSource m.msg = 0x13 ∧ msgKind m.msg = 1 ∧ m.time / 2 ^ 16 % 256 = 1 then epoch + 1 else epoch

/-- The collector behind an entry. -/
def Faults.entered (f : Faults) (m : FaultMsg) : Faults :=
  { f with seq := ledgerSeq f.seq, slot := (f.slot % 8192 + 1) % 8192, epoch := ledgerEpoch f.epoch m,
           active := f.active.map fun a => if a.ticket = m.ticket then { a with ledgerSeq := ledgerSeq f.seq } else a }

/-- An entry changes NVM and the collector alone. -/
theorem Device.ledgerWrite_eq (d : Device) (m : FaultMsg) (g : Bool) : d.ledgerWrite m g =
    { d with nvm := cellsWrite nvmDefault (ledgerSector d.nvm (d.faults.slot % 8192)) (ledgerAddr (d.faults.slot % 8192))
               (ledgerBytes (ledgerSeq d.faults.seq) m.msg m.time (ledgerEpoch d.faults.epoch m) (ledgerInfo m g)),
             faults := d.faults.entered m } := by
  unfold Device.ledgerWrite ledgerSector Faults.entered ledgerSeq ledgerEpoch
  dsimp only
  split
  · simp only [Device.nvmErase_eq, Device.nvmWrite, Device.updFaults]
  · simp only [Device.nvmWrite, Device.updFaults]

/-! ### The Grave path (R659) -/

/-- The advance that a reset cuts off is no part of what a POR keeps. -/
theorem Device.advanceCut_eq (d : Device) :
    d.advanceCut = { d with sec := d.advanceCut.sec, freeCtr := d.advanceCut.freeCtr } := by
  unfold Device.advanceCut
  split <;> rfl

theorem Device.porReset_keeps (d : Device) : d.porReset.nvm = d.nvm ∧ d.porReset.cfg = d.cfg ∧
    d.porReset.keys.slots = d.keys.slots ∧ d.porReset.faults.seq = d.faults.seq ∧ d.porReset.faults.slot = d.faults.slot := by
  unfold Device.porReset
  rw [Device.advanceCut_eq]
  exact ⟨rfl, rfl, rfl, rfl, rfl⟩

@[simp] theorem Device.porReset_rail (d : Device) (r : RailId) : d.porReset.rails.rails.get r = RailHw.reset :=
  Vector.getElem_replicate _

@[simp] theorem Device.porReset_room (d : Device) (n : RoomId) : d.porReset.rooms.get n = RoomRegs.reset :=
  Vector.getElem_replicate _

/-- The outcome of a row that takes no time and accepts a Grave message. -/
theorem State.onDev_grave {s : State} {f : Device → Device} {m : Word} {p : Bool} (h : (f s.dev).faults.graveDue = some (m, p)) :
    s.onDev f = .next (s.put { (f s.dev).gravePath m p with batch := s.dev.batch }) := by
  unfold State.onDev Device.finish
  rw [h]
  rfl

/-- Settles O10: the entry of the Grave path is written on the device as the message found it, and a POR follows. -/
theorem graveMessageSeals : Obligations.GraveMessageSeals := by
  unfold Obligations.GraveMessageSeals
  intro s m hcalm hcoll hgrave
  have hwaits := Device.raise_waits hcoll hgrave hcalm
  have hexec : exec (.codedMessage m) s = .next (s.put { (s.dev.raise m).gravePath m false with batch := s.dev.batch }) :=
    State.onDev_grave (f := (·.raise m)) (by rw [hwaits]; rfl)
  obtain ⟨hnvm, -, hslots, -, hslot⟩ := ((s.dev.raise m).ledgerWrite ((s.dev.raise m).stamped m .grave) true).porReset_keeps
  refine ⟨_, hexec, rfl, rfl, ?_, ?_, rfl, ?_, ?_, ?_, ?_, ?_⟩
  · show (s.dev.raise m).fn Fld.fltGraveWake = _
    rw [hwaits]
    rfl
  · show (!((s.dev.raise m).ledgerWrite ((s.dev.raise m).stamped m .grave) true).path.dcValid) = _
    rw [Device.ledgerWrite_eq, hwaits]
    rfl
  · refine hslot.trans ?_
    rw [Device.ledgerWrite_eq, hwaits]
    rfl
  · refine hnvm.trans ?_
    simp only [Device.ledgerWrite_eq, hwaits, Device.updFaults]
    rfl
  · intro r
    exact congrArg RailHw.st (((s.dev.raise m).ledgerWrite ((s.dev.raise m).stamped m .grave) true).porReset_rail r)
  · intro n
    exact congrArg RoomRegs.st (((s.dev.raise m).ledgerWrite ((s.dev.raise m).stamped m .grave) true).porReset_room n)
  · refine hslots.trans ?_
    rw [Device.ledgerWrite_eq, hwaits]
    rfl

/-! ### The Ledger writer (R649, R666) -/

/-- The count that is kept for a source and kind names them. -/
theorem rateOf_names (rs : List RateCount) (source kind : Nat) :
    (rateOf rs source kind).source = source ∧ (rateOf rs source kind).kind = kind := by
  unfold rateOf
  cases h : rs.find? fun r => r.source == source && r.kind == kind with
  | none => exact ⟨rfl, rfl⟩
  | some r =>
    have := List.find?_some h
    simpa using this

theorem rateOf_ratePut (rs : List RateCount) (r : RateCount) : rateOf (ratePut rs r) r.source r.kind = r := by
  have hnone : (rs.filter fun x => !(x.source == r.source && x.kind == r.kind)).find?
      (fun x => x.source == r.source && x.kind == r.kind) = none := by
    rw [List.find?_eq_none]
    intro x hx
    have := (List.mem_filter.1 hx).2
    simpa [imp_iff_not_or] using this
  rw [rateOf, ratePut, List.find?_append, hnone]
  simp

/-- The writer loses no message, accepts none and takes no time. -/
theorem Device.ledgerTake_keeps (d : Device) (m : FaultMsg) : (d.ledgerTake m).faults.lost = d.faults.lost ∧
    (d.ledgerTake m).faults.graveDue = d.faults.graveDue ∧ (d.ledgerTake m).batch = d.batch := by
  unfold Device.ledgerTake
  dsimp only
  split
  · rw [Device.ledgerWrite_eq]
    exact ⟨rfl, rfl, rfl⟩
  · exact ⟨rfl, rfl, rfl⟩

/-- Without lost messages the first message of the FIFO leaves it for the writer, and nothing follows. -/
theorem Device.ledgerStep_take {d : Device} {m : FaultMsg} {rest : List FaultMsg} (hfifo : d.faults.fifo = m :: rest)
    (hlost : d.faults.lost = 0) :
    d.ledgerStep = (d.updFaults fun f => { f with fifo := rest }).ledgerTake m := by
  have htaken : ((d.updFaults fun f => { f with fifo := rest }).ledgerTake m).faults.lost = 0 :=
    (Device.ledgerTake_keeps _ m).1.trans hlost
  unfold Device.ledgerStep
  rw [hfifo]
  dsimp only
  rw [if_pos htaken]

theorem Device.ledgerTake_written {d : Device} {m : FaultMsg}
    (h : rateAllows (d.fn Fld.fltRate) (rateOf d.faults.rates (msgSource m.msg) (msgKind m.msg)) m = true) :
    ∃ f : Faults → List RateCount, d.ledgerTake m = (d.ledgerWrite m false).updFaults fun x => { x with rates := f x } :=
  ⟨_, if_pos h⟩

theorem Device.ledgerTake_suppressed {d : Device} {m : FaultMsg}
    (h : rateAllows (d.fn Fld.fltRate) (rateOf d.faults.rates (msgSource m.msg) (msgKind m.msg)) m = false) :
    d.ledgerTake m = d.updFaults fun f => { f with
      rates := ratePut f.rates { rateOf d.faults.rates (msgSource m.msg) (msgKind m.msg) with
        suppressed := (rateOf d.faults.rates (msgSource m.msg) (msgKind m.msg)).suppressed + 1 } } :=
  if_neg (by rw [h]; decide)

theorem leBytes_length (n v : Nat) : (leBytes n v).length = n := by
  induction n generalizing v with
  | zero => rfl
  | succ n ih => rw [leBytes, List.length_cons, ih]

theorem ledgerBytes_length (seq msg : Word) (time epoch info : Nat) : (ledgerBytes seq msg time epoch info).length = 16 := by
  simp [ledgerBytes, leBytes_length]

/-- An entry reads back from its slot. -/
theorem Device.ledgerWrite_reads {d : Device} (m : FaultMsg) (g : Bool) (hwf : memWf nvmDefault d.nvm = true)
    (hslot : d.faults.slot < 8192) : (d.ledgerWrite m g).nvmRead (ledgerAddr d.faults.slot) 16 =
      ledgerBytes (ledgerSeq d.faults.seq) m.msg m.time (ledgerEpoch d.faults.epoch m) (ledgerInfo m g) := by
  have hread := cellsRead_cellsWrite_same (ledgerAddr d.faults.slot)
    (ledgerBytes (ledgerSeq d.faults.seq) m.msg m.time (ledgerEpoch d.faults.epoch m) (ledgerInfo m g)) (ledgerSector_wf d.faults.slot hwf)
  rw [ledgerBytes_length] at hread
  rw [Device.ledgerWrite_eq, Nat.mod_eq_of_lt hslot]
  unfold Device.nvmRead
  dsimp only
  exact hread

theorem ledgerSeq_below {seq : Word} (h : seq.toNat < 0xFFFFFFFE) : ledgerSeq seq = seq + 1 := if_neg (Nat.not_le.mpr h)

/-- Only `PWR_BOOT` begins an epoch. -/
theorem ledgerEpoch_same {m : FaultMsg} (h : m.msg.toNat / 2 ^ 16 ≠ 0x1301) (epoch : Nat) : ledgerEpoch epoch m = epoch := by
  refine if_neg ?_
  rintro ⟨hsource, hkind, -⟩
  unfold msgSource at hsource
  unfold msgKind at hkind
  omega

/-- The row of the Ledger writer, whose effect is that of the first message. -/
theorem exec_ledgerEntryWrite {s : State} {m : FaultMsg} {rest : List FaultMsg} (hcalm : s.dev.Calm) (hon : s.dev.writerOn = true)
    (hfifo : s.dev.faults.fifo = m :: rest) (hlost : s.dev.faults.lost = 0) :
    exec .ledgerEntryWrite s = .next (s.put ((s.dev.updFaults fun f => { f with fifo := rest }).ledgerTake m)) := by
  have hstep : s.dev.when s.dev.writerOn (·.ledgerStep) = (s.dev.updFaults fun f => { f with fifo := rest }).ledgerTake m := by
    rw [Device.when, if_pos hon, Device.ledgerStep_take hfifo hlost]
  obtain ⟨-, hgrave, hbatch⟩ := (s.dev.updFaults fun f => { f with fifo := rest }).ledgerTake_keeps m
  rw [← hstep] at hgrave hbatch ⊢
  exact State.onDev_calm' (f := fun d => d.when d.writerOn (·.ledgerStep)) (hgrave.trans hcalm) hbatch

/-- Settles O12: the first message leaves the FIFO, and its kind's count decides whether its entry is written. -/
theorem ledgerWriterTakesOneMessage : Obligations.LedgerWriterTakesOneMessage := by
  unfold Obligations.LedgerWriterTakesOneMessage
  intro s m rest hcalm hwf hon hfifo hlost hslot
  have hexec := exec_ledgerEntryWrite hcalm hon hfifo hlost
  refine ⟨fun hallow hboot hseq => ?_, fun hlimit => ?_⟩
  · obtain ⟨f, htake⟩ := Device.ledgerTake_written (d := s.dev.updFaults fun f => { f with fifo := rest }) hallow
    have hread := Device.ledgerWrite_reads (d := s.dev.updFaults fun f => { f with fifo := rest }) m false hwf.2 hslot
    have hentry : ledgerBytes (ledgerSeq s.dev.faults.seq) m.msg m.time (ledgerEpoch s.dev.faults.epoch m) (ledgerInfo m false) =
        ledgerBytes (s.dev.faults.seq + 1) m.msg m.time s.dev.faults.epoch (ledgerInfo m false) := by
      rw [ledgerSeq_below hseq, ledgerEpoch_same hboot]
    rw [htake, Device.ledgerWrite_eq] at hexec
    rw [Device.ledgerWrite_eq] at hread
    refine ⟨_, hexec, rfl, ledgerSeq_below hseq, ?_, ?_, rfl, rfl, rfl, rfl⟩
    · show (s.dev.faults.slot % 8192 + 1) % 8192 = _
      rw [Nat.mod_eq_of_lt hslot]
    · rw [← hentry]
      simpa only [State.put, Device.nvmRead, Device.updFaults] using hread
  · have htake := Device.ledgerTake_suppressed (d := s.dev.updFaults fun f => { f with fifo := rest }) hlimit
    rw [htake] at hexec
    refine ⟨_, hexec, rfl, rfl, rfl, ?_⟩
    obtain ⟨hsource, hkind⟩ := rateOf_names s.dev.faults.rates (msgSource m.msg) (msgKind m.msg)
    have hput := rateOf_ratePut s.dev.faults.rates
      { rateOf s.dev.faults.rates (msgSource m.msg) (msgKind m.msg) with
        suppressed := (rateOf s.dev.faults.rates (msgSource m.msg) (msgKind m.msg)).suppressed + 1 }
    rw [hsource, hkind] at hput
    exact congrArg RateCount.suppressed hput

end Sys2Proof.Machine

/-! PROOFS. POR, its release, and the events that clear the latches SHIP and SEALED (R37, R101, R104, R105, R661, R662). -/
namespace Sys2Proof.Machine

/-! ### The outcome of a row whose effect is known -/

/-- A row that takes no time and leaves a known device with no message waiting. -/
theorem State.onDev_put {s : State} {f : Device → Device} {e : Device} (h : f s.dev = e) (hcalm : e.Calm)
    (hbatch : e.batch = s.dev.batch) : s.onDev f = .next (s.put e) := by
  subst h
  exact State.onDev_calm' hcalm hbatch

/-- A row that may move time on and leaves a known device with no message waiting. -/
theorem State.onClk_put {s : State} {f : Device → Device} {e : Device} (h : f s.dev = e) (hcalm : e.Calm)
    (htime : s.dev.now ≤ e.now) : s.onClk f = .next (s.put e) := by
  subst h
  exact State.onClk_calm' hcalm htime

theorem Device.when_true {d : Device} {c : Bool} (f : Device → Device) (h : c = true) : d.when c f = f d := if_pos h

theorem Device.when_false {d : Device} {c : Bool} (f : Device → Device) (h : c = false) : d.when c f = d :=
  if_neg (by rw [h]; decide)

/-! ### POR (R104, R113) -/

/-- What is read off the balls themselves stands through a POR (R49). -/
theorem Device.porReset_balls (d : Device) :
    d.porReset.pins.vioGood = d.pins.vioGood ∧ d.porReset.path.dcValid = d.path.dcValid := by
  unfold Device.porReset
  rw [Device.advanceCut_eq]
  exact ⟨rfl, rfl⟩

theorem Device.porAssert_latched {d : Device} (mv : Nat) (h : d.power.phase = .ship ∨ d.power.phase = .sealed) :
    d.porAssert mv = d := by
  rcases h with h | h <;> simp [Device.porAssert, h]

theorem Device.porAssert_por {d : Device} (mv : Nat) (h : d.power.phase = .por) :
    d.porAssert mv = (d.updPins fun p => { p with hrstPowered := false, hrstLow := false }).aonFet mv := by
  simp [Device.porAssert, h]

theorem Device.porAssert_falls {d : Device} (mv : Nat) (hship : d.power.phase ≠ .ship) (hsealed : d.power.phase ≠ .sealed)
    (hpor : d.power.phase ≠ .por) : d.porAssert mv = d.porReset.aonFet mv := by
  unfold Device.porAssert
  split
  · contradiction
  · contradiction
  · contradiction
  · rfl

/-- The fall into POR: what stands, and what is as at reset. -/
theorem exec_por_falls {s : State} (mv : Nat) (hship : s.dev.power.phase ≠ .ship) (hsealed : s.dev.power.phase ≠ .sealed)
    (hpor : s.dev.power.phase ≠ .por) :
    ∃ t, exec (.por mv) s = .next t ∧ t.dev.power.phase = .por ∧ t.dev.now = 0 ∧ t.dev.power.resetCause = 1 ∧
      t.dev.path.fet = (if 2200 ≤ mv then .supply else .off) ∧
      t.dev.nvm = s.dev.nvm ∧ t.dev.cfg = s.dev.cfg ∧ t.dev.keys.slots = s.dev.keys.slots ∧
      t.dev.faults.seq = s.dev.faults.seq ∧ t.dev.faults.slot = s.dev.faults.slot ∧
      t.dev.pins.vioGood = s.dev.pins.vioGood ∧ t.dev.path.dcValid = s.dev.path.dcValid ∧
      (∀ n, (t.dev.rooms.get n).st = .closed) ∧ t.dev.reqs.recs = [] ∧ t.dev.faults.fifo = [] ∧
      (∀ r, (t.dev.rails.rails.get r).st = .off) ∧ t.dev.wram = [] ∧ t.pending = s.pending := by
  obtain ⟨hnvm, hcfg, hslots, hseq, hslot⟩ := s.dev.porReset_keeps
  obtain ⟨hvio, hdc⟩ := s.dev.porReset_balls
  refine ⟨s.put (s.dev.porReset.aonFet mv), ?_, rfl, rfl, rfl, rfl, hnvm, hcfg, hslots, hseq, hslot, hvio, hdc, ?_, rfl, rfl, ?_,
    rfl, rfl⟩
  · rw [exec_por, Device.porAssert_falls mv hship hsealed hpor]
  · exact fun n => congrArg RoomRegs.st (s.dev.porReset_room n)
  · exact fun r => congrArg RailHw.st (s.dev.porReset_rail r)

/-! ### Its release and the levels of VSYS and `BAT` in POR (R59, R65, R105) -/

theorem Device.porRelease_elsewhere {d : Device} (mv : Nat) (test : Bool) (h : d.power.phase ≠ .por) :
    d.porRelease mv test = d := if_neg h

/-- The release in POR. -/
theorem exec_porRelease_por {s : State} (mv : Nat) (h : Bool) (hpor : s.dev.power.phase = .por) :
    ∃ t, exec (.porRelease mv h) s = .next t ∧ t.dev.power.phase = .gate ∧ t.dev.power.testHigh = h ∧
      t.dev.pins.hrstLow = true ∧ t.dev.pins.hrstPowered = true ∧ t.dev.path.pvCold = false ∧
      t.dev.path.fet = (if 2200 ≤ mv then .supply else .off) ∧ t.dev.now = 0 ∧ t.dev.batch.number = 0 ∧
      t.dev.rooms = s.dev.rooms ∧ t.dev.nvm = s.dev.nvm ∧ t.dev.faults = s.dev.faults := by
  have hexec := exec_porRelease mv h s
  rw [Device.porRelease, if_pos hpor] at hexec
  exact ⟨_, hexec, rfl, rfl, rfl, rfl, rfl, rfl, rfl, rfl, rfl, rfl, rfl⟩

theorem exec_hrstNHoldThreshold_por {s : State} (hpor : s.dev.power.phase = .por) (hcalm : s.dev.Calm) :
    exec .hrstNHoldThreshold s = .next (s.put (s.dev.updPins fun p => { p with hrstPowered := true, hrstLow := true })) :=
  State.onDev_put (if_pos (decide_eq_true hpor)) hcalm rfl

theorem exec_batteryStartCrossing_por {s : State} (mv : Nat) (hpor : s.dev.power.phase = .por) (hcalm : s.dev.Calm) :
    exec (.batteryStartCrossing mv) s = .next (s.put (s.dev.aonFet mv)) :=
  State.onDev_put (Device.when_true (·.aonFet mv) (decide_eq_true hpor)) hcalm rfl

/-! ### SHIP and SEALED (R37, R101, R661, R662) -/

section
variable {s : State}

theorem exec_shipBtnHold_ship (hcalm : s.dev.Calm) (hship : s.dev.power.phase = .ship) (hlive : 1500 ≤ s.dev.power.aonMv) :
    exec .shipBtnHold s = .next (s.put ((s.dev.updPower fun p =>
      { p with phase := .por, shipLatch := false, resetCause := 7 }).aonFet s.dev.power.aonMv)) :=
  State.onDev_put ((Device.when_true (·.shipLeave) (Power.aonLive_of_le hlive)).trans (if_pos hship)) hcalm rfl

theorem exec_shipBtnHold_same (hcalm : s.dev.Calm) (h : s.dev.power.phase ≠ .ship ∨ s.dev.power.aonMv < 1500) :
    exec .shipBtnHold s = .next s := by
  refine State.onDev_same (f := fun d => d.when d.power.aonLive (·.shipLeave)) hcalm ?_
  rcases h with hship | hdead
  · rw [Device.when]
    split
    · exact if_neg hship
    · rfl
  · exact Device.when_false _ (Power.aonLive_of_lt hdead)

theorem Device.aonLoss_latched {d : Device} (h : d.power.phase = .ship ∨ d.power.phase = .sealed) :
    d.aonLoss = (d.updPower fun p => { p with phase := .por, shipLatch := false, sealedLatch := false, resetCause := 1 }).aonFet 0 := by
  rcases h with h | h <;> simp [Device.aonLoss, h]

theorem Device.aonLoss_por {d : Device} (h : d.power.phase = .por) : d.aonLoss = d.aonFet 0 := by
  simp [Device.aonLoss, h]

theorem Device.aonLoss_elsewhere {d : Device} (hship : d.power.phase ≠ .ship) (hsealed : d.power.phase ≠ .sealed)
    (hpor : d.power.phase ≠ .por) : d.aonLoss = d.updPower fun p => { p with aonMv := 0 } := by
  unfold Device.aonLoss
  split
  · contradiction
  · contradiction
  · contradiction
  · rfl

/-- The SEALED latch clears by an input that qualifies. -/
theorem exec_graveExit_leaves (hcalm : s.dev.Calm) (hsealed : s.dev.power.phase = .sealed) (i : Sys2Proof.GraveInput)
    (hok : s.dev.graveInputOk i = true) : exec (.graveExit i) s = .next (s.put ((s.dev.updPower fun p =>
      { p with phase := .por, sealedLatch := false, resetCause := 1, graveExit := graveInputCode i }).aonFet s.dev.power.aonMv)) :=
  State.onDev_put (f := (·.graveLeave i)) (if_pos ⟨hsealed, hok⟩) hcalm rfl

theorem exec_graveExit_same (hcalm : s.dev.Calm) (i : Sys2Proof.GraveInput)
    (h : s.dev.power.phase ≠ .sealed ∨ s.dev.graveInputOk i = false) : exec (.graveExit i) s = .next s := by
  refine State.onDev_same (f := (·.graveLeave i)) hcalm (if_neg ?_)
  rintro ⟨hsealed, hok⟩
  rcases h with h | h
  · exact h hsealed
  · rw [h] at hok; cases hok

/-- DCIN qualifies while it is valid, once the inputs have been absent. -/
theorem Device.graveInputOk_dcin (d : Device) : d.graveInputOk .dcin = (d.faults.graveLow && d.path.dcValid) := rfl

/-- PV and the rotor qualify where `FLT.grave_wake` lets them. -/
theorem Device.graveInputOk_other {d : Device} {i : Sys2Proof.GraveInput} (h : i ≠ .dcin) :
    d.graveInputOk i = (d.faults.graveLow && decide (d.faults.graveWake = 1)) := by
  cases i with
  | dcin => exact absurd rfl h
  | pv => rfl
  | kinetic => rfl

end

/-- Settles O15: each row by the phase that it finds. -/
theorem porAndTheLatches : Obligations.PorAndTheLatches := by
  unfold Obligations.PorAndTheLatches
  refine ⟨fun _ _ => rfl, ?por, ?release, ?latches⟩
  case por =>
    intro s mv
    refine ⟨fun h => ?_, fun h => ?_, exec_por_falls mv⟩
    · rw [exec_por, Device.porAssert_latched mv h]; rfl
    · rw [exec_por, Device.porAssert_por mv h]
  case release =>
    intro s mv h
    refine ⟨fun hphase => ?_, fun hpor => ⟨exec_porRelease_por mv h hpor, exec_hrstNHoldThreshold_por hpor,
      exec_batteryStartCrossing_por mv hpor⟩⟩
    rw [exec_porRelease, Device.porRelease_elsewhere mv h hphase]; rfl
  case latches =>
    intro s hcalm
    refine ⟨exec_shipBtnHold_ship hcalm, exec_shipBtnHold_same hcalm, fun h => ?_, fun h => ?_, fun h1 h2 h3 => ?_,
      fun hsealed hlow hdc => ?_, fun hsealed hlow hwake => ?_, fun h => ?_, fun h => ?_⟩
    · exact State.onDev_put (f := (·.aonLoss)) (Device.aonLoss_latched h) hcalm rfl
    · exact State.onDev_put (f := (·.aonLoss)) (Device.aonLoss_por h) hcalm rfl
    · exact State.onDev_put (f := (·.aonLoss)) (Device.aonLoss_elsewhere h1 h2 h3) hcalm rfl
    · exact exec_graveExit_leaves hcalm hsealed .dcin (by rw [Device.graveInputOk_dcin, hlow, hdc]; rfl)
    · have hok : ∀ i, i ≠ .dcin → s.dev.graveInputOk i = true := by
        intro i hi
        rw [Device.graveInputOk_other hi, hlow, hwake]
        rfl
      exact ⟨exec_graveExit_leaves hcalm hsealed .pv (hok _ (by decide)),
        exec_graveExit_leaves hcalm hsealed .kinetic (hok _ (by decide))⟩
    · have hsame : ∀ i, i ≠ .dcin → exec (.graveExit i) s = .next s := by
        intro i hi
        refine exec_graveExit_same hcalm i (h.imp_right fun h => ?_)
        rw [Device.graveInputOk_other hi]
        rcases h with h | h <;> simp [h]
      exact ⟨hsame .pv (by decide), hsame .kinetic (by decide)⟩
    · refine exec_graveExit_same hcalm .dcin (h.imp_right fun h => ?_)
      rw [Device.graveInputOk_dcin]
      rcases h with h | h <;> simp [h]

end Sys2Proof.Machine

/-! PROOFS. Brown-outs, the start gate and the wake events (R80, R95 to R98, R106, R108, R113, R391): what a start clears, and what
each row of a start does. -/
namespace Sys2Proof.Machine

/-- What a message does not touch. -/
@[simp] theorem Device.raise_frame (d : Device) (m : Word) :
    (d.raise m).power = d.power ∧ (d.raise m).pins = d.pins ∧ (d.raise m).batch = d.batch ∧ (d.raise m).sup = d.sup ∧
    (d.raise m).keepers = d.keepers ∧ (d.raise m).images = d.images ∧ (d.raise m).link = d.link ∧
    (d.raise m).reqs = d.reqs ∧ (d.raise m).rails = d.rails ∧ (d.raise m).path = d.path ∧ (d.raise m).kin = d.kin ∧
    (d.raise m).chg = d.chg ∧ (d.raise m).gaugeHw = d.gaugeHw ∧ (d.raise m).adc = d.adc ∧ (d.raise m).dig = d.dig ∧
    (d.raise m).keys = d.keys ∧ (d.raise m).wd = d.wd ∧ (d.raise m).sec = d.sec ∧ (d.raise m).rcp = d.rcp ∧
    (d.raise m).shadow = d.shadow ∧ (d.raise m).active = d.active ∧ (d.raise m).priv = d.priv ∧ (d.raise m).snap = d.snap ∧
    (d.raise m).wram = d.wram ∧ (d.raise m).nvm = d.nvm ∧ (d.raise m).cfg = d.cfg ∧ (d.raise m).sample = d.sample ∧
    (d.raise m).polled = d.polled ∧ (d.raise m).freeCtr = d.freeCtr ∧ (d.raise m).mirror = d.mirror ∧
    (d.raise m).staged = d.staged ∧ (d.raise m).ckpt0 = d.ckpt0 ∧ (d.raise m).ckpt1 = d.ckpt1 := by
  obtain ⟨⟩ := d.raise_same m
  simp only [*, and_self]

theorem RoomRegs.setFlag_frame (k : Nat) (r : RoomRegs) :
    (r.setFlag k).st = r.st ∧ (r.setFlag k).cqTail = r.cqTail ∧ (r.setFlag k).cqHead = r.cqHead ∧
    (r.setFlag k).sqTail = r.sqTail ∧ (r.setFlag k).sqHead = r.sqHead ∧ (r.setFlag k).closing = r.closing := by
  unfold RoomRegs.setFlag
  split <;> simp

/-- A message sets event flags; a Room's state and rings stand. -/
@[simp] theorem Device.raise_room (d : Device) (m : Word) (n : RoomId) :
    ((d.raise m).rooms.get n).st = (d.rooms.get n).st ∧ ((d.raise m).rooms.get n).cqTail = (d.rooms.get n).cqTail ∧
    ((d.raise m).rooms.get n).cqHead = (d.rooms.get n).cqHead ∧ ((d.raise m).rooms.get n).sqTail = (d.rooms.get n).sqTail ∧
    ((d.raise m).rooms.get n).sqHead = (d.rooms.get n).sqHead ∧ ((d.raise m).rooms.get n).closing = (d.rooms.get n).closing := by
  rcases d.raiseAs_rooms m false false d.entryTime n with h | h <;>
    simp only [Device.raise, h, RoomRegs.setFlag_frame, and_self]

/-- What the end of a guest sequence does not touch. -/
@[simp] theorem Device.seqStop_frame (d : Device) :
    d.seqStop.power = d.power ∧ d.seqStop.pins = d.pins ∧ d.seqStop.batch = d.batch ∧ d.seqStop.rcp = d.rcp ∧
    d.seqStop.rails = d.rails ∧ d.seqStop.kin = d.kin ∧ d.seqStop.nvm = d.nvm ∧ d.seqStop.path = d.path := by
  unfold Device.seqStop
  split
  · split <;> simp
  · simp

theorem Device.seqStop_graveDue (d : Device) : d.seqStop.faults.graveDue = d.faults.graveDue := by
  unfold Device.seqStop
  split
  · split
    · exact d.raise_coded_grave 7 2 _ (by decide)
    · rfl
  · rfl

theorem Device.seqStop_none {d : Device} (h : d.priv.seqRun = none) : d.seqStop = d := by
  simp [Device.seqStop, h]

/-- What a cut of a lifecycle advance does not touch. -/
@[simp] theorem Device.advanceCut_frame (d : Device) :
    d.advanceCut.power = d.power ∧ d.advanceCut.pins = d.pins ∧ d.advanceCut.batch = d.batch ∧ d.advanceCut.rcp = d.rcp ∧
    d.advanceCut.rails = d.rails ∧ d.advanceCut.kin = d.kin ∧ d.advanceCut.nvm = d.nvm ∧ d.advanceCut.path = d.path ∧
    d.advanceCut.faults = d.faults := by
  rw [Device.advanceCut_eq]
  simp

/-- A rail behind a start: kept, or off with its ladder at 0 (R81, R371, R388). -/
def RailHw.started (h : RailHw) (keep : Bool) : RailHw :=
  if keep then { h with everOn := decide (h.st ≠ .off) } else { h.turnOff with everOn := false }

@[simp] theorem Device.railsStart_get (d : Device) (keep : RailId → Bool) (r : RailId) :
    (d.railsStart keep).rails.rails.get r = (d.rails.rails.get r).started (keep r) := vget_ofFn _ r

@[simp] theorem Device.railsStart_frame (d : Device) (keep : RailId → Bool) :
    (d.railsStart keep).power = d.power ∧ (d.railsStart keep).pins = d.pins ∧ (d.railsStart keep).batch = d.batch ∧
    (d.railsStart keep).rcp = d.rcp ∧ (d.railsStart keep).kin = d.kin ∧ (d.railsStart keep).nvm = d.nvm ∧
    (d.railsStart keep).path = d.path ∧ (d.railsStart keep).faults = d.faults := by
  simp [Device.railsStart]

/-- Closing one Room after another, with what it clears in window RAM. -/
theorem Device.each_closeRoom {f : RoomRegs → RoomRegs} (hf : ∀ r, (f r).st = .closed) (off : Nat) (bytes : List Byte)
    (l : List RoomId) (d : Device) : ∃ rooms wram, (∀ n, n ∈ l ∨ (d.rooms.get n).st = .closed → (rooms.get n).st = .closed) ∧
      (d.each l fun n x => (x.updRoom n f).winWrite n off bytes) = { d with rooms := rooms, wram := wram } := by
  induction l generalizing d with
  | nil => exact ⟨d.rooms, d.wram, fun n h => h.resolve_left List.not_mem_nil, rfl⟩
  | cons m l ih =>
    obtain ⟨rooms, wram, hclosed, heq⟩ := ih ((d.updRoom m f).winWrite m off bytes)
    refine ⟨rooms, wram, fun n hn => hclosed n ?_, heq⟩
    show n ∈ l ∨ ((vmod d.rooms m f).get n).st = .closed
    rw [vget_vmod]
    split
    · exact .inr (hf _)
    · rename_i hnm
      exact hn.imp_left fun hn => (List.mem_cons.1 hn).resolve_left hnm

/-- Every Room is Closed, with its result buffer cleared and its requests gone. -/
theorem Device.roomsStart_eq (d : Device) : ∃ rooms wram, (∀ n, (rooms.get n).st = .closed) ∧ d.roomsStart =
    { d with rooms := rooms, wram := wram,
             reqs := { recs := [], dedup := Vector.replicate 16 [], produced := Vector.replicate 16 0, waiting := [] } } := by
  obtain ⟨rooms, wram, hclosed, heq⟩ := d.each_closeRoom (f := fun r => { RoomRegs.reset with
    idPort := r.idPort, idPriv := r.idPriv, idIrq := r.idIrq, quota := r.quota }) (fun _ => rfl) 0xF00 (List.replicate 256 0) all16
  have hall (n : RoomId) : n ∈ all16 := by
    unfold all16
    exact List.mem_finRange n
  refine ⟨rooms, wram, fun n => hclosed n (.inl (hall n)), ?_⟩
  simp only [Device.roomsStart, heq, Device.updReqs]

@[simp] theorem Device.roomsStart_frame (d : Device) :
    d.roomsStart.power = d.power ∧ d.roomsStart.pins = d.pins ∧ d.roomsStart.batch = d.batch ∧ d.roomsStart.rcp = d.rcp ∧
    d.roomsStart.kin = d.kin ∧ d.roomsStart.nvm = d.nvm ∧ d.roomsStart.path = d.path ∧ d.roomsStart.faults = d.faults ∧
    d.roomsStart.rails = d.rails ∧ d.roomsStart.reqs.recs = [] ∧ ∀ n, (d.roomsStart.rooms.get n).st = .closed := by
  obtain ⟨rooms, wram, hclosed, heq⟩ := d.roomsStart_eq
  rw [heq]
  simpa using hclosed

@[simp] theorem Device.privStart_frame (d : Device) (votes : List Vote) :
    (d.privStart votes).power = d.power ∧ (d.privStart votes).pins = d.pins ∧ (d.privStart votes).batch = d.batch ∧
    (d.privStart votes).rcp = d.rcp ∧ (d.privStart votes).kin = d.kin ∧ (d.privStart votes).nvm = d.nvm ∧
    (d.privStart votes).path = d.path ∧ (d.privStart votes).faults = d.faults ∧ (d.privStart votes).rails = d.rails ∧
    (d.privStart votes).reqs = d.reqs ∧ (d.privStart votes).rooms = d.rooms := by
  simp [Device.privStart, Device.gaugeResume]

@[simp] theorem Device.keeperOff_frame (d : Device) (k : Keeper) :
    (d.keeperOff k).power = d.power ∧ (d.keeperOff k).pins = d.pins ∧ (d.keeperOff k).batch = d.batch ∧
    (d.keeperOff k).rcp = d.rcp ∧ (d.keeperOff k).kin = d.kin ∧ (d.keeperOff k).nvm = d.nvm ∧
    (d.keeperOff k).path = d.path ∧ (d.keeperOff k).faults = d.faults ∧ (d.keeperOff k).rails = d.rails ∧
    (d.keeperOff k).reqs = d.reqs ∧ (d.keeperOff k).rooms = d.rooms ∧ (d.keeperOff k).priv = d.priv ∧
    (d.keeperOff k).sup = d.sup ∧ (d.keeperOff k).cfg = d.cfg ∧ (d.keeperOff k).sec = d.sec := by
  cases k <;> simp [Device.keeperOff, Device.updKeeper, Device.wdStop, Device.updKwd]

@[simp] theorem Device.keepersStart_frame (d : Device) :
    d.keepersStart.power = d.power ∧ d.keepersStart.pins = d.pins ∧ d.keepersStart.batch = d.batch ∧
    d.keepersStart.rcp = d.rcp ∧ d.keepersStart.kin = d.kin ∧ d.keepersStart.nvm = d.nvm ∧
    d.keepersStart.path = d.path ∧ d.keepersStart.faults = d.faults ∧ d.keepersStart.rails = d.rails ∧
    d.keepersStart.reqs = d.reqs ∧ d.keepersStart.rooms = d.rooms := by
  simp [Device.keepersStart, Device.keepersOff, Device.updKeeper]

/-- The loss of the synchronisation is a message at the most. -/
theorem Device.syncGone_calm (d : Device) : d.syncGone.faults.graveDue = d.faults.graveDue := by
  unfold Device.syncGone
  split
  · exact Device.raise_coded_grave _ 9 2 _ (by decide)
  · rfl

@[simp] theorem Device.syncGone_frame (d : Device) :
    d.syncGone.power = d.power ∧ d.syncGone.pins = d.pins ∧ d.syncGone.batch = d.batch ∧ d.syncGone.rcp = d.rcp ∧
    d.syncGone.nvm = d.nvm ∧ d.syncGone.path = d.path ∧ d.syncGone.rails = d.rails ∧ d.syncGone.reqs = d.reqs ∧
    d.syncGone.faults.graveDue = d.faults.graveDue ∧ (∀ n, (d.syncGone.rooms.get n).st = (d.rooms.get n).st) ∧
    (d.kin.synced = false → d.syncGone.faults = d.faults) := by
  refine ⟨?_, ?_, ?_, ?_, ?_, ?_, ?_, ?_, d.syncGone_calm, ?_, ?_⟩ <;> unfold Device.syncGone Device.free <;> split <;> simp_all

@[simp] theorem Device.kinStop_frame (d : Device) :
    d.kinStop.power = d.power ∧ d.kinStop.pins = d.pins ∧ d.kinStop.batch = d.batch ∧ d.kinStop.rcp = d.rcp ∧
    d.kinStop.nvm = d.nvm ∧ d.kinStop.path = d.path ∧ d.kinStop.rails.rails = d.rails.rails ∧ d.kinStop.reqs = d.reqs ∧
    d.kinStop.faults.graveDue = d.faults.graveDue ∧ (∀ n, (d.kinStop.rooms.get n).st = (d.rooms.get n).st) ∧
    (d.kin.synced = false → d.kinStop.faults = d.faults) := by
  simp +contextual [Device.kinStop]

/-- What the stops of the groups, the engine and the security block do not touch. -/
@[simp] theorem Device.blocksStart_frame (d : Device) :
    d.adcStop.digStop.secStart.power = d.power ∧ d.adcStop.digStop.secStart.pins = d.pins ∧
    d.adcStop.digStop.secStart.batch = d.batch ∧ d.adcStop.digStop.secStart.rcp = d.rcp ∧
    d.adcStop.digStop.secStart.nvm = d.nvm ∧ d.adcStop.digStop.secStart.path = d.path ∧
    d.adcStop.digStop.secStart.rails = d.rails ∧ d.adcStop.digStop.secStart.reqs = d.reqs ∧
    d.adcStop.digStop.secStart.faults = d.faults ∧ d.adcStop.digStop.secStart.rooms = d.rooms := by
  simp [Device.adcStop, Device.digStop, Device.secStart]

/-- The charger's pause only sets the FET. -/
theorem Device.chgPause_eq (d : Device) : ∃ p, d.chgPause = { d with path := p } := by
  unfold Device.chgPause
  split
  · exact ⟨_, rfl⟩
  · split
    · exact ⟨d.path, rfl⟩
    · exact ⟨_, rfl⟩

/-- With Rooms not open the primary reserve can only end its use (R435). -/
theorem Device.priUpdate_eq {d : Device} (h : d.power.phase ≠ .open) : ∃ p, d.priUpdate = { d with path := p } := by
  have hwant : d.priWanted = false := by simp [Device.priWanted, Device.isOpen, h]
  unfold Device.priUpdate
  rw [hwant]
  simp only [Bool.false_eq_true, if_false]
  split
  · exact ⟨_, rfl⟩
  · exact ⟨d.path, rfl⟩

/-- What a start with Rooms not open leaves of the device. -/
structure Device.StartCleared (d : Device) (keep : RailId → Bool) (e : Device) : Prop where
  power : e.power = { d.power with state := .run, wakeArmed := false, wakeLatched := [], bootFloor := false, btnFresh := false }
  pins : e.pins = { d.pins with bgnt := false, tapReset := true }
  batch : e.batch = { d.batch with bubble := none }
  inForce : e.rcp.inForce = d.rcp.inForce
  closed : ∀ n, (e.rooms.get n).st = .closed
  recs : e.reqs.recs = []
  rail : ∀ r, e.rails.rails.get r = (d.rails.rails.get r).started (keep r)
  nvm : e.nvm = d.nvm
  calm : e.faults.graveDue = d.faults.graveDue
  quiet : d.kin.synced = false → d.priv.seqRun = none → e.faults = { d.faults with unread := [] }

theorem Device.StartCleared.withPath {d e : Device} {keep : RailId → Bool} (h : d.StartCleared keep e) (p : Path) :
    d.StartCleared keep { e with path := p } :=
  ⟨h.power, h.pins, h.batch, h.inForce, h.closed, h.recs, h.rail, h.nvm, h.calm, h.quiet⟩

/-- The charger's pause and the primary reserve only change the power path. -/
theorem Device.StartCleared.paused {d e : Device} {keep : RailId → Bool} (h : d.StartCleared keep e)
    (hphase : d.power.phase ≠ .open) : d.StartCleared keep e.chgPause.priUpdate := by
  obtain ⟨p, hp⟩ := e.chgPause_eq
  have hopen : e.chgPause.power.phase ≠ .open := by
    rw [hp, h.power]
    exact hphase
  obtain ⟨q, hq⟩ := Device.priUpdate_eq hopen
  rw [hq, hp]
  exact (h.withPath p).withPath q

theorem Device.startClear_cleared {d : Device} (hphase : d.power.phase ≠ .open) (keep : RailId → Bool) (votes : List Vote) :
    d.StartCleared keep (d.startClear keep votes) := by
  unfold Device.startClear
  dsimp only
  refine Device.StartCleared.paused ?_ hphase
  constructor
  · simp
  · simp
  · simp
  · simp
  · simp
  · simp
  · simp
  · simp
  · simp [Device.seqStop_graveDue]
  · intro hsync hseq
    simp [Device.seqStop_none hseq, hsync]

/-! ### Brown-outs (R80, R108, R113) -/

/-- The log of a LODGE exit is a message at the most. -/
theorem Device.exitLog_calm (d : Device) : d.exitLog.faults.graveDue = d.faults.graveDue := by
  unfold Device.exitLog
  split
  · exact Device.raise_coded_grave _ 0x13 2 _ (by decide)
  · rfl

@[simp] theorem Device.exitLog_frame (d : Device) :
    d.exitLog.rails = d.rails ∧ d.exitLog.nvm = d.nvm ∧ d.exitLog.batch = d.batch ∧ d.exitLog.kin = d.kin ∧
    d.exitLog.priv = d.priv ∧ d.exitLog.pins = d.pins ∧ d.exitLog.keepers = d.keepers ∧ d.exitLog.faults.graveDue = d.faults.graveDue ∧
    (d.power.exitPeriod = none → d.exitLog = d) := by
  refine ⟨?_, ?_, ?_, ?_, ?_, ?_, ?_, d.exitLog_calm, fun h => ?_⟩ <;> unfold Device.exitLog <;> split <;> simp_all

@[simp] theorem Faults.endHold_graveDue (f : Faults) : f.endHold.graveDue = f.graveDue := by
  simp [Faults.endHold, Faults.holdToTrip]

/-- The device in the start gate behind a brown-out, ahead of what a start clears. -/
def Device.browned (d : Device) : Device :=
  ((d.exitLog.gateBegin).updPower fun p => { p with resetCause := 2, sampleRsel := true }).holdLost

theorem Device.browned_frame (d : Device) :
    d.browned.power.phase = .gate ∧ d.browned.power.resetCause = 2 ∧ d.browned.power.gateSince = d.now ∧
    d.browned.rails = d.rails ∧ d.browned.nvm = d.nvm ∧ d.browned.batch = d.batch ∧ d.browned.kin = d.kin ∧
    d.browned.priv = d.priv ∧ d.browned.faults.graveDue = d.faults.graveDue ∧
    (d.power.exitPeriod = none → d.browned.faults = d.faults.endHold) := by
  simp +contextual [Device.browned, Device.gateBegin, Device.holdLost, Device.now]

/-- A brown-out of a device that has started. -/
theorem Device.brownOut_started {d : Device} (hcoll : d.collecting = true) (hdark : d.power.phase ≠ .dark) :
    d.brownOut = (((d.browned.startClear (fun r => decide (r.val = 8)) []).updChg fun c =>
      { c with phase := .idle, preFetOff := false, tPre := 0, tFast := 0, tTop := 0, harvest := false }).updRcp fun r =>
        { r with inForce := none, fallback := false }).updPins fun p => { p with hrstLow := true, pgHeld := true } := by
  unfold Device.brownOut
  split <;> simp_all [Device.collecting, Device.browned]

theorem RailHw.started_off (h : RailHw) : (h.started false).st = .off := rfl

theorem RailHw.started_kept (h : RailHw) : (h.started true).st = h.st ∧ (h.started true).mv = h.mv := ⟨rfl, rfl⟩

/-- Settles O16: the three kinds of phase one by one; what a start clears gives the rest. -/
theorem brownOutReturnsToTheGate : Obligations.BrownOutReturnsToTheGate := by
  unfold Obligations.BrownOutReturnsToTheGate
  intro s hcalm
  refine ⟨fun hphase => ?_, fun hdark => ?_, fun hcoll hdark => ?_⟩
  · refine State.onClk_same hcalm ?_
    unfold Device.brownOut
    split <;> simp_all
  · have heq : s.dev.brownOut = s.dev.railsStart fun r => decide (r.val = 8) := by simp [Device.brownOut, hdark]
    refine ⟨_, State.onClk_put heq (by simpa [Device.Calm] using hcalm) (by simp [Device.now]), by simp [State.put], by simp [State.put], ?_⟩
    intro r hr
    simp [State.put, hr, RailHw.started_off]
  · obtain ⟨hphase, hcause, hsince, hrails, hnvm, hbatch, hkin, hpriv, hgrave, hfaults⟩ := s.dev.browned_frame
    have hcl := Device.startClear_cleared (d := s.dev.browned) (by simp [hphase]) (fun r => decide (r.val = 8)) []
    refine ⟨_, State.onClk_put (Device.brownOut_started hcoll hdark) (by simpa [Device.Calm, hcl.calm, hgrave] using hcalm)
      (by simp [Device.now, hcl.batch, hbatch]), ?_⟩
    rw [State.put]
    refine ⟨?_, ?_, ?_, ?_, ?_, ?_, ?_, ?_, ?_, ?_, ?_, ?_, ?_, ?_⟩
    · simp [hcl.power, hphase]
    · simp [hcl.power, hcause]
    · simp [hcl.power, hsince]
    · simp
    · simp
    · simp
    · simpa using hcl.closed
    · simpa using hcl.recs
    · intro r hr
      simp [hcl.rail, hr, RailHw.started_off]
    · simp [hcl.rail, hrails, RailHw.started_kept]
    · simp [hcl.rail, hrails, RailHw.started_kept]
    · simp [hcl.nvm, hnvm]
    · simp [Device.now, hcl.batch, hbatch]
    · intro hsync hseq hexit
      have := hcl.quiet (by rw [hkin]; exact hsync) (by rw [hpriv]; exact hseq)
      rw [hfaults hexit] at this
      simp [this, Faults.endHold, Faults.holdToTrip]

end Sys2Proof.Machine

/-! PROOFS. The start gate and the ticks of step 8 (R59, R106, R108, R114, R391). -/
namespace Sys2Proof.Machine

/-- A row that may move time on, with its effect known. -/
theorem State.onClk_of_eq {s : State} {f : Device → Device} {e : Device} (h : f s.dev = e) : s.onClk f = .next (s.clocked e) := by
  subst h
  rfl

/-- With no message waiting a row's end leaves its effect, with device time never back. -/
theorem State.clocked_dev {s : State} {e : Device} (h : e.Calm) :
    (s.clocked e).dev = { e with batch := { e.batch with time := max s.dev.batch.time e.batch.time } } := by
  have hfin : e.finish = e := by
    unfold Device.finish
    rw [h]
  simp only [State.clocked, hfin]

@[simp] theorem Device.moveTo_frame (d : Device) (t : Nat) :
    (d.moveTo t).power = d.power ∧ (d.moveTo t).pins = d.pins ∧ (d.moveTo t).keepers = d.keepers ∧ (d.moveTo t).rails = d.rails ∧
    (d.moveTo t).path = d.path ∧ (d.moveTo t).faults = d.faults ∧ (d.moveTo t).nvm = d.nvm ∧ (d.moveTo t).reqs = d.reqs ∧
    (d.moveTo t).rooms = d.rooms ∧ (d.moveTo t).wram = d.wram ∧ (d.moveTo t).sample = d.sample := by
  exact ⟨rfl, rfl, rfl, rfl, rfl, rfl, rfl, rfl, rfl, rfl, rfl⟩

/-- In the start gate every instant comes, with no mark of a Batch before it. -/
theorem Device.dueAt_gate {d : Device} (h : d.power.phase = .gate) (t : Nat) (f : Device → Device) :
    d.dueAt t f = f (d.moveTo t) := by
  have hreach : d.reaches t = true := by simp [Device.reaches, h, Phase.batchRuns, Phase.ticks]
  have hcatch : (d.moveTo t).catchUp = d.moveTo t := by simp [Device.catchUp, h, Phase.batchRuns]
  simp [Device.dueAt, hreach, hcatch]

theorem Device.gateFormA_iff (d : Device) (mv : Nat) :
    d.gateFormA mv = true ↔ d.path.fet ≠ .off ∨ d.path.dcValid = true ∨ 2200 ≤ mv := by
  simp [Device.gateFormA, or_assoc]

/-- The gate's level and hold time, from the form that applies. -/
theorem Device.gateNeeds_eq {d : Device} {priMv mv us : Nat} {formA : Bool}
    (hform : formA = true ↔ d.path.fet ≠ .off ∨ d.path.dcValid = true ∨ 2200 ≤ priMv)
    (hmv : mv = if formA then 2200 else 2400) (hus : us = if formA then 5000 else 50000) : d.gateNeeds priMv = (mv, us) := by
  have hsame : d.gateFormA priMv = formA := by
    rw [Bool.eq_iff_iff, Device.gateFormA_iff, hform]
  rw [Device.gateNeeds, hsame, hmv, hus]
  cases formA <;> rfl

section
variable {s : State} {ss : StartSense} {mv us : Nat}

theorem exec_startGatePass_waits (hcalm : s.dev.Calm) (hneeds : s.dev.gateNeeds ss.priMv = (mv, us))
    (h : s.dev.power.phase ≠ .gate ∨ ss.vsysMv < mv) : exec (.startGatePass ss) s = .next s := by
  refine State.onClk_same hcalm (Device.when_false _ ?_)
  rw [hneeds]
  rcases h with h | h <;> simp [h]

theorem exec_startGatePass_passes (hneeds : s.dev.gateNeeds ss.priMv = (mv, us)) (hgate : s.dev.power.phase = .gate)
    (hmv : mv ≤ ss.vsysMv) :
    exec (.startGatePass ss) s = .next (s.clocked ((s.dev.moveTo (s.dev.power.gateSince + us)).gatePass ss)) := by
  refine State.onClk_of_eq ?_
  simp only [hneeds, hgate, hmv, decide_true, Bool.and_self, if_true, Device.dueAt_gate]

end

/-- The device as steps 2 to 7 find it: what the gate sensed is its sample, and LDO5 is PROOFED (R106, R354). -/
def Device.gateEntered (d : Device) (ss : StartSense) : Device :=
  ({ d with sample := { d.sample with vsysMv := ss.vsysMv, priMv := ss.priMv, batMv := ss.batMv, batTemp := ss.batTemp }
     }.updRail 8 fun h => { h with st := .proofed }).updPower fun p => { p with aonMv := ss.batMv, btnFresh := false }

@[simp] theorem Device.gateEntered_frame (d : Device) (ss : StartSense) :
    (d.gateEntered ss).keepers = d.keepers ∧ (d.gateEntered ss).faults = d.faults := ⟨rfl, rfl⟩

/-- The start gate behind a POR, with `TEST` low: steps 2 to 7 follow. -/
theorem Device.gatePass_por {d : Device} (ss : StartSense) (htest : d.power.testHigh = false) (hcause : d.power.resetCause = 1) :
    d.gatePass ss = (d.exitLog.gateEntered ss).startSteps ss := by
  have hexit : d.exitLog.power.resetCause = 1 := by
    unfold Device.exitLog
    split <;> simp [hcause]
  have hsample : d.exitLog.sample = d.sample := by
    unfold Device.exitLog
    split <;> simp
  unfold Device.gatePass
  simp [htest, hexit, Device.gateEntered, hsample]

/-! ### A keeper whose Starter ROM fails (R108, R114) -/

@[simp] theorem Device.updKeeper_frame (d : Device) (k : Keeper) (f : KeeperState → KeeperState) :
    (d.updKeeper k f).power = d.power ∧ (d.updKeeper k f).pins = d.pins ∧ (d.updKeeper k f).rails = d.rails ∧
    (d.updKeeper k f).faults = d.faults ∧ (d.updKeeper k f).batch = d.batch ∧ (d.updKeeper k f).nvm = d.nvm := by
  simp [Device.updKeeper]

/-- Step 2 with a failing ROM on both keepers leaves neither with a working one. -/
theorem Device.startStep2_noRom {d : Device} {ss : StartSense} (ha : ss.romOkA = false) (hb : ss.romOkB = false)
    (hka : d.keepers.a.romOk = false) (hkb : d.keepers.b.romOk = false) :
    (d.startStep2 ss).noRom = true ∧ (d.startStep2 ss).faults = d.faults ∧ (d.startStep2 ss).batch = d.batch := by
  unfold Device.startStep2
  simp only [ha, hb, Bool.false_eq_true, if_false]
  split <;> split <;> simp [Device.noRom, Device.updKeeper, hka, hkb]

/-- Without a working Starter ROM the device is dark, with its rails off but LDO5. -/
theorem Device.startSteps_noRom {d : Device} {ss : StartSense} (hrom : (d.startStep2 ss).noRom = true) :
    (d.startSteps ss).power.phase = .dark ∧ (d.startSteps ss).pins.hrstLow = true ∧
    (d.startSteps ss).faults = (d.startStep2 ss).faults ∧
    ∀ r, r.val ≠ 8 → ((d.startSteps ss).rails.rails.get r).st = .off := by
  unfold Device.startSteps
  simp +contextual [hrom, Device.updVotes, RailHw.started_off]

/-! ### The ticks of step 8 (R391) -/

theorem Device.startTick_unpublished {d : Device} (sm : Sample) (hphase : d.power.phase = .starting)
    (hpub : d.sup.published = false) :
    d.startTick sm = if (d.afterTick sm).priv.seqRun.isSome then (d.afterTick sm).startInterval else (d.afterTick sm).step10 sm := by
  unfold Device.startTick
  rw [if_neg (by simp [hphase])]
  have hpub' : (d.tickOn.sampled sm).sup.published = false := hpub
  simp only [hpub', Device.when_false, Device.afterTick]
  congr

theorem exec_startTick (s : State) (sm : Sample) : exec (.startTick sm) s = s.onClk (·.startTick sm) := rfl

/-- Settles O17: the gate's needs in either form, then the gate's outcome clause by clause. -/
theorem startsRunTheirSteps : Obligations.StartsRunTheirSteps := by
  unfold Obligations.StartsRunTheirSteps
  intro s hcalm
  refine ⟨fun ss formA mv us hform hmv hus => ?_, fun sm hphase => ?_, fun sm hphase hpub => ?_⟩
  · have hneeds := Device.gateNeeds_eq hform hmv hus
    refine ⟨exec_startGatePass_waits hcalm hneeds, fun hgate hlevel htest => ?_,
      fun hgate hlevel htest hcause ha hb hka hkb => ?_, fun hgate hlevel htest hcause hexit => ?_⟩
    · rw [exec_startGatePass_passes hneeds hgate hlevel, Device.gatePass, (Device.moveTo_frame _ _).1, htest]
      rfl
    · refine ⟨_, exec_startGatePass_passes hneeds hgate hlevel, ?_⟩
      rw [Device.gatePass_por ss (by simpa using htest) (by simpa using hcause)]
      obtain ⟨hrom, hfaults, -⟩ := Device.startStep2_noRom
        (d := (s.dev.moveTo (s.dev.power.gateSince + us)).exitLog.gateEntered ss) ha hb (by simpa using hka) (by simpa using hkb)
      obtain ⟨hdark, hlow, hsteps, hoff⟩ := Device.startSteps_noRom hrom
      have hgrave : (((s.dev.moveTo (s.dev.power.gateSince + us)).exitLog.gateEntered ss).startSteps ss).faults.graveDue = none := by
        rw [hsteps, hfaults, (Device.gateEntered_frame _ _).2, Device.exitLog_calm]
        exact hcalm
      rw [State.clocked_dev hgrave]
      exact ⟨hdark, hlow, hoff⟩
    · rw [exec_startGatePass_passes hneeds hgate hlevel, Device.gatePass_por ss (by simpa using htest) (by simpa using hcause),
        (Device.exitLog_frame _).2.2.2.2.2.2.2.2 (by simpa using hexit)]
      rfl
  · rw [exec_startTick]
    exact State.onClk_same hcalm (by simp [Device.startTick, hphase])
  · rw [exec_startTick]
    exact State.onClk_of_eq (Device.startTick_unpublished sm hphase hpub)

end Sys2Proof.Machine

/-! PROOFS. Wake events (R69, R95 to R98). -/
namespace Sys2Proof.Machine

section
variable {d : Device} {code : Nat}

theorem Device.wakeEvent_asleep (h : d.power.wakeArmed = false) : d.wakeEvent code = d := by
  simp [Device.wakeEvent, Power.wakes, h]

/-- Before LODGE is reached an enabled event is latched with its KEEP period. -/
theorem Device.wakeEvent_lodgeDown (hphase : d.power.phase = .lodgeDown) (hwakes : d.power.wakes code = true) :
    d.wakeEvent code = d.updPower fun p => { p with wakeLatched := p.wakeLatched ++ [16 * keepPeriod d.now + code] } := by
  simp [Device.wakeEvent, hphase, hwakes]

theorem Device.wakeEvent_lodge (hphase : d.power.phase = .lodge) (hwakes : d.power.wakes code = true) :
    d.wakeEvent code = d.lodgeLeave code (keepPeriod d.now) := by
  simp [Device.wakeEvent, hphase, hwakes]

/-- In the KEEP period of the exit a lower code replaces the cause. -/
theorem Device.wakeEvent_gate (hphase : d.power.phase = .gate) (hwakes : d.power.wakes code = true)
    (hperiod : d.power.exitPeriod = some (keepPeriod d.now)) (hlower : code < d.power.wakeCause) :
    d.wakeEvent code = d.updPower fun p => { p with wakeCause := code } := by
  simp [Device.wakeEvent, hphase, hwakes, hperiod, hlower, Device.when]

/-- LODGE is left for the start gate: only the power registers and the battery FET change. -/
theorem Device.lodgeLeave_frame (d : Device) (code period : Nat) :
    (d.lodgeLeave code period).power.phase = .gate ∧ (d.lodgeLeave code period).power.resetCause = 6 ∧
    (d.lodgeLeave code period).power.wakeCause = code ∧ (d.lodgeLeave code period).power.gateSince = d.now ∧
    (d.lodgeLeave code period).nvm = d.nvm ∧ (d.lodgeLeave code period).rails = d.rails ∧
    (d.lodgeLeave code period).batch = d.batch ∧ (d.lodgeLeave code period).faults = d.faults := by
  obtain ⟨p, hp⟩ := d.chgPause_eq
  rw [Device.lodgeLeave, hp]
  exact ⟨rfl, rfl, rfl, rfl, rfl, rfl, rfl, rfl⟩

theorem Power.wakes_alarm {p : Power} (harmed : p.wakeArmed = true) (halarm : p.wakeAlarm ≠ 0) : p.wakes 1 = true := by
  simp [Power.wakes, harmed, halarm]

theorem Power.wakes_masked {p : Power} {code : Nat} (harmed : p.wakeArmed = true) (hcode : code ≠ 1)
    (hmask : bit p.wakeMask (code - 2) = true) : p.wakes code = true := by
  simp [Power.wakes, harmed, hcode, hmask]

theorem Device.alarmAt_lodging (hphase : d.power.phase = .lodgeDown ∨ d.power.phase = .lodge) (hwakes : d.power.wakes 1 = true) :
    d.alarmAt = d.dueAt (d.power.lodgeStart + 1000000 * d.power.wakeAlarm) (·.wakeEvent 1) := by
  rcases hphase with h | h <;> simp [Device.alarmAt, h, Device.when_true _ hwakes]

/-- In LODGE every instant comes, with no mark of a Batch before it. -/
theorem Device.dueAt_lodge (h : d.power.phase = .lodge) (t : Nat) (f : Device → Device) : d.dueAt t f = f (d.moveTo t) := by
  have hreach : d.reaches t = true := by simp [Device.reaches, h, Phase.batchRuns, Phase.ticks]
  have hcatch : (d.moveTo t).catchUp = d.moveTo t := by simp [Device.catchUp, h, Phase.batchRuns]
  simp [Device.dueAt, hreach, hcatch]

end

/-- The first KEEP step not before an instant still to come lies within one period of it. -/
theorem BatchTimer.keepTo_near (b : BatchTimer) (t : Nat) (hfrac : b.timeFrac < 512) (ht : b.time ≤ t) :
    t ≤ (b.keepTo t).time ∧ (b.keepTo t).time < t + 31 := by
  simp only [BatchTimer.keepTo, BatchTimer.keepSteps]
  omega

theorem Device.moveTo_lodge_now {d : Device} (h : d.power.phase = .lodge) (t : Nat) :
    (d.moveTo t).now = (d.batch.keepTo t).time := by
  have htimer : d.timerAt t = d.batch.keepTo t := by simp [Device.timerAt, h, Phase.batchRuns]
  rw [Device.moveTo_eq, Device.now, htimer]

theorem exec_wakeNRequest (s : State) : exec .wakeNRequest s = s.onDev fun d => d.when d.wakeInputs (·.wakeEvent 2) := rfl

theorem exec_wakeComparatorFire (s : State) (k : Fin 2) :
    exec (.wakeComparatorFire k) s = s.onDev fun d => d.when (d.cmpOn k.val) (·.wakeEvent (5 + k.val)) := rfl

theorem exec_lodgeAlarm (s : State) : exec .lodgeAlarm s = s.onClk (·.alarmAt) := rfl

/-- Settles O19: where each event is taken, by its phase. -/
theorem wakeEventsLeaveLodge : Obligations.WakeEventsLeaveLodge := by
  unfold Obligations.WakeEventsLeaveLodge
  intro s hcalm
  refine ⟨fun hphase harmed => ⟨fun halarm hcomes => ?_, fun hin hmask => ?_⟩, fun k hphase harmed hcmp hmask => ?_,
    fun hphase harmed hmask hperiod hcause => ?_, fun hphase harmed halarm hfrac hnow => ?_, fun harmed => ⟨?_, fun k => ?_⟩⟩
  · have hwakes := Power.wakes_alarm harmed halarm
    have heq := Device.wakeEvent_lodgeDown (d := s.dev.moveTo (s.dev.power.lodgeStart + 1000000 * s.dev.power.wakeAlarm)) (code := 1) (by simpa using hphase) (by simpa using hwakes)
    refine ⟨_, State.onClk_comes hcomes (Device.alarmAt_lodging (.inl hphase) hwakes) ?_ ?_, ?_⟩
    · rw [heq]
      simpa using hcalm
    · rw [heq]
      rfl
    · rw [State.put, heq]
      simp [hphase, Device.moveTo_now hcomes.1 hcomes.2.1, keepPeriod]
  · have hwakes := Power.wakes_masked (code := 2) harmed (by decide) hmask
    have heq : (s.dev.when s.dev.wakeInputs (·.wakeEvent 2)) = _ :=
      (Device.when_true _ hin).trans (Device.wakeEvent_lodgeDown hphase hwakes)
    rw [exec_wakeNRequest]
    exact State.onDev_put heq hcalm rfl
  · have hwakes := Power.wakes_masked (code := 5 + k.val) harmed (by omega) (by simpa [show 5 + k.val - 2 = 3 + k.val by omega] using hmask)
    obtain ⟨hgate, hreset, hcode, hsince, hnvm, hrails, hbatch, hfaults⟩ :=
      s.dev.lodgeLeave_frame (5 + k.val) (keepPeriod s.dev.now)
    have heq : (s.dev.when (s.dev.cmpOn k.val) (·.wakeEvent (5 + k.val))) = _ :=
      (Device.when_true _ hcmp).trans (Device.wakeEvent_lodge hphase hwakes)
    rw [exec_wakeComparatorFire]
    exact ⟨_, State.onDev_put heq (by rw [Device.Calm, hfaults]; exact hcalm) hbatch, hgate, hreset, hcode, hsince, hnvm, hrails⟩
  · have hwakes := Power.wakes_masked (code := 2) harmed (by decide) hmask
    have hin : s.dev.wakeInputs = true := by simp [Device.wakeInputs, hphase, hperiod, keepPeriod]
    have heq : (s.dev.when s.dev.wakeInputs (·.wakeEvent 2)) = _ :=
      (Device.when_true _ hin).trans (Device.wakeEvent_gate hphase hwakes hperiod hcause)
    rw [exec_wakeNRequest]
    exact State.onDev_put heq hcalm rfl
  · have hwakes := Power.wakes_alarm harmed halarm
    have hnear := s.dev.batch.keepTo_near _ hfrac hnow
    set e := s.dev.moveTo (s.dev.power.lodgeStart + 1000000 * s.dev.power.wakeAlarm) with he
    obtain ⟨hgate, -, hcode, -, -, -, hbatch, hfaults⟩ := e.lodgeLeave_frame 1 (keepPeriod e.now)
    have heq : s.dev.alarmAt = e.lodgeLeave 1 (keepPeriod e.now) := by
      rw [Device.alarmAt_lodging (.inr hphase) hwakes, Device.dueAt_lodge hphase]
      exact Device.wakeEvent_lodge (by simpa [he] using hphase) (by simpa [he] using hwakes)
    rw [← Device.moveTo_lodge_now hphase, ← he] at hnear
    rw [exec_lodgeAlarm]
    refine ⟨_, State.onClk_put heq (by rw [Device.Calm, hfaults]; exact hcalm) ?_, hgate, hcode, ?_⟩
    · rw [Device.now, Device.now, hbatch]
      exact hnow.trans hnear.1
    · rw [State.put, Device.now, hbatch]
      exact hnear
  · exact State.onDev_same hcalm (by simp [Device.wakeEvent_asleep harmed])
  · exact State.onDev_same hcalm (by simp [Device.wakeEvent_asleep harmed])

end Sys2Proof.Machine

/-! PROOFS. VIO and the crystal (R48, R51, R52, R127 to R130). -/
namespace Sys2Proof.Machine

theorem exec_vioGood (s : State) : exec .vioGood s = s.onDev (·.updPins fun p => { p with vioGood := true }) := rfl

theorem exec_vioLost (s : State) : exec .vioLost s = s.onDev (·.vioLoss) := rfl

theorem exec_crystalFail (s : State) : exec .crystalFail s = s.onClk (·.xtalFail) := rfl

theorem exec_crystalQualify (s : State) (r : Nat) : exec (.crystalQualify r) s = s.onClk (·.xtalGood r) := rfl

theorem exec_dividerUpdate (s : State) (r : Nat) : exec (.dividerUpdate r) s = s.onClk (·.dividerLoop r) := rfl

/-- The collector runs exactly where the device is powered. -/
theorem Device.collecting_eq (d : Device) : d.collecting = !d.power.phase.silent := by
  unfold Device.collecting Phase.silent
  split <;> simp_all

section
variable {d : Device}

theorem Device.vioLoss_none (h : d.pins.vioGood = false) : d.vioLoss = d := by
  simp [Device.vioLoss, h]

theorem Device.vioLoss_quiet (h : d.pins.vioGood = true) (hcoll : d.collecting = false) :
    d.vioLoss = d.updPins fun p => { p with vioGood := false } := by
  have hsilent : d.power.phase.silent = true := by simpa [Device.collecting_eq] using hcoll
  simp [Device.vioLoss, h, hsilent, Device.when]

theorem Device.vioLoss_reports (h : d.pins.vioGood = true) (hcoll : d.collecting = true) :
    d.vioLoss = (d.updPins fun p => { p with vioGood := false }).raise (coded 4 1) := by
  have hsilent : d.power.phase.silent = false := by simpa [Device.collecting_eq] using hcoll
  simp [Device.vioLoss, h, hsilent, Device.when]

/-- The timer behind a failure of the crystal. -/
def BatchTimer.xtalLost (b : BatchTimer) : BatchTimer :=
  { b with xtalQualified := false, qualifyPending := false, okSaid := false, rcClock := true,
           mode := if b.mode = .disciplined then .holdover else b.mode }

theorem Device.xtalFail_reports (hruns : d.power.phase.batchRuns = true) :
    d.xtalFail = (d.updBatch BatchTimer.xtalLost).raise (coded 1 4) := by
  have hsilent : d.power.phase.silent = false := by
    revert hruns
    cases d.power.phase <;> simp [Phase.batchRuns, Phase.silent]
  simp only [Device.xtalFail, hsilent, hruns, Device.updBatch_power, Bool.false_eq_true, if_false, if_true]
  rfl

end

theorem clampRate_within (old new : Nat) : clampRate old new ≤ old + old / 10000 ∧ old ≤ clampRate old new + old / 10000 ∧
    (old - old / 10000 ≤ new → new ≤ old + old / 10000 → clampRate old new = new) := by
  unfold clampRate
  omega

/-- Settles O20: the two losses by whether they are reported, the crystal's other rows by their guard. -/
theorem vioAndCrystalAreWatched : Obligations.VioAndCrystalAreWatched := by
  unfold Obligations.VioAndCrystalAreWatched
  simp only [exec_vioGood, exec_vioLost, exec_crystalFail, exec_crystalQualify, exec_dividerUpdate]
  refine ⟨fun s hcalm => ⟨State.onDev_put rfl hcalm rfl, fun hbad => State.onDev_same hcalm (Device.vioLoss_none hbad),
    fun hgood hcoll => ?_, fun hgood hcoll => State.onDev_put (Device.vioLoss_quiet hgood hcoll) hcalm rfl⟩,
    fun s hcalm => ⟨fun hsilent => ⟨?_, fun r => ?_⟩, fun hruns => ?_, fun hsilent hruns => ?_, fun r hgood => ?_,
      fun r hsilent hlodge hbad => ?_, fun r hlodge hbad => ?_, fun r hruns hmode => ?_⟩⟩
  · refine ⟨_, State.onDev_put (Device.vioLoss_reports hgood hcoll)
      ((Device.raise_coded_grave _ 4 1 0 (by decide)).trans hcalm) (by simp), ?_⟩
    simp only [State.put, Device.raise_frame, Device.raise_room, Device.updPins_pins, Device.updPins_reqs, Device.updPins_wram,
      Device.updPins_rooms, true_and, implies_true, and_true]
    rw [← show coded 4 1 = 0x04010000 by decide]
    exact Device.raise_coded_said (s.dev.updPins fun p => { p with vioGood := false }) 4 1 0 hcoll (by decide)
  · exact State.onClk_same hcalm (by simp [Device.xtalFail, hsilent])
  · exact State.onClk_same hcalm (by simp [Device.xtalGood, hsilent])
  · refine ⟨_, State.onClk_put (Device.xtalFail_reports hruns)
      ((Device.raise_coded_grave _ 1 4 0 (by decide)).trans hcalm) (by simp [Device.now, BatchTimer.xtalLost]), ?_⟩
    simp only [State.put, Device.raise_frame, Device.updBatch_batch, BatchTimer.xtalLost, true_and]
    rw [← show coded 1 4 = 0x01040000 by decide]
    refine Device.raise_coded_said (s.dev.updBatch BatchTimer.xtalLost) 1 4 0 ?_ (by decide)
    revert hruns
    simp only [Device.collecting_eq, Device.updBatch_power]
    cases s.dev.power.phase <;> simp [Phase.batchRuns, Phase.silent]
  · exact State.onClk_put (by simp [Device.xtalFail, hsilent, hruns]; rfl) hcalm le_rfl
  · exact State.onClk_same hcalm (by simp [Device.xtalGood, hgood])
  · exact State.onClk_put (by simp [Device.xtalGood, hsilent, hbad, hlodge]) hcalm le_rfl
  · exact State.onClk_put (by simp [Device.xtalGood, Phase.silent, hbad, hlodge]) hcalm le_rfl
  · have heq : s.dev.dividerLoop r = s.dev.updBatch fun b => { b with divider := clampRate b.divider r } := if_pos ⟨hruns, hmode⟩
    obtain ⟨hle, hge, hwithin⟩ := clampRate_within s.dev.batch.divider r
    exact ⟨_, State.onClk_put heq hcalm le_rfl, hle, hge, hwithin, rfl⟩

end Sys2Proof.Machine

/-! PROOFS. The state after reset, events that are the edge (log entry 33), steps of a sequence (R389 to R395), and the two marks of a
Batch (R141, R145, R169, R172). -/
namespace Sys2Proof.Machine

/-- Settles O1: the step takes the queue's first command. -/
theorem stepRunsFront : Obligations.StepRunsFront := by
  unfold Obligations.StepRunsFront
  intro c s rest
  exact step_cons rfl

/-- Settles O7: the fixed state, field by field. -/
theorem resetIsQuiet : Obligations.ResetIsQuiet := by
  unfold Obligations.ResetIsQuiet
  refine ⟨rfl, rfl, ⟨rfl, rfl⟩, rfl, rfl, rfl, rfl, rfl, fun n => ?_, rfl, rfl, rfl, by decide, rfl⟩
  show ((Vector.replicate 16 RoomRegs.reset).get n).st = .closed
  simp [Vector.get_eq_getElem, RoomRegs.reset]

/-! ### Events of the edge -/

theorem exec_batchEdge (s : State) (sm : Sample) (ext : WorkExtent) (ss : StartSense) :
    exec (.batchEdge sm ext ss) s = s.onClk (·.batchEdge sm ext ss) := rfl

/-- A row that is the edge where it is due, whatever a start would sense. -/
theorem State.edge_of_edgeIf {s : State} {i : Instr} {f : Device → Device} {due : Bool} {ss : StartSense} (hcalm : s.dev.Calm)
    (hexec : exec i s = s.onClk f) (hf : f s.dev = s.dev.edgeIf due ss) :
    (due = true → ∃ t, exec i s = .next t ∧ exec (.batchEdge s.dev.sample .full ss) s = .next t) ∧
      (due = false → exec i s = .next s) := by
  rw [hexec, exec_batchEdge]
  refine ⟨fun hdue => ⟨_, State.onClk_of_eq hf, ?_⟩, fun hdue => State.onClk_same hcalm ?_⟩
  · rw [Device.edgeIf, if_pos hdue]
    rfl
  · rw [hf, Device.edgeIf, hdue]
    rfl

theorem Device.seqDueEdge_runs {d : Device} (h : d.power.phase ≠ .starting) (ops : List SeqOp) :
    d.seqDueEdge ops =
      d.edgeIf (d.power.phase.batchRuns && d.seqStepDue ops d.batch.nextEdge) (StartSense.plain d) := if_neg h

/-- Settles O22: each row is the edge of its condition. -/
theorem edgeEventsAreTheEdge : Obligations.EdgeEventsAreTheEdge := by
  unfold Obligations.EdgeEventsAreTheEdge
  intro s hcalm
  have hdelay := fun hphase => Device.seqDueEdge_runs (d := s.dev) hphase [.delay]
  have hwait := fun hphase => Device.seqDueEdge_runs (d := s.dev) hphase [.waitPg, .waitLow]
  exact ⟨fun ss => State.edge_of_edgeIf hcalm rfl rfl, State.edge_of_edgeIf hcalm rfl rfl, State.edge_of_edgeIf hcalm rfl rfl,
    State.edge_of_edgeIf hcalm rfl rfl, State.edge_of_edgeIf hcalm rfl rfl, fun n => State.edge_of_edgeIf hcalm rfl rfl,
    fun r => State.edge_of_edgeIf hcalm rfl rfl, fun i => State.edge_of_edgeIf hcalm rfl rfl,
    fun hphase => ⟨State.edge_of_edgeIf (f := (·.seqDueEdge [.delay])) hcalm rfl (hdelay hphase), State.edge_of_edgeIf (f := (·.seqDueEdge [.waitPg, .waitLow])) hcalm rfl (hwait hphase)⟩,
    State.edge_of_edgeIf hcalm rfl rfl, State.edge_of_edgeIf hcalm rfl rfl, State.edge_of_edgeIf hcalm rfl rfl,
    State.edge_of_edgeIf hcalm rfl rfl⟩

/-! ### Steps of a sequence (R389 to R395) -/

section
variable {d : Device} {x : SeqRun} {t : Nat}

/-- A DELAY starts when it is reached, and goes on once its time has passed (R393). -/
theorem Device.seqOne_delay_reached (hop : (d.seqStep x.num x.pc).op = .delay) (hreached : x.reached = none) :
    d.seqOne x t = .waits { x with reached := some t } := by
  unfold Device.seqOne
  simp only [hop, hreached]

theorem Device.seqOne_delay {t0 : Nat} (hop : (d.seqStep x.num x.pc).op = .delay) (hreached : x.reached = some t0) :
    d.seqOne x t = if t0 + (d.seqStep x.num x.pc).value * 1000 ≤ t then .next d x.advance else .waits x := by
  unfold Device.seqOne
  simp only [hop, hreached]

theorem Device.seqOne_waitPg (hop : (d.seqStep x.num x.pc).op = .waitPg) : d.seqOne x t =
    x.waitStep d (d.seqStep x.num x.pc) t (decide ((d.rails.seen.get (d.seqStep x.num x.pc).rail).st = .proofed))
      (decide ((d.rails.seen.get (d.seqStep x.num x.pc).rail).st = .held) || !d.votedOn (d.seqStep x.num x.pc).rail) := by
  unfold Device.seqOne
  simp only [hop]

theorem Device.seqOne_disable (hop : (d.seqStep x.num x.pc).op = .disable) : d.seqOne x t =
    .next (d.updVotes fun vs => dropVote vs (d.seqHolder x) (d.seqStep x.num x.pc).rail)
      { x.advance with placed := x.placed.filter (· != (d.seqStep x.num x.pc).rail) } := by
  unfold Device.seqOne
  simp only [hop]

/-- With no rail failed an ENABLE places its vote (R389, R394). -/
theorem Device.seqOne_enable (hop : (d.seqStep x.num x.pc).op = .enable) (hfailed : x.failed = 0) : ∃ v : Vote,
    v.holder = d.seqHolder x ∧ v.rail = (d.seqStep x.num x.pc).rail ∧ ∃ y,
      d.seqOne x t = .next (d.updVotes fun vs => placeVote vs v) y := by
  refine ⟨{ holder := d.seqHolder x, rail := (d.seqStep x.num x.pc).rail, mv := (d.seqStep x.num x.pc).value,
            code := (d.seqStep x.num x.pc).ilim }, rfl, rfl,
    { x.advance with placed := x.placed.filter (· != (d.seqStep x.num x.pc).rail) ++ [(d.seqStep x.num x.pc).rail] }, ?_⟩
  unfold Device.seqOne
  simp [hop, hfailed]

theorem hasVote_dropVote (vs : List Vote) (h : VoteHolder) (r : RailId) : hasVote (dropVote vs h r) h r = false := by
  simp only [hasVote, dropVote, List.any_filter, Bool.not_and_self, List.any_eq_false]
  simp

theorem hasVote_placeVote (vs : List Vote) (v : Vote) : hasVote (placeVote vs v) v.holder v.rail = true := by
  simp [hasVote, placeVote]

/-- A WAIT step of a rail that has not failed (R392). -/
theorem SeqRun.waitStep_holds (x : SeqRun) (d : Device) (st : SeqStep) (t : Nat) (atOnce : Bool)
    (hfailed : x.failed.getLsbD st.rail.val = false) : x.waitStep d st t true atOnce = .next d x.advance := by
  simp only [SeqRun.waitStep, hfailed, Bool.false_eq_true, if_false, if_true]

theorem SeqRun.waitStep_fails {x : SeqRun} {st : SeqStep} {t t0 : Nat} (d : Device) (hreached : x.reached = some t0)
    (hfailed : x.failed.getLsbD st.rail.val = false) (ht : t0 + 1000 * st.value ≤ t) : ∃ y,
    x.waitStep d st t false false = .failed y ∧ y.failed = x.failed ||| BitVec.twoPow 16 st.rail.val := by
  refine ⟨{ x.fail st.rail with steps := x.steps + 1, reached := none, failStep := some (x.failStep.getD x.pc) }, ?_, rfl⟩
  have ht' : t0 + st.value * 1000 ≤ t := by omega
  simp only [SeqRun.waitStep, hfailed, hreached, ht', Option.getD_some, Bool.false_eq_true, if_false, decide_true, Bool.or_true,
    if_true]

theorem SeqRun.waitStep_waits {x : SeqRun} {st : SeqStep} {t t0 : Nat} (d : Device) (hreached : x.reached = some t0)
    (hfailed : x.failed.getLsbD st.rail.val = false) (ht : t < t0 + 1000 * st.value) :
    x.waitStep d st t false false = .waits x := by
  have ht' : ¬ t0 + st.value * 1000 ≤ t := by omega
  have hsame : ({ x with reached := some t0 } : SeqRun) = x := by rw [← hreached]
  simp only [SeqRun.waitStep, hfailed, hreached, ht', hsame, Option.getD_some, Bool.false_eq_true, if_false, decide_false,
    Bool.or_false]

end

/-- Settles O25: by the kind of the step. -/
theorem sequenceStepsRunInOrder : Obligations.SequenceStepsRunInOrder := by
  unfold Obligations.SequenceStepsRunInOrder
  intro d x t
  refine ⟨fun hop => ?_, fun hop hfailed => ?_, fun hop => ?_, fun hop hfailed => ?_⟩
  · exact ⟨fun hreached => Device.seqOne_delay_reached hop hreached,
      fun t0 hreached ht => (Device.seqOne_delay hop hreached).trans (if_pos (by omega)),
      fun t0 hreached ht => (Device.seqOne_delay hop hreached).trans (if_neg (by omega))⟩
  · rw [Device.seqOne_waitPg hop]
    refine ⟨fun hst => ?_, fun hproofed hheld hvoted => ?_⟩
    · rw [decide_eq_true hst, SeqRun.waitStep_holds _ _ _ _ _ hfailed]
    · rw [decide_eq_false hproofed, decide_eq_false hheld, hvoted]
      exact ⟨fun t0 hreached ht => SeqRun.waitStep_fails d hreached hfailed ht,
        fun t0 hreached ht => SeqRun.waitStep_waits d hreached hfailed ht⟩
  · exact ⟨_, Device.seqOne_disable hop, hasVote_dropVote ..⟩
  · obtain ⟨v, hholder, hrail, y, heq⟩ := Device.seqOne_enable (t := t) hop hfailed
    refine ⟨_, y, heq, ?_, rfl⟩
    rw [← hholder, ← hrail]
    exact hasVote_placeVote ..

end Sys2Proof.Machine

/-! PROOFS. The budget mark and the commit deadline (R141, R145, R169, R172). -/
namespace Sys2Proof.Machine

theorem exec_budgetMark (s : State) : exec .budgetMark s = s.onClk fun d =>
    d.when (d.power.phase.batchRuns && !d.sup.budgetPassed) fun d => d.dueAt d.budgetTime (·.budgetAt) := rfl

theorem exec_commitDeadline (s : State) : exec .commitDeadline s = s.onClk fun d =>
    d.when (d.power.phase.batchRuns && !d.sup.deadlinePassed) fun d => d.dueAt d.deadlineTime (·.budgetAt.deadlineAt) := rfl

theorem Phase.collecting_of_batchRuns {d : Device} (h : d.power.phase.batchRuns = true) : d.collecting = true := by
  rw [Device.collecting_eq]
  revert h
  cases d.power.phase <;> simp [Phase.batchRuns, Phase.silent]

/-- Both marks of a Batch lie before its edge (R137). -/
theorem Device.marks_le_nextEdge (d : Device) : d.budgetTime ≤ d.batch.nextEdge ∧ d.deadlineTime ≤ d.batch.nextEdge ∧
    d.budgetTime < d.deadlineTime := by
  unfold Device.budgetTime Device.deadlineTime BatchTimer.nextEdge BatchTimer.period
  split <;> omega

/-- A mark due before the edge is met behind the marks ahead of it. -/
theorem Device.dueAt_mark {d : Device} {t : Nat} (hruns : d.power.phase.batchRuns = true) (ht : t ≤ d.batch.nextEdge)
    (f : Device → Device) : d.dueAt t f = f (d.arrive t) :=
  Device.dueAt_reaches (by simp [Device.reaches, hruns, ht])

section
variable {d : Device}

/-- An idle keeper has no work up to the mark. -/
theorem Device.workToMark_idle (hidle : d.sup.stage = .idle) :
    d.when d.keeperWorks (·.workToMark) = d := by
  unfold Device.when
  split
  · simp [Device.workToMark, hidle]
  · rfl

/-- At the mark with the work done only the mark passes. -/
theorem Device.budgetAt_done (hidle : d.sup.stage = .idle) (hnot : d.sup.budgetPassed = false) (hdone : d.sup.workDone = true) :
    d.budgetAt = d.updSup fun s => { s with budgetPassed := true } := by
  unfold Device.budgetAt
  rw [Device.workToMark_idle hidle]
  simp [hnot, hdone]

/-- Work that is not done at the mark is an overrun (R145). -/
theorem Device.budgetAt_overrun (hidle : d.sup.stage = .idle) (hnot : d.sup.budgetPassed = false) (hdone : d.sup.workDone = false)
    (hsaid : d.sup.overrunReported = false) (hhalt : d.activeHalted = false) (hcut : d.sup.haltCut = false) :
    d.budgetAt = (d.updSup fun s => { s with budgetPassed := true, overrunReported := true }).raise (coded 1 1) := by
  have hhalt' : (d.updSup fun s => { s with budgetPassed := true }).activeHalted = false := hhalt
  unfold Device.budgetAt
  rw [Device.workToMark_idle hidle]
  simp only [hnot, hdone, hsaid, hhalt', hcut, Bool.false_eq_true, if_false, Device.updSup_sup, and_self, if_true]
  rfl

theorem Device.moveTo_marks (hruns : d.power.phase.batchRuns = true) (t : Nat) :
    (d.moveTo t).budgetTime = d.budgetTime ∧ (d.moveTo t).deadlineTime = d.deadlineTime := by
  have hbatch : (d.moveTo t).batch = { d.batch with time := max d.batch.time t } := Device.timerAt_runs hruns
  simp only [Device.budgetTime, Device.deadlineTime, hbatch, and_self]

/-- Where nothing of the Batch timer changes at the mark, an instant that is the mark's passes the mark alone. -/
theorem Device.arrive_budget (hruns : d.power.phase.batchRuns = true) (ht : d.batch.time ≤ d.budgetTime)
    (hbatch : (d.moveTo d.budgetTime).budgetAt.batch = (d.moveTo d.budgetTime).batch) :
    d.arrive d.budgetTime = (d.moveTo d.budgetTime).budgetAt := by
  have hmove := Device.moveTo_batch hruns ht
  have hbudget : (d.moveTo d.budgetTime).budgetTime ≤ (d.moveTo d.budgetTime).now := by
    rw [(Device.moveTo_marks hruns _).1, Device.moveTo_now hruns ht]
  have hdeadline : ¬ (d.moveTo d.budgetTime).budgetAt.deadlineTime ≤ (d.moveTo d.budgetTime).budgetAt.now := by
    have hlt := d.marks_le_nextEdge.2.2
    simp only [Device.deadlineTime, Device.now, hbatch, hmove] at hlt ⊢
    exact Nat.not_le.2 hlt
  simp only [Device.arrive, Device.catchUp, Device.moveTo_frame, hruns, hbudget, hdeadline, if_true, if_false]

/-- The mark once, where it leaves a device with the Batch timer as it was. -/
theorem exec_budgetMark_once {s : State} (hruns : s.dev.power.phase.batchRuns = true) (hnot : s.dev.sup.budgetPassed = false) :
    exec .budgetMark s = .next (s.clocked (s.dev.arrive s.dev.budgetTime).budgetAt) := by
  rw [exec_budgetMark]
  refine State.onClk_of_eq ?_
  simp only [hruns, hnot, Bool.not_false, Bool.and_self, Device.when_true]
  exact Device.dueAt_mark hruns s.dev.marks_le_nextEdge.1 _

theorem exec_budgetMark_leaves {s : State} {e : Device} (hruns : s.dev.power.phase.batchRuns = true)
    (hnot : s.dev.sup.budgetPassed = false) (ht : s.dev.batch.time ≤ s.dev.budgetTime)
    (he : (s.dev.moveTo s.dev.budgetTime).budgetAt = e) (hbatch : e.batch = (s.dev.moveTo s.dev.budgetTime).batch)
    (hpassed : e.sup.budgetPassed = true) (hcalm : e.Calm) : exec .budgetMark s = .next (s.put e) := by
  have heq : (s.dev.arrive s.dev.budgetTime).budgetAt = e := by
    rw [Device.arrive_budget hruns ht (by rw [he, hbatch]), he, Device.budgetAt_passed hpassed]
  rw [exec_budgetMark_once hruns hnot, heq, ← State.onClk_of_eq (f := fun _ => e) rfl]
  refine State.onClk_put rfl hcalm ?_
  rw [Device.now, Device.now, hbatch, Device.moveTo_batch hruns ht]
  exact ht

/-! ### The commit deadline -/

theorem Device.wdPeriod_eq (d : Device) (k : Keeper) : ∃ w, d.wdPeriod k = { d with wd := w } := by
  unfold Device.wdPeriod Device.when
  split
  · split
    · exact ⟨_, rfl⟩
    · exact ⟨d.wd, rfl⟩
  · exact ⟨d.wd, rfl⟩

theorem Device.wdClosing_eq (d : Device) (k : Keeper) : ∃ w, d.wdClosing k = { d with wd := w } := by
  unfold Device.wdClosing Device.when
  split
  · exact ⟨_, rfl⟩
  · exact ⟨d.wd, rfl⟩

theorem Device.standbyWindow_eq (d : Device) : ∃ w, d.standbyWindow = { d with wd := w } := by
  unfold Device.standbyWindow
  split
  · rename_i k _
    obtain ⟨w, hw⟩ := d.wdPeriod_eq k
    rw [hw]
    exact Device.wdClosing_eq _ k
  · exact ⟨d.wd, rfl⟩

/-- An idle keeper does nothing up to the deadline but its standby's window. -/
theorem Device.workToDeadline_idle (hidle : d.sup.stage = .idle) : d.when d.windowWorks (·.workToDeadline) = d := by
  unfold Device.when
  split
  · simp [Device.workToDeadline, hidle]
  · rfl

theorem Device.activeHalted_powered (d : Device) (k : Keeper) :
    (d.updKeeper k fun s => { s with powered := true }).activeHalted = d.activeHalted := by
  have hactive : (d.updKeeper k fun s => { s with powered := true }).activeKeeper = d.activeKeeper := by cases k <;> rfl
  have hhalted (j : Keeper) : ((d.updKeeper k fun s => { s with powered := true }).keeper j).halted = (d.keeper j).halted := by
    cases k <;> cases j <;> rfl
  simp only [Device.activeHalted, hactive, hhalted]

/-- The standby's core changes nothing of the active keeper. -/
theorem Device.standbyOn_eq (d : Device) : ∃ ks, d.standbyOn = { d with keepers := ks } ∧
    Device.activeHalted { d with keepers := ks } = d.activeHalted := by
  unfold Device.standbyOn
  split
  · rename_i k _
    split
    · exact ⟨_, rfl, Device.activeHalted_powered d k⟩
    · exact ⟨d.keepers, rfl, rfl⟩
  · exact ⟨d.keepers, rfl, rfl⟩

/-- A Batch without a commit counts as missed, up to 3, and the second in a row asks for a takeover (R169 to R172). -/
theorem Device.missedCommit_counts (hbubble : d.batch.bubble = none) (hhalt : d.activeHalted = false) : ∃ ks,
    d.missedCommit = { d with keepers := ks, sup := { d.sup with missed := min 3 (d.sup.missed + 1) } } ∧
      (1 ≤ d.sup.missed → ks.heartbeat = true) := by
  obtain ⟨ks, hks, hactive⟩ : ∃ ks, d.when d.batch.rest (·.standbyOn) = { d with keepers := ks } ∧
      Device.activeHalted { d with keepers := ks } = d.activeHalted := by
    unfold Device.when
    split
    · exact d.standbyOn_eq
    · exact ⟨d.keepers, rfl, rfl⟩
  rw [Device.missedCommit, hks]
  by_cases hsecond : 2 ≤ min 3 (d.sup.missed + 1)
  · refine ⟨{ ks with heartbeat := true }, ?_, fun _ => rfl⟩
    simp [hbubble, hactive, hhalt, sat, Device.when, hsecond, Device.updSup, Device.updKeepers]
  · refine ⟨ks, ?_, fun h => absurd h (by omega)⟩
    simp [hbubble, hactive, hhalt, sat, Device.when, hsecond, Device.updSup]

/-- What the deadline of an idle keeper leaves. -/
theorem Device.deadlineAt_idle (hidle : d.sup.stage = .idle) (hnot : d.sup.deadlinePassed = false)
    (hbubble : d.batch.bubble = none) (hhalt : d.activeHalted = false) : ∃ w ks missed,
    d.deadlineAt = { d with wd := w, keepers := ks, sup := { d.sup with deadlinePassed := true, missed := missed } } ∧
      missed = (if d.sup.committed then d.sup.missed else min 3 (d.sup.missed + 1)) ∧
      (d.sup.committed = false → 1 ≤ d.sup.missed → ks.heartbeat = true) := by
  obtain ⟨w, hw⟩ := d.standbyWindow_eq
  unfold Device.deadlineAt
  simp only [hnot, Device.workToDeadline_idle hidle, hw, Device.updSup, Bool.false_eq_true, if_false]
  by_cases hcommitted : d.sup.committed = true
  · rw [if_pos hcommitted]
    exact ⟨w, d.keepers, d.sup.missed, rfl, (if_pos hcommitted).symm, fun h => by simp [h] at hcommitted⟩
  · rw [if_neg hcommitted]
    obtain ⟨ks, hmissed, hheart⟩ := Device.missedCommit_counts
      (d := { d with wd := w, sup := { d.sup with deadlinePassed := true } }) hbubble hhalt
    exact ⟨w, ks, _, hmissed, (if_neg hcommitted).symm, fun _ => hheart⟩

theorem exec_commitDeadline_once {s : State} (hruns : s.dev.power.phase.batchRuns = true)
    (hnot : s.dev.sup.deadlinePassed = false) :
    exec .commitDeadline s = .next (s.clocked (s.dev.arrive s.dev.deadlineTime).budgetAt.deadlineAt) := by
  rw [exec_commitDeadline]
  refine State.onClk_of_eq ?_
  simp only [hruns, hnot, Bool.not_false, Bool.and_self, Device.when_true]
  exact Device.dueAt_mark hruns s.dev.marks_le_nextEdge.2.1 _

/-- With the budget mark passed, the deadline's instant passes the deadline alone, and once. -/
theorem Device.arrive_deadline {e : Device} (hruns : d.power.phase.batchRuns = true) (ht : d.batch.time ≤ d.deadlineTime)
    (hbudget : d.sup.budgetPassed = true) (he : (d.moveTo d.deadlineTime).deadlineAt = e) (hsame : e.sup.budgetPassed = true)
    (hpassed : e.sup.deadlinePassed = true) : (d.arrive d.deadlineTime).budgetAt.deadlineAt = e := by
  have hbudget' : (d.moveTo d.deadlineTime).budgetAt = d.moveTo d.deadlineTime := Device.budgetAt_passed hbudget
  have hdue : (d.moveTo d.deadlineTime).deadlineTime ≤ (d.moveTo d.deadlineTime).now := by
    rw [(Device.moveTo_marks hruns _).2, Device.moveTo_now hruns ht]
  have harrive : d.arrive d.deadlineTime = e := by
    simp only [Device.arrive, Device.catchUp, Device.moveTo_frame, hruns, hbudget', ite_self, hdue, if_true, he]
  rw [harrive, Device.budgetAt_passed hsame, Device.deadlineAt_passed hpassed]

end

/-- Settles O26: each mark where it is passed, where it comes, and what it leaves of an idle keeper. -/
theorem marksComeOnceInABatch : Obligations.MarksComeOnceInABatch := by
  unfold Obligations.MarksComeOnceInABatch
  intro s hcalm
  refine ⟨fun h => ?_, fun hruns hnot => exec_budgetMark_once hruns hnot, fun hruns hnot ht hidle hdone => ?_,
    fun hruns hnot ht hidle hdone hsaid hhalt hcut hfifo => ?_, fun h => ?_, fun hruns hnot => exec_commitDeadline_once hruns hnot,
    fun hruns hbudget hnot ht hidle hbubble hhalt => ?_⟩
  · rw [exec_budgetMark]
    exact State.onClk_same hcalm (by rcases h with h | h <;> simp [h, Device.when])
  · have he := Device.budgetAt_done (d := s.dev.moveTo s.dev.budgetTime) hidle hnot hdone
    refine ⟨_, exec_budgetMark_leaves hruns hnot ht he rfl rfl hcalm, ?_, rfl, rfl⟩
    exact Device.moveTo_now hruns ht
  · have he := Device.budgetAt_overrun (d := s.dev.moveTo s.dev.budgetTime) hidle hnot hdone hsaid hhalt hcut
    refine ⟨_, exec_budgetMark_leaves hruns hnot ht he (by simp) (by simp)
      ((Device.raise_coded_grave _ 1 1 0 (by decide)).trans hcalm), ?_⟩
    rw [← show coded 1 1 = 0x01010000 by decide]
    refine ⟨?_, ?_, ?_, Device.raise_coded_said _ 1 1 0 (Phase.collecting_of_batchRuns hruns) (by decide) hfifo⟩
    · simpa [State.put, Device.now] using Device.moveTo_now hruns ht
    · simp [State.put]
    · simp [State.put]
  · rw [exec_commitDeadline]
    exact State.onClk_same hcalm (by rcases h with h | h <;> simp [h, Device.when])
  · obtain ⟨w, ks, missed, he, hmissed, hheart⟩ :=
      Device.deadlineAt_idle (d := s.dev.moveTo s.dev.deadlineTime) hidle hnot
        (by rw [Device.moveTo_batch hruns ht]; exact hbubble) hhalt
    have heq := Device.arrive_deadline hruns ht hbudget he hbudget rfl
    rw [exec_commitDeadline_once hruns hnot, heq, ← State.onClk_of_eq (f := fun _ => _) rfl]
    refine ⟨_, State.onClk_put rfl hcalm ?_, Device.moveTo_now hruns ht, rfl, hmissed, hheart⟩
    exact ht.trans (Device.moveTo_now hruns ht).ge

end Sys2Proof.Machine

/-! PROOFS. LODGE and SHIP begin (R94, R95, R100, R339). -/
namespace Sys2Proof.Machine

/-- A `LODGE` request whose intent is still open ahead of its commit point. -/
def lodgeWaiting : Rec :=
  { id := { room := 0, tag := 0, seq := 0 }, opcode := 0x012, flags := 0, len := 0, fp := 0, args := none, held := false,
    st := .waiting, intent := .open false, takenBatch := 0, execBatch := none, compl := none, producedTime := 0, index := 0,
    postedAt := none, wait := [], late := false, busy := false, slot := 0, block := 0, ecc := none }

/-- A calm device with a LODGE plan and that request in its table. -/
def lodgePlanned : Device := { Device.reset with
  priv := { Device.reset.priv with lodge := some { batch := 0, alarm := 5, mask := 3, forced := false } },
  reqs := { Device.reset.reqs with recs := [lodgeWaiting] } }

/-- The device once LODGE has begun and its wake sources are armed, ahead of what the entry ends. -/
def Device.lodgeEntering (d : Device) (t : Nat) (l : LodgePlan) : Device := { d with
  power := { d.power with phase := .lodgeDown, lodgeStart := t, wakeArmed := true, wakeMask := l.mask, wakeAlarm := l.alarm },
  pins := { d.pins with hrstLow := true },
  freeCtr := d.freeCtr + 1 }

/-- Behind the entry only the gauge, the power-down sequence, the targets and a message follow. -/
theorem Device.lodgeBegin_power {d : Device} (t : Nat) {l : LodgePlan} (hplan : d.priv.lodge = some l)
    (harmed : d.power.wakeArmed = false) : (d.lodgeBegin t).power = (d.lodgeEntering t l).entryEnds.power := by
  simp only [Device.lodgeBegin, hplan, harmed, Bool.false_and, Bool.false_eq_true, if_false, Device.raise_frame, Device.free,
    Device.updActive_power, Device.updShadow_power, Device.downBegin, Device.gaugeLodge, Device.updPriv_power, Device.updVotes,
    Device.updGaugeHw_power]
  rfl

/-- The entry discards the request, and undoes what it made before its commit point: the wake sources just armed among it. -/
theorem lodgePlanned_disarmed :
    (lodgePlanned.lodgeEntering 0 { batch := 0, alarm := 5, mask := 3, forced := false }).entryEnds.power.wakeArmed = false := by
  decide +kernel

/-- Refutes O23: LODGE entry arms the wake sources and then discards every request; the open intent of a `LODGE` request is undone
there, which disarms them again. -/
theorem not_lodgeAndShipCloseEveryRoom : ¬ Obligations.LodgeAndShipCloseEveryRoom := by
  unfold Obligations.LodgeAndShipCloseEveryRoom
  rintro ⟨hlodge, -⟩
  obtain ⟨-, -, -, harmed, -⟩ := hlodge lodgePlanned 0 { batch := 0, alarm := 5, mask := 3, forced := false } rfl rfl
  rw [Device.lodgeBegin_power 0 rfl rfl, lodgePlanned_disarmed] at harmed
  exact absurd harmed (by decide)

end Sys2Proof.Machine

/-! PROOFS. The digest engine's registers as a Room writes them (R625 to R630, R637). -/
namespace Sys2Proof.Machine

/-! ### The engine changes itself alone -/

/-- A device that differs by the engine and the counter of free values at the most. -/
def Device.EngineOnly (d e : Device) : Prop := ∃ g c, e = { d with dig := g, freeCtr := c }

section
variable {d e t : Device}

theorem Device.EngineOnly.refl (d : Device) : d.EngineOnly d := ⟨d.dig, d.freeCtr, rfl⟩

theorem Device.EngineOnly.trans (h : d.EngineOnly e) (k : e.EngineOnly t) : d.EngineOnly t := by
  obtain ⟨g, c, rfl⟩ := h
  obtain ⟨g', c', rfl⟩ := k
  exact ⟨g', c', rfl⟩

theorem Device.updDig_engineOnly (d : Device) (f : Digest → Digest) : d.EngineOnly (d.updDig f) := ⟨_, d.freeCtr, rfl⟩

theorem Device.digRelease_engineOnly (d : Device) : d.EngineOnly d.digRelease := ⟨_, d.freeCtr, rfl⟩

theorem Device.digFinishMsg_engineOnly (d : Device) (n : RoomId) : d.EngineOnly (d.digFinishMsg n) := by
  unfold Device.digFinishMsg
  dsimp only
  split
  · exact Device.EngineOnly.trans ⟨_, _, rfl⟩ (Device.digRelease_engineOnly _)
  · exact d.digRelease_engineOnly

theorem Device.digCtrl_engineOnly (d : Device) (n : RoomId) (w : Word) : d.EngineOnly (d.digCtrl n w) := by
  unfold Device.digCtrl
  dsimp only
  split
  · exact ⟨_, d.freeCtr, rfl⟩
  · exact d.digFinishMsg_engineOnly n
  · exact d.digRelease_engineOnly
  · exact d.updDig_engineOnly _

theorem Device.digFrom_engineOnly (d : Device) (p : Port) (n : RoomId) {f : Device → Device} (hf : ∀ x : Device, x.EngineOnly (f x)) :
    d.EngineOnly (d.digFrom p n f) := by
  unfold Device.digFrom
  split
  · exact .refl d
  · split
    · exact (d.updDig_engineOnly _).trans (hf _)
    · exact d.updDig_engineOnly _

theorem Device.digClaim_engineOnly (d : Device) (p : Port) (n : RoomId) (v : Byte) : d.EngineOnly (d.digClaim p n v) := by
  unfold Device.digClaim
  dsimp only
  split
  · exact d.updDig_engineOnly _
  · exact .refl d

theorem Device.commonWrite_engineOnly (d : Device) (p : Port) (n : RoomId) (off : Nat) (l : List Byte) :
    d.EngineOnly (d.commonWrite p n off l) := by
  have hdata (off : Nat) (x : Device) : x.EngineOnly (x.digFrom p n (·.digData off l)) :=
    x.digFrom_engineOnly p n fun y => y.updDig_engineOnly _
  have hdata' (c : Bool) (x : Device) : x.EngineOnly (x.when c (·.digFrom p n (·.digData off l))) := by
    unfold Device.when
    split
    · exact hdata _ x
    · exact .refl x
  have hctrl (x : Device) := x.digFrom_engineOnly p n fun y => y.digCtrl_engineOnly n (frameWord off l 0xE84 0)
  unfold Device.commonWrite
  split
  · exact hdata _ d
  · dsimp only
    refine Device.EngineOnly.trans ?_ (hdata' _ _)
    split
    · refine Device.EngineOnly.trans ?_ (hctrl _)
      split
      · exact d.digClaim_engineOnly p n _
      · exact .refl d
    · split
      · exact d.digClaim_engineOnly p n _
      · exact .refl d

end

/-! ### A frame behind the rings reaches the common page -/

section
variable {d : Device} {p : Port} {n : RoomId} {off : Nat} {l : List Byte}

theorem Device.slotBytes_behind (h : 0xA00 ≤ off) : d.slotBytes n off l = d := by
  induction l generalizing off with
  | nil => rfl
  | cons b l ih =>
    have hslot : d.slotByte n off b = d := if_neg (by omega)
    rw [Device.slotBytes, hslot]
    exact ih (by omega)

theorem RoomRegs.slotClash_behind (r : RoomRegs) (h : 0xA00 ≤ off) : r.slotClash off l = false := by
  simp only [RoomRegs.slotClash, List.any_eq_false, List.mem_range]
  intro i hi
  have hhigh : ¬ off + i < 0xA00 := by omega
  simp [hhigh]

theorem Device.roomWrite_behind (h : 0xA00 ≤ off) : d.roomWrite n off l = d := by
  rw [Device.roomWrite_rings d n (.inr (by omega)), Device.slotBytes_behind h, Device.ringBells_behind _ _ _ (by omega),
    RoomRegs.slotClash_behind _ h]
  rfl

/-- A write frame of the right length for a bound Room has its effect there, and leaves its mark on the port. -/
theorem Device.writeFrame_frameWrite (f : LinkState → LinkState) (hbound : (d.rooms.get n).boundTo p = true)
    (hserved : d.roomServed n = true) (hsome : 0 < l.length) (hmost : l.length ≤ 512) (hend : off + l.length ≤ 0x1000) :
    ∃ f' g, (d.updLink f).writeFrame p n off l = ((d.linkCleared n f').frameWrite p n off l).updLink g := by
  obtain ⟨g, hgood⟩ := Device.frameGood_bound (d := d.updLink f) hbound (·.frameWrite p n off l) 0 0
  have hwhole : ¬ (l.length = 0 ∨ 512 < l.length ∨ 0x1000 < off + l.length ∨ (d.updLink f).roomServed n = false) := by
    rintro (h | h | h | h)
    · omega
    · omega
    · omega
    · exact Bool.noConfusion (h.symm.trans hserved)
  exact ⟨fun x => (f x).setErr p false, g, (if_neg hwhole).trans hgood⟩

theorem Device.hostWrite_frameWrite (h : d.Reaches p n) (hsome : 0 < l.length) (hmost : l.length ≤ 512)
    (hend : off + l.length ≤ 0x1000) : ∃ f g, d.hostWrite p n off l = ((d.linkCleared n f).frameWrite p n off l).updLink g := by
  obtain ⟨hactive, hbound, hserved, -⟩ := h
  obtain ⟨f, hseen⟩ := d.writeSeen_updLink p n off l.length
  simp only [Device.hostWrite, Device.when, hactive, hseen, if_true]
  exact Device.writeFrame_frameWrite f hbound hserved hsome hmost hend

/-- In the common page it writes the engine's registers alone. -/
theorem Device.frameWrite_common (h : 0xA00 ≤ off) : d.frameWrite p n off l = d.commonWrite p n off l := by
  simp only [Device.frameWrite, Device.when, Device.roomWrite_behind h, ite_self]

/-- The outcome of a frame into the common page: the engine behind it is what the write makes of a device that differs from this one
by its link registers alone. -/
theorem State.onFrame_common {s : State} (hcalm : s.dev.Calm) (hreach : s.dev.Reaches p n) (hlow : 0xA00 ≤ off)
    (hsome : 0 < l.length) (hmost : l.length ≤ 512) (hend : off + l.length ≤ 0x1000) :
    ∃ f t, s.onFrame (·.hostWrite p n off l) = .next t ∧ t.dev.dig = ((s.dev.linkCleared n f).commonWrite p n off l).dig := by
  obtain ⟨f, g, hwrite⟩ := Device.hostWrite_frameWrite hreach hsome hmost hend
  rw [Device.frameWrite_common hlow] at hwrite
  obtain ⟨-, -, -, htick⟩ := hreach
  obtain ⟨x, c, hengine⟩ := (s.dev.linkCleared n f).commonWrite_engineOnly p n off l
  refine ⟨f, s.put (((s.dev.linkCleared n f).commonWrite p n off l).updLink g), ?_, rfl⟩
  rw [State.onFrame, htick]
  exact State.onDev_put (f := (·.hostWrite p n off l)) hwrite (by rw [hengine]; exact hcalm) (by rw [hengine]; rfl)

end

/-! ### Frames that cover one register -/

theorem frameByte_in {off i : Nat} {l : List Byte} (h : i < l.length) : frameByte off l (off + i) = some l[i] := by
  simp [frameByte, h]

theorem frameWord_four (off : Nat) (a b c d : Byte) (old : Word) :
    frameWord off [a, b, c, d] off old = BitVec.ofNat 32 (leNat [a, b, c, d]) := by
  have hrange : List.range 4 = [0, 1, 2, 3] := by decide
  simp [frameWord, frameByte, hrange]

/-- The four bytes of a word written at its register. -/
theorem frameWord_leBytes (off v : Nat) (old : Word) : frameWord off (leBytes 4 v) off old = BitVec.ofNat 32 v := by
  simp only [leBytes]
  rw [frameWord_four]
  apply BitVec.eq_of_toNat_eq
  simp only [leNat, BitVec.toNat_ofNat]
  omega

section
variable (d : Device) (p : Port) (n : RoomId)

theorem Device.commonWrite_claim (v : Byte) : d.commonWrite p n 0xE80 [v] = d.digClaim p n v := by
  have hclaim : frameByte 0xE80 [v] 0xE80 = some v := frameByte_in (i := 0) (by simp)
  have hctrl : frameByte 0xE80 [v] 0xE84 = none := frameByte_out (by simp)
  simp [Device.commonWrite, dataBad, hclaim, hctrl, Device.when]

theorem Device.commonWrite_ctrl (v : Nat) :
    d.commonWrite p n 0xE84 (leBytes 4 v) = d.digFrom p n (·.digCtrl n (BitVec.ofNat 32 v)) := by
  have hlength := leBytes_length 4 v
  have hclaim : frameByte 0xE84 (leBytes 4 v) 0xE80 = none := frameByte_out (by omega)
  have hctrl : frameByte 0xE84 (leBytes 4 v) 0xE84 = some _ := frameByte_in (i := 0) (by omega)
  simp [Device.commonWrite, dataBad, hlength, hclaim, hctrl, Device.when, frameWord_leBytes]

theorem Device.commonWrite_data {off : Nat} {l : List Byte} (hlow : 0xEC0 ≤ off) (hhigh : off + l.length ≤ 0xF00)
    (hsome : 0 < l.length) : d.commonWrite p n off l = d.digFrom p n (·.digData off l) := by
  have hclaim : frameByte off l 0xE80 = none := frameByte_out (by omega)
  have hctrl : frameByte off l 0xE84 = none := frameByte_out (by omega)
  have hbelow : off < 0xF00 := by omega
  simp [Device.commonWrite, dataBad, hclaim, hctrl, Device.when, hlow, hhigh, hbelow]

end

/-! ### Writes of the holder, and of another Room (R627) -/

section
variable {d : Device} {p : Port} {n : RoomId}

theorem Device.digFrom_holder (hguest : d.dig.guest = some n) (hbound : (d.rooms.get n).boundTo p = true) (f : Device → Device) :
    d.digFrom p n f = f (d.updDig fun g => { g with lastWrite := d.now }) := by
  simp [Device.digFrom, hguest, hbound]

theorem Device.digFrom_foreign {h : RoomId} (hguest : d.dig.guest = some h) (hother : h ≠ n) (f : Device → Device) :
    d.digFrom p n f = d.updDig fun g => { g with foreign := true } := by
  simp [Device.digFrom, hguest, hother]

/-- A claim is taken where every condition of R625 holds. -/
theorem Device.digClaim_dig (v : Byte) (hbound : (d.rooms.get n).boundTo p = true) : (d.digClaim p n v).dig =
    if v.toNat = n.val ∧ (d.rooms.get n).st = .opened ∧ d.hasFeature n 8 = true ∧ d.dig.claim = 0xFF ∧ d.dig.resv = false then
      { d.dig with claim := v, claimTime := d.now, lastWrite := d.now, running := false, msg := [] }
    else d.dig := by
  unfold Device.digClaim
  simp only [hbound, Digest.free, decide_eq_true_eq, true_and]
  split <;> rfl

end

section
variable {s : State} {p : Port} {n : RoomId}

/-- The link registers are no part of what a claim reads. -/
theorem Device.linkCleared_frame (d : Device) (n : RoomId) (f : LinkState → LinkState) :
    (d.linkCleared n f).dig = d.dig ∧ (d.linkCleared n f).now = d.now ∧ (d.linkCleared n f).keys = d.keys ∧
    (∀ m k, (d.linkCleared n f).hasFeature m k = d.hasFeature m k) ∧ (∀ m k, (d.linkCleared n f).mayKey m k = d.mayKey m k) ∧
    ((d.linkCleared n f).rooms.get n).st = (d.rooms.get n).st ∧
    ∀ p, ((d.linkCleared n f).rooms.get n).boundTo p = (d.rooms.get n).boundTo p := by
  refine ⟨rfl, rfl, rfl, fun _ _ => rfl, fun _ _ => rfl, ?_, fun p => ?_⟩ <;> rw [Device.linkCleared_get_same]
  rfl

theorem exec_digClaimWrite_dig (hcalm : s.dev.Calm) (hreach : s.dev.Reaches p n) (v : Byte) :
    ∃ t, exec (.digClaimWrite p n v) s = .next t ∧ t.dev.dig =
      if v.toNat = n.val ∧ (s.dev.rooms.get n).st = .opened ∧ s.dev.hasFeature n 8 = true ∧ s.dev.dig.claim = 0xFF ∧
          s.dev.dig.resv = false then
        { s.dev.dig with claim := v, claimTime := s.dev.now, lastWrite := s.dev.now, running := false, msg := [] }
      else s.dev.dig := by
  obtain ⟨f, t, hexec, hdig⟩ := State.onFrame_common (off := 0xE80) (l := [v]) hcalm hreach (by simp) (by simp) (by simp) (by simp)
  obtain ⟨hengine, hnow, -, hfeature, -, hst, hbound⟩ := s.dev.linkCleared_frame n f
  refine ⟨t, hexec, ?_⟩
  rw [hdig, Device.commonWrite_claim, Device.digClaim_dig v ((hbound p).trans hreach.2.1), hst, hfeature, hengine, hnow]

/-- A word of `DIG.CTRL` from the holder, through its port (R627, R637). -/
theorem State.onFrame_digCtrl (hcalm : s.dev.Calm) (hreach : s.dev.Reaches p n) (hguest : s.dev.dig.guest = some n) (v : Nat) :
    ∃ f t, s.onFrame (·.hostWrite p n 0xE84 (leBytes 4 v)) = .next t ∧ t.dev.dig =
      (((s.dev.linkCleared n f).updDig fun g => { g with lastWrite := s.dev.now }).digCtrl n (BitVec.ofNat 32 v)).dig := by
  have hlength := leBytes_length 4 v
  obtain ⟨f, t, hexec, hdig⟩ := State.onFrame_common (off := 0xE84) (l := leBytes 4 v) hcalm hreach (by omega) (by omega) (by omega)
    (by omega)
  obtain ⟨hengine, hnow, -, -, -, -, hbound⟩ := s.dev.linkCleared_frame n f
  refine ⟨f, t, hexec, ?_⟩
  rw [hdig, Device.commonWrite_ctrl, Device.digFrom_holder (by rw [hengine]; exact hguest) ((hbound p).trans hreach.2.1), hnow]

theorem State.onFrame_digCtrl_foreign (hcalm : s.dev.Calm) (hreach : s.dev.Reaches p n) {h : RoomId}
    (hguest : s.dev.dig.guest = some h) (hother : h ≠ n) (v : Nat) :
    ∃ t, s.onFrame (·.hostWrite p n 0xE84 (leBytes 4 v)) = .next t ∧ t.dev.dig = { s.dev.dig with foreign := true } := by
  have hlength := leBytes_length 4 v
  obtain ⟨f, t, hexec, hdig⟩ := State.onFrame_common (off := 0xE84) (l := leBytes 4 v) hcalm hreach (by omega) (by omega) (by omega)
    (by omega)
  obtain ⟨hengine, -, -, -, -, -, -⟩ := s.dev.linkCleared_frame n f
  refine ⟨t, hexec, ?_⟩
  rw [hdig, Device.commonWrite_ctrl, Device.digFrom_foreign (by rw [hengine]; exact hguest) hother, Device.updDig_dig, hengine]

end

/-- Settles O31: by the engine that the frame leaves. -/
theorem digestClaimNeedsEveryCondition : Obligations.DigestClaimNeedsEveryCondition := by
  unfold Obligations.DigestClaimNeedsEveryCondition
  intro s p n v hcalm hreach
  obtain ⟨t, hexec, hdig⟩ := exec_digClaimWrite_dig hcalm hreach v
  refine ⟨fun h => ⟨t, hexec, hdig.trans (if_pos h)⟩, fun h => ⟨t, hexec, hdig.trans (if_neg h)⟩, fun h hguest hother => ?_⟩
  exact ⟨State.onFrame_digCtrl_foreign hcalm hreach hguest hother _, State.onFrame_digCtrl_foreign hcalm hreach hguest hother _,
    State.onFrame_digCtrl_foreign hcalm hreach hguest hother _⟩

/-! ### The messages of the holder (R628 to R630) -/

section
variable {d : Device} {n : RoomId}

theorem Device.digCtrl_start (mac : Bool) (k : Fin 8) :
    d.digCtrl n (BitVec.ofNat 32 (1 + 8 * b2n mac + 16 * k.val)) = d.digStartMsg n mac k.val := by
  unfold Device.digCtrl
  cases mac <;> fin_cases k <;> rfl

theorem Device.digCtrl_finish : d.digCtrl n (BitVec.ofNat 32 (2 + 8 * b2n false + 16 * 0)) = d.digFinishMsg n := rfl

theorem Device.digCtrl_abort : d.digCtrl n (BitVec.ofNat 32 (3 + 8 * b2n false + 16 * 0)) = d.digRelease := rfl

theorem KeyStore.slot_get (ks : KeyStore) (k : Fin 8) : ks.slots.toList.getD k.val none = ks.slots.get k := by
  simp [Vector.get_eq_getElem]

/-- START of a plain message, or under a slot that is allotted and loaded. -/
theorem Device.digStartMsg_begins (mac : Bool) (k : Fin 8)
    (h : mac = true → d.mayKey n k.val = true ∧ (d.keys.slots.get k).isSome = true) : (d.digStartMsg n mac k.val).dig =
      { d.dig with foreign := false, err := 0, running := true, hmac := mac, slot := if mac then k.val else 0, count := 0, msg := [],
                   overrun := false } := by
  cases mac with
  | false => simp [Device.digStartMsg]
  | true =>
    obtain ⟨hmay, hloaded⟩ := h rfl
    rw [← KeyStore.slot_get] at hloaded
    simp only [Device.digStartMsg, hmay, hloaded, Device.updDig_dig, if_true, Bool.true_eq_false, if_false]

theorem Device.digStartMsg_notAllotted {k : Fin 8} (hmay : d.mayKey n k.val = false) :
    (d.digStartMsg n true k.val).dig = { d.dig with foreign := false, err := 1 } := by
  simp [Device.digStartMsg, hmay]

theorem Device.digStartMsg_notLoaded {k : Fin 8} (hmay : d.mayKey n k.val = true) (hslot : d.keys.slots.get k = none) :
    (d.digStartMsg n true k.val).dig = { d.dig with foreign := false, err := 2 } := by
  rw [← KeyStore.slot_get] at hslot
  simp [Device.digStartMsg, hmay, -List.getD_eq_getElem?_getD, hslot]

theorem Device.digRelease_dig (hresv : d.dig.resv = false) :
    d.digRelease.dig = { d.dig with claim := 0xFF, running := false, msg := [] } := by
  simp [Device.digRelease, hresv]

/-- FINISH of a running plain message publishes its digest. -/
theorem Device.digFinishMsg_publishes (hresv : d.dig.resv = false) (hruns : d.dig.running = true) (hplain : d.dig.hmac = false)
    (herr : d.dig.err = 0 ∨ d.dig.err = 1) : (d.digFinishMsg n).dig =
      { d.dig with claim := 0xFF, running := false, msg := [],
                   rSeq := if d.dig.rSeq = 65535 then 1 else d.dig.rSeq + 1, rSource := BitVec.ofNat 8 n.val, rHmac := false,
                   rSlot := d.dig.slot, result := sha256 d.dig.msg } := by
  have hend : (d.digFinishMsg n) =
      (d.digPublish (BitVec.ofNat 8 n.val) d.dig.hmac d.dig.slot (d.digest d.dig.hmac d.dig.slot d.dig.msg)).digRelease :=
    if_pos ⟨hruns, herr⟩
  rw [hend, Device.digRelease_dig (d := Device.digPublish ..) hresv, hplain]
  rfl

theorem Device.digFinishMsg_discards (hresv : d.dig.resv = false) (h : d.dig.running = false ∨ 2 ≤ d.dig.err) :
    (d.digFinishMsg n).dig = { d.dig with claim := 0xFF, running := false, msg := [] } := by
  have hend : d.digFinishMsg n = d.digRelease := by
    refine if_neg ?_
    rintro ⟨hruns, herr⟩
    rcases h with h | h
    · simp [h] at hruns
    · rcases herr with herr | herr <;> omega
  rw [hend, Device.digRelease_dig hresv]

end

/-- Bytes of `DIG.DATA` from the holder (R629). -/
theorem exec_digDataWrite_dig {s : State} {p : Port} {n : RoomId} {off : Nat} {l : List Byte} (hcalm : s.dev.Calm)
    (hreach : s.dev.Reaches p n) (hguest : s.dev.dig.guest = some n) (hlow : 0xEC0 ≤ off) (hhigh : off + l.length ≤ 0xF00)
    (hsome : 0 < l.length) : ∃ t, exec (.digDataWrite p n off l) s = .next t ∧ t.dev.dig =
      if s.dev.dig.running then
        { s.dev.dig with lastWrite := s.dev.now, msg := s.dev.dig.msg ++ l, count := s.dev.dig.count + BitVec.ofNat 48 l.length }
      else { s.dev.dig with lastWrite := s.dev.now, err := 5 } := by
  have hrow : exec (.digDataWrite p n off l) s = s.onFrame (·.hostWrite p n off l) := by
    have hbelow : off < 0xF00 := by omega
    show s.onFrame (fun d => d.when (decide (0xEC0 ≤ off) && decide (off < 0xF00)) (·.hostWrite p n off l)) = _
    simp only [hlow, hbelow, decide_true, Bool.and_self, Device.when_true]
  obtain ⟨f, t, hexec, hdig⟩ := State.onFrame_common (off := off) (l := l) hcalm hreach (by omega) hsome (by omega) (by omega)
  obtain ⟨hengine, hnow, -, -, -, -, hbound⟩ := s.dev.linkCleared_frame n f
  refine ⟨t, hrow.trans hexec, ?_⟩
  rw [hdig, Device.commonWrite_data _ _ _ hlow hhigh hsome, Device.digFrom_holder (by rw [hengine]; exact hguest)
    ((hbound p).trans hreach.2.1)]
  simp only [Device.digData, Device.updDig_dig, hengine, hnow, hhigh, true_and]

/-- Settles O32: each word of the holder by the engine that it leaves. -/
theorem digestMessageRunsToItsResult : Obligations.DigestMessageRunsToItsResult := by
  unfold Obligations.DigestMessageRunsToItsResult
  intro s p n hcalm hreach hguest
  have hctrl := State.onFrame_digCtrl hcalm hreach hguest
  refine ⟨?_, fun k hmay hloaded => ?_, fun k hmay => ?_, fun k hmay hslot => ?_, fun off l hlow hhigh hsome hruns => ?_,
    fun off l hlow hhigh hsome hruns => ?_, fun hresv hruns hplain herr => ?_, fun hresv h => ?_, fun hresv => ?_⟩
  · obtain ⟨f, t, hexec, hdig⟩ := hctrl (1 + 8 * b2n false + 16 * (0 : Fin 8).val)
    exact ⟨t, hexec, hdig.trans (by rw [Device.digCtrl_start]; exact Device.digStartMsg_begins false 0 (by simp))⟩
  · obtain ⟨f, t, hexec, hdig⟩ := hctrl (1 + 8 * b2n true + 16 * k.val)
    exact ⟨t, hexec, hdig.trans (by rw [Device.digCtrl_start]; exact Device.digStartMsg_begins true k fun _ => ⟨hmay, hloaded⟩)⟩
  · obtain ⟨f, t, hexec, hdig⟩ := hctrl (1 + 8 * b2n true + 16 * k.val)
    exact ⟨t, hexec, hdig.trans (by rw [Device.digCtrl_start]; exact Device.digStartMsg_notAllotted hmay)⟩
  · obtain ⟨f, t, hexec, hdig⟩ := hctrl (1 + 8 * b2n true + 16 * k.val)
    exact ⟨t, hexec, hdig.trans (by rw [Device.digCtrl_start]; exact Device.digStartMsg_notLoaded hmay hslot)⟩
  · obtain ⟨t, hexec, hdig⟩ := exec_digDataWrite_dig hcalm hreach hguest hlow hhigh hsome
    exact ⟨t, hexec, hdig.trans (if_pos hruns)⟩
  · obtain ⟨t, hexec, hdig⟩ := exec_digDataWrite_dig hcalm hreach hguest hlow hhigh hsome
    exact ⟨t, hexec, hdig.trans (if_neg (by simp [hruns]))⟩
  · obtain ⟨f, t, hexec, hdig⟩ := hctrl (2 + 8 * b2n false + 16 * 0)
    exact ⟨t, hexec, hdig.trans (by rw [Device.digCtrl_finish]; exact Device.digFinishMsg_publishes hresv hruns hplain herr)⟩
  · obtain ⟨f, t, hexec, hdig⟩ := hctrl (2 + 8 * b2n false + 16 * 0)
    exact ⟨t, hexec, hdig.trans (by rw [Device.digCtrl_finish]; exact Device.digFinishMsg_discards hresv h)⟩
  · obtain ⟨f, t, hexec, hdig⟩ := hctrl (3 + 8 * b2n false + 16 * 0)
    exact ⟨t, hexec, hdig.trans (by rw [Device.digCtrl_abort]; exact Device.digRelease_dig hresv)⟩

end Sys2Proof.Machine

/-! PROOFS. Event registers, reads on SPI, and what a port makes of what arrives (R17, R268 to R289, R303). -/
namespace Sys2Proof.Machine

/-! ### Writes of the event registers (R303) -/

section
variable {d : Device} {n : RoomId}

theorem Device.evtClear_none (h : w = (0 : Word)) : d.evtClear n w = d := by
  subst h
  refine Device.updRoom_same ?_
  rw [show (~~~0 : Word) = BitVec.allOnes 32 by decide, BitVec.and_allOnes]

/-- The word at `EVT.FLAGS` clears what it writes as 1, and writes nothing else. -/
theorem Device.roomWrite_evtFlags (w : Word) : d.roomWrite n 0x110 (leBytes 4 w.toNat) = d.evtClear n w := by
  have hlength := leBytes_length 4 w.toNat
  have hsq : frameByte 0x110 (leBytes 4 w.toNat) 0x100 = none := frameByte_out (by omega)
  have hcq : frameByte 0x110 (leBytes 4 w.toNat) 0x104 = none := frameByte_out (by omega)
  have hclash : (d.rooms.get n).slotClash 0x110 (leBytes 4 w.toNat) = false := RoomRegs.slotClash_below _ (by omega)
  have henable : ((d.evtClear n w).updRoom n fun r => { r with evEnable := frameEnable 0x110 (leBytes 4 w.toNat) r.evEnable }) =
      d.evtClear n w := Device.updRoom_same (by rw [frameEnable_out (by omega)])
  unfold Device.roomWrite
  simp only [Device.slotBytes_below d n (off := 0x110) (l := leBytes 4 w.toNat) (by omega), frameWord_leBytes, BitVec.ofNat_toNat,
    BitVec.setWidth_eq, henable, hsq, hcq, hclash, Device.when, Bool.false_eq_true, if_false]

/-- The word at `EVT.ENABLE` replaces it, but for its reserved bits. -/
theorem Device.roomWrite_evtEnable (w : Word) : d.roomWrite n 0x114 (leBytes 4 w.toNat) =
    d.updRoom n fun r => { r with evEnable := w &&& 0x7FF } := by
  have hlength := leBytes_length 4 w.toNat
  have hsq : frameByte 0x114 (leBytes 4 w.toNat) 0x100 = none := frameByte_out (by omega)
  have hcq : frameByte 0x114 (leBytes 4 w.toNat) 0x104 = none := frameByte_out (by omega)
  have hclash : (d.rooms.get n).slotClash 0x114 (leBytes 4 w.toNat) = false := RoomRegs.slotClash_below _ (by omega)
  have henable (old : Word) : frameEnable 0x114 (leBytes 4 w.toNat) old = w &&& 0x7FF := by
    have hany : ((List.range 4).any fun i => (frameByte 0x114 (leBytes 4 w.toNat) (0x114 + i)).isSome) = true := by
      rw [List.any_eq_true]
      exact ⟨0, by simp, by rw [frameByte_in (by omega)]; rfl⟩
    rw [frameEnable, if_pos hany, frameWord_leBytes, BitVec.ofNat_toNat, BitVec.setWidth_eq]
  unfold Device.roomWrite
  simp only [Device.slotBytes_below d n (off := 0x114) (l := leBytes 4 w.toNat) (by omega), Device.evtClear_none
    (frameWord_out (off := 0x114) (l := leBytes 4 w.toNat) (reg := 0x110) (.inr (by omega))), henable, hsq, hcq, hclash, Device.when,
    Bool.false_eq_true, if_false]

end

theorem exec_evtFlagsClear {s : State} {p : Port} {n : RoomId} (hcalm : s.dev.Calm) (hreach : s.dev.Reaches p n) (w : Word) :
    ∃ f g, exec (.evtFlagsClear p n w) s = .next (s.put (((s.dev.linkCleared n f).evtClear n w).updLink g)) := by
  have hlength := leBytes_length 4 w.toNat
  simp only [← Device.roomWrite_evtFlags]
  refine State.onFrame_hostWrite hcalm hreach (by omega) (by omega) (by omega) fun d => ?_
  rw [Device.roomWrite_evtFlags]
  exact ⟨rfl, rfl⟩

/-! ### Frames on SPI (R268 to R278) -/

theorem exec_registerWrite (s : State) (p : Port) (l : List Byte) (k : Nat) :
    exec (.registerWrite p l k) s = s.onFrame (·.portFrame p l k) := rfl

/-- The four bytes of a header (R268): operation, Room, offset and length. -/
def frameHeader (op : Nat) (n : RoomId) (off k : Nat) : List Byte :=
  [BitVec.ofNat 8 (64 * op + 4 * n.val), BitVec.ofNat 8 (off / 16), BitVec.ofNat 8 (off % 16 * 16 + k / 256), BitVec.ofNat 8 k]

section
variable {op off k : Nat} {n : RoomId} {l : List Byte}

theorem frameHeader_length : (frameHeader op n off k ++ l).length = 4 + l.length := by
  simp [frameHeader]
  omega

theorem byteAt_header (hop : op < 4) (hoff : off < 4096) (hk : k < 4096) :
    byteAt (frameHeader op n off k ++ l) 0 = 64 * op + 4 * n.val ∧ byteAt (frameHeader op n off k ++ l) 1 = off / 16 ∧
    byteAt (frameHeader op n off k ++ l) 2 = off % 16 * 16 + k / 256 ∧ byteAt (frameHeader op n off k ++ l) 3 = k % 256 := by
  have hn := n.isLt
  simp only [byteAt, frameHeader, List.cons_append, List.getD_cons_zero, List.getD_cons_succ, BitVec.toNat_ofNat]
  exact ⟨by omega, by omega, by omega, trivial⟩

theorem hdrRoom_header (hop : op < 4) (hoff : off < 4096) (hk : k < 4096) : hdrRoom (frameHeader op n off k ++ l) = n := by
  obtain ⟨h0, -⟩ := byteAt_header (n := n) (l := l) hop hoff hk
  apply Fin.ext
  simp only [hdrRoom, fin16, h0, Fin.ofNat]
  omega

/-- The offset and the length that a header says. -/
theorem header_fields (hop : op < 4) (hoff : off < 4096) (hk : k < 4096) (hpos : 0 < k) :
    byteAt (frameHeader op n off k ++ l) 0 / 64 = op ∧ byteAt (frameHeader op n off k ++ l) 0 % 4 = 0 ∧
    byteAt (frameHeader op n off k ++ l) 1 * 16 + byteAt (frameHeader op n off k ++ l) 2 / 16 = off ∧
    byteAt (frameHeader op n off k ++ l) 2 % 16 * 256 + byteAt (frameHeader op n off k ++ l) 3 = k := by
  obtain ⟨h0, h1, h2, h3⟩ := byteAt_header (n := n) (l := l) hop hoff hk
  have hn := n.isLt
  simp only [h0, h1, h2, h3]
  omega

theorem Device.headedFrame_read (d : Device) (hoff : off < 4096) (hk : k < 4096) (hpos : 0 < k) :
    d.headedFrame .spi (frameHeader 0 n off k ++ l) = d.frameGood .spi n id off k ∧
      d.headedData (frameHeader 0 n off k ++ l) = d.portRead .spi n off k := by
  obtain ⟨hop, hlow, hoffset, hfield⟩ := header_fields (op := 0) (n := n) (l := l) (by omega) hoff hk hpos
  have hk0 : k ≠ 0 := by omega
  simp [Device.headedFrame, Device.headedData, hdrRoom_header, hop, hlow, hoffset, hfield, hoff, hk, hk0]

theorem Device.headedFrame_write {d : Device} (hoff : off < 4096) (hk : k < 4096) (hpos : 0 < k) (hcrc : d.crcOn .spi = false)
    (hlength : l.length = k) :
    d.headedFrame .spi (frameHeader 1 n off k ++ l) = d.writeFrame .spi n off l ∧ d.headedData (frameHeader 1 n off k ++ l) = [] := by
  obtain ⟨hop, hlow, hoffset, hfield⟩ := header_fields (op := 1) (n := n) (l := l) (by omega) hoff hk hpos
  have hk0 : k ≠ 0 := by omega
  have hdata : ((frameHeader 1 n off k ++ l).drop 4).take k = l := by
    rw [show (frameHeader 1 n off k ++ l).drop 4 = l from rfl, List.take_of_length_le hlength.le]
  have hwhole := frameHeader_length (op := 1) (n := n) (off := off) (k := k) (l := l)
  simp only [Device.headedFrame, Device.headedData, hdrRoom_header (op := 1) (by omega) hoff hk, hop, hlow, hoffset, hfield, hk0, hcrc,
    hdata, hwhole, hlength, if_true, if_false, Bool.false_eq_true]
  simp

/-- A whole frame on SPI: what is sent back, and then the frame's effect. -/
theorem Device.spiFrame_headed (d : Device) (L : List Byte) (h : 4 ≤ L.length) :
    d.spiFrame L = (d.sdoSent (hdrRoom L) L.length (d.headedData L)).headedFrame .spi L := by
  have h0 : L.length ≠ 0 := by omega
  have h4 : ¬ L.length < 4 := by omega
  simp only [Device.spiFrame, h0, h4, if_false]

end

/-- The bytes on `SDO` of a read: the status on the fourth, and the data behind the turnaround byte (R278). -/
theorem sdo_bytes (st : Byte) (data : List Byte) :
    ((List.range (4 + (1 + data.length))).map fun i => if i = 3 then st else if i < 5 then 0 else data.getD (i - 5) 0) =
      [0, 0, 0, st, 0] ++ data := by
  have hrange : List.range (4 + (1 + data.length)) = [0, 1, 2, 3, 4] ++ (List.range data.length).map (5 + ·) := by
    rw [show 4 + (1 + data.length) = 5 + data.length by omega, List.range_add]
    rfl
  have hdata : (List.range data.length).map ((fun i => if i = 3 then st else if i < 5 then 0 else data.getD (i - 5) 0) ∘ (5 + ·)) =
      data := by
    apply List.ext_getElem
    · simp
    · intro i hi hi'
      have h3 : ¬ 5 + i = 3 := by omega
      have h5 : ¬ 5 + i < 5 := by omega
      simp [h3, h5, hi']
  rw [hrange, List.map_append, List.map_map, hdata]
  rfl

section
variable {s : State} {n : RoomId}

theorem Device.portRead_length (d : Device) (p : Port) (n : RoomId) (off k : Nat) : (d.portRead p n off k).length = k := by
  simp [Device.portRead]

/-- A Room bound to SPI is one. -/
theorem Device.spiBound_of_boundTo {d : Device} (h : (d.rooms.get n).boundTo .spi = true) : d.spiBound = true := by
  simp only [RoomRegs.boundTo, decide_eq_true_eq] at h
  rw [Device.spiBound, List.any_eq_true]
  refine ⟨d.rooms.get n, ?_, decide_eq_true h⟩
  simp [Vector.get_eq_getElem]

/-- A read through the Room's own port clears its link error and the port's, and has no effect besides. -/
theorem Device.frameGood_read {d : Device} (hbound : (d.rooms.get n).boundTo .spi = true) (off k : Nat) :
    d.frameGood .spi n id off k = d.linkCleared n (·.setErr .spi false) := by
  simp only [Device.frameGood, hbound, Device.when_true, id]
  rfl

theorem exec_registerWrite_spi (htick : s.dev.atTick = false) (hactive : s.dev.portActive .spi = true) (L : List Byte) (k : Nat) :
    exec (.registerWrite .spi L k) s = s.onDev (·.portFrame .spi L k) ∧ s.dev.portFrame .spi L k = s.dev.spiFrame L := by
  rw [exec_registerWrite, State.onFrame, htick]
  exact ⟨rfl, by simp only [Device.portFrame, hactive, Device.when_true]⟩

/-- A write to a register of the Room itself on SPI without CRC (R268, R271). -/
theorem exec_registerWrite_room (hcalm : s.dev.Calm) (hreach : s.dev.Reaches .spi n) (hcrc : s.dev.fn Fld.linkSpiCrc = 0)
    {off : Nat} {l : List Byte} (hsome : 0 < l.length) (hmost : l.length ≤ 512) (hend : off + l.length ≤ 0xE80)
    (hkeeps : ∀ d : Device, (d.roomWrite n off l).faults = d.faults ∧ (d.roomWrite n off l).batch = d.batch) :
    ∃ f g, exec (.registerWrite .spi (frameHeader 1 n off l.length ++ l) 0) s =
      .next (s.put (((s.dev.linkCleared n f).roomWrite n off l).updLink g)) := by
  obtain ⟨hactive, hbound, hserved, htick⟩ := hreach
  obtain ⟨hexec, hframe⟩ := exec_registerWrite_spi htick hactive (frameHeader 1 n off l.length ++ l) 0
  have hcrcOn : s.dev.crcOn .spi = false := by simp [Device.crcOn, hcrc]
  rw [Device.spiFrame_headed _ _ (by rw [frameHeader_length]; omega)] at hframe
  have hwrite := (Device.headedFrame_write (d := s.dev.sdoSent (hdrRoom (frameHeader 1 n off l.length ++ l))
    (frameHeader 1 n off l.length ++ l).length (s.dev.headedData (frameHeader 1 n off l.length ++ l))) (n := n) (off := off)
    (k := l.length) (l := l) (by omega) (by omega) hsome hcrcOn rfl).1
  obtain ⟨f, g, heffect⟩ := Device.writeFrame_frameWrite (d := s.dev) (p := .spi) (n := n) (off := off) (l := l)
    (fun x => { x with spiSdo := (s.dev.sdoSent (hdrRoom (frameHeader 1 n off l.length ++ l))
    (frameHeader 1 n off l.length ++ l).length (s.dev.headedData (frameHeader 1 n off l.length ++ l))).link.spiSdo })
    hbound hserved hsome hmost (by omega)
  have hbound' : ((s.dev.linkCleared n f).rooms.get n).boundTo .spi = true := by
    rw [Device.linkCleared_get_same]
    exact hbound
  have hroom : (s.dev.linkCleared n f).frameWrite .spi n off l = (s.dev.linkCleared n f).roomWrite n off l := by
    rw [Device.frameWrite, Device.when_true _ hbound', Device.commonWrite_below _ _ _ hend]
  have heq : s.dev.portFrame .spi (frameHeader 1 n off l.length ++ l) 0 =
      ((s.dev.linkCleared n f).roomWrite n off l).updLink g := by
    rw [hframe, hwrite, ← hroom, ← heffect]
    rfl
  obtain ⟨hfaults, hbatch⟩ := hkeeps (s.dev.linkCleared n f)
  refine ⟨f, g, ?_⟩
  rw [hexec]
  exact State.onDev_put heq (by rw [Device.Calm, Device.updLink_faults, hfaults]; exact hcalm) (by
    rw [Device.updLink_batch, hbatch]; rfl)

/-- A read on SPI. -/
theorem exec_registerWrite_read (hcalm : s.dev.Calm) (hreach : s.dev.Reaches .spi n) {off k : Nat} {l : List Byte} (hoff : off < 4096)
    (hpos : 0 < k) (hk : k < 4096) (hlength : l.length = 1 + k) :
    exec (.registerWrite .spi (frameHeader 0 n off k ++ l) 0) s = .next (s.put (s.dev.linkCleared n fun x =>
      { x with spiErr := false,
               spiSdo := [0, 0, 0, s.dev.linkStatus .spi n s.dev.link.spiErr, 0] ++ s.dev.portRead .spi n off k })) := by
  obtain ⟨hactive, hbound, hserved, htick⟩ := hreach
  obtain ⟨hexec, hframe⟩ := exec_registerWrite_spi htick hactive (frameHeader 0 n off k ++ l) 0
  rw [Device.spiFrame_headed _ _ (by rw [frameHeader_length]; omega), hdrRoom_header (by omega) hoff hk,
    (s.dev.headedFrame_read hoff hk hpos).2, (Device.headedFrame_read _ hoff hk hpos).1, frameHeader_length, hlength] at hframe
  have hsdo : s.dev.sdoSent n (4 + (1 + k)) (s.dev.portRead .spi n off k) = s.dev.updLink fun x =>
      { x with spiSdo := [0, 0, 0, s.dev.linkStatus .spi n s.dev.link.spiErr, 0] ++ s.dev.portRead .spi n off k } := by
    have hbytes := sdo_bytes (s.dev.linkStatus .spi n s.dev.link.spiErr) (s.dev.portRead .spi n off k)
    rw [Device.portRead_length] at hbytes
    rw [← hbytes]
    simp only [Device.sdoSent, Device.spiBound_of_boundTo hbound, if_true]
    rfl
  rw [hsdo, Device.frameGood_read (d := Device.updLink ..) hbound] at hframe
  rw [hexec]
  exact State.onDev_put hframe hcalm rfl

end

/-! ### What reaches no register (R51, R281, R282, R286, R289) -/

section
variable {s : State}

theorem State.onFrame_away {f : Device → Device} (htick : s.dev.atTick = false) : s.onFrame f = s.onDev f := by
  rw [State.onFrame, htick]
  rfl

/-- A frame that leaves the device as it was. -/
theorem State.onFrame_same {f : Device → Device} (hcalm : s.dev.Calm) (htick : s.dev.atTick = false) (h : f s.dev = s.dev) :
    s.onFrame f = .next s := (State.onFrame_away htick).trans (State.onDev_same hcalm h)

/-- A frame that changes the link registers alone. -/
theorem State.onFrame_link {f : Device → Device} {g : LinkState → LinkState} (hcalm : s.dev.Calm) (htick : s.dev.atTick = false)
    (h : f s.dev = s.dev.updLink g) : s.onFrame f = .next (s.put (s.dev.updLink g)) :=
  (State.onFrame_away htick).trans (State.onDev_put h hcalm rfl)

theorem Device.hostWrite_inactive {d : Device} {p : Port} (h : d.portActive p = false) (n : RoomId) (off : Nat) (l : List Byte) :
    d.hostWrite p n off l = d := by
  simp [Device.hostWrite, Device.when, h]

theorem Device.portFrame_inactive {d : Device} {p : Port} (h : d.portActive p = false) (hp : p ≠ .i2c) (l : List Byte) (k : Nat) :
    d.portFrame p l k = d := by
  cases p with
  | i2c => exact absurd rfl hp
  | spi => simp [Device.portFrame, Device.when, h]
  | uart => simp [Device.portFrame, Device.when, h]

theorem Device.i2cAcksAddr_other {d : Device} {a : Byte} (h : d.portActive .i2c = false ∨ a.toNat / 2 ≠ d.fn Fld.linkI2cAddr) :
    d.i2cAcksAddr a = false := by
  rcases h with h | h <;> simp [Device.i2cAcksAddr, h]

/-- The register address alone sets where the next read starts (R282). -/
theorem Device.i2cPoint_active {d : Device} (h : d.portActive .i2c = true) (a : Half) : d.i2cPoint a.toNat = d.updLink fun x =>
    { x with i2cNext := a.toNat / 4096 + 16 * (a.toNat % 4096), i2cAcks := [true, true, true], i2cData := [] } := by
  have ha : a.toNat < 65536 := a.isLt
  have haddr : 256 * byteAt (leBytes 2 a.toNat).reverse 0 + byteAt (leBytes 2 a.toNat).reverse 1 = a.toNat := by
    simp [leBytes, byteAt]
    omega
  have hroom : (fin16 (a.toNat / 4096)).val = a.toNat / 4096 := by
    simp only [fin16, Fin.ofNat]
    omega
  have hacks : (List.range 2).map (fun i => decide (i < 2 + 512 + d.crcTail .i2c)) = [true, true] := by
    simp [List.range_succ]
    omega
  have hlength : ¬ (leBytes 2 a.toNat).reverse.length < 2 ∧ (leBytes 2 a.toNat).reverse.length = 2 := by simp [leBytes]
  simp only [Device.i2cPoint, h, Device.when_true, Device.i2cSent, Device.i2cAnswers, hlength, hacks, haddr, hroom, Device.i2cNextAt,
    if_true]
  rfl

theorem Device.uartGap_short {d : Device} (h : d.portActive .uart = true) {l : List Byte} (hsome : 0 < l.length) (hshort : l.length < 4) :
    d.uartGap l = d.respond_ [0xA2] := by
  have hnone : ¬ (d.portActive .uart = false ∨ l.length = 0) := by
    rintro (hport | hempty)
    · simp [h] at hport
    · omega
  simp only [Device.uartGap, hnone, hshort, if_true, if_false]

end

theorem exec_digDataWrite (s : State) (p : Port) (n : RoomId) (off : Nat) (l : List Byte) : exec (.digDataWrite p n off l) s =
    s.onFrame fun d => d.when (decide (0xEC0 ≤ off) && decide (off < 0xF00)) (·.hostWrite p n off l) := rfl

theorem exec_i2cAddressSet (s : State) (a : Half) : exec (.i2cAddressSet a) s = s.onFrame (·.i2cPoint a.toNat) := rfl

theorem exec_servicePortGap (s : State) (l : List Byte) : exec (.servicePortGap l) s = s.onFrame (·.uartGap l) := rfl

/-- Settles O30: the event registers, reads, the edge, and what reaches no register. -/
theorem eventRegistersAndFrames : Obligations.EventRegistersAndFrames := by
  unfold Obligations.EventRegistersAndFrames
  refine ⟨⟨fun s p n w hcalm hreach => ?_, fun s n w hcalm hreach hcrc => ?_,
    fun s n off k l hcalm hreach hoff hpos hk hlength => ?_⟩, fun s p l k htick => ?_, fun s hcalm htick =>
    ⟨fun p l k hport hp => ?_, fun a l k h => ?_, fun p n off v hport => ⟨?_, ?_, ?_⟩, fun a hport => ?_, fun a hport => ?_,
      fun l hport hsome hshort => ?_, fun l hport => ?_⟩⟩
  · obtain ⟨f, g, hexec⟩ := exec_evtFlagsClear hcalm hreach w
    refine ⟨_, hexec, ?_, fun m hm => ?_, rfl, rfl, rfl, rfl⟩
    · simp [State.put, Device.evtClear]
    · simp only [State.put, Device.evtClear, Device.updLink_rooms, Device.updRoom_rooms, vget_vmod_ne _ _ hm,
        Device.linkCleared_get_ne _ _ _ hm]
  · have hlength := leBytes_length 4 w.toNat
    obtain ⟨f, g, hexec⟩ := exec_registerWrite_room (off := 0x114) (l := leBytes 4 w.toNat) hcalm hreach hcrc (by omega) (by omega)
      (by omega) fun d => by rw [Device.roomWrite_evtEnable]; exact ⟨rfl, rfl⟩
    rw [Device.roomWrite_evtEnable, hlength] at hexec
    refine ⟨_, hexec, ?_, fun m hm => ?_, rfl, rfl⟩
    · simp [State.put]
    · simp only [State.put, Device.updLink_rooms, Device.updRoom_rooms, vget_vmod_ne _ _ hm, Device.linkCleared_get_ne _ _ _ hm]
  · have hexec := exec_registerWrite_read hcalm hreach hoff hpos hk hlength
    have hheader : frameHeader 0 n off k = [BitVec.ofNat 8 (4 * n.val), BitVec.ofNat 8 (off / 16),
        BitVec.ofNat 8 (off % 16 * 16 + k / 256), BitVec.ofNat 8 k] := by simp [frameHeader]
    rw [hheader] at hexec
    exact ⟨_, hexec, rfl, rfl, Device.linkCleared_get_same .., rfl, rfl, rfl⟩
  · rw [exec_registerWrite, State.onFrame, htick]
    rfl
  · rw [exec_registerWrite]
    exact State.onFrame_same hcalm htick (Device.portFrame_inactive hport hp l k)
  · rw [exec_registerWrite]
    exact State.onFrame_link hcalm htick (by simp only [Device.portFrame, Device.i2cTransfer, Device.i2cAcksAddr_other h, if_true])
  · exact State.onFrame_same hcalm htick (Device.hostWrite_inactive hport ..)
  · exact State.onFrame_same hcalm htick (Device.hostWrite_inactive hport ..)
  · rw [exec_digDataWrite]
    exact State.onFrame_same hcalm htick (by simp [Device.hostWrite_inactive hport, Device.when])
  · rw [exec_i2cAddressSet]
    exact State.onFrame_link hcalm htick (Device.i2cPoint_active hport a)
  · rw [exec_i2cAddressSet]
    exact State.onFrame_same hcalm htick (by simp [Device.i2cPoint, Device.when, hport])
  · rw [exec_servicePortGap]
    exact State.onFrame_link hcalm htick (Device.uartGap_short hport hsome hshort)
  · rw [exec_servicePortGap]
    exact State.onFrame_same hcalm htick (by simp [Device.uartGap, hport])

end Sys2Proof.Machine

/-! PROOFS. Keeper watchdogs (R675 to R681), and stages and writes that end by themselves (R224 to R226, R755). -/
namespace Sys2Proof.Machine

/-! ### Keeper watchdogs -/

section
variable {d : Device} {k : Keeper}

theorem Device.wdKickAt_open (ss : StartSense) (hopen : d.isOpen = true) (hwrites : d.wdWrites k = true) (hwindow : (d.kwd k).isOpen = true) :
    d.wdKickAt k ss = d.updKwd k fun w => { w with count := 0 } := by
  simp [Device.wdKickAt, hopen, hwrites, hwindow]

theorem Device.wdKickAt_closed (ss : StartSense) (hopen : d.isOpen = true) (hwrites : d.wdWrites k = true)
    (hwindow : (d.kwd k).isOpen = false) :
    d.wdKickAt k ss = (d.raise (coded 0x10 2 (keeperCode k))).keeperFail k 1 ss := by
  simp [Device.wdKickAt, hopen, hwrites, hwindow]

theorem Device.wdPeriodAt_open {p : Nat} (hopen : d.isOpen = true) (hwrites : d.wdWrites k = true) (hwindow : (d.kwd k).isOpen = true)
    (hlow : 4 ≤ p) (hhigh : p ≤ 4096) : d.wdPeriodAt k p = d.updKwd k fun w => { w with period := p, count := 0 } := by
  simp [Device.wdPeriodAt, hopen, hwrites, hwindow, hlow, hhigh]

theorem Device.wdPeriodAt_closed {p : Nat} (hopen : d.isOpen = true) (hwrites : d.wdWrites k = true)
    (hwindow : (d.kwd k).isOpen = false) (hlow : 4 ≤ p) (hhigh : p ≤ 4096) :
    d.wdPeriodAt k p = d.raise (coded 0x10 3 (keeperCode k)) := by
  simp [Device.wdPeriodAt, hopen, hwrites, hwindow, hlow, hhigh]

theorem Device.wdPeriodAt_outside {p : Nat} (h : p < 4 ∨ 4096 < p) : d.wdPeriodAt k p = d := by
  refine if_pos ?_
  rcases h with h | h
  · simp [Nat.not_le.2 h]
  · simp [Nat.not_le.2 h]

theorem Device.romLimit_comes {b : Nat} (ss : StartSense) (hopen : d.isOpen = true) (hmode : (d.kwd k).mode = .rom b)
    (hcomes : d.Comes (b + 12000000)) :
    d.romLimit k ss = ((d.moveTo (b + 12000000)).raise (coded 0x10 1 (keeperCode k))).keeperFail k 1 ss := by
  simp only [Device.romLimit, hmode, hopen, Device.when_true, Device.dueAt_comes hcomes]

theorem exec_keeperWdKick (s : State) (ss : StartSense) : exec (.keeperWdKick k ss) s = s.onClk (·.wdKickAt k ss) := rfl

theorem exec_keeperWdPeriodWrite (s : State) (p : Nat) : exec (.keeperWdPeriodWrite k p) s = s.onDev (·.wdPeriodAt k p) := rfl

theorem exec_keeperWdExpiry (s : State) (ss : StartSense) : exec (.keeperWdExpiry k ss) s = s.onClk (·.wdExpire k ss) := rfl

theorem exec_romLimitExpiry (s : State) (ss : StartSense) : exec (.romLimitExpiry k ss) s = s.onClk (·.romLimit k ss) := rfl

theorem State.onDev_of_eq {s : State} {f : Device → Device} {e : Device} (h : f s.dev = e) : s.onDev f = .next (s.onto e) := by
  subst h
  rfl

end

/-- Settles O35: each row by its window. -/
theorem keeperWatchdogWindow : Obligations.KeeperWatchdogWindow := by
  unfold Obligations.KeeperWatchdogWindow
  simp only [exec_keeperWdKick, exec_keeperWdPeriodWrite, exec_keeperWdExpiry, exec_romLimitExpiry]
  intro s k ss hcalm
  refine ⟨fun hopen hwrites hwindow => ⟨?_, fun p hlow hhigh => ?_⟩, fun hopen hwrites hwindow => ⟨?_, fun p hlow hhigh => ?_⟩,
    fun p hp => ?_, fun hopen hmode => ?_, fun b hopen hmode hcomes => ?_⟩
  · exact State.onClk_put (Device.wdKickAt_open ss hopen hwrites hwindow) hcalm le_rfl
  · exact State.onDev_put (Device.wdPeriodAt_open hopen hwrites hwindow hlow hhigh) hcalm rfl
  · exact State.onClk_of_eq (Device.wdKickAt_closed ss hopen hwrites hwindow)
  · exact State.onDev_of_eq (Device.wdPeriodAt_closed hopen hwrites hwindow hlow hhigh)
  · exact State.onDev_same hcalm (Device.wdPeriodAt_outside hp)
  · exact State.onClk_of_eq (if_pos ⟨hopen, hmode⟩)
  · exact State.onClk_of_eq (Device.romLimit_comes ss hopen hmode hcomes)

end Sys2Proof.Machine

/-! PROOFS. Completions of records, and stages and writes that end by themselves (R224 to R226, R322, R755). -/
namespace Sys2Proof.Machine

/-! ### Completing a record (R322) -/

/-- A completion changes the request table alone. -/
theorem Device.complete_eq (d : Device) (id : ReqId) (status : Nat) (result : List Byte) (slid dup : Bool) :
    ∃ q, d.complete id status result slid dup = { d with reqs := q } := by
  unfold Device.complete
  split
  · exact ⟨d.reqs, rfl⟩
  · exact ⟨_, rfl⟩

@[simp] theorem Device.complete_frame (d : Device) (id : ReqId) (status : Nat) (result : List Byte) (slid dup : Bool) :
    (d.complete id status result slid dup).power = d.power ∧ (d.complete id status result slid dup).pins = d.pins ∧
    (d.complete id status result slid dup).batch = d.batch ∧ (d.complete id status result slid dup).sup = d.sup ∧
    (d.complete id status result slid dup).keepers = d.keepers ∧ (d.complete id status result slid dup).images = d.images ∧
    (d.complete id status result slid dup).rooms = d.rooms ∧ (d.complete id status result slid dup).link = d.link ∧
    (d.complete id status result slid dup).rails = d.rails ∧ (d.complete id status result slid dup).path = d.path ∧
    (d.complete id status result slid dup).kin = d.kin ∧ (d.complete id status result slid dup).chg = d.chg ∧
    (d.complete id status result slid dup).adc = d.adc ∧ (d.complete id status result slid dup).dig = d.dig ∧
    (d.complete id status result slid dup).keys = d.keys ∧ (d.complete id status result slid dup).faults = d.faults ∧
    (d.complete id status result slid dup).burst = d.burst ∧ (d.complete id status result slid dup).gaugeHw = d.gaugeHw ∧
    (d.complete id status result slid dup).wd = d.wd ∧ (d.complete id status result slid dup).sec = d.sec ∧
    (d.complete id status result slid dup).rcp = d.rcp ∧ (d.complete id status result slid dup).priv = d.priv ∧
    (d.complete id status result slid dup).cfg = d.cfg ∧ (d.complete id status result slid dup).wram = d.wram ∧
    (d.complete id status result slid dup).nvm = d.nvm ∧ (d.complete id status result slid dup).sample = d.sample ∧
    (d.complete id status result slid dup).ckpt0 = d.ckpt0 ∧ (d.complete id status result slid dup).ckpt1 = d.ckpt1 ∧
    (d.complete id status result slid dup).shadow = d.shadow ∧ (d.complete id status result slid dup).active = d.active ∧
    (d.complete id status result slid dup).snap = d.snap ∧ (d.complete id status result slid dup).polled = d.polled := by
  obtain ⟨q, h⟩ := d.complete_eq id status result slid dup
  simp only [h, and_self]

theorem Device.findRec_eq_none {d : Device} {id : ReqId} :
    d.findRec id = none ↔ ∀ r ∈ d.reqs.recs, r.id = id → r.st = .done := by
  simp only [Device.findRec, List.find?_eq_none]
  refine forall₂_congr fun r _ => ?_
  simp

/-- The release of argument blocks leaves every record in its state. -/
theorem Device.releaseBlocks_findRec {d : Device} {id : ReqId} (h : d.findRec id = none) : d.releaseBlocks.findRec id = none := by
  rw [Device.findRec_eq_none] at h ⊢
  intro r hr hid
  simp only [Device.releaseBlocks, Device.updReqs_reqs, List.mem_map] at hr
  obtain ⟨x, hx, rfl⟩ := hr
  revert hid
  split
  · split
    · exact h x hx
    · exact h x hx
  · exact h x hx

/-- A record that is completed is no longer in flight. -/
theorem Device.findRec_complete (d : Device) (id : ReqId) (status : Nat) (result : List Byte) (slid dup : Bool) :
    (d.complete id status result slid dup).findRec id = none := by
  unfold Device.complete
  split
  · assumption
  · refine Device.releaseBlocks_findRec ?_
    rw [Device.findRec_eq_none]
    intro r hr hid
    simp only [Device.updReqs_reqs, Device.updRec, List.mem_map] at hr
    obtain ⟨x, hx, rfl⟩ := hr
    revert hid
    split
    · exact fun _ => rfl
    · rename_i hnot
      intro hid
      by_contra hdone
      exact hnot ⟨hid, hdone⟩

/-- Doing what changes the request table alone for each element changes it alone. -/
theorem Device.each_reqs {α : Type} {f : α → Device → Device} (hf : ∀ a d, ∃ q, f a d = { d with reqs := q }) (l : List α)
    (d : Device) : ∃ q, d.each l f = { d with reqs := q } := by
  induction l generalizing d with
  | nil => exact ⟨d.reqs, rfl⟩
  | cons a l ih =>
    obtain ⟨q, hq⟩ := hf a d
    obtain ⟨q', hq'⟩ := ih (f a d)
    exact ⟨q', by rw [Device.each, List.foldl_cons, ← Device.each, hq', hq]⟩

theorem Device.dataDrop_eq (d : Device) (op : Nat) : ∃ q, d.dataDrop op = { d with reqs := q } := by
  unfold Device.dataDrop
  exact Device.each_reqs (fun (r : Rec) x => x.complete_eq r.id stBadArg [] false false) _ d

/-! ### Erases that end, and stages that lapse -/

section
variable {d : Device}

/-- Outside ROM Safe Hold nothing is posted at once. -/
theorem Device.romPost_away (h : d.romHold = false) : d.romPost = d := by
  simp [Device.romPost, Device.when, h]

theorem Device.imageErased_none (h : d.images.erasing = none) : d.imageErased = d := by
  simp [Device.imageErased, h]

/-- The end of an erase opens the stage and completes its OPEN. -/
theorem Device.imageErased_opens {x : Stage} (h : d.images.erasing = some x) : ∃ q, d.imageErased = { d with
      images := { d.images with erasing := none, stage := some { x with lastUse := d.now } }, reqs := q } ∧
    ∀ r, d.waitingPhase 0x910 101 = some r → d.imageErased.findRec r.id = none := by
  unfold Device.imageErased
  simp only [h]
  split
  · rename_i r hr
    obtain ⟨q, hq⟩ := Device.complete_eq
      (d.updImages fun i => { i with erasing := none, stage := some { x with lastUse := d.now } }) r.id stOk [] false false
    refine ⟨q, hq, fun r' hr' => ?_⟩
    have hsame : r = r' := Option.some.inj (hr.symm.trans hr')
    subst hsame
    exact Device.findRec_complete ..
  · rename_i hr
    refine ⟨d.reqs, rfl, fun r' hr' => ?_⟩
    exact absurd (hr.symm.trans hr') nofun

theorem Device.rcpErased_opens {w : RcpWrite} {id : ReqId} (h : d.rcp.erasing = some (w, id)) : ∃ q, d.rcpErased = { d with
      rcp := { d.rcp with erasing := none, write := some { w with lastUse := d.now } }, reqs := q } ∧
    d.rcpErased.findRec id = none := by
  unfold Device.rcpErased
  simp only [h]
  obtain ⟨q, hq⟩ := Device.complete_eq
    (d.updRcp fun r => { r with erasing := none, write := some { w with lastUse := d.now } }) id stOk [] false false
  exact ⟨q, hq, Device.findRec_complete ..⟩

/-- A minute without a request abandons the stage, and its waiting DATA requests complete. -/
theorem Device.stageAbandon_lapses {x : Stage} (h : d.images.stage = some x) (hdue : x.lastUse + 60000000 ≤ d.now) :
    ∃ q, d.stageAbandon = { (d.updImages fun i => { i with stage := none }).raise (coded 3 4 (keeperCode x.keeper)) with reqs := q } := by
  unfold Device.stageAbandon
  simp only [h, hdue, if_true]
  exact Device.dataDrop_eq _ _

theorem Device.rcpAbandon_lapses {w : RcpWrite} (h : d.rcp.write = some w) (hdue : w.lastUse + 60000000 ≤ d.now) :
    d.rcpAbandon = (d.updRcp fun r => { r with write := none }).dataDrop 0xA01 := by
  unfold Device.rcpAbandon
  simp only [h, hdue, if_true]

end

theorem exec_imageEraseEnd (s : State) : exec .imageEraseEnd s = s.onDev fun d => d.imageErased.romPost := rfl

theorem exec_recipeEraseEnd (s : State) : exec .recipeEraseEnd s = s.onDev (·.rcpErased) := rfl

/-- The effect of `IMAGE_STAGE_ABANDON`: at its instant, where a stage is open. -/
def Device.stageDue (d : Device) : Device :=
  match d.images.stage with
  | some x => d.dueAt (x.lastUse + 60000000) (·.stageAbandon)
  | none => d

/-- The effect of `RECIPE_WRITE_ABANDON`: at its instant, where a write is open. -/
def Device.writeDue (d : Device) : Device :=
  match d.rcp.write with
  | some w => d.dueAt (w.lastUse + 60000000) (·.rcpAbandon)
  | none => d

theorem exec_imageStageAbandon (s : State) : exec .imageStageAbandon s = s.onClk (·.stageDue) := rfl

theorem exec_recipeWriteAbandon (s : State) : exec .recipeWriteAbandon s = s.onClk (·.writeDue) := rfl

theorem Device.stageDue_some {d : Device} {x : Stage} (h : d.images.stage = some x) :
    d.stageDue = d.dueAt (x.lastUse + 60000000) (·.stageAbandon) := by
  simp only [Device.stageDue, h]

theorem Device.stageDue_none {d : Device} (h : d.images.stage = none) : d.stageDue = d := by
  simp only [Device.stageDue, h]

theorem Device.writeDue_some {d : Device} {w : RcpWrite} (h : d.rcp.write = some w) :
    d.writeDue = d.dueAt (w.lastUse + 60000000) (·.rcpAbandon) := by
  simp only [Device.writeDue, h]

theorem Device.writeDue_none {d : Device} (h : d.rcp.write = none) : d.writeDue = d := by
  simp only [Device.writeDue, h]

/-- Time that passes changes nothing but the Batch timer and the charger's timers. -/
@[simp] theorem Device.moveTo_others (d : Device) (t : Nat) :
    (d.moveTo t).images = d.images ∧ (d.moveTo t).rcp = d.rcp ∧ (d.moveTo t).kin = d.kin ∧ (d.moveTo t).gaugeHw = d.gaugeHw ∧
    (d.moveTo t).burst = d.burst ∧ (d.moveTo t).adc = d.adc ∧ (d.moveTo t).dig = d.dig ∧ (d.moveTo t).keys = d.keys ∧
    (d.moveTo t).wd = d.wd ∧ (d.moveTo t).sec = d.sec ∧ (d.moveTo t).shadow = d.shadow ∧ (d.moveTo t).active = d.active ∧
    (d.moveTo t).priv = d.priv ∧ (d.moveTo t).ckpt0 = d.ckpt0 ∧ (d.moveTo t).ckpt1 = d.ckpt1 ∧ (d.moveTo t).cfg = d.cfg ∧
    (d.moveTo t).snap = d.snap ∧ (d.moveTo t).sup = d.sup ∧ (d.moveTo t).link = d.link ∧ (d.moveTo t).polled = d.polled ∧
    (d.moveTo t).mirror = d.mirror ∧ (d.moveTo t).staged = d.staged ∧ (d.moveTo t).freeCtr = d.freeCtr := by
  exact ⟨rfl, rfl, rfl, rfl, rfl, rfl, rfl, rfl, rfl, rfl, rfl, rfl, rfl, rfl, rfl, rfl, rfl, rfl, rfl, rfl, rfl, rfl, rfl⟩

/-! ### Programming the bytes of one record (R225) -/

/-- The whole of a slice. -/
theorem slice_whole (l : List Byte) : slice l 0 l.length = l := by
  simp [slice]

@[simp] theorem Device.nvmWrite_frame (d : Device) (a : Nat) (l : List Byte) :
    (d.nvmWrite a l).nvm = cellsWrite nvmDefault d.nvm a l ∧ (d.nvmWrite a l).images = d.images ∧ (d.nvmWrite a l).reqs = d.reqs :=
  ⟨rfl, rfl, rfl⟩

/-- Doing for each element what leaves a part of the state leaves that part. -/
theorem Device.each_keeps {α β : Type} (p : Device → β) {f : α → Device → Device} (hf : ∀ a d, p (f a d) = p d) (l : List α)
    (d : Device) : p (d.each l f) = p d := by
  induction l generalizing d with
  | nil => rfl
  | cons a l ih => exact (ih (f a d)).trans (hf a d)

/-- A lone record of at most 256 bytes is programmed whole and completes. -/
theorem Device.program_lone {d : Device} {op base : Nat} {note : Nat → Device → Device} {r : Rec} (hr : d.stagedRecs op = [r])
    (hstart : r.wait.getD 0 0 = 0) (hlen : r.staged.2.length ≤ 256) :
    ∃ ns, d.program op base note =
      ((d.nvmWrite (base + r.staged.1) r.staged.2).each ns fun i d => note (r.staged.1 + 4 * i) d).complete r.id stOk [] := by
  refine ⟨List.range (r.staged.2.length / 4), ?_⟩
  simp only [Device.program, hr, List.foldl_cons, List.foldl_nil, hstart]
  simp [min_eq_right hlen, slice_whole]

/-- What programming leaves in NVM, and that it completes its record. -/
theorem Device.imageProgram_lone {d : Device} {x : Stage} {r : Rec} (hx : d.images.stage = some x) (hr : d.stagedRecs 0x910 = [r])
    (hstart : r.wait.getD 0 0 = 0) (hlen : r.staged.2.length ≤ 256) :
    d.imageProgram.nvm = cellsWrite nvmDefault d.nvm (slotBase x.slot + r.staged.1) r.staged.2 ∧
    d.imageProgram.findRec r.id = none := by
  unfold Device.imageProgram
  simp only [hx]
  obtain ⟨ns, h⟩ := Device.program_lone (base := slotBase x.slot) (note := fun off d => d.updImages fun i =>
    { i with stage := i.stage.map fun x => { x with written := x.written ++ [off] } }) hr hstart hlen
  rw [h]
  refine ⟨?_, Device.findRec_complete ..⟩
  simp only [Device.complete_frame]
  exact (Device.each_keeps Device.nvm (f := fun i d => d.updImages fun v =>
    { v with stage := v.stage.map fun x => { x with written := x.written ++ [r.staged.1 + 4 * i] } }) (fun _ _ => rfl) ns _)

/-- Settles O36: erases and lapses by their equations, the programming by what it leaves in NVM. -/
theorem stagesTakeTheirBytes : Obligations.StagesTakeTheirBytes := by
  unfold Obligations.StagesTakeTheirBytes
  refine ⟨fun s hcalm => ⟨fun x hx hrom => ?_, fun x hx hcomes => ?_, fun w id hw => ?_, fun w hw hcomes => ?_, fun hx hrom => ?_,
    fun hx => ?_, fun hw => ?_, fun hw => ?_⟩, fun d x r hwf hx hr hstart hlen => ?_⟩
  · obtain ⟨q, heq, hdone⟩ := Device.imageErased_opens hx
    have hpost : s.dev.imageErased.romPost = s.dev.imageErased := Device.romPost_away (by rw [heq]; exact hrom)
    rw [exec_imageEraseEnd]
    refine ⟨_, State.onDev_put (e := s.dev.imageErased) hpost (by rw [heq]; exact hcalm) (by rw [heq]), ?_, ?_, hdone, ?_⟩
    · simp [State.put, heq]
    · simp [State.put, heq]
    · simp [State.put, heq]
  · have hstage : (s.dev.moveTo (x.lastUse + 60000000)).images.stage = some x := by simpa using hx
    have hnow := Device.moveTo_now hcomes.1 hcomes.2.1
    obtain ⟨q, heq⟩ := Device.stageAbandon_lapses hstage hnow.ge
    rw [exec_imageStageAbandon, State.onClk_comes hcomes (Device.stageDue_some hx)]
    · refine ⟨_, rfl, ?_, ?_, ?_, fun hcoll hlen => ?_⟩
      · simp [State.put, heq]
      · simp [State.put, heq]
      · simpa [State.put, heq, Device.now] using hnow
      · simp only [State.put, heq]
        exact Device.raise_coded_said _ 3 4 _ (by simpa [Device.collecting_eq] using hcoll) (by decide) (by simpa using hlen)
    · rw [heq]
      exact (Device.raise_coded_grave _ 3 4 _ (by decide)).trans (by simpa using hcalm)
    · simp [heq]
  · obtain ⟨q, heq, hdone⟩ := Device.rcpErased_opens hw
    rw [exec_recipeEraseEnd]
    refine ⟨_, State.onDev_put rfl (by rw [heq]; exact hcalm) (by rw [heq]), ?_, ?_, hdone, ?_⟩
    · simp [State.put, heq]
    · simp [State.put, heq]
    · simp [State.put, heq]
  · have hwrite : (s.dev.moveTo (w.lastUse + 60000000)).rcp.write = some w := by simpa using hw
    have heq := Device.rcpAbandon_lapses hwrite (Device.moveTo_now hcomes.1 hcomes.2.1).ge
    obtain ⟨q, hq⟩ := Device.dataDrop_eq ((s.dev.moveTo (w.lastUse + 60000000)).updRcp fun r => { r with write := none }) 0xA01
    rw [exec_recipeWriteAbandon, State.onClk_comes hcomes (Device.writeDue_some hw), heq]
    · rw [heq, hq]
      simpa using hcalm
    · rw [heq, hq]
      simp
  · rw [exec_imageEraseEnd]
    refine State.onDev_same hcalm ?_
    show s.dev.imageErased.romPost = s.dev
    rw [Device.imageErased_none hx, Device.romPost_away hrom]
  · rw [exec_imageStageAbandon]
    exact State.onClk_same hcalm (Device.stageDue_none hx)
  · rw [exec_recipeEraseEnd]
    exact State.onDev_same hcalm (by simp [Device.rcpErased, hw])
  · rw [exec_recipeWriteAbandon]
    exact State.onClk_same hcalm (Device.writeDue_none hw)
  · obtain ⟨hnvm, hdone⟩ := Device.imageProgram_lone hx hr hstart hlen
    refine ⟨?_, fun a ha => ?_, hdone⟩
    · rw [Device.nvmRead, hnvm]
      exact cellsRead_cellsWrite_same _ _ hwf.2
    · simp only [Device.nvmRead, hnvm, cellsRead, List.range_one, List.map_cons, List.map_nil, Nat.add_zero]
      rw [cellRead_cellsWrite_out _ hwf.2 ha]

end Sys2Proof.Machine

/-! PROOFS. Votes, targets and edges of the rails (R346 to R386), and their delays and warnings (R351, R367, R370, R371). -/
namespace Sys2Proof.Machine

/-! ### Instants that are met -/

/-- The outcome of an event at an instant that is met, with its effect `f`. -/
theorem State.onClk_meets {s : State} {t : Nat} {g f : Device → Device} (h : s.dev.Meets t) (hg : g s.dev = s.dev.dueAt t f)
    (hcalm : (f (s.dev.moveTo t)).Calm) (hbatch : (f (s.dev.moveTo t)).batch = (s.dev.moveTo t).batch) :
    s.onClk g = .next (s.put (f (s.dev.moveTo t))) := by
  refine State.onClk_put (hg.trans (Device.dueAt_meets h)) hcalm ?_
  rw [Device.now, Device.now, hbatch]
  exact (le_max_left _ _).trans_eq (Device.moveTo_time h.1).symm

@[simp] theorem Device.moveTo_fn (d : Device) (t : Nat) (x : FieldId) (e : Nat) : (d.moveTo t).fn x e = d.fn x e := rfl

/-! ### Combining votes (R381) -/

/-- A number other than 0 against the smallest so far. -/
def smaller (a : Option Nat) (x : Nat) : Option Nat :=
  if x = 0 then a else match a with | none => some x | some y => some (min x y)

theorem smallest_eq (l : List Nat) : smallest l = l.foldl smaller none := rfl

theorem smaller_le {a : Option Nat} {x : Nat} (hx : x ≠ 0) : ∃ z, smaller a x = some z ∧ z ≤ x := by
  cases a with
  | none => exact ⟨x, by simp [smaller, hx], le_rfl⟩
  | some y => exact ⟨min x y, by simp [smaller, hx], min_le_left ..⟩

theorem smaller_some_le (y x : Nat) : ∃ z, smaller (some y) x = some z ∧ z ≤ y := by
  by_cases hx : x = 0
  · exact ⟨y, by simp [smaller, hx], le_rfl⟩
  · exact ⟨min x y, by simp [smaller, hx], min_le_right ..⟩

/-- What has been found only becomes smaller. -/
theorem foldl_smaller_le (l : List Nat) (y : Nat) : ∃ z, l.foldl smaller (some y) = some z ∧ z ≤ y := by
  induction l generalizing y with
  | nil => exact ⟨y, rfl, le_rfl⟩
  | cons x l ih =>
    obtain ⟨z, hz, hle⟩ := smaller_some_le y x
    obtain ⟨w, hw, hle'⟩ := ih z
    exact ⟨w, by rw [List.foldl_cons, hz, hw], hle'.trans hle⟩

/-- The smallest lies at or below every number of the list other than 0. -/
theorem smallest_le {l : List Nat} {c : Nat} (hc : c ∈ l) (h0 : c ≠ 0) : ∃ z, smallest l = some z ∧ z ≤ c := by
  rw [smallest_eq]
  obtain ⟨l₁, l₂, rfl⟩ := List.append_of_mem hc
  obtain ⟨z, hz, hle⟩ := smaller_le (a := l₁.foldl smaller none) h0
  obtain ⟨w, hw, hle'⟩ := foldl_smaller_le l₂ z
  exact ⟨w, by rw [List.foldl_append, List.foldl_cons, hz, hw], hle'.trans hle⟩

theorem smallest_zeros {l : List Nat} (h : ∀ c ∈ l, c = 0) : smallest l = none := by
  rw [smallest_eq]
  induction l with
  | nil => rfl
  | cons x l ih =>
    obtain rfl : x = 0 := h x (by simp)
    exact ih fun c hc => h c (by simp [hc])

theorem le_foldl_max {l : List Nat} {a m : Nat} (h : m ≤ a ∨ m ∈ l) : m ≤ l.foldl max a := by
  induction l generalizing a with
  | nil => exact h.resolve_right List.not_mem_nil
  | cons x l ih =>
    rcases h with h | h
    · exact ih (.inl (le_max_of_le_left h))
    · rcases List.mem_cons.1 h with rfl | h
      · exact ih (.inl (le_max_right _ _))
      · exact ih (.inr h)

theorem le_largest {l : List Nat} {m : Nat} (h : m ∈ l) : m ≤ largest l :=
  le_foldl_max (.inr h)

/-- The next grid value of a settable rail is not below. -/
theorem le_onGrid {r : RailId} (m : Nat) (h : settable r = true) : m ≤ onGrid r m := by
  have hgrid : 0 < (railGrid r.val).toNat := by
    revert h
    revert r
    decide
  have hceil := Nat.div_add_mod (m - (railRange r.val).1.toNat + (railGrid r.val).toNat - 1) (railGrid r.val).toNat
  have hrest := Nat.mod_lt (m - (railRange r.val).1.toNat + (railGrid r.val).toNat - 1) hgrid
  unfold onGrid
  dsimp only
  rw [Nat.mul_comm] at hceil
  omega

section
variable {d : Device} {vs : List Vote} {old : RailTarget} {r : RailId}

theorem Device.combine_none (h : ∀ v ∈ vs, v.rail ≠ r) : d.combine vs old r = { old with en := false } := by
  have hnone : (vs.filter fun x => x.rail == r) = [] := by simpa [List.filter_eq_nil_iff] using h
  simp [Device.combine, hnone]

/-- What a rail with a vote is given. -/
theorem Device.combine_some {v : Vote} (hv : v ∈ vs) (hr : v.rail = r) :
    (d.combine vs old r).en = true ∧
    (d.combine vs old r).ilim = (smallest ((vs.filter fun x => x.rail == r).map (·.code))).getD 25 ∧
    (settable r = true → v.mv ≤ d.fn Fld.railVmax r.val → v.mv ≤ (d.combine vs old r).mv) := by
  have hmem : v ∈ vs.filter fun x => x.rail == r := List.mem_filter.2 ⟨hv, by simp [hr]⟩
  have hsome : ((vs.filter fun x => x.rail == r).isEmpty) = false := by
    simpa using List.ne_nil_of_mem hmem
  have hle : v.mv ≤ largest ((vs.filter fun x => x.rail == r).map (·.mv)) := le_largest (List.mem_map_of_mem hmem)
  unfold Device.combine
  dsimp only
  rw [hsome]
  refine ⟨rfl, rfl, fun hset hmax => ?_⟩
  simp only [Bool.false_eq_true, if_false, hset, if_true]
  refine le_trans (le_min ?_ hmax) (le_onGrid _ hset)
  split <;> omega

end

/-! ### What an edge makes of a rail (R357, R366, R370, R372) -/

section
variable {d : Device} {r : RailId} {t : Nat}

theorem Device.retarget_st (mv : Nat) : (d.retarget t r mv).st = d.railSt r := by
  unfold Device.retarget
  dsimp only
  split
  · rfl
  · rfl

theorem Device.railNext_held (h : d.railSt r = .held) : d.railNext t r = d.rails.rails.get r := by
  rw [Device.railSt] at h
  simp [Device.railNext, h]

theorem Device.railNext_off (h : d.railSt r = .off) : d.railNext t r =
    if (d.railTarget r).en = true ∧ d.supplyOk r = true ∧ r.val ≠ 8 ∧ d.faults.dieHot = false
      then d.beginProof t r (d.rails.rails.get r) else d.rails.rails.get r := by
  rw [Device.railSt] at h
  simp [Device.railNext, h]

theorem Device.railNext_waits (h : d.railSt r = .tripped) (hready : d.retryReady t (d.rails.rails.get r) = false) :
    d.railNext t r = d.rails.rails.get r := by
  rw [Device.railSt] at h
  simp [Device.railNext, h, hready]

theorem Device.railNext_withdrawn (h : d.railSt r = .tripped) (hready : d.retryReady t (d.rails.rails.get r) = true)
    (hen : (d.railTarget r).en = false) :
    d.railNext t r = { d.rails.rails.get r with st := .off, ladder := 0, retryDue := false } := by
  rw [Device.railSt] at h
  simp [Device.railNext, h, hready, hen]

theorem Device.railNext_on (h : (d.railSt r).isOn = true) : d.railNext t r =
    if (d.railTarget r).en = false then { d.rails.rails.get r with st := .off, ladder := 0, inLimit := false, foldback := false }
    else d.retarget t r (d.railTarget r).mv := by
  rw [Device.railSt] at h
  unfold Device.railNext
  cases hst : (d.rails.rails.get r).st with
  | off | tripped | held => simp [hst, RailSt.isOn] at h
  | proofing | proofed | sagging => simp only [hst]

theorem Device.railTarget_gated (h : d.gated r = true) : (d.railTarget r).en = false := by
  simp [Device.railTarget, h]

end

/-- Settles O37: the combination by its list, the edge by the rail's state. -/
theorem votesMakeTargetsAndEdges : Obligations.VotesMakeTargetsAndEdges := by
  unfold Obligations.VotesMakeTargetsAndEdges
  refine ⟨fun d vs old r => ⟨Device.combine_none, fun v hv hr => ?_⟩, fun d t r => ⟨Device.railNext_held, fun hoff hno => ?_,
    fun hoff hen hok h8 hcool => ?_, Device.railNext_waits, fun htrip hready hen => ?_, fun hon hen => ?_, fun hon hen => ?_,
    Device.railTarget_gated⟩⟩
  · obtain ⟨hen, hilim, hmv⟩ := Device.combine_some (d := d) (old := old) hv hr
    refine ⟨hen, fun hcode => ?_, fun hzero => ?_, hmv⟩
    · have hmem : v ∈ vs.filter fun x => x.rail == r := List.mem_filter.2 ⟨hv, by simpa using hr⟩
      obtain ⟨z, hz, hle⟩ := smallest_le (List.mem_map_of_mem (f := Vote.code) hmem) hcode
      rw [hilim, hz]
      exact hle
    · rw [hilim, smallest_zeros]
      · rfl
      · intro c hc
        obtain ⟨w, hw, rfl⟩ := List.mem_map.1 hc
        obtain ⟨hmem, hrail⟩ := List.mem_filter.1 hw
        exact hzero w hmem (by simpa using hrail)
  · rw [Device.railNext_off hoff, if_neg]
    rintro ⟨hen, hok, -, -⟩
    rcases hno with hno | hno
    · simp [hno] at hen
    · simp [hno] at hok
  · rw [Device.railNext_off hoff, if_pos ⟨hen, hok, h8, hcool⟩]
    exact ⟨rfl, rfl, rfl⟩
  · rw [Device.railNext_withdrawn htrip hready hen]
    exact ⟨rfl, rfl⟩
  · rw [Device.railNext_on hon, if_pos hen]
    exact ⟨rfl, rfl⟩
  · rw [Device.railNext_on hon, if_neg (by simp [hen])]
    exact Device.retarget_st _

/-! ### Delays and warnings -/

section
variable {d : Device} {r : RailId} {k : Fin 7}

theorem Device.thermWarns_silent (h : d.collecting = false ∨ d.rails.thermWarn.getLsbD k.val = true) : d.thermWarns k = d := by
  refine if_pos ?_
  rcases h with h | h
  · simp [h]
  · simp only [h, Bool.or_true]

/-- A warning sets its sensor's bit and raises messages that are not Grave. -/
theorem Device.thermWarns_raises (hcoll : d.collecting = true) (hnew : d.rails.thermWarn.getLsbD k.val = false) :
    (d.thermWarns k).rails = { d.rails with thermWarn := d.rails.thermWarn ||| BitVec.twoPow 7 k.val } ∧
    (d.thermWarns k).batch = d.batch ∧ (d.thermWarns k).faults.graveDue = d.faults.graveDue := by
  unfold Device.thermWarns
  rw [if_neg (by simp only [hcoll, hnew]; decide)]
  refine ⟨?_, ?_, ?_⟩
  · exact Device.each_keeps Device.rails (fun r x => by simp) _ _
  · exact Device.each_keeps Device.batch (fun r x => by simp) _ _
  · exact Device.each_keeps (·.faults.graveDue) (fun r x => Device.raise_coded_grave _ 6 4 _ (by decide)) _ _

/-- The rails of a list that are released from their sensor's hold. -/
theorem Device.each_release_get (l : List RailId) (d : Device) (x : RailId) :
    (d.each l fun r y => y.updRail r fun h => { h with thermalHold := false }).rails.rails.get x =
      if x ∈ l then { d.rails.rails.get x with thermalHold := false } else d.rails.rails.get x := by
  induction l generalizing d with
  | nil => rfl
  | cons r l ih =>
    refine (ih _).trans ?_
    by_cases hx : x = r
    · subst hx
      simp
    · simp [vget_vmod_ne _ _ hx, hx]

theorem Device.mem_all16 (r : Fin 16) : r ∈ all16 := List.mem_finRange r

/-- A cooled sensor clears its bit and releases its rails alone. -/
theorem Device.thermCools_releases : (d.thermCools k).rails.thermWarn.getLsbD k.val = false ∧
    (∀ x, sensorOf x = some k → ((d.thermCools k).rails.rails.get x).thermalHold = false) ∧
    (∀ x, sensorOf x ≠ some k → (d.thermCools k).rails.rails.get x = d.rails.rails.get x) ∧
    (d.thermCools k).faults = d.faults ∧ (d.thermCools k).batch = d.batch := by
  unfold Device.thermCools
  dsimp only
  refine ⟨?_, fun x hx => ?_, fun x hx => ?_, ?_, ?_⟩
  · refine (congrArg (·.getLsbD k.val) (Device.each_keeps (·.rails.thermWarn) ?_ _ _)).trans ?_
    · exact fun _ _ => rfl
    · simp
  · rw [Device.each_release_get, if_pos (List.mem_filter.2 ⟨Device.mem_all16 x, by simpa using hx⟩)]
  · rw [Device.each_release_get, if_neg]
    · simp
    · simp [hx]
  · exact Device.each_keeps Device.faults (f := fun r y => y.updRail r fun h => { h with thermalHold := false }) (fun _ _ => rfl) _ _
  · exact Device.each_keeps Device.batch (f := fun r y => y.updRail r fun h => { h with thermalHold := false }) (fun _ _ => rfl) _ _

theorem Device.retryPasses_due (h : d.railSt r = .tripped) : d.retryPasses r =
    d.dueAt (d.rails.rails.get r).retryAt (·.updRail r fun h => { h with retryDue := true }) :=
  Device.when_true _ (by simpa using h)

theorem Device.retryPasses_idle (h : d.railSt r ≠ .tripped) : d.retryPasses r = d :=
  Device.when_false _ (by simpa using h)

theorem Device.ladderEnds_due (h : d.railSt r = .proofed) : d.ladderEnds r =
    d.dueAt ((d.rails.rails.get r).since + 10000000) (·.updRail r fun h => { h with ladder := 0 }) :=
  Device.when_true _ (by simpa using h)

theorem Device.ladderEnds_idle (h : d.railSt r ≠ .proofed) : d.ladderEnds r = d :=
  Device.when_false _ (by simpa using h)

end

theorem exec_retryRelease (s : State) (r : RailId) : exec (.retryRelease r) s = s.onClk (·.retryPasses r) := rfl

theorem exec_ladderReset (s : State) (r : RailId) : exec (.ladderReset r) s = s.onClk (·.ladderEnds r) := rfl

theorem exec_thermalWarning (s : State) (k : Fin 7) : exec (.thermalWarning k) s = s.onDev (·.thermWarns k) := rfl

theorem exec_thermalWarningClear (s : State) (k : Fin 7) : exec (.thermalWarningClear k) s = s.onDev (·.thermCools k) := rfl

theorem exec_paSourceSwitch (s : State) : exec .paSourceSwitch s = s.onDev (·.paLeaves) := rfl

/-- Settles O39: each row by the state it asks for. -/
theorem railDelaysAndWarnings : Obligations.RailDelaysAndWarnings := by
  unfold Obligations.RailDelaysAndWarnings
  simp only [exec_retryRelease, exec_ladderReset, exec_thermalWarning, exec_thermalWarningClear, exec_paSourceSwitch]
  intro s r hcalm
  refine ⟨fun hst hmeets => ?_, fun hst => ?_, fun hst hmeets => ?_, fun hst => ?_, fun k hk => ?_, fun k hcoll hnew => ?_, fun k => ?_,
    fun hon hauto => ?_, fun hno => ?_⟩
  · exact State.onClk_meets hmeets (Device.retryPasses_due hst) hcalm rfl
  · exact State.onClk_same hcalm (Device.retryPasses_idle hst)
  · exact State.onClk_meets hmeets (Device.ladderEnds_due hst) hcalm rfl
  · exact State.onClk_same hcalm (Device.ladderEnds_idle hst)
  · exact State.onDev_same hcalm (Device.thermWarns_silent hk)
  · obtain ⟨hrails, hbatch, hgrave⟩ := Device.thermWarns_raises hcoll hnew
    refine ⟨_, State.onDev_put rfl (hgrave.trans hcalm) hbatch, ?_, ?_⟩
    · simp only [State.put, hrails]
    · simp only [State.put, hrails]
  · obtain ⟨hbit, hhold, hrest, hfaults, hbatch⟩ := Device.thermCools_releases (d := s.dev) (k := k)
    exact ⟨_, State.onDev_put rfl (by simpa [Device.Calm, hfaults] using hcalm) hbatch, hbit, hhold, hrest⟩
  · exact State.onDev_put (Device.when_true _ (by simp [hon, hauto])) hcalm rfl
  · refine State.onDev_same hcalm (Device.when_false _ ?_)
    rcases hno with h | h
    · simp [h]
    · simp [h]

end Sys2Proof.Machine

/-! PROOFS. What messages and the charger's transitions move: the FIFO's growth, the battery FET and what follows it. -/
namespace Sys2Proof.Machine

/-! ### How far messages fill the FIFO (R648, R650, R656) -/

/-- The FIFO's entries, with the entry that Safe Hold will still write when it is entered. -/
def Faults.load (f : Faults) : Nat := f.fifo.length + b2n (!f.safeHold)

theorem Faults.fifo_le_load (f : Faults) : f.fifo.length ≤ f.load := Nat.le_add_right ..

theorem Faults.load_le (f : Faults) : f.load ≤ f.fifo.length + 1 := by
  unfold Faults.load b2n
  split <;> omega

theorem Faults.enqueue_length (f : Faults) (m : FaultMsg) : (f.enqueue m).fifo.length ≤ f.fifo.length + 1 := by
  unfold Faults.enqueue
  split
  · simp
  · split
    · split
      · simp [List.length_eraseIdx]
        split <;> omega
      · simp
    · simp

theorem Faults.enqueue_prefix {f : Faults} (m : FaultMsg) (h : f.fifo.length < 64) : f.fifo <+: (f.enqueue m).fifo := by
  simp [Faults.enqueue, h]

/-- From `d` to `e` at most `k` messages, none of them Grave, and an entry into Safe Hold have been reported: what stands in a FIFO
with room for them stays. -/
structure Device.Reports (k : Nat) (d e : Device) : Prop where
  load : e.faults.load ≤ d.faults.load + k
  keeps : d.faults.load + k ≤ 64 → d.faults.fifo <+: e.faults.fifo
  grave : e.faults.graveDue = d.faults.graveDue
  pairs : e.faults.pairs = d.faults.pairs

theorem Device.Reports.of_faults {k : Nat} {d e : Device} (h : e.faults = d.faults) : Device.Reports k d e :=
  ⟨by rw [h]; exact Nat.le_add_right .., fun _ => by rw [h], by rw [h], by rw [h]⟩

theorem Device.Reports.after {k : Nat} {d e t : Device} (h : e.faults = d.faults) (h' : Device.Reports k e t) : Device.Reports k d t where
  load := h ▸ h'.load
  keeps := h ▸ h'.keeps
  grave := h ▸ h'.grave
  pairs := h ▸ h'.pairs

theorem Device.Reports.until {k : Nat} {d e t : Device} (h : Device.Reports k d e) (h' : t.faults = e.faults) : Device.Reports k d t where
  load := h' ▸ h.load
  keeps := h' ▸ h.keeps
  grave := h' ▸ h.grave
  pairs := h' ▸ h.pairs

theorem Device.Reports.trans {k l : Nat} {d e t : Device} (h : Device.Reports k d e) (h' : Device.Reports l e t) :
    Device.Reports (k + l) d t where
  load := by have := h.load; have := h'.load; omega
  keeps := fun hroom => (h.keeps (by omega)).trans (h'.keeps (by have := h.load; omega))
  grave := h'.grave.trans h.grave
  pairs := h'.pairs.trans h.pairs

theorem Device.Reports.mono {k l : Nat} {d e : Device} (h : Device.Reports k d e) (hkl : k ≤ l) : Device.Reports l d e where
  load := by have := h.load; omega
  keeps := fun hroom => h.keeps (by omega)
  grave := h.grave
  pairs := h.pairs

theorem Device.Reports.calm {k : Nat} {d e : Device} (h : Device.Reports k d e) (hcalm : d.Calm) : e.Calm :=
  h.grave.trans hcalm

theorem Device.Reports.pairCut {k : Nat} {d e : Device} (h : Device.Reports k d e) (p : Fin 24) : e.pairCut p = d.pairCut p := by
  simp only [Device.pairCut, h.pairs]

theorem Device.Reports.room {k : Nat} {d e : Device} (h : Device.Reports k d e) : e.faults.fifo.length ≤ d.faults.fifo.length + 1 + k := by
  have := h.load
  have := e.faults.fifo_le_load
  have := d.faults.load_le
  omega

/-- What stands in the FIFO stays there through the messages that it has room for. -/
theorem Device.Reports.said {k : Nat} {d e : Device} (h : Device.Reports k d e) (hroom : d.faults.fifo.length + 1 + k ≤ 64) {m : Word}
    (hsaid : d.Said m) : e.Said m := by
  obtain ⟨x, hx, hm⟩ := hsaid
  have := d.faults.load_le
  exact ⟨x, (h.keeps (by omega)).subset hx, hm⟩

/-- What recording does to the collector. -/
theorem Device.record_faults (d : Device) (m : Word) (c : Cls) (p l : Bool) (t : Nat) : ∃ x b n tickets unread,
    (d.record m c p l t).faults = { (d.faults.enqueue x).activate x b n with tickets := tickets, unread := unread } := by
  unfold Device.record Device.when
  dsimp only
  split
  · exact ⟨_, _, _, _, _, rfl⟩
  · exact ⟨_, _, _, _, _, rfl⟩

theorem Faults.enqueue_pairs (f : Faults) (m : FaultMsg) : (f.enqueue m).pairs = f.pairs := by
  unfold Faults.enqueue
  split
  · rfl
  · split
    · split <;> rfl
    · rfl

theorem Faults.activate_pairs (f : Faults) (x : FaultMsg) (b : BitVec 48) (n : Nat) : (f.activate x b n).pairs = f.pairs := by
  unfold Faults.activate
  split
  · rfl
  · split
    · rfl
    · split
      · rfl
      · split <;> rfl

theorem Device.record_reports (d : Device) (m : Word) (c : Cls) (p l : Bool) (t : Nat) : Device.Reports 1 d (d.record m c p l t) := by
  obtain ⟨x, b, n, tickets, unread, hx⟩ := d.record_faults m c p l t
  have hhold := d.record_safeHold m c p l t
  have hfifo : (d.record m c p l t).faults.fifo = (d.faults.enqueue x).fifo := by simp only [hx, Faults.activate_fifo]
  have hlen := d.faults.enqueue_length x
  refine ⟨?_, fun hroom => ?_, d.record_grave m c p l t, ?_⟩
  · rw [Faults.load, Faults.load, hfifo, hhold]
    omega
  · rw [hfifo]
    have hload := d.faults.fifo_le_load
    exact Faults.enqueue_prefix x (by omega)
  · simp only [hx, Faults.activate_pairs, Faults.enqueue_pairs]

theorem Device.enterSafeHold_reports (d : Device) : Device.Reports 0 d d.enterSafeHold := by
  unfold Device.enterSafeHold
  split
  · exact .of_faults rfl
  · rename_i hno
    have h := Device.record_reports ((d.updBurst (·.cancelArmed d.now)).updFaults fun f =>
      { f with safeHold := true, gating := false, holdVotes := false, leaving := false }) (coded 0x0F 4 1)
      (((d.updBurst (·.cancelArmed d.now)).updFaults fun f =>
      { f with safeHold := true, gating := false, holdVotes := false, leaving := false }).classify (coded 0x0F 4 1)) false false
      ((d.updBurst (·.cancelArmed d.now)).updFaults fun f =>
      { f with safeHold := true, gating := false, holdVotes := false, leaving := false }).entryTime
    obtain ⟨hload, hkeeps, hgrave, hpairs⟩ := h
    have hfull : d.faults.load = d.faults.fifo.length + 1 := by simp [Faults.load, hno, b2n]
    refine ⟨?_, fun hroom => ?_, hgrave, hpairs⟩
    · rw [hfull]
      simpa [Faults.load, b2n] using hload
    · refine hkeeps ?_
      rw [hfull] at hroom
      simpa [Faults.load, b2n] using hroom

theorem Device.raiseAs_reports {d : Device} {m : Word} {p l : Bool} (t : Nat)
    (h : (kindClasses (msgSource m) (msgKind m) (msgQual m)).1 ≠ 4) : Device.Reports 1 d (d.raiseAs m p l t) := by
  unfold Device.raiseAs
  split
  · dsimp only
    split
    · rename_i hg
      split at hg
      · cases hg
      · exact absurd hg (d.classify_not_grave m h)
    · exact (Device.record_reports ..).trans (Device.enterSafeHold_reports _)
    · exact Device.record_reports ..
  · exact .of_faults rfl

theorem kindClasses_coded {a b q : Nat} (h : (kindClasses (a % 256) (b % 256) 0).1 ≠ 4) :
    (kindClasses (msgSource (coded a b q)) (msgKind (coded a b q)) (msgQual (coded a b q))).1 ≠ 4 := by
  rw [msgSource_coded, msgKind_coded, kindClasses_floor _ _ _ 0]
  exact h

theorem Device.raise_reports (d : Device) {a b q : Nat} (h : (kindClasses (a % 256) (b % 256) 0).1 ≠ 4) :
    Device.Reports 1 d (d.raise (coded a b q)) :=
  Device.raiseAs_reports _ (kindClasses_coded h)

theorem Device.raiseOn_reports (d : Device) (p : Fin 24) {a b q : Nat} (h : (kindClasses (a % 256) (b % 256) 0).1 ≠ 4) :
    Device.Reports 1 d (d.raiseOn p (coded a b q)) := by
  unfold Device.raiseOn
  split
  · exact .of_faults rfl
  · exact Device.raiseAs_reports _ (kindClasses_coded h)

/-! ### What a message changes, as one equation -/

theorem Device.SameButFaults.eq {d e : Device} (h : d.SameButFaults e) :
    e = { d with rooms := e.rooms, burst := e.burst, faults := e.faults } := by
  obtain ⟨⟩ := h
  rcases e with ⟨⟩
  simp_all

/-! ### The battery FET and what follows it (R417, R435, R438, R491) -/

/-- `q` is `p` but for the battery FET, the primary reserve's use and the reservoir's charger. -/
def Path.FetMoved (p q : Path) : Prop :=
  ∃ fet cause inUse charging, q = { p with fet := fet, fetCause := cause, priInUse := inUse, resCharging := charging }

theorem Path.FetMoved.refl (p : Path) : p.FetMoved p := ⟨_, _, _, _, rfl⟩

theorem Path.FetMoved.trans {p q r : Path} (h : p.FetMoved q) (h' : q.FetMoved r) : p.FetMoved r := by
  obtain ⟨_, _, _, _, rfl⟩ := h
  obtain ⟨_, _, _, _, rfl⟩ := h'
  exact ⟨_, _, _, _, rfl⟩

/-- `e` is `d` but for the charger, what follows from the battery FET, and what messages change. -/
def Device.ChargeMoved (d e : Device) : Prop :=
  ∃ rooms burst faults chg path, d.path.FetMoved path ∧
    e = { d with rooms := rooms, burst := burst, faults := faults, chg := chg, path := path }

theorem Device.ChargeMoved.refl (d : Device) : d.ChargeMoved d := ⟨_, _, _, _, _, .refl _, rfl⟩

theorem Device.ChargeMoved.trans {d e t : Device} (h : d.ChargeMoved e) (h' : e.ChargeMoved t) : d.ChargeMoved t := by
  obtain ⟨_, _, _, _, _, hp, rfl⟩ := h
  obtain ⟨_, _, _, _, _, hq, rfl⟩ := h'
  exact ⟨_, _, _, _, _, hp.trans hq, rfl⟩

theorem Device.SameButFaults.chargeMoved {d e : Device} (h : d.SameButFaults e) : d.ChargeMoved e :=
  ⟨_, _, _, _, _, .refl _, h.eq⟩

theorem Device.updChg_moved (d : Device) (f : Charger → Charger) : d.ChargeMoved (d.updChg f) :=
  ⟨_, _, _, _, _, .refl _, rfl⟩

theorem Device.updPath_moved {d : Device} {f : Path → Path} (h : d.path.FetMoved (f d.path)) : d.ChargeMoved (d.updPath f) :=
  ⟨_, _, _, _, _, h, rfl⟩

theorem Device.priUpdate_moved (d : Device) : d.ChargeMoved d.priUpdate := by
  unfold Device.priUpdate
  split
  · split
    · exact .refl d
    · exact (Device.updPath_moved (by exact ⟨_, _, _, _, rfl⟩)).trans (Device.raise_same _ _).chargeMoved
  · split
    · exact Device.updPath_moved ⟨_, _, _, _, rfl⟩
    · exact .refl d

/-- Messages of the primary reserve still to come: one, while Rooms are served and it is not in use. -/
def Device.priPending (d : Device) : Nat := b2n (d.isOpen && !d.path.priInUse)

theorem Device.priPending_le (d : Device) : d.priPending ≤ 1 := by
  unfold Device.priPending b2n
  split <;> omega

/-- From `d` to `e` at most the messages of the primary reserve still to come have been reported. -/
def Device.PriReports (d e : Device) : Prop := ∃ k, Device.Reports k d e ∧ e.priPending + k ≤ d.priPending

theorem Device.PriReports.of_faults {d e : Device} (h : e.faults = d.faults) (hpri : e.priPending ≤ d.priPending) : d.PriReports e :=
  ⟨0, .of_faults h, hpri⟩

theorem Device.PriReports.trans {d e t : Device} (h : d.PriReports e) (h' : e.PriReports t) : d.PriReports t := by
  obtain ⟨k, hk, hle⟩ := h
  obtain ⟨l, hl, hle'⟩ := h'
  exact ⟨k + l, hk.trans hl, by omega⟩

theorem Device.PriReports.reports {d e : Device} (h : d.PriReports e) : Device.Reports 1 d e := by
  obtain ⟨k, hk, hle⟩ := h
  exact hk.mono (by have := d.priPending_le; omega)

/-- With the FET off the primary reserve is reported once. -/
theorem Device.priUpdate_reports {d : Device} (hoff : d.fetIsOff = true) : d.PriReports d.priUpdate := by
  unfold Device.priUpdate
  by_cases hw : d.priWanted = true
  · rw [if_pos hw]
    by_cases hu : d.path.priInUse = true
    · rw [if_pos hu]
      exact .of_faults rfl le_rfl
    · rw [if_neg hu]
      have hopen : d.isOpen = true := by
        simp only [Device.priWanted, Bool.and_eq_true] at hw
        exact hw.1.1.1.2
      refine ⟨1, .after ?_ (Device.raise_reports _ ?_), ?_⟩
      · rfl
      · decide
      · simp [Device.priPending, Device.isOpen, b2n] at hopen ⊢
        simp [hopen, hu]
  · rw [if_neg hw]
    split
    · rename_i hend
      have hopen : d.isOpen = false := by
        rcases hend.2 with h | h
        · simp [hoff] at h
        · exact h
      refine .of_faults rfl ?_
      simp [Device.priPending, Device.isOpen] at hopen ⊢
      simp [hopen]
    · exact .of_faults rfl le_rfl

theorem Device.chgEnter_moved (d : Device) (p : ChgPhase) : d.ChargeMoved (d.chgEnter p) := by
  unfold Device.chgEnter
  dsimp only
  split
  · exact (d.updChg_moved _).trans (Device.updPath_moved ⟨_, _, _, _, rfl⟩)
  · exact (d.updChg_moved _).trans (Device.updPath_moved ⟨_, _, _, _, rfl⟩)
  · split
    · refine Device.ChargeMoved.trans ?_ (Device.priUpdate_moved _)
      split
      · exact (d.updChg_moved _).trans (Device.updPath_moved ⟨_, _, _, _, rfl⟩)
      · exact (d.updChg_moved _).trans (Device.updPath_moved ⟨_, _, _, _, rfl⟩)
    · exact (d.updChg_moved _).trans (Device.updPath_moved ⟨_, _, _, _, rfl⟩)

/-- Entering a phase other than FAST reports the reserve at most. -/
theorem Device.chgEnter_reports (d : Device) {p : ChgPhase} (hp : p ≠ .fast) : d.PriReports (d.chgEnter p) := by
  unfold Device.chgEnter
  dsimp only
  split
  · exact .of_faults rfl le_rfl
  · exact .of_faults rfl le_rfl
  · split
    · refine Device.PriReports.trans (.of_faults ?_ ?_) (Device.priUpdate_reports ?_)
      · rfl
      · exact le_rfl
      · simp [Device.fetIsOff]
    · exact .of_faults rfl le_rfl

/-- What holds along every transition between phases other than FAST holds along those that follow from the present conditions. -/
theorem Device.chgSettle_along {R : Device → Device → Prop} (hrefl : ∀ d, R d d) (htrans : ∀ {d e t}, R d e → R e t → R d t)
    (hkeep : ∀ d : Device, R d d.qualKeep) (henter : ∀ (d : Device) (p : ChgPhase), p ≠ .fast → R d (d.chgEnter p)) (d : Device) :
    R d d.chgSettle := by
  have hwhen : ∀ (e : Device) (c : Bool) (p : ChgPhase), p ≠ .fast → R e (e.when c (·.chgEnter p)) := by
    intro e c p hp
    unfold Device.when
    split
    · exact henter e p hp
    · exact hrefl e
  refine htrans (hkeep d) ?_
  unfold Device.chgSettle
  generalize d.qualKeep = e
  dsimp only
  split
  · exact hrefl e
  · generalize hm : (if e.chg.phase = .fault then e
      else if e.chgStopped = true then e.when (decide (e.chg.phase ≠ .idle)) (·.chgEnter .idle)
      else if e.chg.phase ≠ .idle ∧ e.chg.zone.permits = false then e.when (decide (e.chg.phase ≠ .suspended)) (·.chgEnter .suspended)
      else if (e.chg.phase.charging = true ∨ e.chg.phase = .qualify) ∧ e.inputPresent = false then e.chgEnter .idle
      else if e.chg.phase = .suspended ∧ e.chg.zoneSince + 1000000 ≤ e.now then e.chgEnter .qualify
      else e) = m
    have hmid : R e m := by
      subst hm
      split
      · exact hrefl e
      · split
        · exact hwhen e _ _ nofun
        · split
          · exact hwhen e _ _ nofun
          · split
            · exact henter e _ nofun
            · split
              · exact henter e _ nofun
              · exact hrefl e
    split
    · exact htrans hmid (htrans (henter m .qualify nofun) (hwhen _ _ .suspended nofun))
    · exact hmid

theorem Device.qualKeep_moved (d : Device) : d.ChargeMoved d.qualKeep := d.updChg_moved _

theorem Device.chgSettle_moved (d : Device) : d.ChargeMoved d.chgSettle :=
  Device.chgSettle_along (R := Device.ChargeMoved) .refl .trans Device.qualKeep_moved (fun d p _ => d.chgEnter_moved p) d

theorem Device.chgSettle_reports (d : Device) : d.PriReports d.chgSettle :=
  Device.chgSettle_along (R := Device.PriReports) (fun _ => .of_faults rfl le_rfl) .trans (fun _ => .of_faults rfl le_rfl)
    (fun d _ hp => d.chgEnter_reports hp) d

theorem Device.resCheck_moved (d : Device) : d.ChargeMoved d.resCheck := by
  unfold Device.resCheck Device.when
  split
  · exact Device.updPath_moved ⟨_, _, _, _, rfl⟩
  · exact .refl d

@[simp] theorem Device.resCheck_faults (d : Device) : d.resCheck.faults = d.faults ∧ d.resCheck.path.priInUse = d.path.priInUse := by
  unfold Device.resCheck Device.when
  split <;> simp

/-! ### The end of AUTH (R711, R712) -/

/-- `e` is `d` but for the security block, the keepers, the Larder's reservations, and what messages change. -/
def Device.AuthMoved (d e : Device) : Prop :=
  ∃ sec keepers larder rooms burst faults, e = { d with
    sec := sec, keepers := keepers, priv := { d.priv with larder := larder }, rooms := rooms, burst := burst, faults := faults }

theorem Device.AuthMoved.refl (d : Device) : d.AuthMoved d := ⟨_, _, _, _, _, _, rfl⟩

theorem Device.AuthMoved.trans {d e t : Device} (h : d.AuthMoved e) (h' : e.AuthMoved t) : d.AuthMoved t := by
  obtain ⟨_, _, _, _, _, _, rfl⟩ := h
  obtain ⟨_, _, _, _, _, _, rfl⟩ := h'
  exact ⟨_, _, _, _, _, _, rfl⟩

theorem Device.SameButFaults.authMoved {d e : Device} (h : d.SameButFaults e) : d.AuthMoved e :=
  ⟨_, _, _, _, _, _, h.eq⟩

theorem Device.when_along {R : Device → Device → Prop} {d : Device} {c : Bool} {f : Device → Device} (hrefl : R d d) (h : R d (f d)) :
    R d (d.when c f) := by
  unfold Device.when
  split
  · exact h
  · exact hrefl

theorem Device.haltRelease_moved (d : Device) : d.AuthMoved d.haltRelease := ⟨_, _, _, _, _, _, rfl⟩

theorem Device.updSec_moved (d : Device) (f : Security → Security) : d.AuthMoved (d.updSec f) := ⟨_, _, _, _, _, _, rfl⟩

theorem Device.attachRelease_moved (d : Device) : d.AuthMoved d.attachRelease := ⟨_, _, _, _, _, _, rfl⟩

theorem Device.levelFall_moved (d : Device) : d.AuthMoved d.levelFall :=
  (d.haltRelease_moved.trans (Device.attachRelease_moved _)).trans (Device.updSec_moved _ _)

theorem Device.setLevel_moved (d : Device) (l : Level) : d.AuthMoved (d.setLevel l) := by
  unfold Device.setLevel
  split
  · exact .refl d
  · exact ((d.updSec_moved _).trans (Device.when_along (R := Device.AuthMoved) (.refl _) (Device.levelFall_moved _))).trans
      (Device.raise_same _ _).authMoved

theorem Device.levelFall_faults (d : Device) : d.levelFall.faults = d.faults := by
  simp [Device.levelFall, Device.attachRelease, Device.haltRelease, Device.updKeeper]

theorem Device.setLevel_reports (d : Device) (l : Level) : Device.Reports 1 d (d.setLevel l) := by
  unfold Device.setLevel
  split
  · exact .of_faults rfl
  · refine .after ?_ (Device.raise_reports _ ?_)
    · unfold Device.when
      split
      · exact (Device.levelFall_faults _).trans rfl
      · rfl
    · decide

theorem Device.authEnd_moved (d : Device) : d.AuthMoved d.authEnd := by
  unfold Device.authEnd
  exact (Device.when_along (R := Device.AuthMoved) (.refl d) (d.updSec_moved _)).trans
    (Device.when_along (R := Device.AuthMoved) (.refl _) (Device.setLevel_moved _ _))

theorem Device.authEnd_reports (d : Device) : Device.Reports 1 d d.authEnd := by
  unfold Device.authEnd
  dsimp only
  have hnext : (d.when (decide (d.sec.nextLevel = some .auth)) (·.updSec fun s => { s with nextLevel := none })).faults = d.faults := by
    unfold Device.when
    split <;> simp
  revert hnext
  generalize d.when (decide (d.sec.nextLevel = some .auth)) (·.updSec fun s => { s with nextLevel := none }) = e
  intro hnext
  refine .after hnext ?_
  unfold Device.when
  split
  · exact Device.setLevel_reports ..
  · exact .of_faults rfl

theorem Device.exhaustRelease_moved (d : Device) : d.AuthMoved d.exhaustRelease :=
  Device.when_along (R := Device.AuthMoved) (.refl d) (d.authEnd_moved.trans (Device.haltRelease_moved _))

theorem Device.haltRelease_faults (d : Device) : d.haltRelease.faults = d.faults := by
  simp [Device.haltRelease, Device.updKeeper]

theorem Device.exhaustRelease_reports (d : Device) : Device.Reports 1 d d.exhaustRelease := by
  unfold Device.exhaustRelease Device.when
  split
  · exact d.authEnd_reports.until (Device.haltRelease_faults _)
  · exact .of_faults rfl

/-! ### The dock -/

theorem exec_dcinValid (s : State) : exec .dcinValid s = s.onDev (·.dcArrives) := rfl

theorem exec_dcinInvalid (s : State) :
    exec .dcinInvalid s = s.onDev fun d => (d.updPath fun p => { p with dcOv := false }).dcLeaves := rfl

theorem exec_dcOv (s : State) (mv : Nat) : exec (.dcOv mv) s = s.onDev fun d => d.when (decide (6800 < mv)) (·.dcOver mv) := rfl

/-- The effect of `DOCK_DETECTION_END` at its instant. -/
def Device.dockEnds (d : Device) (code : Nat) (cc2 : Bool) : Device :=
  ((d.dockResult code).updPath fun p => { p with cc2 := cc2 }).raise (coded 8 2 code)

theorem exec_dockDetectionEnd (s : State) (code : Nat) (cc2 : Bool) : exec (.dockDetectionEnd code cc2) s =
    s.onClk fun d => d.when (d.path.dcValid && decide (d.path.dock = 1) && dockCodeOk code) fun d =>
      d.dueAt (d.path.dcSince + dockTime code) (·.dockEnds code cc2) := rfl

theorem exec_ccLevelChange (s : State) (k : Fin 4) : exec (.ccLevelChange k) s =
    s.onDev fun d => d.when (d.path.dcValid && decide (d.path.dock ≠ 1)) (·.ccLevel k.val) := rfl

section
variable {d : Device}

/-- What wakes the device moves its power registers and the battery FET. -/
theorem Device.wakeEvent_moved (d : Device) (code : Nat) :
    ∃ power path, d.wakeEvent code = { d with power := power, path := path } ∧ d.path.FetMoved path := by
  have hpause : ∃ path, d.chgPause = { d with path := path } ∧ d.path.FetMoved path := by
    unfold Device.chgPause
    split
    · exact ⟨_, rfl, _, _, _, _, rfl⟩
    · split
      · exact ⟨_, rfl, .refl _⟩
      · exact ⟨_, rfl, _, _, _, _, rfl⟩
  obtain ⟨path, hp, hmoved⟩ := hpause
  unfold Device.wakeEvent Device.when
  split
  · split
    · exact ⟨_, path, by rw [Device.lodgeLeave, hp]; rfl, hmoved⟩
    · exact ⟨_, _, rfl, .refl _⟩
    · exact ⟨_, _, rfl, .refl _⟩
    · split
      · exact ⟨_, _, rfl, .refl _⟩
      · exact ⟨_, _, rfl, .refl _⟩
    · exact ⟨_, _, rfl, .refl _⟩
  · exact ⟨_, _, rfl, .refl _⟩

/-- `SHIP` ends in POR, in which the AON node holds the battery FET. -/
theorem Device.shipLeave_moved (d : Device) : ∃ power path, d.shipLeave = { d with power := power, path := path } ∧ d.path.FetMoved path := by
  unfold Device.shipLeave
  split
  · exact ⟨_, _, rfl, _, _, _, _, rfl⟩
  · exact ⟨_, _, rfl, .refl _⟩

theorem Device.shipLeave_ship (h : d.power.phase = .ship) :
    d.shipLeave.power.phase = .por ∧ d.shipLeave.power.shipLatch = false := by
  unfold Device.shipLeave
  rw [if_pos h]
  exact ⟨rfl, rfl⟩

theorem Device.wakeEvent_por {code : Nat} (h : d.power.phase = .por) : d.wakeEvent code = d := by
  unfold Device.wakeEvent
  simp [h]

theorem Device.dockLeaves_eq (d : Device) : ∃ path, d.dockLeaves = { d with path := path } ∧ path.dcValid = false ∧ path.dcOv = d.path.dcOv ∧
    path.priInUse = d.path.priInUse ∧
    (d.path.dcValid = true → path.dock = 0 ∧ path.dockMa = 0 ∧ path.dcLost = true) := by
  unfold Device.dockLeaves
  split
  · exact ⟨_, rfl, rfl, rfl, rfl, fun _ => ⟨rfl, rfl, rfl⟩⟩
  · rename_i h
    exact ⟨_, rfl, by simpa using h, rfl, rfl, fun h' => absurd h' h⟩

/-- DCIN's arrival: what the dock shows after it. -/
theorem Device.dcArrives_shows (h : d.path.dcValid = false) : d.dcArrives.path.dcValid = true ∧ d.dcArrives.path.dcSince = d.now ∧
    d.dcArrives.path.dock = 1 ∧ d.dcArrives.path.dockMa = 100 ∧ d.dcArrives.batch = d.batch ∧
    d.dcArrives.faults.graveDue = d.faults.graveDue ∧
    (d.power.phase = .ship → d.dcArrives.power.phase = .por ∧ d.dcArrives.power.shipLatch = false) := by
  obtain ⟨power, path, hship, hpath⟩ := d.dockArrives.shipLeave_moved
  obtain ⟨power', path', hwake, hpath'⟩ := d.dockArrives.shipLeave.wakeEvent_moved 4
  have hsettle := (d.dockArrives.shipLeave.wakeEvent 4).chgSettle_reports.reports.grave
  obtain ⟨_, _, _, _, _, hmoved, hend⟩ := (d.dockArrives.shipLeave.wakeEvent 4).chgSettle_moved.trans (Device.resCheck_moved _)
  have hfets := (hpath.trans (by rw [hship] at hpath'; exact hpath')).trans (by rw [hwake] at hmoved; exact hmoved)
  have heq : d.dcArrives = (d.dockArrives.shipLeave.wakeEvent 4).chgSettle.resCheck := by simp [Device.dcArrives, h]
  have hgrave : d.dcArrives.faults.graveDue = d.faults.graveDue := by
    rw [heq, (Device.resCheck_faults _).1, hsettle, hwake, hship]
    rfl
  obtain ⟨_, _, _, _, hp⟩ := hfets
  refine ⟨?_, ?_, ?_, ?_, ?_, hgrave, fun hsh => ?_⟩
  · rw [heq, hend, hp]; rfl
  · rw [heq, hend, hp]; rfl
  · rw [heq, hend, hp]; rfl
  · rw [heq, hend, hp]; rfl
  · rw [heq, hend, hwake, hship]; rfl
  · have hpor := Device.shipLeave_ship (d := d.dockArrives) hsh
    rw [heq, hend, Device.wakeEvent_por hpor.1]
    exact hpor

theorem Device.when_keeps {α : Type} (p : Device → α) {d : Device} {c : Bool} {f : Device → Device} (h : p (f d) = p d) :
    p (d.when c f) = p d := by
  unfold Device.when
  split
  · exact h
  · rfl

theorem Device.when_same {d : Device} {c : Bool} {f : Device → Device} (h : f d = d) : d.when c f = d := by
  unfold Device.when
  split
  · exact h
  · rfl

/-- DCIN's end up to the power cycle of SEALED. -/
def Device.dcEnds (d : Device) : Device := d.dockLeaves.chgSettle.resCheck.exhaustRelease

theorem Device.dcLeaves_eq (d : Device) : d.dcLeaves = d.dcEnds.when (decide (d.power.phase = .sealed))
    (·.updFaults fun f => { f with graveLow := true }) := rfl

theorem Device.dcEnds_shows (d : Device) : d.dcEnds.path.dcValid = false ∧ d.dcEnds.path.dcOv = d.path.dcOv ∧
    (d.path.dcValid = true → d.dcEnds.path.dock = 0 ∧ d.dcEnds.path.dockMa = 0 ∧ d.dcEnds.path.dcLost = true) ∧
    d.dcEnds.batch = d.batch ∧ d.dcEnds.power = d.power ∧ Device.Reports 2 d d.dcEnds := by
  obtain ⟨path, hleave, hvalid, hov, huse, hdock⟩ := d.dockLeaves_eq
  obtain ⟨_, _, _, _, path', ⟨_, _, _, _, hpath⟩, hsettle⟩ := d.dockLeaves.chgSettle_moved.trans (Device.resCheck_moved _)
  obtain ⟨_, _, _, _, _, _, hrelease⟩ := d.dockLeaves.chgSettle.resCheck.exhaustRelease_moved
  have hends : d.dcEnds.path = path' := by rw [Device.dcEnds, hrelease, hsettle]
  rw [hleave] at hpath
  refine ⟨?_, ?_, fun h => ?_, ?_, ?_, ?_⟩
  · rw [hends, hpath]
    exact hvalid
  · rw [hends, hpath]
    exact hov
  · rw [hends, hpath]
    exact hdock h
  · rw [Device.dcEnds, hrelease, hsettle, hleave]
  · rw [Device.dcEnds, hrelease, hsettle, hleave]
  · exact .after (by rw [hleave]) ((d.dockLeaves.chgSettle_reports.reports.until (Device.resCheck_faults _).1).trans
      (Device.exhaustRelease_reports _))

/-- DCIN's end: what the dock shows after it, and what of the collector stands. -/
theorem Device.dcLeaves_shows (d : Device) : d.dcLeaves.path.dcValid = false ∧ d.dcLeaves.path.dcOv = d.path.dcOv ∧
    (d.path.dcValid = true → d.dcLeaves.path.dock = 0 ∧ d.dcLeaves.path.dockMa = 0 ∧ d.dcLeaves.path.dcLost = true) ∧
    d.dcLeaves.batch = d.batch ∧ d.dcLeaves.power = d.power ∧
    (d.power.phase = .sealed → d.dcLeaves.faults.graveLow = true) ∧ Device.Reports 2 d d.dcLeaves := by
  obtain ⟨hvalid, hov, hdock, hbatch, hpower, hreports⟩ := d.dcEnds_shows
  have hpath : d.dcLeaves.path = d.dcEnds.path := Device.when_keeps Device.path rfl
  refine ⟨hpath ▸ hvalid, hpath ▸ hov, hpath ▸ hdock, (Device.when_keeps Device.batch rfl).trans hbatch,
    (Device.when_keeps Device.power rfl).trans hpower, fun h => ?_, ?_⟩
  · rw [Device.dcLeaves_eq, Device.when_true _ (by simp [h])]
    rfl
  · refine ⟨?_, ?_, ?_, ?_⟩
    · rw [Device.dcLeaves_eq, Device.when_keeps (·.faults.load) rfl]
      exact hreports.load
    · rw [Device.dcLeaves_eq, Device.when_keeps (·.faults.fifo) rfl]
      exact hreports.keeps
    · rw [Device.dcLeaves_eq, Device.when_keeps (·.faults.graveDue) rfl]
      exact hreports.grave
    · rw [Device.dcLeaves_eq, Device.when_keeps (·.faults.pairs) rfl]
      exact hreports.pairs

theorem Device.dcOver_ov (mv : Nat) (h : d.path.dcOv = true) : d.dcOver mv = d := if_pos h

theorem Device.dcOver_eq (mv : Nat) (h : d.path.dcOv = false) : d.dcOver mv =
    ((d.updPath fun p => { p with dcOv := true }).dcLeaves.updFaults fun f =>
      { f with probeMisc := f.probeMisc ||| 8 }).raiseOn 17 (coded 8 1 (sat 65535 (mv / 100))) := by
  simp [Device.dcOver, h]

theorem Device.raiseOn_path (p : Fin 24) (m : Word) : (d.raiseOn p m).path = d.path := (d.raiseOn_same p m).path

theorem Device.raiseOn_batch (p : Fin 24) (m : Word) : (d.raiseOn p m).batch = d.batch := (d.raiseOn_same p m).batch

end

/-- Settles O40: each row by what it shows of the dock. -/
theorem dockInputIsFollowed : Obligations.DockInputIsFollowed := by
  unfold Obligations.DockInputIsFollowed
  simp only [exec_dcinValid, exec_dcinInvalid, exec_dcOv, exec_dockDetectionEnd, exec_ccLevelChange]
  intro s hcalm
  refine ⟨fun hvalid => ?_, fun hvalid => ?_, ?_, fun mv hno => ?_, fun mv hov hmv => ?_,
    fun code cc2 hvalid hdock hlow hhigh hmeets => ?_, fun code cc2 hno => ?_, fun hvalid hdock => ⟨?_, ?_, ?_, fun hbc => ?_, fun c hbc => ?_⟩,
    fun k hno => ?_⟩
  · exact State.onDev_same hcalm (by simp [Device.dcArrives, hvalid])
  · obtain ⟨h1, h2, h3, h4, hbatch, hgrave, hship⟩ := Device.dcArrives_shows hvalid
    exact ⟨_, State.onDev_put rfl (hgrave.trans hcalm) hbatch, h1, h2, h3, h4, hship⟩
  · obtain ⟨h1, h2, hdock, hbatch, -, hsealed, hreports⟩ := (s.dev.updPath fun p => { p with dcOv := false }).dcLeaves_shows
    exact ⟨_, State.onDev_put rfl (hreports.calm hcalm) hbatch, h1, h2, hdock, hsealed⟩
  · refine State.onDev_same hcalm ?_
    rcases hno with h | h
    · exact Device.when_same (Device.dcOver_ov mv h)
    · exact Device.when_false _ (by simpa using h)
  · obtain ⟨h1, h2, hdock, hbatch, hpower, -, hreports⟩ := (s.dev.updPath fun p => { p with dcOv := true }).dcLeaves_shows
    have heq : s.dev.when (decide (6800 < mv)) (·.dcOver mv) = _ := (Device.when_true _ (by simpa using hmv)).trans (Device.dcOver_eq mv hov)
    refine ⟨_, State.onDev_put heq ?_ ?_, ?_, ?_, fun h => ?_, fun hcoll hcut hfifo => ?_⟩
    · exact (Device.raiseOn_coded_grave _ 17 8 1 _ (by decide)).trans (hreports.calm hcalm)
    · exact (Device.raiseOn_batch _ _).trans hbatch
    · simpa [State.put, Device.raiseOn_path] using h2
    · simpa [State.put, Device.raiseOn_path] using h1
    · simpa [State.put, Device.raiseOn_path] using ⟨(hdock h).1, (hdock h).2.1⟩
    · refine Device.raiseOn_coded_said _ 17 8 1 _ ?_ ?_ ?_ ?_
      · exact (hreports.pairCut 17).trans hcut
      · rw [Device.collecting_eq] at hcoll ⊢
        simpa [hpower] using hcoll
      · decide
      · have := hreports.room
        simp only [Device.updFaults_faults, Device.updPath_faults] at this ⊢
        omega
  · have hdue : (s.dev.when (s.dev.path.dcValid && decide (s.dev.path.dock = 1) && dockCodeOk code) fun d =>
        d.dueAt (d.path.dcSince + dockTime code) (·.dockEnds code cc2)) = s.dev.dueAt (s.dev.path.dcSince + dockTime code) (·.dockEnds code cc2) :=
      Device.when_true _ (by simp [hvalid, hdock, dockCodeOk, hlow, hhigh])
    refine ⟨_, State.onClk_meets hmeets hdue ?_ ?_, ?_, ?_, ?_, ?_⟩
    · exact (Device.raise_coded_grave _ 8 2 _ (by decide)).trans hcalm
    · simp [Device.dockEnds, Device.dockResult]
    · rw [← Device.moveTo_time hmeets.1]
      simp [State.put, Device.now, Device.dockEnds, Device.dockResult]
    · simp [State.put, Device.dockEnds, Device.dockResult]
    · simp [State.put, Device.dockEnds, Device.dockResult]
    · simp [State.put, Device.dockEnds, Device.dockResult]
      rfl
  · refine State.onClk_same hcalm (Device.when_false _ ?_)
    simp only [dockCodeOk, Bool.and_eq_false_iff, decide_eq_false_iff_not, Nat.not_le]
    tauto
  · exact State.onDev_same hcalm (Device.when_same rfl)
  · exact State.onDev_put (Device.when_true _ (by simp [hvalid, hdock])) hcalm rfl
  · exact State.onDev_put (Device.when_true _ (by simp [hvalid, hdock])) hcalm rfl
  · refine State.onDev_put ((Device.when_true _ (by simp [hvalid, hdock])).trans ?_) hcalm rfl
    simp [Device.ccLevel, hbc]
  · refine State.onDev_put ((Device.when_true _ (by simp [hvalid, hdock])).trans ?_) hcalm rfl
    simp [Device.ccLevel, hbc]
  · refine State.onDev_same hcalm (Device.when_false _ ?_)
    rcases hno with h | h
    · simp [h]
    · simp [h]

end Sys2Proof.Machine

/-! PROOFS. VSYS over-voltage and the battery FET (R414, R417 to R420), and the rectifier's conditions (R414, R434, R475, R478). -/
namespace Sys2Proof.Machine

/-! ### What the gauge moves -/

/-- `e` is `d` but for what the keeper holds, the gauge's snapshot and what messages change, none of them Grave. -/
def Device.GaugeMoved (d e : Device) : Prop :=
  (∃ priv snap rooms burst faults, e = { d with priv := priv, snap := snap, rooms := rooms, burst := burst, faults := faults }) ∧
    e.faults.graveDue = d.faults.graveDue

theorem Device.GaugeMoved.refl (d : Device) : d.GaugeMoved d := ⟨⟨_, _, _, _, _, rfl⟩, rfl⟩

theorem Device.GaugeMoved.trans {d e t : Device} (h : d.GaugeMoved e) (h' : e.GaugeMoved t) : d.GaugeMoved t := by
  obtain ⟨⟨_, _, _, _, _, rfl⟩, hg⟩ := h
  obtain ⟨⟨_, _, _, _, _, rfl⟩, hg'⟩ := h'
  exact ⟨⟨_, _, _, _, _, rfl⟩, hg'.trans hg⟩

theorem Device.updGauge_moved (d : Device) (f : Gauge → Gauge) : d.GaugeMoved (d.updGauge f) := ⟨⟨_, _, _, _, _, rfl⟩, rfl⟩

theorem Device.raise_gaugeMoved (d : Device) {a b q : Nat} (h : (kindClasses (a % 256) (b % 256) 0).1 ≠ 4) :
    d.GaugeMoved (d.raise (coded a b q)) :=
  ⟨⟨_, _, _, _, _, (d.raise_same _).eq⟩, d.raise_coded_grave a b q h⟩

/-- A branch keeps what both of its sides keep. -/
theorem Device.ite_along {R : Device → Device → Prop} {d x y : Device} {c : Prop} [Decidable c] (hx : R d x) (hy : R d y) :
    R d (if c then x else y) := by
  split
  · exact hx
  · exact hy

theorem Device.sohCheck_moved (d : Device) : d.GaugeMoved d.sohCheck := by
  unfold Device.sohCheck
  exact Device.ite_along ((d.updGauge_moved _).trans (Device.raise_gaugeMoved _ (by decide))) (.refl d)

theorem Device.refit_moved (d : Device) (r : GaugeRec) : d.GaugeMoved (d.refit r) :=
  (d.updGauge_moved _).trans (Device.sohCheck_moved _)

theorem Device.learnRef_moved (d : Device) (fcc learns : Nat) : d.GaugeMoved (d.learnRef fcc learns) :=
  (d.updGauge_moved _).trans (Device.sohCheck_moved _)

theorem Device.gaugeCount_moved (d : Device) : d.GaugeMoved d.gaugeCount := by
  unfold Device.gaugeCount
  dsimp only
  split
  · exact (d.updGauge_moved _).trans (Device.refit_moved _ _)
  · exact d.updGauge_moved _

theorem Device.learnPoint_moved (d : Device) (soc : Nat) : d.GaugeMoved (d.learnPoint soc) := by
  have hraise : ∀ q, d.GaugeMoved (d.raise (coded 0x0B 3 q)) := fun q => d.raise_gaugeMoved (by decide)
  unfold Device.learnPoint
  refine Device.GaugeMoved.trans ?_ (Device.updGauge_moved _ _)
  exact Device.ite_along (Device.ite_along (hraise 1) (Device.ite_along (hraise 2) (Device.ite_along (hraise 3) (d.learnRef_moved _ _))))
    (.refl d)

theorem Device.emptyAnchor_moved (d : Device) : d.GaugeMoved d.emptyAnchor :=
  (d.learnPoint_moved 0).trans (Device.updGauge_moved _ _)

theorem Device.anchorBy_moved (d : Device) {f : Device → Device} (h : ∀ e : Device, e.GaugeMoved (f e)) : d.GaugeMoved (d.anchorBy f) := by
  unfold Device.anchorBy
  exact (d.gaugeCount_moved.trans (h _)).trans
    (Device.when_along (R := Device.GaugeMoved) (.refl _) ⟨⟨_, _, _, _, _, rfl⟩, rfl⟩)

theorem Device.GaugeMoved.frame {d e : Device} (h : d.GaugeMoved e) : e.path = d.path ∧ e.batch = d.batch ∧ e.power = d.power ∧
    e.chg = d.chg ∧ e.gaugeHw = d.gaugeHw ∧ e.cfg = d.cfg ∧ e.rails = d.rails ∧ e.sample = d.sample := by
  obtain ⟨⟨_, _, _, _, _, rfl⟩, -⟩ := h
  exact ⟨rfl, rfl, rfl, rfl, rfl, rfl, rfl, rfl⟩

@[simp] theorem Device.exhaustRelease_frame (d : Device) : d.exhaustRelease.path = d.path ∧ d.exhaustRelease.batch = d.batch ∧
    d.exhaustRelease.power = d.power ∧ d.exhaustRelease.chg = d.chg ∧ d.exhaustRelease.gaugeHw = d.gaugeHw ∧
    d.exhaustRelease.sample = d.sample ∧ d.exhaustRelease.rails = d.rails ∧ d.exhaustRelease.priv.gauge = d.priv.gauge := by
  obtain ⟨_, _, _, _, _, _, h⟩ := d.exhaustRelease_moved
  rw [h]
  exact ⟨rfl, rfl, rfl, rfl, rfl, rfl, rfl, rfl⟩

/-! ### VSYS over-voltage and the rectifier's mode -/

section
variable {d : Device}

theorem Device.kinMode_kin (d : Device) : d.kinMode.kin = { d.kin with
    active := decide (d.kinCause = 0) && !d.path.clampOn,
    gates := if (decide (d.kinCause = 0) && !d.path.clampOn) = true then d.kin.gates else 0 } := rfl

theorem Device.kinMode_active (d : Device) : d.kinMode.kin.active = true ↔ d.kinCause = 0 ∧ d.path.clampOn = false := by
  simp [Device.kinMode_kin]

theorem Device.kinMode_gates (d : Device) :
    d.kinMode.kin.gates = if d.kinCause = 0 ∧ d.path.clampOn = false then d.kin.gates else 0 := by
  simp [Device.kinMode_kin]

@[simp] theorem Device.kinMode_frame (d : Device) :
    d.kinMode.power = d.power ∧ d.kinMode.path = d.path ∧ d.kinMode.faults = d.faults ∧ d.kinMode.rails = d.rails ∧
    d.kinMode.batch = d.batch ∧ d.kinMode.sample = d.sample ∧ d.kinMode.rooms = d.rooms ∧ d.kinMode.priv = d.priv ∧
    d.kinMode.nvm = d.nvm ∧ d.kinMode.wram = d.wram := by
  exact ⟨rfl, rfl, rfl, rfl, rfl, rfl, rfl, rfl, rfl, rfl⟩

theorem Device.vsysOver_idle (h : d.path.vsysOv = true ∨ d.powered = false) : d.vsysOver = d := by
  refine if_pos ?_
  rcases h with h | h
  · simp [h]
  · simp [h]

theorem Device.vsysOver_eq (hov : d.path.vsysOv = false) (hpow : d.powered = true) : d.vsysOver =
    (((d.updPath fun p => { p with vsysOv := true }).kinMode).updFaults fun f =>
      { f with probeMisc := f.probeMisc ||| 4 }).raiseOn 16 (coded 8 3) := by
  simp [Device.vsysOver, hov, hpow]

theorem Device.powered_collecting (h : d.powered = true) : d.collecting = true := by
  rw [Device.collecting_eq]
  exact h

end

theorem exec_vsysOv (s : State) : exec .vsysOv s = s.onDev (·.vsysOver) := rfl

theorem exec_vsysOvClear (s : State) :
    exec .vsysOvClear s = s.onDev fun d => (d.updPath fun p => { p with vsysOv := false }).kinMode := rfl

/-! ### The battery FET -/

@[simp] theorem Device.priUpdate_fet (d : Device) : d.priUpdate.path.fet = d.path.fet ∧ d.priUpdate.path.fetCause = d.path.fetCause ∧
    d.priUpdate.path.ocTimes = d.path.ocTimes ∧ d.priUpdate.path.ocHeld = d.path.ocHeld ∧ d.priUpdate.batch = d.batch := by
  unfold Device.priUpdate
  split
  · split <;> simp
  · split <;> simp

section
variable {d : Device}

theorem Device.fetOpen_shows (d : Device) (cause : Nat) : (d.fetOpen cause).path.fet = .off ∧ (d.fetOpen cause).path.fetCause = cause ∧
    (d.fetOpen cause).path.ocTimes = d.path.ocTimes ∧ (d.fetOpen cause).path.ocHeld = d.path.ocHeld ∧
    (d.fetOpen cause).batch = d.batch ∧ (d.fetOpen cause).faults.graveDue = d.faults.graveDue := by
  have h := (Device.priUpdate_reports (d := d.updPath fun p => { p with
    fet := .off, fetCause := cause, fetReady := p.fetReady && decide (cause = 4) }) (by simp [Device.fetIsOff])).reports.grave
  refine ⟨?_, ?_, ?_, ?_, ?_, h⟩ <;> simp [Device.fetOpen]

/-- The FET's opening for undervoltage. -/
def Device.fetUnder (d : Device) (batMv : Nat) : Device :=
  (((d.fetOpen 2).raise (coded 8 4 (mv10 batMv))).anchorBy (·.emptyAnchor)).exhaustRelease

theorem exec_batfetUvOpen (s : State) (mv : Nat) : exec (.batfetUvOpen mv) s = s.onDev fun d =>
    d.when (d.fetWatched && !d.path.dcValid && decide (mv < 10 * d.fn Fld.pathBatUv)) (·.fetUnder mv) := rfl

theorem exec_batfetOcOpen (s : State) (mv : Nat) : exec (.batfetOcOpen mv) s = s.onDev fun d => d.when d.fetWatched (·.fetOverCurrent) := rfl

theorem exec_batfetClose (s : State) (mv : Nat) : exec (.batfetClose mv) s = s.onClk (·.fetRecovers mv) := rfl

theorem exec_batfetStuck (s : State) (ma : Nat) : exec (.batfetStuck ma) s = s.onDev fun d =>
    d.when (d.isOpen && decide (d.path.fet = .off) && decide (5 < ma)) (·.raise (coded 8 6 (sat 65535 ma))) := rfl

theorem Device.fetUnder_shows (d : Device) (mv : Nat) : (d.fetUnder mv).path.fet = .off ∧ (d.fetUnder mv).path.fetCause = 2 ∧
    (d.fetUnder mv).batch = d.batch ∧ (d.fetUnder mv).faults.graveDue = d.faults.graveDue := by
  obtain ⟨hfet, hcause, -, -, hbatch, hgrave⟩ := d.fetOpen_shows 2
  have hmoved := ((d.fetOpen 2).raise_gaugeMoved (q := mv10 mv) (a := 8) (b := 4) (by decide)).trans
    (Device.anchorBy_moved _ Device.emptyAnchor_moved)
  obtain ⟨hpath', hbatch', -⟩ := hmoved.frame
  unfold Device.fetUnder
  rw [(Device.exhaustRelease_frame _).1, (Device.exhaustRelease_frame _).2.1, (Device.exhaustRelease_reports _).grave]
  exact ⟨hpath' ▸ hfet, hpath' ▸ hcause, hbatch'.trans hbatch, hmoved.2.trans hgrave⟩

theorem Device.fetOverCurrent_shows (d : Device) : d.fetOverCurrent.path.fet = .off ∧ d.fetOverCurrent.path.fetCause = 4 ∧
    d.fetOverCurrent.path.ocTimes = d.path.ocWithin d.now ∧
    d.fetOverCurrent.path.ocHeld = (d.path.ocHeld || decide (3 ≤ (d.path.ocWithin d.now).length)) ∧
    d.fetOverCurrent.batch = d.batch ∧ d.fetOverCurrent.faults.graveDue = d.faults.graveDue := by
  obtain ⟨hfet, hcause, htimes, hheld, hbatch, hgrave⟩ := (d.updPath fun p => { p with
    ocTimes := d.path.ocWithin d.now, ocHeld := p.ocHeld || decide (3 ≤ (d.path.ocWithin d.now).length) }).fetOpen_shows 4
  unfold Device.fetOverCurrent
  rw [(Device.exhaustRelease_frame _).1, (Device.exhaustRelease_frame _).2.1, (Device.exhaustRelease_reports _).grave,
    Device.raiseOn_coded_grave _ 14 8 5 _ (by decide), Device.raiseOn_path, Device.raiseOn_batch]
  exact ⟨hfet, hcause, htimes, hheld, hbatch, hgrave⟩

theorem Device.fetRecovers_idle (mv : Nat) (h : d.powered = false ∨ d.path.fet ≠ .off ∨ mv < 10 * d.fn Fld.pathBatRecover) :
    d.fetRecovers mv = d := by
  refine if_neg ?_
  rcases h with h | h | h
  · simp [h]
  · simp [h]
  · simp [h]

theorem Device.fetRecovers_eq (mv : Nat) (hpow : d.powered = true) (hfet : d.path.fet = .off) (hmv : 10 * d.fn Fld.pathBatRecover ≤ mv) :
    d.fetRecovers mv =
      if (d.updPath fun p => { p with fetReady := true }).fetMayClose d.batch.nextEdge = true then
        (d.updPath fun p => { p with fetReady := true }).batchEdge { d.sample with batMv := mv } .full (StartSense.plain d)
      else d.updPath fun p => { p with fetReady := true } := by
  unfold Device.fetRecovers
  rw [if_pos (by simp [hpow, hfet, hmv])]
  rfl

end

/-- Settles O41: each row by the conditions it asks for. -/
theorem batteryFetOpensAndCloses : Obligations.BatteryFetOpensAndCloses := by
  unfold Obligations.BatteryFetOpensAndCloses
  simp only [exec_vsysOv, exec_vsysOvClear, exec_batfetUvOpen, exec_batfetOcOpen, exec_batfetClose, exec_batfetStuck, exec_batchEdge]
  intro s hcalm
  refine ⟨fun hno => ?_, fun hov hpow => ?_, ?_, fun mv hwatched hdock hlow => ?_, fun mv hno => ?_, fun mv hwatched => ?_,
    fun mv hwatched => ?_, fun mv hpow hfet hmv => ⟨fun hmay => ?_, fun hmay => ?_⟩, fun mv hno => ?_, fun ma hopen hfet hma => ?_,
    fun ma hno => ?_⟩
  · exact State.onDev_same hcalm (Device.vsysOver_idle hno)
  · have hgrave := Device.raiseOn_coded_grave (((s.dev.updPath fun p => { p with vsysOv := true }).kinMode).updFaults fun f =>
      { f with probeMisc := f.probeMisc ||| 4 }) 16 8 3 0 (by decide)
    refine ⟨_, State.onDev_put (Device.vsysOver_eq hov hpow) (hgrave.trans hcalm) ?_, ?_, ?_, fun hcut hroom => ?_⟩
    · simp [Device.raiseOn_batch]
    · simp [State.put, Device.raiseOn_path]
    · simp [State.put, Device.raiseOn_path]
    · exact Device.raiseOn_coded_said _ 16 8 3 0 hcut (Device.powered_collecting hpow) (by decide) hroom
  · exact ⟨_, State.onDev_put rfl hcalm rfl, rfl, rfl, rfl⟩
  · obtain ⟨hfet, hcause, hbatch, hgrave⟩ := s.dev.fetUnder_shows mv
    refine ⟨_, State.onDev_put (Device.when_true _ ?_) (hgrave.trans hcalm) hbatch, hfet, hcause⟩
    simp [hwatched, hdock, hlow]
  · refine State.onDev_same hcalm (Device.when_false _ ?_)
    rcases hno with h | h | h
    · simp [h]
    · simp [h]
    · simp [h]
  · obtain ⟨hfet, hcause, htimes, hheld, hbatch, hgrave⟩ := s.dev.fetOverCurrent_shows
    refine ⟨_, State.onDev_put (Device.when_true _ hwatched) (hgrave.trans hcalm) hbatch, hfet, hcause, htimes, ?_⟩
    rw [State.put, hheld]
    simp
  · exact State.onDev_same hcalm (Device.when_false _ hwatched)
  · refine State.onClk_put ((Device.fetRecovers_eq mv hpow hfet hmv).trans (if_neg ?_)) hcalm le_rfl
    simpa [Device.updPath] using hmay
  · refine (State.onClk_of_eq ((Device.fetRecovers_eq mv hpow hfet hmv).trans (if_pos ?_))).trans ?_
    · simpa [Device.updPath] using hmay
    · rfl
  · exact State.onClk_same hcalm (Device.fetRecovers_idle mv hno)
  · exact State.onDev_of_eq (Device.when_true _ (by simp [hopen, hfet, hma]))
  · refine State.onDev_same hcalm (Device.when_false _ ?_)
    rcases hno with h | h | h
    · simp [h]
    · simp [h]
    · simp [Nat.not_lt.2 h]

/-! ### The rectifier's conditions -/

theorem exec_kineticClamp (s : State) :
    exec .kineticClamp s = s.onDev fun d => (d.updPath fun p => { p with clamp := true }).kinMode := rfl

theorem exec_kineticClampRelease (s : State) :
    exec .kineticClampRelease s = s.onDev fun d => (d.updPath fun p => { p with clamp := false }).kinMode := rfl

theorem exec_vsysCeilingCrossing (s : State) : exec .vsysCeilingCrossing s =
    s.onDev fun d => d.when d.powered fun d => (d.updKin fun k => { k with ceiling := !k.ceiling }).kinMode := rfl

theorem exec_reverseCurrentCut (s : State) (g : Fin 6) : exec (.reverseCurrentCut g) s =
    s.onDev fun d => d.when (d.kin.gates.getLsbD g.val) (·.updKin fun k => { k with
      gates := gateOff k.gates g.val, cuts := sat 0xFFFFFFFF (k.cuts + 1) }) := rfl

section
variable {d : Device}

theorem Device.kinMode_clamped (h : d.path.clampOn = true) : d.kinMode = d.updKin fun k => { k with active := false, gates := 0 } := by
  simp [Device.kinMode, h]

/-- Above the ceiling the rectifier is never active (R475). -/
theorem Device.kinCause_ceiling (h : d.kin.ceiling = true) : d.kinCause ≠ 0 := by
  unfold Device.kinCause
  simp only [h, if_true]
  split_ifs <;> omega

@[simp] theorem Device.kinCause_updPath (f : Path → Path) : (d.updPath f).kinCause = d.kinCause := rfl

theorem gateOff_getLsbD (gates : BitVec 6) (g h : Fin 6) :
    (gateOff gates g.val).getLsbD h.val = (gates.getLsbD h.val && decide (h ≠ g)) := by
  simp [gateOff, Fin.ext_iff]

end

/-- Settles O44: each row by the equation of the rectifier's mode. -/
theorem clampCeilingAndCutsActOnGates : Obligations.ClampCeilingAndCutsActOnGates := by
  unfold Obligations.ClampCeilingAndCutsActOnGates
  simp only [exec_kineticClamp, exec_kineticClampRelease, exec_vsysCeilingCrossing, exec_reverseCurrentCut]
  intro s hcalm
  refine ⟨?_, ?_, fun hoff => ?_, fun hpow => ?_, fun g => ⟨fun hgate => ?_, fun hgate => ?_⟩⟩
  · exact State.onDev_put (Device.kinMode_clamped rfl) hcalm rfl
  · refine ⟨_, State.onDev_put rfl hcalm rfl, rfl, rfl, ?_, ?_, rfl, rfl⟩
    · exact Device.kinMode_active _
    · exact Device.kinMode_gates _
  · exact State.onDev_same hcalm (Device.when_false _ hoff)
  · refine ⟨_, State.onDev_put (Device.when_true _ hpow) hcalm rfl, rfl, fun hbelow => ?_, rfl, rfl, rfl⟩
    have hcause := Device.kinCause_ceiling (d := s.dev.updKin fun k => { k with ceiling := !k.ceiling }) (by simp [hbelow])
    simp [State.put, Device.kinMode_kin, hcause]
  · exact State.onDev_same hcalm (Device.when_false _ hgate)
  · exact ⟨_, State.onDev_put (Device.when_true _ hgate) hcalm rfl, fun h => gateOff_getLsbD _ g h, rfl, rfl, rfl⟩

end Sys2Proof.Machine

/-! PROOFS. The primary reserve and its pulses (R438, R439, R453), PV and the reservoir (R430, R431, R441 to R445). -/
namespace Sys2Proof.Machine

theorem exec_priLow (s : State) (mv : Nat) : exec (.priLow mv) s = s.onDev (·.priFails mv) := rfl

theorem exec_passivationPulseDue (s : State) (mv : Nat) : exec (.passivationPulseDue mv) s = s.onClk (·.pulseComes mv) := rfl

theorem exec_priPulseEnd (s : State) (mv : Nat) : exec (.priPulseEnd mv) s = s.onClk (·.pulseEnds mv) := rfl

section
variable {d : Device} {mv : Nat}

theorem Device.priFails_idle (h : d.path.priInUse = false ∨ 10 * d.fn Fld.priVmin ≤ mv) : d.priFails mv = d := by
  refine if_neg ?_
  rcases h with h | h
  · simp [h]
  · simp [Nat.not_lt.2 h]

/-- The reserve's use has ended, with its input as sampled. -/
def Device.priFailed (d : Device) (mv : Nat) : Device :=
  { d with sample := { d.sample with priMv := mv }, path := { d.path with priInUse := false } }

theorem Device.priFails_eq (huse : d.path.priInUse = true) (hlow : mv < 10 * d.fn Fld.priVmin) : d.priFails mv =
    ((d.priFailed mv).raise (coded 8 8 (mv10 mv))).exhaustRelease :=
  if_pos ⟨huse, hlow⟩

theorem Device.isOpen_iff : d.isOpen = true ↔ d.power.phase = .open := by
  simp [Device.isOpen]

theorem Device.isOpen_powered (h : d.isOpen = true) : d.powered = true := by
  rw [Device.isOpen_iff] at h
  simp [Device.powered, Phase.silent, h]

/-- The effect of a pulse that falls due. -/
def Device.pulseFalls (d : Device) (mv : Nat) (rep : Option (Nat × Nat)) : Device :=
  if d.fn Fld.priPresent = 0 then d
  else if d.isOpen = false then d.updPath fun p => { p with pulseDue := true }
  else if d.pulseFree then
    match rep with
    | some (ma, ms) => d.pulseBegin none mv ma ms true
    | none => d.pulsePlain mv
  else d.updPath fun p => { p with
    repeatAt := if rep.isSome then none else p.repeatAt,
    pulseAt := if rep.isSome then p.pulseAt else p.pulseAt + 3600000000 * d.fn Fld.priPulseH }

theorem Device.pulseComes_plain (hopen : d.isOpen = true) (hrep : d.path.repeatAt = none) (hperiod : d.fn Fld.priPulseH ≠ 0) :
    d.pulseComes mv = d.dueAt d.path.pulseAt (·.pulseFalls mv none) := by
  unfold Device.pulseComes
  simp only [Device.isOpen_powered hopen, hrep]
  exact Device.when_true _ (by simpa using hperiod)

theorem Device.pulseComes_repeat {t ma ms : Nat} (hopen : d.isOpen = true) (hrep : d.path.repeatAt = some (t, ma, ms)) :
    d.pulseComes mv = d.dueAt t (·.pulseFalls mv (some (ma, ms))) := by
  unfold Device.pulseComes
  simp only [Device.isOpen_powered hopen, hrep]
  rfl

theorem Device.pulseFree_present (h : d.pulseFree = true) : d.fn Fld.priPresent = 1 := by
  simp only [Device.pulseFree, Bool.and_eq_true, decide_eq_true_eq] at h
  exact h.1.1

theorem Device.pulseFalls_free {rep : Option (Nat × Nat)} (hopen : d.isOpen = true) (hfree : d.pulseFree = true) : d.pulseFalls mv rep =
    match rep with
    | some (ma, ms) => d.pulseBegin none mv ma ms true
    | none => d.pulsePlain mv := by
  unfold Device.pulseFalls
  rw [if_neg (by simp [Device.pulseFree_present hfree]), if_neg (by simp [hopen]), if_pos hfree]

/-- A scheduled pulse that falls due while the reserve is taken is passed over. -/
theorem Device.pulseFalls_passed (hopen : d.isOpen = true) (hpresent : d.fn Fld.priPresent = 1) (hfree : d.pulseFree = false) :
    d.pulseFalls mv none = d.updPath fun p => { p with pulseAt := p.pulseAt + 3600000000 * d.fn Fld.priPulseH } := by
  unfold Device.pulseFalls
  rw [if_neg (by simp [hpresent]), if_neg (by simp [hopen]), if_neg (by simp [hfree])]
  simp

@[simp] theorem Device.moveTo_isOpen (d : Device) (t : Nat) : (d.moveTo t).isOpen = d.isOpen := rfl

@[simp] theorem Device.moveTo_pulseFree (d : Device) (t : Nat) : (d.moveTo t).pulseFree = d.pulseFree := rfl

theorem Device.pulseEnds_none (h : d.path.pulse = none) : d.pulseEnds mv = d := by
  simp only [Device.pulseEnds, h]

theorem Device.pulseEnds_some {p : Pulse} (h : d.path.pulse = some p) :
    d.pulseEnds mv = d.dueAt (p.start + 1000 * p.ms) (·.pulseFinish p mv) := by
  simp only [Device.pulseEnds, h]

/-- The loaded sample of a pulse that ends. -/
def Device.pulseSampled (d : Device) (p : Pulse) (mv : Nat) : Device :=
  (d.updPath fun q => { q with
    pulse := none, priLoad := mv,
    repeatAt := if decide (mv < 10 * d.fn Fld.priPassMv) && !p.rep then some (d.now + 60000000, p.ma, p.ms) else none }).when
    (decide (mv < 10 * d.fn Fld.priPassMv)) (·.raise (coded 8 9 (mv / 10)))

theorem Device.pulseFinish_eq (p : Pulse) : d.pulseFinish p mv = match p.req with
    | some id => (d.pulseSampled p mv).complete id stOk
        (leBytes 2 p.before ++ leBytes 2 mv ++ leBytes 1 (b2n (decide (mv < 10 * d.fn Fld.priPassMv))))
    | none => d.pulseSampled p mv := rfl

theorem Device.pulseFinish_shows (d : Device) (p : Pulse) (mv : Nat) : (d.pulseFinish p mv).batch = d.batch ∧
    (d.pulseFinish p mv).faults.graveDue = d.faults.graveDue ∧ (d.pulseFinish p mv).path.pulse = none ∧
    (d.pulseFinish p mv).path.priLoad = mv ∧
    (d.pulseFinish p mv).path.repeatAt = (if mv < 10 * d.fn Fld.priPassMv ∧ p.rep = false
      then some (d.now + 60000000, p.ma, p.ms) else none) ∧
    (∀ id, p.req = some id → (d.pulseFinish p mv).findRec id = none) := by
  have hsampled : (d.pulseSampled p mv).batch = d.batch ∧ (d.pulseSampled p mv).faults.graveDue = d.faults.graveDue ∧
      (d.pulseSampled p mv).path.pulse = none ∧ (d.pulseSampled p mv).path.priLoad = mv ∧
      (d.pulseSampled p mv).path.repeatAt = (if mv < 10 * d.fn Fld.priPassMv ∧ p.rep = false
        then some (d.now + 60000000, p.ma, p.ms) else none) := by
    unfold Device.pulseSampled Device.when
    split
    · simp [Device.raise_coded_grave _ 8 9 _ (by decide)]
    · simp
  rw [Device.pulseFinish_eq]
  split
  · rename_i id hid
    refine ⟨?_, ?_, ?_, ?_, ?_, fun id' hid' => ?_⟩
    · simpa using hsampled.1
    · simpa using hsampled.2.1
    · simpa using hsampled.2.2.1
    · simpa using hsampled.2.2.2.1
    · simpa using hsampled.2.2.2.2
    · obtain rfl : id = id' := Option.some.inj (hid.symm.trans hid')
      exact Device.findRec_complete ..
  · rename_i hid
    obtain ⟨h1, h2, h3, h4, h5⟩ := hsampled
    exact ⟨h1, h2, h3, h4, h5, fun id hid' => absurd (hid.symm.trans hid') nofun⟩

end

/-- Settles O42: each row by what is due. -/
theorem primaryReservePulses : Obligations.PrimaryReservePulses := by
  unfold Obligations.PrimaryReservePulses
  simp only [exec_priLow, exec_passivationPulseDue, exec_priPulseEnd]
  intro s mv hcalm
  refine ⟨fun hno => ?_, fun huse hlow => ?_, fun hopen hfree hrep hperiod hmeets at_ hat => ?_,
    fun hopen hpresent hfree hrep hperiod hmeets => ?_, fun t0 ma ms hopen hfree hrep hmeets => ?_, fun hnone => ?_,
    fun p at_ hp hmeets hat => ?_⟩
  · exact State.onDev_same hcalm (Device.priFails_idle hno)
  · have hraised := (s.dev.priFailed mv).raise_reports (a := 8) (b := 8) (q := mv10 mv) (by decide)
    have hreports := ((s.dev.priFailed mv).raise (coded 8 8 (mv10 mv))).exhaustRelease_reports
    have hfaults : (s.dev.priFailed mv).faults = s.dev.faults := rfl
    refine ⟨_, State.onDev_put (Device.priFails_eq huse hlow) (hreports.calm (hraised.calm hcalm)) ?_, ?_, ?_, fun hcoll hfifo => ?_⟩
    · simp [Device.priFailed]
    · simp [State.put, Device.priFailed]
    · simp [State.put, Device.priFailed]
    · refine hreports.said ?_ (Device.raise_coded_said _ 8 8 _ hcoll (by decide) ?_)
      · have hroom := hraised.room
        rw [hfaults] at hroom
        omega
      · exact Nat.lt_trans hfifo (by decide)
  · subst hat
    have hfalls : (s.dev.moveTo s.dev.path.pulseAt).pulseFalls mv none = _ := Device.pulseFalls_free (by simpa using hopen) (by simpa using hfree)
    rw [State.onClk_meets hmeets (Device.pulseComes_plain hopen hrep hperiod)]
    · rw [hfalls, ← Device.moveTo_time hmeets.1]
      rfl
    · rw [hfalls]; exact hcalm
    · rw [hfalls]; rfl
  · have hfalls : (s.dev.moveTo s.dev.path.pulseAt).pulseFalls mv none = _ :=
      Device.pulseFalls_passed (by simpa using hopen) (by simpa using hpresent) (by simpa using hfree)
    rw [State.onClk_meets hmeets (Device.pulseComes_plain hopen hrep hperiod)]
    · rw [hfalls]
      rfl
    · rw [hfalls]; exact hcalm
    · rw [hfalls]; rfl
  · have hfalls : (s.dev.moveTo t0).pulseFalls mv (some (ma, ms)) = _ := Device.pulseFalls_free (by simpa using hopen) (by simpa using hfree)
    refine ⟨_, State.onClk_meets hmeets (Device.pulseComes_repeat hopen hrep) ?_ ?_, ?_, ?_⟩
    · rw [hfalls]; exact hcalm
    · rw [hfalls]; rfl
    · rw [State.put, hfalls]; rfl
    · rw [State.put, hfalls, ← Device.moveTo_time hmeets.1]; rfl
  · exact State.onClk_same hcalm (Device.pulseEnds_none hnone)
  · obtain ⟨hbatch, hgrave, hpulse, hload, hrepeat, hdone⟩ := (s.dev.moveTo (p.start + 1000 * p.ms)).pulseFinish_shows p mv
    have hnow : (s.dev.moveTo (p.start + 1000 * p.ms)).now = at_ := (Device.moveTo_time hmeets.1).trans hat.symm
    refine ⟨_, State.onClk_meets hmeets (Device.pulseEnds_some hp) (hgrave.trans hcalm) hbatch, ?_, hpulse, hload, ?_, hdone⟩
    · simpa [State.put, Device.now, hbatch] using hnow
    · rw [State.put, hrepeat, hnow]
      rfl

/-! ### PV and the reservoir -/

/-- The effect of an open-circuit sample. -/
def Device.pvSampled (d : Device) (voc : Nat) : Device :=
  (d.updPath fun p => { p with pvVoc := voc, pvAt := d.now - 4000 + 1000000 * d.fn Fld.pvSampleS }).pvRegulate

theorem exec_pvFocvSample (s : State) (v : Nat) : exec (.pvFocvSample v) s =
    s.onClk fun d => d.when (d.powered && decide (d.fn Fld.pvPresent = 1) && decide (d.pvInForce.1 = .focv)) fun d =>
      d.dueAt (d.path.pvAt + 4000) (·.pvSampled v) := rfl

theorem exec_pvColdStart (s : State) : exec .pvColdStart s =
    s.onDev fun d => d.when (decide (d.power.phase = .por)) (·.updPath fun p => { p with pvCold := true }) := rfl

theorem exec_resImbal (s : State) (q : Half) : exec (.resImbal q) s =
    s.onDev fun d => d.when (d.resWatched && !d.path.resImbal &&
      d.showsOpen (d.resOff (10 * q.toNat) || d.resOff (10 * q.toNat + 9))) fun d =>
      (d.updPath fun p => { p with resImbal := true, resCharging := false }).raiseOn 18 (coded 8 10 q.toNat) := rfl

/-- The reservoir's over-voltage as it is reported. -/
def Device.resOver (d : Device) : Device :=
  ((d.updPath fun p => { p with resOv := true, resCharging := false }).updFaults fun f =>
    { f with probeMisc := f.probeMisc ||| 16 }).raiseOn 18 (coded 8 11)

theorem exec_resOv (s : State) : exec .resOv s = s.onDev fun d => d.when (d.resWatched && !d.path.resOv) (·.resOver) := rfl

theorem exec_resOvClear (s : State) : exec .resOvClear s =
    s.onDev fun d => d.when d.path.resOv fun d => (d.updPath fun p => { p with resOv := false }).resResume := rfl

theorem exec_resImbalClear (s : State) : exec .resImbalClear s =
    s.onDev fun d => d.when (d.path.resImbal && d.showsOpen (!d.resOff d.sample.capmMv)) fun d =>
      (d.updPath fun p => { p with resImbal := false }).resResume := rfl

theorem exec_reservoirChargeStart (s : State) : exec .reservoirChargeStart s =
    s.onDev fun d => d.when (d.resMayCharge && decide (d.resTarget ≠ 0)) (·.updPath fun p => { p with resCharging := true }) := rfl

theorem exec_reservoirChargeStop (s : State) :
    exec .reservoirChargeStop s = s.onDev (·.updPath fun p => { p with resCharging := false }) := rfl

section
variable {d : Device}

/-- Under FOCV the regulation point follows the open-circuit voltage. -/
theorem Device.pvRegulate_focv (h : d.pvInForce.1 = .focv) :
    d.pvRegulate = d.updPath fun p => { p with pvReg := quot 52 (d.pvInForce.2.1 * p.pvVoc) 100 } := by
  unfold Device.pvRegulate
  rcases hforce : d.pvInForce with ⟨m, k, v⟩
  rw [hforce] at h
  simp only at h
  subst h
  rfl

@[simp] theorem Device.pvInForce_updPath (f : Path → Path) : (d.updPath f).pvInForce = d.pvInForce := rfl

@[simp] theorem Device.pvInForce_moveTo (t : Nat) : (d.moveTo t).pvInForce = d.pvInForce := rfl

theorem Device.pvSampled_eq (v : Nat) (h : d.pvInForce.1 = .focv) : d.pvSampled v = d.updPath fun p =>
    { p with pvVoc := v, pvAt := d.now - 4000 + 1000000 * d.fn Fld.pvSampleS, pvReg := quot 52 (d.pvInForce.2.1 * v) 100 } := by
  unfold Device.pvSampled
  rw [Device.pvRegulate_focv (by simpa using h)]
  rfl

theorem Device.resWatched_collecting (h : d.resWatched = true) : d.collecting = true := by
  simp only [Device.resWatched, Bool.and_eq_true] at h
  exact Device.powered_collecting h.1

/-- Where the charger may not run it stays as it was. -/
theorem Device.resResume_stopped (h : d.resMayCharge = false) : d.resResume = d :=
  Device.when_false _ (by simp [h])

@[simp] theorem Device.resResume_frame (d : Device) : d.resResume.path.resOv = d.path.resOv ∧ d.resResume.path.resImbal = d.path.resImbal ∧
    d.resResume.faults = d.faults ∧ d.resResume.batch = d.batch := by
  unfold Device.resResume
  refine ⟨?_, ?_, ?_, ?_⟩
  · exact Device.when_keeps (·.path.resOv) rfl
  · exact Device.when_keeps (·.path.resImbal) rfl
  · exact Device.when_keeps (·.faults) rfl
  · exact Device.when_keeps (·.batch) rfl

theorem Device.resMayCharge_ov (h : d.path.resOv = true) : d.resMayCharge = false := by
  simp [Device.resMayCharge, h]

theorem Device.resMayCharge_imbal (h : d.path.resImbal = true) : d.resMayCharge = false := by
  simp [Device.resMayCharge, h]

end

/-- Settles O43: each row by the conditions it asks for. -/
theorem pvAndReservoir : Obligations.PvAndReservoir := by
  unfold Obligations.PvAndReservoir
  simp only [exec_pvFocvSample, exec_pvColdStart, exec_resImbal, exec_resOv, exec_resOvClear, exec_resImbalClear,
    exec_reservoirChargeStart, exec_reservoirChargeStop]
  intro s hcalm
  refine ⟨fun v hpow hpresent hmode hmeets => ?_, fun v hno => ?_, fun hpor => ?_, fun hpor => ?_, fun q hno => ?_,
    fun q hwatched hnew hshows => ?_, fun hno => ?_, fun hwatched hnew => ?_, fun hno => ?_, fun hov => ?_, fun hno => ?_,
    fun himbal hshows => ?_, fun hmay htarget => ?_, fun hno => ?_, ?_⟩
  · have hdue : (s.dev.when (s.dev.powered && decide (s.dev.fn Fld.pvPresent = 1) && decide (s.dev.pvInForce.1 = .focv)) fun d =>
        d.dueAt (d.path.pvAt + 4000) (·.pvSampled v)) = s.dev.dueAt (s.dev.path.pvAt + 4000) (·.pvSampled v) :=
      Device.when_true _ (by simp [hpow, hpresent, hmode])
    have hsampled : (s.dev.moveTo (s.dev.path.pvAt + 4000)).pvSampled v = _ := Device.pvSampled_eq v (by simpa using hmode)
    have hnow := Device.moveTo_time (t := s.dev.path.pvAt + 4000) hmeets.1
    refine ⟨_, State.onClk_meets hmeets hdue (by rw [hsampled]; exact hcalm) (by rw [hsampled]; rfl), ?_⟩
    rw [State.put, hsampled]
    refine ⟨hnow, rfl, rfl, ?_, rfl⟩
    show (s.dev.moveTo (s.dev.path.pvAt + 4000)).now - 4000 + 1000000 * s.dev.fn Fld.pvSampleS + 4000 =
      (s.dev.moveTo (s.dev.path.pvAt + 4000)).now + 1000000 * s.dev.fn Fld.pvSampleS
    rw [hnow]
    omega
  · refine State.onClk_same hcalm (Device.when_false _ ?_)
    rcases hno with h | h | h
    · simp [h]
    · simp [h]
    · simp [h]
  · exact State.onDev_put (Device.when_true _ (by simpa using hpor)) hcalm rfl
  · exact State.onDev_same hcalm (Device.when_false _ (by simpa using hpor))
  · refine State.onDev_same hcalm (Device.when_false _ ?_)
    rcases hno with h | h | h
    · simp [h]
    · simp [h]
    · simp only [h, Bool.and_false]
  · have hgrave := Device.raiseOn_coded_grave (s.dev.updPath fun p => { p with resImbal := true, resCharging := false }) 18 8 10 q.toNat
      (by decide)
    refine ⟨_, State.onDev_put (Device.when_true _ ?_) (hgrave.trans hcalm) ?_, ?_, ?_, fun hcut hroom => ?_⟩
    · simp only [hwatched, hnew, hshows, Bool.not_false, Bool.and_self]
    · exact Device.raiseOn_batch _ _
    · simp [State.put, Device.raiseOn_path]
    · simp [State.put, Device.raiseOn_path]
    · exact Device.raiseOn_coded_said _ 18 8 10 _ hcut (Device.resWatched_collecting hwatched) (by decide) hroom
  · refine State.onDev_same hcalm (Device.when_false _ ?_)
    rcases hno with h | h
    · simp [h]
    · simp [h]
  · have hgrave := Device.raiseOn_coded_grave ((s.dev.updPath fun p => { p with resOv := true, resCharging := false }).updFaults fun f =>
      { f with probeMisc := f.probeMisc ||| 16 }) 18 8 11 0 (by decide)
    refine ⟨_, State.onDev_put (Device.when_true _ ?_) (hgrave.trans hcalm) ?_, ?_, ?_, fun hcut hroom => ?_⟩
    · simp [hwatched, hnew]
    · exact Device.raiseOn_batch _ _
    · simp [State.put, Device.resOver, Device.raiseOn_path]
    · simp [State.put, Device.resOver, Device.raiseOn_path]
    · exact Device.raiseOn_coded_said _ 18 8 11 0 hcut (Device.resWatched_collecting hwatched) (by decide) hroom
  · exact State.onDev_same hcalm (Device.when_false _ hno)
  · refine ⟨_, State.onDev_put (Device.when_true _ hov) ?_ ?_, ?_, fun himbal => ?_⟩
    · simpa [Device.Calm] using hcalm
    · simp
    · simp [State.put]
    · rw [State.put, Device.resResume_stopped (Device.resMayCharge_imbal (by simpa using himbal))]
      rfl
  · refine State.onDev_same hcalm (Device.when_false _ ?_)
    rcases hno with h | h
    · simp [h]
    · simp only [h, Bool.and_false]
  · refine ⟨_, State.onDev_put (Device.when_true _ ?_) ?_ ?_, ?_, fun hov => ?_⟩
    · simp only [himbal, hshows, Bool.and_self]
    · simpa [Device.Calm] using hcalm
    · simp
    · simp [State.put]
    · rw [State.put, Device.resResume_stopped (Device.resMayCharge_ov (by simpa using hov))]
      rfl
  · exact State.onDev_put (Device.when_true _ (by simp [hmay, htarget])) hcalm rfl
  · refine State.onDev_same hcalm (Device.when_false _ ?_)
    rcases hno with h | h
    · simp [h]
    · simp [h]
  · exact State.onDev_put rfl hcalm rfl

end Sys2Proof.Machine

/-! PROOFS. A rail's own events: power-good, failed proofing, sag, trips (R354 to R373). -/
namespace Sys2Proof.Machine

/-! ### What follows a trip: the burst on PA, the angle engine's sensors (R466, R574) -/

/-- `e` is `d` but for the angle engine, `BGNT`, the burst hardware, the duty cycle of `TWPWR` and what messages change, none of them
Grave. -/
def Device.TripFollowed (d e : Device) : Prop :=
  (∃ kin rooms burst faults bgnt duty, e = { d with
      kin := kin, rooms := rooms, burst := burst, faults := faults, pins := { d.pins with bgnt := bgnt },
      rails := { d.rails with twDuty := duty } }) ∧
    e.faults.graveDue = d.faults.graveDue

theorem Device.TripFollowed.refl (d : Device) : d.TripFollowed d := ⟨⟨_, _, _, _, _, _, rfl⟩, rfl⟩

theorem Device.TripFollowed.trans {d e t : Device} (h : d.TripFollowed e) (h' : e.TripFollowed t) : d.TripFollowed t := by
  obtain ⟨⟨_, _, _, _, _, _, rfl⟩, hg⟩ := h
  obtain ⟨⟨_, _, _, _, _, _, rfl⟩, hg'⟩ := h'
  exact ⟨⟨_, _, _, _, _, _, rfl⟩, hg'.trans hg⟩

theorem Device.TripFollowed.frame {d e : Device} (h : d.TripFollowed e) : e.rails.rails = d.rails.rails ∧ e.batch = d.batch ∧
    e.power = d.power ∧ e.nvm = d.nvm ∧ e.priv = d.priv ∧ e.rcp = d.rcp ∧ e.sample = d.sample ∧ e.path = d.path := by
  obtain ⟨⟨_, _, _, _, _, _, rfl⟩, -⟩ := h
  exact ⟨rfl, rfl, rfl, rfl, rfl, rfl, rfl, rfl⟩

theorem Device.raise_followed (d : Device) {a b q : Nat} (h : (kindClasses (a % 256) (b % 256) 0).1 ≠ 4) :
    d.TripFollowed (d.raise (coded a b q)) := by
  refine ⟨⟨_, _, _, _, _, _, (d.raise_same _).eq⟩, d.raise_coded_grave a b q h⟩

theorem Device.raiseOn_followed (d : Device) (p : Fin 24) {a b q : Nat} (h : (kindClasses (a % 256) (b % 256) 0).1 ≠ 4) :
    d.TripFollowed (d.raiseOn p (coded a b q)) :=
  ⟨⟨_, _, _, _, _, _, (d.raiseOn_same _ _).eq⟩, d.raiseOn_coded_grave p a b q h⟩

theorem Device.updKin_followed (d : Device) (f : Kinetic → Kinetic) : d.TripFollowed (d.updKin f) := ⟨⟨_, _, _, _, _, _, rfl⟩, rfl⟩

theorem Device.updBurst_followed (d : Device) (f : BurstHw → BurstHw) : d.TripFollowed (d.updBurst f) := ⟨⟨_, _, _, _, _, _, rfl⟩, rfl⟩

theorem Device.burstPaFail_followed (d : Device) : d.TripFollowed d.burstPaFail := by
  unfold Device.burstPaFail
  split
  · exact .refl d
  · refine Device.TripFollowed.trans ?_ (Device.raise_followed _ (by decide))
    refine Device.TripFollowed.trans ?_ (Device.when_along (R := Device.TripFollowed) (.refl _) (Device.updBurst_followed _ _))
    exact ⟨⟨_, _, _, _, _, _, rfl⟩, rfl⟩

theorem Device.burstPaFail_reports (d : Device) : Device.Reports 1 d d.burstPaFail := by
  unfold Device.burstPaFail
  split
  · exact .of_faults rfl
  · refine .after ?_ (Device.raise_reports _ (by decide))
    exact Device.when_keeps Device.faults rfl

theorem Device.kinSpeed_followed (d : Device) : d.TripFollowed d.kinSpeed := by
  unfold Device.kinSpeed
  split
  · exact d.updKin_followed _
  · exact (d.updKin_followed _).trans
      (Device.when_along (R := Device.TripFollowed) (.refl _) (Device.raise_followed _ (by decide)))

theorem Device.kinSpeed_reports (d : Device) : Device.Reports 1 d d.kinSpeed := by
  unfold Device.kinSpeed
  split
  · exact .of_faults rfl
  · refine .after ?_ (Device.when_along (R := Device.Reports 1) (.of_faults rfl) (Device.raise_reports _ (by decide)))
    rfl

theorem Device.kinMode_followed (d : Device) : d.TripFollowed d.kinMode := ⟨⟨_, _, _, _, _, _, rfl⟩, rfl⟩

theorem Device.kinMode_reports (d : Device) : Device.Reports 0 d d.kinMode := .of_faults rfl

theorem Device.syncLost_followed (d : Device) (cause : Nat) : d.TripFollowed (d.syncLost cause) := by
  unfold Device.syncLost
  exact Device.ite_along (((d.updKin_followed _).trans (Device.raise_followed _ (by decide))).trans
    ((Device.kinSpeed_followed _).trans (Device.kinMode_followed _))) (.refl d)

theorem Device.syncLost_reports (d : Device) (cause : Nat) : Device.Reports 2 d (d.syncLost cause) := by
  unfold Device.syncLost
  split
  · refine .after ?_ (((Device.raise_reports _ ?_).trans (Device.kinSpeed_reports _)).trans (Device.kinMode_reports _))
    · rfl
    · decide
  · exact .of_faults rfl

theorem Device.ldo6Left_followed (d : Device) : d.TripFollowed d.ldo6Left := by
  unfold Device.ldo6Left
  refine Device.TripFollowed.trans ?_ (Device.kinMode_followed _)
  refine Device.TripFollowed.trans ?_ (Device.when_along (R := Device.TripFollowed) (.refl _) (Device.raise_followed _ (by decide)))
  exact (d.syncLost_followed 3).trans ⟨⟨_, _, _, _, _, _, rfl⟩, rfl⟩

theorem Device.ldo6Left_reports (d : Device) : Device.Reports 3 d d.ldo6Left := by
  unfold Device.ldo6Left
  refine Device.Reports.trans (l := 0) (Device.Reports.trans (d.syncLost_reports 3) (.after ?_
    (Device.when_along (R := Device.Reports 1) (.of_faults rfl) (Device.raise_reports _ ?_)))) (Device.kinMode_reports _)
  · rfl
  · decide

theorem Device.afterTrip_followed (d : Device) (r : RailId) : d.TripFollowed (d.afterTrip r) :=
  Device.when_along (R := Device.TripFollowed) (.refl d) d.ldo6Left_followed

theorem Device.afterTrip_reports (d : Device) (r : RailId) : Device.Reports 3 d (d.afterTrip r) :=
  Device.when_along (R := Device.Reports 3) (.of_faults rfl) d.ldo6Left_reports

/-! ### One rail's trip (R370) -/

/-- What a trip makes of the rail. -/
def Device.tripHw (d : Device) (r : RailId) (code : Nat) (hot : Bool) : RailHw :=
  let h := d.rails.rails.get r
  let gone := decide (h.ladder + 1 > d.fn Fld.railRetries r.val)
  { h with
    st := if gone then .held else .tripped, ladder := sat 15 (h.ladder + 1), lastTrip := code,
    retryAt := if gone then h.retryAt else d.now + 1000 * d.fn Fld.railRetryMs (4 * r.val + (h.ladder + 1 - 1)),
    retryDue := false, thermalHold := h.thermalHold || hot, inLimit := false, foldback := false }

/-- `e` is `d` with one rail's hardware as given, and what follows it. -/
def Device.RailMoved (d : Device) (r : RailId) (h : RailHw) (e : Device) : Prop :=
  (d.updRail r fun _ => h).TripFollowed e

theorem tripKind_not_grave (code : Nat) : (kindClasses (6 % 256) (tripKind code % 256) 0).1 ≠ 4 := by
  unfold tripKind
  split <;> decide

theorem Device.tripOne_moved (d : Device) (r : RailId) (code : Nat) (hot : Bool) :
    d.RailMoved r (d.tripHw r code hot) (d.tripOne r code hot) := by
  unfold Device.tripOne
  refine Device.TripFollowed.trans ?_ (Device.when_along (R := Device.TripFollowed) (.refl _) (Device.burstPaFail_followed _))
  refine Device.TripFollowed.trans ?_ (Device.when_along (R := Device.TripFollowed) (.refl _) (Device.raise_followed _ (by decide)))
  exact Device.raiseOn_followed _ _ (tripKind_not_grave code)

section
variable {d : Device} {r : RailId} {code : Nat} {hot : Bool} {h : RailHw} {e : Device}

theorem Device.RailMoved.get_same (hm : d.RailMoved r h e) : e.rails.rails.get r = h := by
  rw [hm.frame.1]
  simp

theorem Device.RailMoved.get_other (hm : d.RailMoved r h e) {x : RailId} (hx : x ≠ r) :
    e.rails.rails.get x = d.rails.rails.get x := by
  rw [hm.frame.1]
  simp [vget_vmod_ne _ _ hx]

/-- A rail that is on, and supplies none, trips alone. -/
theorem Device.trip_alone (hup : (d.railSt r).isDown = false) (h8 : r.val ≠ 8)
    (hdeps : (d.railSt r).inService = false ∨ ∀ x, d.supplyOf x ≠ some r) : d.trip r code hot = d.tripOne r code hot := by
  have hnone : (if (d.railSt r).inService = true then all16.filter fun s => d.supplyOf s == some r else []) = [] := by
    rcases hdeps with hout | hnone
    · simp [hout]
    · simp [hnone]
  unfold Device.trip Device.tripList
  simp only [hup, h8, hnone, Bool.false_eq_true, or_self, if_false, List.map_nil, List.append_nil]
  rfl

@[simp] theorem Device.moveTo_railSt (d : Device) (t : Nat) (r : RailId) : (d.moveTo t).railSt r = d.railSt r := rfl

theorem RailSt.isDown_of_isOn {st : RailSt} (h : st.isOn = true) : st.isDown = false := by
  cases st <;> simp_all [RailSt.isOn, RailSt.isDown]

theorem RailSt.isOn_of_inService {st : RailSt} (h : st.inService = true) : st.isOn = true := by
  cases st <;> simp_all [RailSt.isOn, RailSt.inService]

/-- A trip with what the monitor read, what the probe gathers, and what follows. -/
def Device.railTripped (d : Device) (r : RailId) (mv : Nat) (lim ov pg : Bool) (code : Nat) : Device :=
  (((d.railRead r mv).probeRail r lim ov pg).trip r code).afterTrip r

/-- What a rail's trip leaves. -/
structure Device.Tripped (d : Device) (r : RailId) (code : Nat) (e : Device) : Prop where
  st : e.railSt r = if d.fn Fld.railRetries r.val < (d.rails.rails.get r).ladder + 1 then .held else .tripped
  ladder : (e.rails.rails.get r).ladder = min 15 ((d.rails.rails.get r).ladder + 1)
  lastTrip : (e.rails.rails.get r).lastTrip = code
  retryAt : e.railSt r = .tripped → (e.rails.rails.get r).retryAt =
    d.now + 1000 * d.fn Fld.railRetryMs (4 * r.val + (d.rails.rails.get r).ladder)
  others : ∀ x, x ≠ r → e.rails.rails.get x = d.rails.rails.get x
  batch : e.batch = d.batch
  nvm : e.nvm = d.nvm
  priv : e.priv = d.priv
  grave : e.faults.graveDue = d.faults.graveDue

theorem Device.Tripped.off {d e : Device} {r : RailId} {code : Nat} (h : d.Tripped r code e) : (e.railSt r).isOn = false := by
  rw [h.st]
  split <;> rfl

theorem Device.tripHw_eq (d : Device) (r : RailId) (code : Nat) (hot : Bool) :
    (d.tripHw r code hot).st = (if d.fn Fld.railRetries r.val < (d.rails.rails.get r).ladder + 1 then .held else .tripped) ∧
    (d.tripHw r code hot).ladder = min 15 ((d.rails.rails.get r).ladder + 1) ∧ (d.tripHw r code hot).lastTrip = code ∧
    ((d.tripHw r code hot).st = .tripped → (d.tripHw r code hot).retryAt =
      d.now + 1000 * d.fn Fld.railRetryMs (4 * r.val + (d.rails.rails.get r).ladder)) := by
  unfold Device.tripHw
  by_cases hgone : d.fn Fld.railRetries r.val < (d.rails.rails.get r).ladder + 1
  · simp [hgone, sat]
  · simp [hgone, sat]

theorem Device.railTripped_tripped {mv : Nat} {lim ov pg : Bool} (hon : (d.railSt r).isOn = true) (h8 : r.val ≠ 8)
    (hdeps : (d.railSt r).inService = false ∨ ∀ x, d.supplyOf x ≠ some r) :
    d.Tripped r code (d.railTripped r mv lim ov pg code) := by
  have hst : ((d.railRead r mv).probeRail r lim ov pg).railSt r = d.railSt r := by
    simp [Device.probeRail, Device.railRead, Device.railSt]
  have htrip := Device.trip_alone (d := (d.railRead r mv).probeRail r lim ov pg) (code := code) (hot := false)
    (by rw [hst]; exact RailSt.isDown_of_isOn hon) h8 (by rw [hst]; exact hdeps)
  have hmoved : ((d.railRead r mv).probeRail r lim ov pg).RailMoved r (((d.railRead r mv).probeRail r lim ov pg).tripHw r code false)
      (d.railTripped r mv lim ov pg code) := by
    unfold Device.railTripped
    rw [htrip]
    exact (Device.tripOne_moved _ r code false).trans (Device.afterTrip_followed _ r)
  obtain ⟨h1, h2, h3, h4⟩ := ((d.railRead r mv).probeRail r lim ov pg).tripHw_eq r code false
  have hladder : (((d.railRead r mv).probeRail r lim ov pg).rails.rails.get r).ladder = (d.rails.rails.get r).ladder := by
    simp [Device.probeRail, Device.railRead]
  rw [hladder] at h1 h2 h4
  rw [← hmoved.get_same] at h1 h2 h3 h4
  refine ⟨h1, h2, h3, h4, fun x hx => ?_, hmoved.frame.2.1, hmoved.frame.2.2.2.1, hmoved.frame.2.2.2.2.1, hmoved.2⟩
  rw [hmoved.get_other hx]
  simp [Device.probeRail, Device.railRead, vget_vmod_ne _ _ hx]

end

/-! ### Trips that spread to other rails (R357, R367, R373) -/

/-- From `d` to `e` no rail has been turned on, and no Grave message waits more than before. -/
structure Device.TurnsOff (d e : Device) : Prop where
  off : ∀ x, (d.railSt x).isOn = false → (e.railSt x).isOn = false
  batch : e.batch = d.batch
  grave : e.faults.graveDue = d.faults.graveDue

theorem Device.TurnsOff.refl (d : Device) : d.TurnsOff d := ⟨fun _ h => h, rfl, rfl⟩

theorem Device.TurnsOff.trans {d e t : Device} (h : d.TurnsOff e) (h' : e.TurnsOff t) : d.TurnsOff t :=
  ⟨fun x hx => h'.off x (h.off x hx), h'.batch.trans h.batch, h'.grave.trans h.grave⟩

theorem Device.tripHw_off (d : Device) (r : RailId) (code : Nat) (hot : Bool) : (d.tripHw r code hot).st.isOn = false := by
  rw [(d.tripHw_eq r code hot).1]
  split <;> rfl

theorem Device.tripOne_off (d : Device) (r : RailId) (code : Nat) (hot : Bool) : ((d.tripOne r code hot).railSt r).isOn = false := by
  rw [Device.railSt, (d.tripOne_moved r code hot).get_same]
  exact d.tripHw_off r code hot

theorem Device.tripOne_turnsOff (d : Device) (r : RailId) (code : Nat) (hot : Bool) : d.TurnsOff (d.tripOne r code hot) := by
  have hmoved := d.tripOne_moved r code hot
  refine ⟨fun x hx => ?_, hmoved.frame.2.1, hmoved.2⟩
  by_cases hr : x = r
  · subst hr
    exact d.tripOne_off x code hot
  · rw [Device.railSt, hmoved.get_other hr]
    exact hx

theorem Device.tripList_turnsOff (fuel : Nat) (d : Device) (l : List (RailId × Nat × Bool)) : d.TurnsOff (Device.tripList fuel d l) := by
  induction fuel generalizing d l with
  | zero => exact .refl d
  | succ fuel ih =>
    match l with
    | [] => exact .refl d
    | (r, code, hot) :: rest =>
      unfold Device.tripList
      dsimp only
      split
      · exact ih d rest
      · exact (d.tripOne_turnsOff r code hot).trans (ih _ _)

/-- A trip leaves its rail off. -/
theorem Device.trip_off (d : Device) {r : RailId} (h8 : r.val ≠ 8) (code : Nat) (hot : Bool) : ((d.trip r code hot).railSt r).isOn = false := by
  unfold Device.trip Device.tripList
  dsimp only
  split
  · rename_i hdown
    have hoff : (d.railSt r).isOn = false := by
      rcases hdown with h | h
      · revert h
        cases d.railSt r <;> simp [RailSt.isOn, RailSt.isDown]
      · exact absurd h h8
    exact (Device.tripList_turnsOff 63 d []).off r hoff
  · exact (Device.tripList_turnsOff 63 _ _).off r (d.tripOne_off r code hot)

/-- One rail of a hot sensor: it trips if it is on. -/
def Device.hotTrip (d : Device) (r : RailId) : Device := if (d.railSt r).isOn then d.trip r 6 true else d

theorem Device.hotTrip_turnsOff (d : Device) (r : RailId) : d.TurnsOff (d.hotTrip r) :=
  Device.ite_along (Device.tripList_turnsOff 64 d _) (.refl d)

theorem Device.hotTrip_off (d : Device) {r : RailId} (h8 : r.val ≠ 8) : ((d.hotTrip r).railSt r).isOn = false := by
  unfold Device.hotTrip
  split
  · exact d.trip_off h8 6 true
  · rename_i h
    simpa using h

theorem Device.foldl_hotTrip_turnsOff (l : List RailId) (d : Device) : d.TurnsOff (l.foldl Device.hotTrip d) := by
  induction l generalizing d with
  | nil => exact .refl d
  | cons r l ih => exact (d.hotTrip_turnsOff r).trans (ih _)

theorem Device.foldl_hotTrip_off {l : List RailId} (h8 : ∀ r ∈ l, r.val ≠ 8) (d : Device) :
    ∀ r ∈ l, ((l.foldl Device.hotTrip d).railSt r).isOn = false := by
  induction l generalizing d with
  | nil => simp
  | cons r l ih =>
    intro x hx
    rcases List.mem_cons.1 hx with rfl | hx
    · exact (Device.foldl_hotTrip_turnsOff l _).off x (d.hotTrip_off (h8 x (by simp)))
    · exact ih (fun r hr => h8 r (by simp [hr])) _ x hx

theorem Device.thermTrip_eq (d : Device) (k : Fin 7) : d.thermTrip k =
    (all16.filter fun r => decide (sensorOf r = some k)).foldl Device.hotTrip
      (d.updFaults fun f => { f with probeTherm := f.probeTherm ||| BitVec.twoPow 8 k.val }) := rfl

theorem Device.thermTrip_turnsOff (d : Device) (k : Fin 7) : d.TurnsOff (d.thermTrip k) := by
  rw [Device.thermTrip_eq]
  exact Device.TurnsOff.trans (e := d.updFaults _) ⟨fun _ h => h, rfl, rfl⟩ (Device.foldl_hotTrip_turnsOff _ _)

theorem Device.thermTrip_off (d : Device) {k : Fin 7} {x : RailId} (hx : sensorOf x = some k) :
    ((d.thermTrip k).railSt x).isOn = false := by
  rw [Device.thermTrip_eq]
  refine Device.foldl_hotTrip_off (fun r hr => ?_) _ x (List.mem_filter.2 ⟨Device.mem_all16 x, by simpa using hx⟩)
  have hsensor : sensorOf r = some k := by simpa using (List.mem_filter.1 hr).2
  rintro h8
  have hr8 : r = 8 := Fin.ext h8
  subst hr8
  exact absurd hsensor nofun

/-! ### The rows -/

theorem exec_railProofed (s : State) (r : RailId) (mv : Nat) : exec (.railProofed r mv) s = s.onClk (·.railGood r mv) := rfl

theorem exec_proofFail (s : State) (r : RailId) (c : ProofCause) (mv : Nat) :
    exec (.proofFail r c mv) s = s.onClk (·.proofFails r c mv) := rfl

theorem exec_railSag (s : State) (r : RailId) (mv : Nat) : exec (.railSag r mv) s = s.onClk (·.railSags r mv) := rfl

theorem exec_railTrip (s : State) (r : RailId) (c : TripCause) (mv : Nat) :
    exec (.railTrip r c mv) s = s.onClk fun d => d.when d.collecting (·.railTrips r c mv) := rfl

section
variable {d : Device} {r : RailId} {mv : Nat}

theorem Device.updRail_updRail (f g : RailHw → RailHw) : (d.updRail r f).updRail r g = d.updRail r fun h => g (f h) := by
  have hv : vmod (vmod d.rails.rails r f) r g = vmod d.rails.rails r fun h => g (f h) := by
    rw [vmod, vget_vmod_same]
    simp [vmod, vput]
  simp [Device.updRail, hv]

theorem Device.railServes_eq (d : Device) (r : RailId) (mv : Nat) : d.railServes r mv = d.updRail r fun h =>
    { h with meas := mv, st := .proofed, since := d.now, inLimit := false, foldback := false } := by
  unfold Device.railServes Device.railRead
  rw [Device.updRail_updRail]

/-- Where power-good has held, the rail serves. -/
theorem Device.railGood_due {cross : Nat} (hcross : cross = max d.now ((d.rails.rails.get r).since + d.pgHold r) - d.pgHold r)
    (hst : d.railSt r = .sagging ∨ (d.railSt r = .proofing ∧ cross ≤ (d.rails.rails.get r).since + d.proofUs r))
    (hgood : d.aboveRising r cross mv = true) :
    d.railGood r mv = d.dueAt ((d.rails.rails.get r).since + d.pgHold r) (·.railServes r mv) := by
  subst hcross
  unfold Device.railGood
  refine if_pos ?_
  rcases hst with hst | ⟨hst, hwithin⟩
  · rw [Device.railSt] at hst
    simp [hst, hgood]
  · rw [Device.railSt] at hst
    simp only [hst, hgood, hwithin, true_or, Bool.or_true, decide_true, and_self]

theorem Device.railGood_low (hlow : d.aboveRising r (max d.now ((d.rails.rails.get r).since + d.pgHold r) - d.pgHold r) mv = false) :
    d.railGood r mv = d :=
  if_neg (by simp [hlow])

theorem Device.railGood_idle (hproof : d.railSt r ≠ .proofing) (hsag : d.railSt r ≠ .sagging) : d.railGood r mv = d := by
  rw [Device.railSt] at hproof hsag
  exact if_neg (by simp [hproof, hsag])

theorem Device.proofFails_idle {c : ProofCause} (h : d.railSt r ≠ .proofing ∨ d.failsBy r c (d.failAt r c) mv = false) :
    d.proofFails r c mv = d := by
  refine if_neg ?_
  rcases h with h | h
  · simp [h]
  · simp [h]

theorem Device.proofFails_due {c : ProofCause} (hst : d.railSt r = .proofing) (hfails : d.failsBy r c (d.failAt r c) mv = true) :
    d.proofFails r c mv = d.dueAt (d.failAt r c) fun e =>
      e.railTripped r mv (decide (c = .foldback)) false (e.belowFalling r (d.failAt r c) mv) (proofCode c) :=
  if_pos ⟨hst, hfails⟩

theorem Device.railSags_due (hst : d.railSt r = .proofed) (hlim : (d.rails.rails.get r).inLimit = false)
    (hlow : d.belowFalling r (max d.now ((d.rails.rails.get r).since + 20)) mv = true) :
    d.railSags r mv = d.dueAt (max d.now ((d.rails.rails.get r).since + 20)) (·.railSagged r mv) :=
  if_pos ⟨hst, hlim, hlow⟩

theorem Device.railSags_idle (h : d.railSt r ≠ .proofed ∨ (d.rails.rails.get r).inLimit = true ∨
    d.belowFalling r (max d.now ((d.rails.rails.get r).since + 20)) mv = false) : d.railSags r mv = d := by
  refine if_neg ?_
  rw [Device.railSt] at h
  rcases h with h | h | h
  · simp [h]
  · simp [h]
  · simp [h]

theorem Device.railOc_due (h8 : r.val ≠ 8) (hserves : (d.railSt r).inService = true)
    (hlow : d.belowFalling r (max d.now ((d.rails.rails.get r).since + foldUs r)) mv = true) :
    d.railTrips r .overCurrent mv = d.dueAt (max d.now ((d.rails.rails.get r).since + foldUs r)) (·.railTripped r mv true false true 4) := by
  show d.railOc r mv = _
  unfold Device.railOc
  rw [if_neg h8]
  exact if_pos ⟨hserves, hlow⟩

theorem Device.railOv_due (hon : (d.railSt r).isOn = true) (hr : r.val ≤ 7 ∨ r.val = 9) (hthrough : r.val = 3 → d.paThrough = false)
    (htop : d.overTop r (max d.now ((d.rails.rails.get r).since + 10)) mv = true) :
    d.railTrips r .overVoltage mv = d.dueAt (max d.now ((d.rails.rails.get r).since + 10)) (·.railTripped r mv false true false 5) := by
  show d.railOv r mv = _
  unfold Device.railOv
  refine if_pos ⟨hon, by omega, ?_, ?_, htop⟩
  · unfold isSwitch
    simp
    omega
  · rintro ⟨h3, hpa⟩
    simp [hthrough h3] at hpa

theorem Device.railTrips_hot {k : Fin 7} (hsensor : sensorOf r = some k) (hon : (d.railSt r).isOn = true) :
    d.railTrips r .thermal mv = (d.railRead r mv).thermTrip k := by
  simp only [Device.railTrips, hsensor, hon, if_true]

theorem Device.railTrips_ldo5 : d.railTrips 8 .overCurrent mv = ((d.railRead 8 mv).probeRail 8 true false false).raise (coded 6 2 8) := rfl

/-- The rail that sags, as it is shown. -/
def Device.sagShown (d : Device) (r : RailId) (mv : Nat) : Device :=
  ((d.railRead r mv).probeRail r false false true).updRail r fun h => { h with st := .sagging, since := d.now }

theorem Device.railSagged_eq (d : Device) (r : RailId) (mv : Nat) : d.railSagged r mv =
    ((((d.sagShown r mv).when (decide (r.val ≠ 8)) (·.raise (coded 6 7 r.val))).when
      (decide (r.val = 3) && ((d.sagShown r mv).when (decide (r.val ≠ 8)) (·.raise (coded 6 7 r.val))).pins.bgnt)
      (·.burstPaFail)).afterTrip r) := rfl

/-- A sag turns its rail to SAGGING and changes no other. -/
theorem Device.railSagged_shows (d : Device) (r : RailId) (mv : Nat) : (d.railSagged r mv).batch = d.batch ∧
    (d.railSagged r mv).railSt r = .sagging ∧ (∀ x, x ≠ r → (d.railSagged r mv).rails.rails.get x = d.rails.rails.get x) ∧
    (d.railSagged r mv).faults.graveDue = d.faults.graveDue := by
  have hmoved : (d.sagShown r mv).TripFollowed (d.railSagged r mv) := by
    rw [Device.railSagged_eq]
    refine Device.TripFollowed.trans ?_ (Device.afterTrip_followed _ r)
    refine Device.TripFollowed.trans ?_ (Device.when_along (R := Device.TripFollowed) (.refl _) (Device.burstPaFail_followed _))
    exact Device.when_along (R := Device.TripFollowed) (.refl _) (Device.raise_followed _ (by decide))
  obtain ⟨hrails, hbatch, -⟩ := hmoved.frame
  refine ⟨hbatch, ?_, fun x hx => ?_, hmoved.2⟩
  · rw [Device.railSt, hrails]
    simp [Device.sagShown]
  · rw [hrails]
    simp [Device.sagShown, Device.railRead, Device.probeRail, vget_vmod_ne _ _ hx]

/-- The message of a sag stands behind what follows it. -/
theorem Device.railSagged_said (hcoll : d.collecting = true) (h8 : r.val ≠ 8) (hroom : d.faults.fifo.length < 60) :
    (d.railSagged r mv).Said (coded 6 7 r.val) := by
  have hraised : ((d.sagShown r mv).raise (coded 6 7 r.val)).Said (coded 6 7 r.val) :=
    Device.raise_coded_said _ 6 7 _ hcoll (by decide) (Nat.lt_trans hroom (by decide))
  have hreports := (d.sagShown r mv).raise_reports (a := 6) (b := 7) (q := r.val) (by decide)
  have hload : ((d.sagShown r mv).raise (coded 6 7 r.val)).faults.load ≤ 61 := by
    have hgrow := hreports.load
    have hfull := d.faults.load_le
    have hfaults : (d.sagShown r mv).faults.load = d.faults.load := rfl
    omega
  have hkeeps : ∀ e, Device.Reports 3 ((d.sagShown r mv).raise (coded 6 7 r.val)) e → e.Said (coded 6 7 r.val) := by
    intro e he
    obtain ⟨x, hx, hm⟩ := hraised
    exact ⟨x, (he.keeps (by omega)).subset hx, hm⟩
  rw [Device.railSagged_eq, Device.when_true (c := decide (r.val ≠ 8)) _ (by simpa using h8)]
  refine hkeeps _ ?_
  by_cases h3 : r.val = 3
  · rw [Device.afterTrip, Device.when_false _ (by simp [h3])]
    exact (Device.when_along (R := Device.Reports 1) (.of_faults rfl) (Device.burstPaFail_reports _)).mono (by decide)
  · rw [Device.when_false (c := decide (r.val = 3) && _) _ (by simp [h3])]
    exact Device.afterTrip_reports _ r

end

/-- Settles O38: each row by the rail's state and the monitor's reading. -/
theorem railEventsMoveItsState : Obligations.RailEventsMoveItsState := by
  unfold Obligations.RailEventsMoveItsState
  simp only [exec_railProofed, exec_proofFail, exec_railSag, exec_railTrip]
  intro s r mv hcalm
  refine ⟨fun at_ cross hat hcross hst hgood hmeets => ?_, fun hlow => ?_, fun hproof hsag => ?_, fun c hno => ?_,
    fun c hst h8 hfails hmeets => ?_, fun at_ hat => ⟨fun hst hlim hlow hmeets => ?_, fun hno => ?_⟩,
    fun at_ hat hserves hcoll h8 hlow hmeets hnone => ?_, fun at_ hat hon hcoll hr hthrough htop hmeets hnone => ?_,
    fun k hsensor hon hcoll => ?_, fun hcoll => ?_, fun hcoll c => ?_⟩
  · subst hat
    rw [State.onClk_meets hmeets (Device.railGood_due hcross hst hgood), Device.railServes_eq]
    · rw [← Device.moveTo_time hmeets.1]
    · rw [Device.railServes_eq]; exact hcalm
    · rw [Device.railServes_eq]; rfl
  · exact State.onClk_same hcalm (Device.railGood_low hlow)
  · exact State.onClk_same hcalm (Device.railGood_idle hproof hsag)
  · exact State.onClk_same hcalm (Device.proofFails_idle hno)
  · have htrip := Device.railTripped_tripped (d := s.dev.moveTo (s.dev.failAt r c)) (r := r) (mv := mv) (lim := decide (c = .foldback))
      (ov := false) (pg := (s.dev.moveTo (s.dev.failAt r c)).belowFalling r (s.dev.failAt r c) mv) (code := proofCode c)
      (by simp [hst, RailSt.isOn]) h8 (.inl (by simp [hst, RailSt.inService]))
    have hnow := Device.moveTo_time (t := s.dev.failAt r c) hmeets.1
    refine ⟨_, State.onClk_meets hmeets (Device.proofFails_due hst hfails) (htrip.grave.trans hcalm) htrip.batch, ?_, htrip.st, htrip.ladder,
      ?_, fun htripped => ?_, htrip.others, htrip.nvm, congrArg Priv.votes htrip.priv⟩
    · rw [State.put, Device.now, htrip.batch]
      exact hnow
    · exact htrip.lastTrip.trans (by cases c <;> rfl)
    · rw [State.put, Device.now, htrip.batch]
      exact htrip.retryAt htripped
  · subst hat
    obtain ⟨hbatch, hsag, hothers, hgrave⟩ := (s.dev.moveTo (max s.dev.now ((s.dev.rails.rails.get r).since + 20))).railSagged_shows r mv
    have hnow := Device.moveTo_time (t := max s.dev.now ((s.dev.rails.rails.get r).since + 20)) hmeets.1
    refine ⟨_, State.onClk_meets hmeets (Device.railSags_due hst hlim hlow) (hgrave.trans hcalm) hbatch, ?_, hsag, hothers,
      fun h8 hcoll hroom => ?_⟩
    · rw [State.put, Device.now, hbatch]
      exact hnow.trans (max_eq_right (le_max_left _ _))
    · exact Device.railSagged_said hcoll h8 hroom
  · subst hat
    exact State.onClk_same hcalm (Device.railSags_idle hno)
  · subst hat
    have htrip := Device.railTripped_tripped (d := s.dev.moveTo (max s.dev.now ((s.dev.rails.rails.get r).since + foldUs r))) (r := r)
      (mv := mv) (lim := true) (ov := false) (pg := true) (code := 4) (RailSt.isOn_of_inService hserves) h8 (.inr hnone)
    refine ⟨_, State.onClk_meets hmeets ((Device.when_true _ hcoll).trans (Device.railOc_due h8 hserves hlow)) (htrip.grave.trans hcalm)
      htrip.batch, ?_, htrip.off, htrip.lastTrip, htrip.ladder, htrip.others⟩
    rw [State.put, Device.now, htrip.batch]
    exact (Device.moveTo_time hmeets.1).trans (max_eq_right (le_max_left _ _))
  · subst hat
    have htrip := Device.railTripped_tripped (d := s.dev.moveTo (max s.dev.now ((s.dev.rails.rails.get r).since + 10))) (r := r)
      (mv := mv) (lim := false) (ov := true) (pg := false) (code := 5) hon (by omega) (.inr hnone)
    refine ⟨_, State.onClk_meets hmeets ((Device.when_true _ hcoll).trans (Device.railOv_due hon hr hthrough htop)) (htrip.grave.trans hcalm)
      htrip.batch, ?_, htrip.off, htrip.lastTrip, htrip.others⟩
    rw [State.put, Device.now, htrip.batch]
    exact (Device.moveTo_time hmeets.1).trans (max_eq_right (le_max_left _ _))
  · have hoff := (s.dev.railRead r mv).thermTrip_turnsOff k
    have heq : s.dev.when s.dev.collecting (·.railTrips r .thermal mv) = _ :=
      (Device.when_true _ hcoll).trans (Device.railTrips_hot hsensor hon)
    exact ⟨_, State.onClk_put heq (hoff.grave.trans hcalm) (by rw [Device.now, Device.now, hoff.batch]; exact le_rfl),
      fun x hx => Device.thermTrip_off _ hx⟩
  · have heq : s.dev.when s.dev.collecting (·.railTrips 8 .overCurrent mv) = _ :=
      (Device.when_true _ hcoll).trans Device.railTrips_ldo5
    have hgrave := Device.raise_coded_grave ((s.dev.railRead 8 mv).probeRail 8 true false false) 6 2 8 (by decide)
    refine ⟨_, State.onClk_put heq (hgrave.trans hcalm) ?_, ?_, fun hroom => ?_⟩
    · simp [Device.now, Device.railRead, Device.probeRail]
    · simp [State.put, Device.railSt, Device.railRead, Device.probeRail]
    · exact Device.raise_coded_said ((s.dev.railRead 8 mv).probeRail 8 true false false) 6 2 8 hcoll (by decide) hroom
  · exact State.onClk_same hcalm (Device.when_false _ hcoll)

end Sys2Proof.Machine

/-! PROOFS. The charger's phases (R491, R494 to R498). -/
namespace Sys2Proof.Machine

theorem Device.ChargeMoved.frame {d e : Device} (h : d.ChargeMoved e) : e.power = d.power ∧ e.batch = d.batch ∧ e.priv = d.priv ∧
    e.rails = d.rails ∧ e.pins = d.pins ∧ e.sample = d.sample ∧ e.rcp = d.rcp ∧ e.active = d.active ∧ e.gaugeHw = d.gaugeHw ∧
    e.snap = d.snap ∧ e.cfg = d.cfg ∧ e.nvm = d.nvm ∧ e.path.dcValid = d.path.dcValid := by
  obtain ⟨_, _, _, _, _, ⟨_, _, _, _, rfl⟩, rfl⟩ := h
  exact ⟨rfl, rfl, rfl, rfl, rfl, rfl, rfl, rfl, rfl, rfl, rfl, rfl, rfl⟩

theorem Device.ChargeMoved.chgStopped {d e : Device} (h : d.ChargeMoved e) : e.chgStopped = d.chgStopped := by
  obtain ⟨_, _, _, _, _, _, rfl⟩ := h
  rfl

theorem Device.ChargeMoved.fn {d e : Device} (h : d.ChargeMoved e) (x : FieldId) (i : Nat) : e.fn x i = d.fn x i := by
  obtain ⟨_, _, _, _, _, _, rfl⟩ := h
  rfl

/-! ### Entering a phase -/

section
variable {d : Device} {p : ChgPhase}

@[simp] theorem Device.priUpdate_others (d : Device) : d.priUpdate.chg = d.chg ∧ d.priUpdate.faults.graveDue = d.faults.graveDue := by
  unfold Device.priUpdate
  split
  · split
    · simp
    · simp [Device.raise_coded_grave _ 8 7 _ (by decide)]
  · split
    · simp
    · simp

@[simp] theorem Device.chgEnter_chg (d : Device) (p : ChgPhase) : (d.chgEnter p).chg =
    { d.chg with phase := p, preFetOff := if p = .precharge then d.fetIsOff else false } := by
  unfold Device.chgEnter
  dsimp only
  split
  · rfl
  · rfl
  · split
    · split
      · simp
      · simp
    · rfl

@[simp] theorem Device.chgEnter_grave (d : Device) (p : ChgPhase) : (d.chgEnter p).faults.graveDue = d.faults.graveDue := by
  unfold Device.chgEnter
  dsimp only
  split
  · rfl
  · rfl
  · split
    · split
      · simp
      · simp
    · rfl

@[simp] theorem Device.chgEnter_frame (d : Device) (p : ChgPhase) : (d.chgEnter p).power = d.power ∧ (d.chgEnter p).batch = d.batch ∧
    (d.chgEnter p).priv = d.priv ∧ (d.chgEnter p).sample = d.sample ∧ (d.chgEnter p).active = d.active ∧
    (d.chgEnter p).path.dcValid = d.path.dcValid := by
  obtain ⟨h1, h2, h3, -, -, h4, -, h5, -, -, -, -, h6⟩ := (d.chgEnter_moved p).frame
  exact ⟨h1, h2, h3, h4, h5, h6⟩

theorem Device.chgEnter_precharge (d : Device) : (d.chgEnter .precharge).path.fet = .charge := rfl

theorem Device.chgEnter_fault (d : Device) : (d.chgEnter .fault).path.fet = if d.fetIsOff then .off else .supply := rfl

theorem Device.chgEnter_fast (d : Device) : (d.chgEnter .fast).path.fet = .charge := by
  unfold Device.chgEnter
  dsimp only
  split
  · simp
  · rfl

/-- With the FET closed it follows the phase (R491). -/
theorem Device.chgEnter_closed (hfet : d.fetIsOff = false) (hp : p ≠ .precharge) (hfault : p ≠ .fault) :
    (d.chgEnter p).path.fet = if p.conducts then .charge else .supply := by
  unfold Device.chgEnter
  dsimp only
  split
  · exact absurd rfl hp
  · exact absurd rfl hfault
  · rw [if_neg (by simp [hfet])]
    rfl

end

/-! ### Transitions that follow from the present conditions (R498) -/

/-- The transition out of a phase whose conditions no longer hold. -/
def Device.chgLeaves (d : Device) : Device :=
  if d.chg.phase = .fault then d
  else if d.chgStopped then d.when (decide (d.chg.phase ≠ .idle)) (·.chgEnter .idle)
  else if d.chg.phase ≠ .idle ∧ d.chg.zone.permits = false then d.when (decide (d.chg.phase ≠ .suspended)) (·.chgEnter .suspended)
  else if (d.chg.phase.charging ∨ d.chg.phase = .qualify) ∧ d.inputPresent = false then d.chgEnter .idle
  else if d.chg.phase = .suspended ∧ d.chg.zoneSince + 1000000 ≤ d.now then d.chgEnter .qualify
  else d

/-- QUALIFY begins with an input. -/
def Device.chgBegins (d : Device) : Device :=
  if d.chg.phase = .idle ∧ d.inputPresent ∧ d.chg.latched = 0 ∧ d.chgStopped = false then
    (d.chgEnter .qualify).when (!d.chg.zone.permits) (·.chgEnter .suspended)
  else d

section
variable {d : Device}

theorem Device.chgSettle_runs (h : d.chgRuns = true) : d.chgSettle = d.qualKeep.chgLeaves.chgBegins := by
  have hkeep : d.qualKeep.chgRuns = true := h
  unfold Device.chgSettle
  rw [if_neg (by simp [hkeep])]
  rfl

theorem Device.chgBegins_busy (h : d.chg.phase ≠ .idle) : d.chgBegins = d := if_neg fun hc => h hc.1

theorem Device.chgBegins_none (h : d.inputPresent = false) : d.chgBegins = d := if_neg fun hc => by simp [h] at hc

theorem Device.chgBegins_stopped (h : d.chgStopped = true) : d.chgBegins = d := if_neg fun hc => by simp [h] at hc

theorem Device.chgBegins_phase (hidle : d.chg.phase = .idle) (hinput : d.inputPresent = true) (hlatched : d.chg.latched = 0)
    (hstopped : d.chgStopped = false) : d.chgBegins.chg.phase = if d.chg.zone.permits then .qualify else .suspended := by
  unfold Device.chgBegins
  rw [if_pos ⟨hidle, hinput, hlatched, hstopped⟩, Device.when]
  cases d.chg.zone.permits <;> simp

/-- A phase whose conditions hold stays. -/
theorem Device.chgLeaves_stays (hstopped : d.chgStopped = false) (hzone : d.chg.zone.permits = true)
    (hinput : d.inputPresent = true ∨ (d.chg.phase.charging = false ∧ d.chg.phase ≠ .qualify)) (hsusp : d.chg.phase ≠ .suspended) :
    d.chgLeaves = d := by
  unfold Device.chgLeaves
  split
  · rfl
  · rw [if_neg (by simp [hstopped]), if_neg (by simp [hzone]), if_neg, if_neg (by simp [hsusp])]
    rintro ⟨hphase, hno⟩
    rcases hinput with h | ⟨hc, hq⟩
    · simp [h] at hno
    · rcases hphase with h | h
      · simp [hc] at h
      · exact hq h

/-- A charging phase without an input, or QUALIFY, ends in IDLE. -/
theorem Device.chgLeaves_input (hstopped : d.chgStopped = false) (hzone : d.chg.zone.permits = true) (hinput : d.inputPresent = false)
    (hphase : d.chg.phase.charging = true ∨ d.chg.phase = .qualify) : d.chgLeaves = d.chgEnter .idle := by
  have hfault : d.chg.phase ≠ .fault := by
    rintro hf
    simp [hf, ChgPhase.charging, ChgPhase.conducts] at hphase
  unfold Device.chgLeaves
  rw [if_neg hfault, if_neg (by simp [hstopped]), if_neg (by simp [hzone]), if_pos ⟨hphase, hinput⟩]

/-- In a zone that does not permit charging no phase that charges stays. -/
theorem Device.chgLeaves_zone (hphase : d.chg.phase ≠ .idle) (hzone : d.chg.zone.permits = false) :
    d.chgLeaves.chg.phase = .fault ∨ (d.chgLeaves.chg.phase = .idle ∧ d.chgLeaves.chgStopped = true) ∨
      d.chgLeaves.chg.phase = .suspended := by
  unfold Device.chgLeaves
  split
  · exact .inl ‹_›
  · split
    · rename_i hstopped
      rw [Device.when_true _ (by simpa using hphase)]
      exact .inr (.inl ⟨by simp, (d.chgEnter_moved .idle).chgStopped.trans hstopped⟩)
    · rw [if_pos ⟨hphase, hzone⟩]
      refine .inr (.inr ?_)
      unfold Device.when
      split
      · simp
      · rename_i h
        simpa using h

end

/-! ### The rows -/

theorem exec_prechargeExit (s : State) : exec .prechargeExit s = s.onDev fun d => d.when ((d.chgIn fun p => decide (p = .precharge)) &&
    d.showsOpen (decide (d.prechargeExit ≤ d.sample.batMv))) (·.chgFast .fast) := rfl

theorem exec_cvReached (s : State) : exec .cvReached s =
    s.onDev fun d => d.when (d.chgIn fun p => decide (p = .fast) || decide (p = .recharge)) (·.chgEnter .taper) := rfl

theorem exec_chargeTerminate (s : State) : exec .chargeTerminate s =
    s.onDev fun d => d.when ((d.chgIn fun p => decide (p = .taper)) &&
      d.showsOpen (d.cvGoverns && decide (d.sample.batUa < 5000 * (d.fn Fld.chgITerm : Int)))) (·.chgTerminates) := rfl

theorem exec_topoffEnd (s : State) : exec .topoffEnd s =
    s.onClk fun d => d.when (d.chgIn fun p => decide (p = .topoff)) fun d =>
      d.dueAt (d.now + (60000000 * d.fn Fld.chgTopoffMin - d.chg.tTop)) (·.chgEnter .done) := rfl

theorem exec_rechargeStart (s : State) : exec .rechargeStart s =
    s.onDev fun d => d.when ((d.chgIn fun p => decide (p = .done)) &&
      d.showsOpen (decide (d.sample.batMv < d.rechargeLevel))) (·.chgRecharge) := rfl

theorem exec_zoneChange (s : State) (temp : Int) : exec (.zoneChange temp) s =
    s.onDev fun d => d.when (d.chgRuns && (decide (d.chg.phase ≠ .idle) || d.chg.latched.getLsbD 0))
      fun d => (d.ntcGood).zoneTo (d.zoneFor temp d.chg.zone) := rfl

theorem exec_harvestChargingPresent (s : State) : exec .harvestChargingPresent s =
    s.onDev fun d => d.when (d.chgRuns && !d.path.dcValid && d.harvestMargin) fun d =>
      (d.updChg fun c => { c with harvest := true }).chgSettle := rfl

theorem exec_harvestChargingCeases (s : State) : exec .harvestChargingCeases s =
    s.onDev fun d => d.when (!d.path.dcValid && d.showsOpen (decide (d.sample.batUa < -1000))) fun d =>
      (d.updChg fun c => { c with harvest := false }).chgSettle := rfl

theorem exec_qualifyPass (s : State) (mv : Nat) : exec (.qualifyPass mv) s = s.onClk (·.qualifies mv) := rfl

section
variable {d : Device} {p : ChgPhase}

theorem Device.chgIn_eq (hruns : d.chgRuns = true) (f : ChgPhase → Bool) : d.chgIn f = f d.chg.phase := by
  simp [Device.chgIn, hruns]

@[simp] theorem Device.chgFast_chg (d : Device) (p : ChgPhase) : (d.chgFast p).chg = { d.chg with
    phase := p, preFetOff := if p = .precharge then d.fetIsOff else false, tFast := 0, started := d.now, viaZone := false } := by
  simp [Device.chgFast, Device.now]

theorem Device.chgFast_moved (d : Device) (p : ChgPhase) : d.ChargeMoved (d.chgFast p) :=
  (d.chgEnter_moved p).trans (Device.updChg_moved _ _)

@[simp] theorem Device.chgFast_grave (d : Device) (p : ChgPhase) : (d.chgFast p).faults.graveDue = d.faults.graveDue := by
  simp [Device.chgFast]

theorem Device.chgTerminateEnd_moved (d : Device) : d.ChargeMoved d.chgTerminateEnd := by
  unfold Device.chgTerminateEnd
  exact Device.ite_along (Device.ite_along ((d.chgEnter_moved _).trans (Device.updChg_moved _ _)) (d.chgEnter_moved _)) (.refl d)

@[simp] theorem Device.chgTerminateEnd_grave (d : Device) : d.chgTerminateEnd.faults.graveDue = d.faults.graveDue := by
  unfold Device.chgTerminateEnd
  split
  · split
    · simp
    · simp
  · rfl

/-- TERMINATE's end by itself (R498, R500). -/
theorem Device.chgTerminateEnd_chg (h : d.chg.phase = .terminate) : d.chgTerminateEnd.chg.phase =
      (if d.chg.viaZone = false ∧ 0 < d.fn Fld.chgTopoffMin then .topoff else .done) ∧
    d.chgTerminateEnd.chg.terminations = d.chg.terminations ∧ d.chgTerminateEnd.chg.zone = d.chg.zone ∧
    d.chgTerminateEnd.chg.ntcOpen = d.chg.ntcOpen ∧ d.chgTerminateEnd.chg.ntcShort = d.chg.ntcShort := by
  unfold Device.chgTerminateEnd
  rw [if_pos h]
  split
  · simp
  · simp

theorem Device.chgNoEdge_moved (d : Device) : d.ChargeMoved d.chgNoEdge :=
  Device.when_along (R := Device.ChargeMoved) (.refl d) d.chgTerminateEnd_moved

theorem Device.chgNoEdge_grave (d : Device) : d.chgNoEdge.faults.graveDue = d.faults.graveDue :=
  Device.when_keeps (·.faults.graveDue) d.chgTerminateEnd_grave

/-! What settling keeps of the charger: its zone and readings. -/

theorem Device.chgSettle_zone (d : Device) : d.chgSettle.chg.zone = d.chg.zone ∧ d.chgSettle.chg.ntcOpen = d.chg.ntcOpen ∧
    d.chgSettle.chg.ntcShort = d.chg.ntcShort ∧ d.chgSettle.chg.harvest = d.chg.harvest := by
  exact Device.chgSettle_along (R := fun d e => e.chg.zone = d.chg.zone ∧ e.chg.ntcOpen = d.chg.ntcOpen ∧
    e.chg.ntcShort = d.chg.ntcShort ∧ e.chg.harvest = d.chg.harvest) (fun _ => ⟨rfl, rfl, rfl, rfl⟩)
    (fun h h' => ⟨h'.1.trans h.1, h'.2.1.trans h.2.1, h'.2.2.1.trans h.2.2.1, h'.2.2.2.trans h.2.2.2⟩)
    (fun _ => ⟨rfl, rfl, rfl, rfl⟩) (fun d p _ => by simp) d

theorem Device.chgSettle_batch (d : Device) : d.chgSettle.batch = d.batch := d.chgSettle_moved.frame.2.1

theorem Device.chgSettle_grave (d : Device) : d.chgSettle.faults.graveDue = d.faults.graveDue := d.chgSettle_reports.reports.grave

/-! What the gauge keeps. -/

theorem Device.sohCheck_validity (d : Device) : d.sohCheck.priv.gauge.validity = d.priv.gauge.validity := by
  unfold Device.sohCheck
  exact Device.ite_along (R := fun d e => e.priv.gauge.validity = d.priv.gauge.validity) (by simp) rfl

theorem Device.refit_validity (d : Device) (r : GaugeRec) : (d.refit r).priv.gauge.validity = d.priv.gauge.validity := by
  unfold Device.refit
  rw [Device.sohCheck_validity]
  simp only [Device.updGauge_priv]
  split <;> rfl

theorem Device.learnRef_validity (d : Device) (fcc learns : Nat) : (d.learnRef fcc learns).priv.gauge.validity = d.priv.gauge.validity := by
  unfold Device.learnRef
  rw [Device.sohCheck_validity]
  rfl

theorem Device.gaugeCount_validity (d : Device) : d.gaugeCount.priv.gauge.validity = d.priv.gauge.validity := by
  unfold Device.gaugeCount
  dsimp only
  split
  · rw [Device.refit_validity]
    rfl
  · rfl

theorem Device.learnPoint_validity (d : Device) (soc : Nat) : (d.learnPoint soc).priv.gauge.validity = d.priv.gauge.validity := by
  have hraise : ∀ q, (d.raise (coded 0x0B 3 q)).priv.gauge.validity = d.priv.gauge.validity := fun q => by simp
  unfold Device.learnPoint
  exact Device.ite_along (R := fun d e => e.priv.gauge.validity = d.priv.gauge.validity)
    (Device.ite_along (R := fun d e => e.priv.gauge.validity = d.priv.gauge.validity) (hraise 1)
      (Device.ite_along (R := fun d e => e.priv.gauge.validity = d.priv.gauge.validity) (hraise 2)
        (Device.ite_along (R := fun d e => e.priv.gauge.validity = d.priv.gauge.validity) (hraise 3) (d.learnRef_validity _ _)))) rfl

theorem Device.fullAnchor_shows (d : Device) : d.fullAnchor.priv.gauge.q = d.fullAnchor.priv.gauge.fcc ∧
    d.fullAnchor.priv.gauge.validity = d.priv.gauge.validity.anchor := by
  unfold Device.fullAnchor
  refine ⟨rfl, ?_⟩
  simp [Device.learnPoint_validity]

theorem Device.fullAnchor_moved (d : Device) : d.GaugeMoved d.fullAnchor := (d.learnPoint_moved _).trans (Device.updGauge_moved _ _)

theorem Device.anchorBy_fullAnchor (d : Device) : (d.anchorBy (·.fullAnchor)).priv.gauge.q = (d.anchorBy (·.fullAnchor)).priv.gauge.fcc ∧
    (d.anchorBy (·.fullAnchor)).priv.gauge.validity = d.priv.gauge.validity.anchor := by
  have hpriv : (d.anchorBy (·.fullAnchor)).priv = d.gaugeCount.fullAnchor.priv := Device.when_keeps Device.priv rfl
  rw [hpriv, (Device.fullAnchor_shows _).2, Device.gaugeCount_validity]
  exact ⟨(Device.fullAnchor_shows _).1, rfl⟩

/-! ### Termination, zones, qualification -/

/-- TERMINATE as it begins, with the full anchor. -/
def Device.terminateBegun (d : Device) : Device :=
  (((d.chgEnter .terminate).updChg fun c =>
    { c with terminations := sat 0xFFFFFFFF (c.terminations + 1), viaZone := false }).raise (coded 0x0A 9 d.chargeMinutes)).anchorBy
    (·.fullAnchor)

theorem Device.chgTerminates_eq (d : Device) : d.chgTerminates = d.terminateBegun.chgNoEdge := rfl

theorem Device.terminateBegun_shows (d : Device) : d.terminateBegun.chg.phase = .terminate ∧ d.terminateBegun.chg.viaZone = false ∧
    d.terminateBegun.chg.terminations = min 0xFFFFFFFF (d.chg.terminations + 1) ∧ d.terminateBegun.power = d.power ∧
    d.terminateBegun.batch = d.batch ∧ d.terminateBegun.faults.graveDue = d.faults.graveDue ∧
    d.terminateBegun.rcp = d.rcp ∧ d.terminateBegun.priv.gauge.q = d.terminateBegun.priv.gauge.fcc ∧
    d.terminateBegun.priv.gauge.validity = d.priv.gauge.validity.anchor := by
  have hraised := ((d.chgEnter .terminate).updChg fun c =>
    { c with terminations := sat 0xFFFFFFFF (c.terminations + 1), viaZone := false }).raise_gaugeMoved (a := 0x0A) (b := 9)
      (q := d.chargeMinutes) (by decide)
  have hmoved := hraised.trans (Device.anchorBy_moved _ Device.fullAnchor_moved)
  obtain ⟨hq, hvalid⟩ := (((d.chgEnter .terminate).updChg fun c =>
    { c with terminations := sat 0xFFFFFFFF (c.terminations + 1), viaZone := false }).raise (coded 0x0A 9 d.chargeMinutes)).anchorBy_fullAnchor
  have hchg : d.terminateBegun.chg = { d.chg with
      phase := .terminate, preFetOff := false, terminations := min 0xFFFFFFFF (d.chg.terminations + 1), viaZone := false } := by
    refine hmoved.frame.2.2.2.1.trans ?_
    simp [sat]
  rw [hchg]
  refine ⟨rfl, rfl, rfl, ?_, ?_, ?_, ?_, hq, ?_⟩
  · exact hmoved.frame.2.2.1.trans (by simp)
  · exact hmoved.frame.2.1.trans (by simp)
  · exact hmoved.2.trans (by simp)
  · obtain ⟨⟨_, _, _, _, _, heq⟩, -⟩ := hmoved
    unfold Device.terminateBegun
    rw [heq]
    exact (d.chgEnter_moved .terminate).frame.2.2.2.2.2.2.1
  · refine hvalid.trans ?_
    simp

theorem Device.chgTerminates_shows (d : Device) :
    d.chgTerminates.chg.terminations = min 0xFFFFFFFF (d.chg.terminations + 1) ∧
    d.chgTerminates.chg.phase = (if d.power.phase.batchRuns then .terminate
      else if 0 < d.fn Fld.chgTopoffMin then .topoff else .done) ∧
    d.chgTerminates.priv.gauge.q = d.chgTerminates.priv.gauge.fcc ∧
    d.chgTerminates.priv.gauge.validity = d.priv.gauge.validity.anchor ∧ d.chgTerminates.batch = d.batch ∧
    d.chgTerminates.faults.graveDue = d.faults.graveDue := by
  obtain ⟨hphase, hvia, hcount, hpower, hbatch, hgrave, hrcp, hq, hvalid⟩ := d.terminateBegun_shows
  have hpriv := d.terminateBegun.chgNoEdge_moved.frame.2.2.1
  have hfn : d.terminateBegun.fn Fld.chgTopoffMin = d.fn Fld.chgTopoffMin := by simp only [Device.fn, Device.fld, hrcp]
  rw [Device.chgTerminates_eq, hpriv, d.terminateBegun.chgNoEdge_moved.frame.2.1, d.terminateBegun.chgNoEdge_grave]
  obtain ⟨hend, hcount', -⟩ := Device.chgTerminateEnd_chg hphase
  refine ⟨?_, ?_, hq, hvalid, hbatch, hgrave⟩
  · refine Eq.trans ?_ hcount
    exact Device.when_keeps (·.chg.terminations) hcount'
  · unfold Device.chgNoEdge Device.when
    rw [hpower]
    by_cases hruns : d.power.phase.batchRuns = true
    · simp [hruns, hphase]
    · simp [hruns, hend, hvia, hfn]

/-- A zone as it takes effect, with its message. -/
def Device.zoneSet (d : Device) (z : Zone) : Device :=
  (d.updChg fun c => { c with zone := z, zoneSince := d.now }).when (!z.permits) (·.raise (coded 0x0A 8 z.code))

theorem Device.zoneSet_shows (d : Device) (z : Zone) : (d.zoneSet z).chg = { d.chg with zone := z, zoneSince := d.now } ∧
    (d.zoneSet z).power = d.power ∧ (d.zoneSet z).batch = d.batch ∧ (d.zoneSet z).faults.graveDue = d.faults.graveDue := by
  refine ⟨?_, ?_, ?_, ?_⟩
  · exact Device.when_keeps Device.chg (by simp)
  · exact Device.when_keeps Device.power (by simp)
  · exact Device.when_keeps Device.batch (by simp)
  · exact Device.when_keeps (·.faults.graveDue) (Device.raise_coded_grave _ 0x0A 8 _ (by decide))

/-- Termination through a change of the zone (R500). -/
def Device.zoneEnds (d : Device) : Device := ((d.chgEnter .terminate).updChg fun c => { c with viaZone := true }).chgNoEdge

theorem Device.zoneEnds_shows (d : Device) : d.zoneEnds.chg.zone = d.chg.zone ∧ d.zoneEnds.chg.ntcOpen = d.chg.ntcOpen ∧
    d.zoneEnds.chg.ntcShort = d.chg.ntcShort ∧ d.zoneEnds.chg.phase.charging = false ∧ d.zoneEnds.batch = d.batch ∧
    d.zoneEnds.faults.graveDue = d.faults.graveDue := by
  obtain ⟨hphase, -, hzone, hopen, hshort⟩ :=
    Device.chgTerminateEnd_chg (d := (d.chgEnter .terminate).updChg fun c => { c with viaZone := true }) (by simp)
  refine ⟨?_, ?_, ?_, ?_, ?_, ?_⟩
  · exact (Device.when_keeps (·.chg.zone) hzone).trans (by simp)
  · exact (Device.when_keeps (·.chg.ntcOpen) hopen).trans (by simp)
  · exact (Device.when_keeps (·.chg.ntcShort) hshort).trans (by simp)
  · unfold Device.zoneEnds Device.chgNoEdge Device.when
    split
    · rw [hphase]
      simp [ChgPhase.charging, ChgPhase.conducts]
    · simp [ChgPhase.charging, ChgPhase.conducts]
  · exact (Device.chgNoEdge_moved _).frame.2.1.trans (by simp)
  · exact (Device.chgNoEdge_grave _).trans (by simp)

/-- In a zone that does not permit charging nothing settles into a phase that charges. -/
theorem Device.chgSettle_zone_off (hruns : d.chgRuns = true) (hphase : d.chg.phase ≠ .idle) (hzone : d.chg.zone.permits = false) :
    d.chgSettle.chg.phase.charging = false := by
  have hleaves := Device.chgLeaves_zone (d := d.qualKeep) hphase hzone
  rw [Device.chgSettle_runs hruns]
  rcases hleaves with h | ⟨h, hstopped⟩ | h
  · rw [Device.chgBegins_busy (by simp [h]), h]
    rfl
  · rw [Device.chgBegins_stopped hstopped, h]
    rfl
  · rw [Device.chgBegins_busy (by simp [h]), h]
    rfl

theorem Device.zoneTo_eq (z : Zone) (h : z ≠ d.chg.zone) : d.zoneTo z =
    if decide (d.chgCvOf z < d.chgCvOf d.chg.zone) ∧ (d.zoneSet z).chg.phase.conducts ∧
        (d.zoneSet z).cv < (d.zoneSet z).sample.batMv + 10 * (d.zoneSet z).fn Fld.chgRechgMv
      then (d.zoneSet z).zoneEnds else (d.zoneSet z).chgSettle := by
  unfold Device.zoneTo
  rw [if_neg h]
  rfl

/-- What a zone that takes effect shows. -/
theorem Device.zoneTo_shows (z : Zone) (hruns : d.chgRuns = true) (hphase : d.chg.phase ≠ .idle) :
    (d.zoneTo z).chg.zone = z ∧ (d.zoneTo z).chg.ntcOpen = d.chg.ntcOpen ∧ (d.zoneTo z).chg.ntcShort = d.chg.ntcShort ∧
    (z ≠ d.chg.zone → z.permits = false → (d.zoneTo z).chg.phase.charging = false) ∧
    (d.zoneTo z).batch = d.batch ∧ (d.zoneTo z).faults.graveDue = d.faults.graveDue := by
  by_cases hsame : z = d.chg.zone
  · have hstays : d.zoneTo z = d := if_pos hsame
    rw [hstays]
    exact ⟨hsame.symm, rfl, rfl, fun h => absurd hsame h, rfl, rfl⟩
  · obtain ⟨hchg, hpower, hbatch, hgrave⟩ := d.zoneSet_shows z
    rw [Device.zoneTo_eq z hsame]
    split
    · obtain ⟨h1, h2, h3, h4, h5, h6⟩ := (d.zoneSet z).zoneEnds_shows
      exact ⟨h1.trans (by rw [hchg]), h2.trans (by rw [hchg]), h3.trans (by rw [hchg]), fun _ _ => h4, h5.trans hbatch, h6.trans hgrave⟩
    · obtain ⟨h1, h2, h3, -⟩ := (d.zoneSet z).chgSettle_zone
      refine ⟨h1.trans (by rw [hchg]), h2.trans (by rw [hchg]), h3.trans (by rw [hchg]), fun _ hpermits => ?_,
        (Device.chgSettle_batch _).trans hbatch, (Device.chgSettle_grave _).trans hgrave⟩
      exact Device.chgSettle_zone_off (by simpa only [Device.chgRuns, hpower] using hruns) (by rw [hchg]; exact hphase)
        (by rw [hchg]; exact hpermits)

/-! ### Qualification (R497) -/

/-- What a qualification that is met does, where no removal waits for it. -/
def Device.qualifyMet (d : Device) (mv : Nat) : Device :=
  let d := d.ntcGood
  let d := if d.chg.removed then (d.updChg fun c => { c with requalified := true }).gaugeRestart mv d.sample.batTemp else d
  if d.chgRuns ∧ d.chg.phase = .qualify then d.qualified mv else d

/-- The conditions of QUALIFY under which it may be left. -/
structure Device.Qualifying (d : Device) : Prop where
  runs : d.chgRuns = true
  phase : d.chg.phase = .qualify
  stopped : d.chgStopped = false
  zone : d.chg.zone.permits = true
  input : d.inputPresent = true
  cool : d.faults.dieHot = false
  latched : d.chg.latched = 0
  removed : d.chg.removed = false

/-- The conditions of QUALIFY hold from now on at the latest. -/
def Device.okKept (d : Device) : Device := d.updChg fun c => { c with okSince := some (d.chg.okSince.getD d.now) }

@[simp] theorem Device.okKept_chg (d : Device) : d.okKept.chg = { d.chg with okSince := some (d.chg.okSince.getD d.now) } := rfl

theorem Device.Qualifying.settles (h : d.Qualifying) :
    d.chgSettle = d.okKept := by
  have hinhibit : d.active.chgInhibit = false := by
    have := h.stopped
    simp only [Device.chgStopped, Bool.or_eq_false_iff] at this
    exact this.2
  have hmay : d.mayQualify = true := by simp [Device.mayQualify, h.input, h.zone, hinhibit, h.cool]
  have hkeep : d.qualKeep = d.okKept := by
    rw [Device.qualKeep, hmay]
    rfl
  have hleaves : d.qualKeep.chgLeaves = d.qualKeep :=
    Device.chgLeaves_stays h.stopped h.zone (.inl h.input) (by rw [hkeep]; simp [h.phase])
  rw [Device.chgSettle_runs h.runs, hleaves, Device.chgBegins_busy (by rw [hkeep]; simp [h.phase]), hkeep]

theorem Device.chgRuns_powered (h : d.chgRuns = true) : d.powered = true := by
  revert h
  unfold Device.chgRuns Device.powered
  cases d.power.phase <;> simp [Phase.silent]

theorem Device.Qualifying.due (h : d.Qualifying) {mv : Nat} (hmv : 1500 ≤ mv) : d.qualifies mv =
    d.okKept.dueAt
      (max (d.chg.okSince.getD d.now) d.chg.clearSince + 1000000) (·.qualifyMet mv) := by
  unfold Device.qualifies
  rw [h.settles]
  have hpow : d.okKept.powered = true := Device.chgRuns_powered h.runs
  have hphase := h.phase
  have hlatched := h.latched
  dsimp only
  rw [if_neg]
  · simp [hphase]
    rfl
  · simp only [hpow]
    simp [hmv, hlatched]

/-! ### Harvest charging (R495) -/

theorem Device.chgLeaves_idle (hphase : d.chg.phase = .idle) (hstopped : d.chgStopped = false) : d.chgLeaves = d := by
  unfold Device.chgLeaves
  rw [if_neg (by simp [hphase]), if_neg (by simp [hstopped]), if_neg (by simp [hphase]),
    if_neg (by simp [hphase, ChgPhase.charging, ChgPhase.conducts]), if_neg (by simp [hphase])]

/-- An input in IDLE begins QUALIFY, or waits for its zone. -/
theorem Device.chgSettle_begins (hruns : d.chgRuns = true) (hphase : d.chg.phase = .idle) (hstopped : d.chgStopped = false)
    (hinput : d.inputPresent = true) (hlatched : d.chg.latched = 0) :
    d.chgSettle.chg.phase = if d.chg.zone.permits then .qualify else .suspended := by
  rw [Device.chgSettle_runs hruns, Device.chgLeaves_idle (d := d.qualKeep) hphase hstopped]
  exact Device.chgBegins_phase (d := d.qualKeep) hphase hinput hlatched hstopped

/-- Without an input charging ends in IDLE. -/
theorem Device.chgSettle_ends (hruns : d.chgRuns = true) (hstopped : d.chgStopped = false) (hzone : d.chg.zone.permits = true)
    (hinput : d.inputPresent = false) (hphase : d.chg.phase.charging = true ∨ d.chg.phase = .qualify) :
    d.chgSettle.chg.phase = .idle := by
  rw [Device.chgSettle_runs hruns, Device.chgLeaves_input (d := d.qualKeep) hstopped hzone hinput hphase, Device.chgBegins_none]
  · simp
  · have hkept : d.qualKeep.inputPresent = false := hinput
    simpa [Device.inputPresent] using hkept

@[simp] theorem Device.clearActive_frame (d : Device) (a b : Nat) (q : Option Nat) : (d.clearActive a b q).chg = d.chg ∧
    (d.clearActive a b q).path = d.path ∧ (d.clearActive a b q).batch = d.batch ∧
    (d.clearActive a b q).faults.graveDue = d.faults.graveDue ∧ (d.clearActive a b q).power = d.power := by
  exact ⟨rfl, rfl, rfl, rfl, rfl⟩

theorem Device.qualified_low {mv : Nat} (h : mv < 10 * d.fn Fld.chgVPre ∨ d.fetIsOff = true) : d.qualified mv =
    ((d.clearActive 0x0A 8).chgEnter .precharge).updChg fun c => { c with tPre := 0 } := if_pos h

theorem Device.qualified_fast {mv : Nat} (hpre : 10 * d.fn Fld.chgVPre ≤ mv) (hfet : d.fetIsOff = false) (hlevel : mv ≤ d.rechargeLevel) :
    d.qualified mv = (d.clearActive 0x0A 8).chgFast .fast := by
  have hno : ¬ (mv < 10 * (d.clearActive 0x0A 8).fn Fld.chgVPre ∨ (d.clearActive 0x0A 8).fetIsOff = true) := by
    rintro (h | h)
    · exact absurd hpre (Nat.not_le.2 h)
    · exact absurd (hfet.symm.trans h) nofun
  unfold Device.qualified
  dsimp only
  rw [if_neg hno, if_pos]
  exact hlevel

theorem Device.qualified_done {mv : Nat} (hpre : 10 * d.fn Fld.chgVPre ≤ mv) (hfet : d.fetIsOff = false) (hlevel : d.rechargeLevel < mv) :
    d.qualified mv = (d.clearActive 0x0A 8).chgEnter .done := by
  have hno : ¬ (mv < 10 * (d.clearActive 0x0A 8).fn Fld.chgVPre ∨ (d.clearActive 0x0A 8).fetIsOff = true) := by
    rintro (h | h)
    · exact absurd hpre (Nat.not_le.2 h)
    · exact absurd (hfet.symm.trans h) nofun
  unfold Device.qualified
  dsimp only
  rw [if_neg hno, if_neg]
  exact Nat.not_le.2 hlevel

theorem Device.qualified_keeps (d : Device) (mv : Nat) : (d.qualified mv).batch = d.batch ∧
    (d.qualified mv).faults.graveDue = d.faults.graveDue := by
  unfold Device.qualified
  dsimp only
  split
  · simp
  · split
    · exact ⟨(Device.chgFast_moved _ _).frame.2.1, by simp⟩
    · simp

theorem Device.qualifyMet_eq {mv : Nat} (hruns : d.chgRuns = true) (hphase : d.chg.phase = .qualify) (hremoved : d.chg.removed = false) :
    d.qualifyMet mv = d.ntcGood.qualified mv := by
  have hkept : d.ntcGood.chg.removed = false := hremoved
  have hruns' : d.ntcGood.chgRuns = true := hruns
  have hphase' : d.ntcGood.chg.phase = .qualify := hphase
  simp [Device.qualifyMet, hkept, hruns', hphase']

/-- The instant at which the second of qualification has passed. -/
def Device.qualifyAt (d : Device) : Nat := max (d.chg.okSince.getD d.now) d.chg.clearSince + 1000000

/-- The device at that instant. -/
def Device.qualifyReached (d : Device) : Device := (d.okKept.moveTo d.qualifyAt).ntcGood

theorem Device.qualifyReached_shows (d : Device) : d.qualifyReached.batch = (d.moveTo d.qualifyAt).batch ∧
    d.qualifyReached.faults = d.faults ∧ d.qualifyReached.fetIsOff = d.fetIsOff ∧
    d.qualifyReached.rechargeLevel = d.rechargeLevel := by
  exact ⟨rfl, rfl, rfl, rfl⟩

theorem Device.Qualifying.reached (h : d.Qualifying) {mv : Nat} (hmv : 1500 ≤ mv) (hmeets : d.Meets d.qualifyAt) :
    d.qualifies mv = d.qualifyReached.qualified mv := by
  have hmeets' : d.okKept.Meets d.qualifyAt := hmeets
  rw [h.due hmv]
  exact (Device.dueAt_meets hmeets').trans (Device.qualifyMet_eq h.runs h.phase h.removed)

end

/-- Settles O46: each row from the phase it belongs to. -/
theorem chargerEventsChangePhase : Obligations.ChargerEventsChangePhase := by
  unfold Obligations.ChargerEventsChangePhase
  simp only [exec_qualifyPass, exec_prechargeExit, exec_cvReached, exec_chargeTerminate, exec_topoffEnd, exec_rechargeStart,
    exec_zoneChange, exec_harvestChargingPresent, exec_harvestChargingCeases]
  intro s hcalm
  refine ⟨fun mv t0 now' hruns hphase hstop hzone hinput hcool hlatched hremoved hmv ht0 hmeets hnow => ?_, fun hno => ?_,
    fun hruns hphase hshows => ?_, fun hfast hrech => ?_, fun hruns hphase => ?_, fun low hlow => ⟨fun hno => ?_, fun hruns hphase hl => ?_⟩,
    fun hruns hphase hcomes => ?_, fun hphase => ?_, fun low hlow => ⟨fun hno => ?_, fun hruns hphase hl => ?_⟩,
    fun temp hruns hphase => ?_, fun hruns hdock hmargin => ?_, fun hno => ?_,
    fun draws hdraws => ⟨fun hno => ?_, fun hruns hdock hstop hzone hd => ?_⟩⟩
  · have hq : s.dev.Qualifying := ⟨hruns, hphase, hstop, hzone, hinput, hcool, hlatched, hremoved⟩
    subst ht0 hnow
    have hreached := hq.reached hmv hmeets
    obtain ⟨hbatch, hfaults, hfet, hlevel⟩ := s.dev.qualifyReached_shows
    have htime : (s.dev.moveTo s.dev.qualifyAt).now = max s.dev.now s.dev.qualifyAt := Device.moveTo_time hmeets.1
    obtain ⟨hkbatch, hkgrave⟩ := s.dev.qualifyReached.qualified_keeps mv
    have hnow : (s.dev.qualifyReached.qualified mv).now = max s.dev.now s.dev.qualifyAt := by
      rw [Device.now, hkbatch, hbatch]
      exact htime
    refine ⟨_, State.onClk_put hreached (hkgrave.trans (by rw [hfaults]; exact hcalm)) (by rw [hnow]; exact le_max_left _ _), hnow,
      fun hpre => ?_, fun hpre hclosed hle => ?_, fun hpre hclosed hlt => ?_⟩
    · rw [State.put, Device.qualified_low (d := s.dev.qualifyReached) (by rw [hfet]; exact hpre)]
      exact ⟨by simp, by simp, rfl⟩
    · rw [State.put, Device.qualified_fast (d := s.dev.qualifyReached) hpre (hfet.trans hclosed) (by rw [hlevel]; exact hle)]
      refine ⟨by simp, by simp, ?_, Device.chgEnter_fast _⟩
      refine Eq.trans ?_ htime
      rw [Device.now, ← hbatch]
      simp [Device.now]
    · rw [State.put, Device.qualified_done (d := s.dev.qualifyReached) hpre (hfet.trans hclosed) (by rw [hlevel]; exact hlt)]
      exact ⟨by simp, Device.chgEnter_closed (hfet.trans hclosed) nofun nofun⟩
  · refine State.onDev_same hcalm (Device.when_false _ ?_)
    rcases hno with h | h | h
    · simp [Device.chgIn, h]
    · simp [Device.chgIn, h]
    · simp only [h, Bool.and_false]
  · have heq : s.dev.when ((s.dev.chgIn fun p => decide (p = .precharge)) &&
        s.dev.showsOpen (decide (s.dev.prechargeExit ≤ s.dev.sample.batMv))) (·.chgFast .fast) = s.dev.chgFast .fast :=
      Device.when_true _ (by simp only [Device.chgIn_eq hruns, hphase, hshows, decide_true, Bool.and_self])
    refine ⟨_, State.onDev_put heq ((Device.chgFast_grave _ _).trans hcalm) (Device.chgFast_moved _ _).frame.2.1, ?_, ?_, ?_, ?_⟩
    · simp [State.put]
    · exact s.dev.chgEnter_fast
    · simp [State.put]
    · simp [State.put]
  · exact State.onDev_same hcalm (Device.when_false _ (by simp [Device.chgIn, hfast, hrech]))
  · have heq : s.dev.when (s.dev.chgIn fun p => decide (p = .fast) || decide (p = .recharge)) (·.chgEnter .taper) = s.dev.chgEnter .taper :=
      Device.when_true _ (by simpa [Device.chgIn_eq hruns] using hphase)
    refine ⟨_, State.onDev_put heq ((Device.chgEnter_grave _ _).trans hcalm) (by simp), ?_, ?_⟩
    · simp [State.put]
    · simp [State.put]
  · subst hlow
    refine State.onDev_same hcalm (Device.when_false _ ?_)
    rcases hno with h | h
    · simp [Device.chgIn, h]
    · simp only [h, Bool.and_false]
  · subst hlow
    obtain ⟨hcount, hend, hq, hvalid, hbatch, hgrave⟩ := s.dev.chgTerminates_shows
    refine ⟨_, State.onDev_put (Device.when_true _ ?_) (hgrave.trans hcalm) hbatch, hcount, hend, hq, hvalid⟩
    simp only [Device.chgIn_eq hruns, hphase, hl, decide_true, Bool.and_self]
  · have hdue : (s.dev.when (s.dev.chgIn fun p => decide (p = .topoff)) fun d =>
        d.dueAt (d.now + (60000000 * d.fn Fld.chgTopoffMin - d.chg.tTop)) (·.chgEnter .done)) =
        s.dev.dueAt (s.dev.now + (60000000 * s.dev.fn Fld.chgTopoffMin - s.dev.chg.tTop)) (·.chgEnter .done) :=
      Device.when_true _ (by simp [Device.chgIn_eq hruns, hphase])
    refine ⟨_, State.onClk_comes hcomes hdue ((Device.chgEnter_grave _ _).trans hcalm) (by simp), ?_, ?_⟩
    · simp [State.put]
    · have hnow := Device.moveTo_now hcomes.1 hcomes.2.1
      simpa [State.put, Device.now] using hnow
  · exact State.onClk_same hcalm (Device.when_false _ (by simp [Device.chgIn, hphase]))
  · subst hlow
    refine State.onDev_same hcalm (Device.when_false _ ?_)
    rcases hno with h | h
    · simp [Device.chgIn, h]
    · simp only [h, Bool.and_false]
  · subst hlow
    have heq : s.dev.when ((s.dev.chgIn fun p => decide (p = .done)) &&
        s.dev.showsOpen (decide (s.dev.sample.batMv < s.dev.rechargeLevel))) (·.chgRecharge) = s.dev.chgRecharge :=
      Device.when_true _ (by simp only [Device.chgIn_eq hruns, hphase, hl, decide_true, Bool.and_self])
    rcases hinput : s.dev.inputPresent with - | -
    · have hidle : s.dev.chgRecharge = s.dev.chgEnter .idle := if_neg (by simp [hinput])
      refine ⟨_, State.onDev_put (heq.trans hidle) ((Device.chgEnter_grave _ _).trans hcalm) (by simp), nofun, fun _ => ⟨?_, ?_⟩⟩
      · simp [State.put]
      · simp [State.put]
    · have hrech : s.dev.chgRecharge = (s.dev.chgFast .recharge).updChg fun c => { c with recharges := sat 0xFFFFFFFF (c.recharges + 1) } :=
        if_pos hinput
      refine ⟨_, State.onDev_put (heq.trans hrech) ((Device.chgFast_grave _ _).trans hcalm) (Device.chgFast_moved _ _).frame.2.1,
        fun _ => ⟨?_, ?_, ?_⟩, nofun⟩
      · simp [State.put]
      · simp [State.put]
      · simp [State.put, sat]
  · obtain ⟨h1, h2, h3, h4, h5, h6⟩ := Device.zoneTo_shows (d := s.dev.ntcGood) (s.dev.zoneFor temp s.dev.chg.zone) hruns hphase
    exact ⟨_, State.onDev_put (Device.when_true _ (by simp [hruns, hphase])) (h6.trans hcalm) h5, h1, h2, h3,
      fun hne hp => h4 (by rw [← h1]; exact hne) (by rw [← h1]; exact hp)⟩
  · refine ⟨_, State.onDev_put (Device.when_true _ ?_) ((Device.chgSettle_grave _).trans hcalm) (Device.chgSettle_batch _), ?_,
      fun hidle hlatched hstop => ?_⟩
    · simp only [hruns, hdock, hmargin, Bool.not_false, Bool.and_self]
    · exact (Device.chgSettle_zone _).2.2.2
    · exact Device.chgSettle_begins (d := s.dev.updChg fun c => { c with harvest := true }) hruns hidle hstop
        (by simp [Device.inputPresent]) hlatched
  · refine State.onDev_same hcalm (Device.when_false _ ?_)
    rcases hno with h | h | h
    · simp [h]
    · simp [h]
    · simp [h]
  · subst hdraws
    refine State.onDev_same hcalm (Device.when_false _ ?_)
    rcases hno with h | h
    · simp [h]
    · simp only [h, Bool.and_false]
  · subst hdraws
    refine ⟨_, State.onDev_put (Device.when_true _ ?_) ((Device.chgSettle_grave _).trans hcalm) (Device.chgSettle_batch _), ?_,
      fun hphase => ?_⟩
    · simp only [hdock, hd, Bool.not_false, Bool.and_self]
    · exact (Device.chgSettle_zone _).2.2.2
    · exact Device.chgSettle_ends (d := s.dev.updChg fun c => { c with harvest := false }) hruns hstop hzone
        (by simp [Device.inputPresent, hdock]) hphase

end Sys2Proof.Machine

/-! PROOFS. The charger's faults (R504 to R513). -/
namespace Sys2Proof.Machine

theorem exec_prechargeTimeout (s : State) : exec .prechargeTimeout s = s.onClk fun d => d.when d.preCounts fun d =>
    d.dueAt (d.now + (60000000 * d.fn Fld.chgTPreMin - d.chg.tPre)) fun d => d.chgLatch 1 (mv10 d.sample.batMv) := rfl

theorem exec_fastTimeout (s : State) : exec .fastTimeout s = s.onClk fun d => d.when d.fastCounts fun d =>
    d.dueAt (d.now + (600000000 * d.fn Fld.chgTFastMin - d.chg.tFast)) fun d => d.chgLatch 2 d.chg.phase.code := rfl

theorem exec_batteryRemoved (s : State) (route mv : Nat) : exec (.batteryRemoved route mv) s =
    s.onDev fun d => d.when ((d.chgIn ChgPhase.charging) &&
      (decide (route = 1) || (decide (route = 2) && decide (d.fn Fld.chgBatid = 1)) ||
        (decide (route = 3) && d.showsOpen (d.batStep mv)))) fun d => (d.batGone route mv).exhaustRelease := rfl

theorem exec_chgBatOv (s : State) (mv : Nat) : exec (.chgBatOv mv) s =
    s.onDev fun d => d.when (d.chgRuns && decide (d.path.fet = .charge) && decide (d.cv + 100 < mv)) fun d =>
      (d.probeBat).chgLatch 3 (mv10 mv) := rfl

theorem exec_chgOvFetfail (s : State) (mv : Nat) : exec (.chgOvFetfail mv) s =
    s.onDev fun d => d.when (d.collecting && decide (d.path.fet = .off) && decide (d.chemLimit < mv)) fun d =>
      (d.probeBat).chgLatch 4 (mv10 mv) := rfl

theorem exec_chgNtc (s : State) (b : Bool) : exec (.chgNtc b) s = s.onDev fun d => d.when d.chgRuns (·.ntcBad b) := rfl

theorem exec_chgBatid (s : State) (x : Nat) : exec (.chgBatid x) s =
    s.onDev fun d => d.when (d.chgRuns && decide (d.fn Fld.chgBatid = 1) &&
      (decide (x < d.fn Fld.chgBatidMin) || decide (d.fn Fld.chgBatidMax < x))) fun d => d.chgLatch 5 (sat 65535 x) := rfl

theorem exec_goneAutoRead (s : State) : exec .goneAutoRead s =
    s.onClk fun d => d.when (d.powered && decide (d.fn Fld.chgGoneAutoS ≠ 0) && d.chg.latched.getLsbD 0 && !d.chgRoomOpen) fun d =>
      match d.chg.okSince with
      | some t => d.dueAt (t + 1000000 * d.fn Fld.chgGoneAutoS) (·.goneRead)
      | none => d := rfl

section
variable {d : Device}

theorem Device.isOpen_runs (h : d.isOpen = true) : d.chgRuns = true := by
  rw [Device.isOpen_iff] at h
  simp [Device.chgRuns, h]

theorem Device.isOpen_shows (h : d.isOpen = true) (p : Bool) : d.showsOpen p = p := by
  simp [Device.showsOpen, h]

theorem Device.isOpen_collecting (h : d.isOpen = true) : d.collecting = true :=
  Device.powered_collecting (Device.isOpen_powered h)

/-! ### Latching a fault (R513) -/

/-- The fault as it is latched, before its message. -/
def Device.chgLatched (d : Device) (k : Nat) : Device :=
  (d.updChg fun c => { c with latched := c.latched ||| BitVec.twoPow 8 k }).chgEnter .fault

theorem Device.chgLatched_shows (d : Device) (k : Nat) : (d.chgLatched k).chg =
      { d.chg with latched := d.chg.latched ||| BitVec.twoPow 8 k, phase := .fault, preFetOff := false } ∧
    (d.chgLatched k).path.fet = (if d.fetIsOff then .off else .supply) ∧ (d.chgLatched k).faults = d.faults ∧
    (d.chgLatched k).batch = d.batch ∧ (d.chgLatched k).power = d.power := by
  exact ⟨rfl, rfl, rfl, rfl, rfl⟩

theorem Device.chgLatch_open {k : Nat} (q : Nat) (hopen : d.isOpen = true) : d.chgLatch k q = (d.chgLatched k).chgRaise (k + 1) q := by
  have hopen' : (d.chgLatched k).isOpen = true := hopen
  unfold Device.chgLatch
  exact if_pos (.inl hopen')

/-- A fault that is reported by a message of its own, not through pair 15. -/
theorem Device.chgLatch_message {k : Nat} (q : Nat) (hopen : d.isOpen = true) (h3 : k ≠ 3) (h4 : k ≠ 4) :
    d.chgLatch k q = (d.chgLatched k).raise (coded 0x0A (k + 1) q) := by
  rw [Device.chgLatch_open q hopen]
  exact if_neg (by omega)

/-- What such a fault shows. -/
theorem Device.chgLatch_shows {k : Nat} (q : Nat) (hopen : d.isOpen = true) (h3 : k ≠ 3) (h4 : k ≠ 4) (hk : k < 7) :
    (d.chgLatch k q).chg = { d.chg with latched := d.chg.latched ||| BitVec.twoPow 8 k, phase := .fault, preFetOff := false } ∧
    (d.chgLatch k q).path.fet = (if d.fetIsOff then .off else .supply) ∧ (d.chgLatch k q).batch = d.batch ∧
    (d.chgLatch k q).faults.graveDue = d.faults.graveDue ∧ (d.faults.fifo.length < 64 → (d.chgLatch k q).Said (coded 0x0A (k + 1) q)) ∧
    Device.Reports 1 d (d.chgLatch k q) := by
  have hfloor : (kindClasses (0x0A % 256) ((k + 1) % 256) 0).1 ≠ 4 := by
    obtain rfl | rfl | rfl | rfl | rfl : k = 0 ∨ k = 1 ∨ k = 2 ∨ k = 5 ∨ k = 6 := by omega
    all_goals decide
  obtain ⟨hchg, hfet, hfaults, hbatch, hpower⟩ := d.chgLatched_shows k
  have hgrave := (d.chgLatched k).raise_coded_grave 0x0A (k + 1) q hfloor
  have hcoll : (d.chgLatched k).collecting = true := Device.isOpen_collecting (d := d.chgLatched k) hopen
  rw [Device.chgLatch_message q hopen h3 h4]
  refine ⟨?_, ?_, ?_, hgrave.trans (by rw [hfaults]), fun hroom => ?_, .after hfaults (Device.raise_reports _ hfloor)⟩
  · simpa using hchg
  · simpa using hfet
  · simpa using hbatch
  · exact Device.raise_coded_said _ 0x0A (k + 1) q hcoll hfloor (by rw [hfaults]; exact hroom)

/-! ### Over-voltage, through pair 15 -/

theorem Device.chgLatch_pair {k : Nat} (q : Nat) (hopen : d.isOpen = true) (hk : k = 3 ∨ k = 4) :
    d.chgLatch k q = (d.chgLatched k).raiseOn 15 (coded 0x0A (k + 1) q) := by
  rw [Device.chgLatch_open q hopen]
  exact if_pos (by omega)

theorem Device.raiseOn_cut {p : Fin 24} {m : Word} (h : d.pairCut p = true) : d.raiseOn p m = d := if_pos h

/-- A Grave kind through a pair whose line is good waits for the Grave path. -/
theorem Device.raiseOn_waits {p : Fin 24} {m : Word} (hcut : d.pairCut p = false) (hcoll : d.collecting = true)
    (hgrave : d.classify m = .grave) (hcalm : d.Calm) :
    d.raiseOn p m = d.updFaults fun f => { f with graveDue := some (m, true) } := by
  simp [Device.raiseOn, Device.raisePair, Device.raiseAs, Device.updFaults, hcut, hcoll, hgrave, hcalm]

/-! ### The removal (R508, R509) -/

/-- The removal up to its message. -/
def Device.goneFound (d : Device) (route mv : Nat) : Device :=
  (d.updChg fun c => { c with ntcOpen := c.ntcOpen || decide (route = 1), lastBatsns := mv }).updFaults fun f =>
    { f with probeMisc := f.probeMisc ||| (if route = 1 then 0x40 else if route = 2 then 0x80 else 0) }

/-- The removal as it is latched, with the estimate that ends. -/
def Device.goneLatched (d : Device) (route mv : Nat) : Device :=
  (((d.goneFound route mv).chgLatch 0 route).updChg fun c => { c with removed := true, requalified := false }).updGauge fun g =>
    { g with validity := .none, seedDue := false }

theorem Device.batGone_eq (d : Device) (route mv : Nat) : d.batGone route mv = (d.goneLatched route mv).fetOpen 3 := rfl

theorem Device.fetOpen_moved (d : Device) (cause : Nat) : (d.fetOpen cause).chg = d.chg ∧ (d.fetOpen cause).priv = d.priv ∧
    Device.Reports 1 d (d.fetOpen cause) := by
  refine ⟨?_, ?_, ?_⟩
  · simp [Device.fetOpen]
  · obtain ⟨-, -, hpriv, -⟩ := (Device.priUpdate_moved (d.updPath fun p => { p with
      fet := .off, fetCause := cause, fetReady := p.fetReady && decide (cause = 4) })).frame
    exact hpriv
  · exact Device.Reports.after (e := d.updPath fun p => { p with
      fet := .off, fetCause := cause, fetReady := p.fetReady && decide (cause = 4) }) rfl (Device.priUpdate_reports (by simp [Device.fetIsOff])).reports

/-- What a removal shows, with what may follow from it. -/
theorem Device.batGone_shows (route mv : Nat) (hopen : d.isOpen = true) (hroom : d.faults.fifo.length < 60) :
    (d.batGone route mv).exhaustRelease.chg.phase = .fault ∧
    (d.batGone route mv).exhaustRelease.chg.latched = d.chg.latched ||| 1 ∧
    (d.batGone route mv).exhaustRelease.chg.removed = true ∧ (d.batGone route mv).exhaustRelease.chg.requalified = false ∧
    (d.batGone route mv).exhaustRelease.path.fet = .off ∧ (d.batGone route mv).exhaustRelease.path.fetCause = 3 ∧
    (d.batGone route mv).exhaustRelease.priv.gauge.validity = .none ∧
    (d.batGone route mv).exhaustRelease.Said (coded 0x0A 1 route) ∧
    (d.batGone route mv).exhaustRelease.batch = d.batch ∧
    (d.batGone route mv).exhaustRelease.faults.graveDue = d.faults.graveDue := by
  have hfound : (d.goneFound route mv).isOpen = true := hopen
  obtain ⟨hchg, -, hbatch, hgrave, hsaid, hone⟩ := Device.chgLatch_shows (d := d.goneFound route mv) (k := 0) route hfound
    (by decide) (by decide) (by decide)
  have hlatched : (d.goneLatched route mv).chg = { (d.goneFound route mv).chg with
      latched := d.chg.latched ||| 1, phase := .fault, preFetOff := false, removed := true, requalified := false } := by
    have h : (d.goneLatched route mv).chg =
        { ((d.goneFound route mv).chgLatch 0 route).chg with removed := true, requalified := false } := rfl
    rw [h, hchg]
    rfl
  obtain ⟨hfet, hcause, -, -, hbatch', hgrave'⟩ := (d.goneLatched route mv).fetOpen_shows 3
  obtain ⟨hchg', hpriv', hmore⟩ := (d.goneLatched route mv).fetOpen_moved 3
  have hrelease := ((d.goneLatched route mv).fetOpen 3).exhaustRelease_reports
  rw [Device.batGone_eq]
  simp only [Device.exhaustRelease_frame, hchg', hpriv', hlatched, hrelease.grave]
  refine ⟨trivial, trivial, trivial, trivial, hfet, hcause, rfl, ?_, ?_, ?_⟩
  · obtain ⟨x, hx, hm⟩ := hsaid (Nat.lt_trans hroom (by decide))
    have hrest : Device.Reports 2 ((d.goneFound route mv).chgLatch 0 route) ((d.goneLatched route mv).fetOpen 3).exhaustRelease :=
      .after (e := d.goneLatched route mv) rfl (hmore.trans hrelease)
    have hload := hone.load
    have hfull := d.faults.load_le
    have hsame : (d.goneFound route mv).faults.load = d.faults.load := rfl
    exact ⟨x, (hrest.keeps (by omega)).subset hx, hm⟩
  · rw [hbatch']
    exact hbatch
  · rw [hgrave']
    exact hgrave

/-! ### The end of a removal by itself (R512) -/

theorem Device.seedOrWait_moved (d : Device) (bat : Nat) (temp : Int) : d.GaugeMoved (d.seedOrWait bat temp) := by
  unfold Device.seedOrWait Device.gaugeSeed
  exact Device.ite_along ((d.updGauge_moved _).trans (Device.raise_gaugeMoved _ (by decide))) (d.updGauge_moved _)

/-- What a restart keeps of the charger. -/
theorem Device.gaugeRestart_shows (d : Device) (bat : Nat) (temp : Int) : (d.gaugeRestart bat temp).chg.latched = d.chg.latched ∧
    (d.gaugeRestart bat temp).chg.requalified = d.chg.requalified ∧ (d.gaugeRestart bat temp).batch = d.batch ∧
    (d.gaugeRestart bat temp).faults.graveDue = d.faults.graveDue := by
  unfold Device.gaugeRestart
  split
  · have hmoved := (d.updChg fun c => { c with removed := false }).seedOrWait_moved bat temp
    obtain ⟨-, hbatch, -, hchg, -⟩ := hmoved.frame
    rw [hchg, hbatch, hmoved.2]
    exact ⟨rfl, rfl, rfl, rfl⟩
  · exact ⟨rfl, rfl, rfl, rfl⟩

theorem Device.chgSettle_latched (d : Device) : d.chgSettle.chg.latched = d.chg.latched ∧
    d.chgSettle.chg.requalified = d.chg.requalified :=
  Device.chgSettle_along (R := fun d e => e.chg.latched = d.chg.latched ∧ e.chg.requalified = d.chg.requalified)
    (fun _ => ⟨rfl, rfl⟩) (fun h h' => ⟨h'.1.trans h.1, h'.2.trans h.2⟩) (fun _ => ⟨rfl, rfl⟩) (fun d p _ => by simp) d

/-- The latched kinds of a mask as they are cleared, before FAULT ends. -/
def Device.chgCleared (d : Device) (mask : BitVec 8) : Device :=
  let d := d.each (List.range 7) fun k d => d.when (mask.getLsbD k && d.chg.latched.getLsbD k) (·.clearActive 0x0A (k + 1))
  d.updChg fun c => { c with
    latched := c.latched &&& ~~~mask, clearSince := if c.latched &&& ~~~mask = 0 then d.now else c.clearSince }

theorem Device.chgCleared_shows (d : Device) (mask : BitVec 8) : (d.chgCleared mask).chg.latched = d.chg.latched &&& ~~~mask ∧
    (d.chgCleared mask).chg.requalified = d.chg.requalified ∧ (d.chgCleared mask).batch = d.batch ∧
    (d.chgCleared mask).faults.graveDue = d.faults.graveDue := by
  have hkeeps : ∀ {α : Type} (p : Device → α), (∀ e k, p (e.clearActive 0x0A (k + 1)) = p e) →
      p (d.each (List.range 7) fun k d => d.when (mask.getLsbD k && d.chg.latched.getLsbD k) (·.clearActive 0x0A (k + 1))) = p d :=
    fun p hp => Device.each_keeps p (fun k e => Device.when_keeps p (hp e k)) _ d
  refine ⟨?_, ?_, ?_, ?_⟩
  · simp [Device.chgCleared, hkeeps Device.chg (fun _ _ => rfl)]
  · simp [Device.chgCleared, hkeeps Device.chg (fun _ _ => rfl)]
  · simp [Device.chgCleared, hkeeps Device.batch (fun _ _ => rfl)]
  · exact hkeeps (·.faults.graveDue) (fun _ _ => rfl)

theorem Device.chgRead_shows (d : Device) (mask : BitVec 8) : (d.chgRead mask).chg.latched = d.chg.latched &&& ~~~mask ∧
    (d.chgRead mask).chg.requalified = d.chg.requalified ∧ (d.chgRead mask).batch = d.batch ∧
    (d.chgRead mask).faults.graveDue = d.faults.graveDue := by
  have heq : d.chgRead mask = if (d.chgCleared mask).chg.phase = .fault ∧ (d.chgCleared mask).chg.latched = 0
      then ((d.chgCleared mask).chgEnter .idle).chgSettle else d.chgCleared mask := rfl
  obtain ⟨h1, h2, h3, h4⟩ := d.chgCleared_shows mask
  rw [heq]
  split
  · obtain ⟨hl, hr⟩ := ((d.chgCleared mask).chgEnter .idle).chgSettle_latched
    rw [hl, hr, Device.chgSettle_batch, Device.chgSettle_grave]
    simp [h1, h2, h3, h4]
  · exact ⟨h1, h2, h3, h4⟩

/-- The removal as it is read, before the entry that records it. -/
def Device.goneReadable (d : Device) : Device := (d.free.2.updChg fun c => { c with requalified := true }).chgRead 1

theorem Device.goneRead_shows (d : Device) : d.goneRead.chg.latched = d.chg.latched &&& ~~~1 ∧ d.goneRead.chg.requalified = true ∧
    d.goneRead.batch = d.batch ∧ d.goneRead.faults.graveDue = d.faults.graveDue := by
  obtain ⟨h1, h2, h3, h4⟩ := (d.free.2.updChg fun c => { c with requalified := true }).chgRead_shows 1
  have hgrave := d.goneReadable.raise_coded_grave 0x0F 5 (d.free.1 % 65536) (by decide)
  obtain ⟨r1, r2, r3, r4⟩ := (d.goneReadable.raise (coded 0x0F 5 (d.free.1 % 65536))).gaugeRestart_shows
    d.goneReadable.sample.batMv d.goneReadable.sample.batTemp
  have heq : d.goneRead = (d.goneReadable.raise (coded 0x0F 5 (d.free.1 % 65536))).gaugeRestart
    d.goneReadable.sample.batMv d.goneReadable.sample.batTemp := rfl
  rw [heq, r1, r2, r3, r4, hgrave]
  simp only [Device.raise_frame]
  exact ⟨h1, h2, h3, h4⟩

/-! ### The rows -/

/-- A kind whose floor is C4 is Grave. -/
theorem Device.classify_coded_grave (d : Device) {a b : Nat} (q : Nat) (h : (kindClasses (a % 256) (b % 256) 0).1 = 4) :
    d.classify (coded a b q) = .grave := by
  have hfloor := (classNeverBelowItsFloor d (coded a b q)).1
  rw [msgSource_coded, msgKind_coded, kindClasses_floor _ _ _ 0, h] at hfloor
  cases hc : d.classify (coded a b q) with
  | grave => rfl
  | _ => rw [hc] at hfloor; exact absurd hfloor (by decide)

/-- What latching a fault through pair 15 shows: the over-voltage with the FET in CHARGE. -/
theorem Device.chgLatch_bat (q : Nat) (hopen : d.isOpen = true) (hroom : d.faults.fifo.length < 64) :
    (d.chgLatch 3 q).chg = { d.chg with latched := d.chg.latched ||| BitVec.twoPow 8 3, phase := .fault, preFetOff := false } ∧
    (d.chgLatch 3 q).path.fet = (if d.fetIsOff then .off else .supply) ∧ (d.chgLatch 3 q).batch = d.batch ∧
    (d.chgLatch 3 q).faults.graveDue = d.faults.graveDue ∧ (d.pairCut 15 = false → (d.chgLatch 3 q).Said (coded 0x0A 4 q)) := by
  obtain ⟨hchg, hfet, hfaults, hbatch, -⟩ := d.chgLatched_shows 3
  have hcut : (d.chgLatched 3).pairCut 15 = d.pairCut 15 := rfl
  rw [Device.chgLatch_pair q hopen (.inl rfl)]
  refine ⟨?_, ?_, ?_, ?_, fun hline => ?_⟩
  · rw [((d.chgLatched 3).raiseOn_same 15 _).chg]
    exact hchg
  · rw [Device.raiseOn_path]
    exact hfet
  · rw [Device.raiseOn_batch]
    exact hbatch
  · rw [Device.raiseOn_coded_grave _ _ _ _ _ (by decide), hfaults]
  · exact Device.raiseOn_coded_said _ 15 0x0A 4 q (hcut.trans hline) (Device.isOpen_collecting (d := d.chgLatched 3) hopen) (by decide)
      (by rw [hfaults]; exact hroom)

/-- A failed FET's over-voltage is Grave where its line is good. -/
theorem Device.chgLatch_waits (q : Nat) (hopen : d.isOpen = true) (hcut : d.pairCut 15 = false) (hcalm : d.Calm) :
    (d.chgLatch 4 q).faults.graveDue = some (coded 0x0A 5 q, true) := by
  have hcut' : (d.chgLatched 4).pairCut 15 = false := hcut
  have hcoll : (d.chgLatched 4).collecting = true := Device.isOpen_collecting (d := d.chgLatched 4) hopen
  rw [Device.chgLatch_pair q hopen (.inr rfl), Device.raiseOn_waits hcut' hcoll (Device.classify_coded_grave _ _ (by decide)) hcalm]
  rfl

/-- Behind a pair that is cut, it only stops the charging. -/
theorem Device.chgLatch_silent (q : Nat) (hopen : d.isOpen = true) (hcut : d.pairCut 15 = true) (hoff : d.fetIsOff = true) :
    (d.chgLatch 4 q).chg.phase = .fault ∧ (d.chgLatch 4 q).chg.latched = d.chg.latched ||| 16 ∧ (d.chgLatch 4 q).path.fet = .off ∧
    (d.chgLatch 4 q).faults.graveDue = d.faults.graveDue ∧ (d.chgLatch 4 q).batch = d.batch := by
  have hcut' : (d.chgLatched 4).pairCut 15 = true := hcut
  rw [Device.chgLatch_pair q hopen (.inr rfl), Device.raiseOn_cut hcut', (d.chgLatched_shows 4).2.1, if_pos hoff]
  exact ⟨rfl, rfl, rfl, rfl, rfl⟩

end

/-- Settles O47: what latching a fault shows, once for the fault's own message and once for pair 15. -/
theorem chargerFaultsLatch : Obligations.ChargerFaultsLatch := by
  unfold Obligations.ChargerFaultsLatch
  intro s hcalm hopen hroom
  have hruns := Device.isOpen_runs hopen
  simp only [exec_prechargeTimeout, exec_fastTimeout, exec_batteryRemoved, exec_chgBatOv, exec_chgOvFetfail, exec_chgNtc, exec_chgBatid,
    exec_goneAutoRead]
  refine ⟨fun hon hcomes => ?_, fun hno => ?_, fun hon hcomes => ?_, fun hno => ?_, fun route mv hphase hroute => ?_, fun route mv hno => ?_,
    fun mv hfet hmv => ?_, fun mv hno => ?_, fun mv hfet hmv => ?_, fun mv hno => ?_, ?_, fun hphase => ?_, fun hphase => ?_,
    fun x hid hx => ?_, fun x hno => ?_, fun t0 hauto hbit hclosed ht0 hmeets => ?_, fun hno => ?_⟩
  · obtain ⟨hchg, hfet, hbatch, hgrave, hsaid, -⟩ := Device.chgLatch_shows
      (d := s.dev.moveTo (s.dev.now + (60000000 * s.dev.fn Fld.chgTPreMin - s.dev.chg.tPre))) (k := 1)
      (mv10 s.dev.sample.batMv) hopen (by decide) (by decide) (by decide)
    refine ⟨_, State.onClk_comes hcomes (f := fun d => d.chgLatch 1 (mv10 d.sample.batMv)) (Device.when_true _ hon) (hgrave.trans hcalm) hbatch,
      ?_, ?_, hsaid (Nat.lt_trans hroom (by decide)), hfet⟩
    · exact congrArg (·.phase) hchg
    · exact congrArg (·.latched) hchg
  · exact State.onClk_same hcalm (Device.when_false _ hno)
  · obtain ⟨hchg, hfet, hbatch, hgrave, hsaid, -⟩ := Device.chgLatch_shows
      (d := s.dev.moveTo (s.dev.now + (600000000 * s.dev.fn Fld.chgTFastMin - s.dev.chg.tFast))) (k := 2)
      s.dev.chg.phase.code hopen (by decide) (by decide) (by decide)
    refine ⟨_, State.onClk_comes hcomes (f := fun d => d.chgLatch 2 d.chg.phase.code) (Device.when_true _ hon) (hgrave.trans hcalm) hbatch,
      ?_, ?_, hsaid (Nat.lt_trans hroom (by decide))⟩
    · exact congrArg (·.phase) hchg
    · exact congrArg (·.latched) hchg
  · exact State.onClk_same hcalm (Device.when_false _ hno)
  · obtain ⟨h1, h2, h3, h4, h5, h6, h7, h8, hbatch, hgrave⟩ := s.dev.batGone_shows route mv hopen hroom
    refine ⟨_, State.onDev_put (Device.when_true _ ?_) (hgrave.trans hcalm) hbatch, h1, h2, h3, h4, h5, h6, h7, h8⟩
    rw [Device.chgIn_eq hruns, Device.isOpen_shows hopen]
    simpa [hphase, or_assoc] using hroute
  · refine State.onDev_same hcalm (Device.when_false _ ?_)
    rw [Device.chgIn_eq hruns, Device.isOpen_shows hopen]
    rcases hno with h | ⟨h, h'⟩ | ⟨h, h'⟩
    · simp [h]
    · simp [h, h']
    · simp [h, h']
  · obtain ⟨hchg, hfet', hbatch, hgrave, hsaid⟩ := Device.chgLatch_bat (d := s.dev.probeBat) (mv10 mv) hopen (Nat.lt_trans hroom (by decide))
    refine ⟨_, State.onDev_put (Device.when_true _ ?_) (hgrave.trans hcalm) hbatch, ?_, ?_, hfet', hsaid⟩
    · simp [hruns, hfet, hmv]
    · exact congrArg (·.phase) hchg
    · exact congrArg (·.latched) hchg
  · refine State.onDev_same hcalm (Device.when_false _ ?_)
    rcases hno with h | h
    · simp [h]
    · simp [h]
  · have heq : s.dev.when (s.dev.collecting && decide (s.dev.path.fet = .off) && decide (s.dev.chemLimit < mv)) (fun d =>
        (d.probeBat).chgLatch 4 (mv10 mv)) = s.dev.probeBat.chgLatch 4 (mv10 mv) :=
      Device.when_true _ (by simp [Device.isOpen_collecting hopen, hfet, hmv])
    cases hcut : s.dev.pairCut 15 with
    | false =>
      have hwaits := Device.chgLatch_waits (d := s.dev.probeBat) (mv10 mv) hopen hcut hcalm
      exact ⟨_, State.onDev_grave (congrArg (·.faults.graveDue) heq |>.trans hwaits), fun _ => ⟨rfl, rfl⟩, nofun⟩
    | true =>
      have hoff : s.dev.probeBat.fetIsOff = true := by simp [Device.fetIsOff, Device.probeBat, Device.updFaults, hfet]
      obtain ⟨h1, h2, h3, hfaults, hbatch⟩ := Device.chgLatch_silent (d := s.dev.probeBat) (mv10 mv) hopen hcut hoff
      exact ⟨_, State.onDev_put heq (hfaults.trans hcalm) hbatch, nofun, fun _ => ⟨h1, h2, h3⟩⟩
  · refine State.onDev_same hcalm (Device.when_false _ ?_)
    rcases hno with h | h
    · simp [h]
    · simp [h]
  · obtain ⟨hchg, -, hbatch, hgrave, hsaid, -⟩ := Device.chgLatch_shows
      (d := s.dev.updChg fun c => { c with ntcShort := true, ntcOpen := false }) (k := 6) 0 hopen (by decide) (by decide) (by decide)
    refine ⟨_, State.onDev_put (Device.when_true _ hruns) (hgrave.trans hcalm) hbatch, ?_, ?_, ?_, hsaid (Nat.lt_trans hroom (by decide))⟩
    · exact congrArg (·.phase) hchg
    · exact congrArg (·.latched) hchg
    · exact congrArg (·.ntcShort) hchg
  · have h1 : s.dev.when s.dev.chgRuns (·.ntcBad false) = (s.dev.batGone 1 s.dev.chg.lastBatsns).exhaustRelease :=
      (Device.when_true _ hruns).trans ((if_neg (by decide)).trans (if_pos hphase))
    have h2 := Device.when_true (d := s.dev) (fun d => (d.batGone 1 s.dev.chg.lastBatsns).exhaustRelease)
      (c := (s.dev.chgIn ChgPhase.charging) && (decide (1 = 1) || (decide (1 = 2) && decide (s.dev.fn Fld.chgBatid = 1)) ||
        (decide (1 = 3) && s.dev.showsOpen (s.dev.batStep s.dev.chg.lastBatsns)))) (by simp [Device.chgIn_eq hruns, hphase])
    exact (State.onDev_of_eq (f := fun d => d.when d.chgRuns (·.ntcBad false)) h1).trans (State.onDev_of_eq h2).symm
  · have heq : s.dev.when s.dev.chgRuns (·.ntcBad false) = _ :=
      (Device.when_true _ hruns).trans ((if_neg (by decide)).trans (if_neg (by simp [hphase])))
    exact ⟨_, State.onDev_put heq hcalm rfl, rfl, rfl, rfl⟩
  · obtain ⟨hchg, hfet', hbatch, hgrave, hsaid, -⟩ := Device.chgLatch_shows (d := s.dev) (k := 5) (sat 65535 x) hopen
      (by decide) (by decide) (by decide)
    refine ⟨_, State.onDev_put (Device.when_true _ ?_) (hgrave.trans hcalm) hbatch, ?_, ?_, ?_⟩
    · simp [hruns, hid, hx]
    · exact congrArg (·.phase) hchg
    · exact congrArg (·.latched) hchg
    · exact hsaid (Nat.lt_trans hroom (by decide))
  · refine State.onDev_same hcalm (Device.when_false _ ?_)
    rcases hno with h | ⟨h, h'⟩
    · simp [h]
    · simp [h, h']
  · obtain ⟨h1, h2, hbatch, hgrave⟩ := (s.dev.moveTo (t0 + 1000000 * s.dev.fn Fld.chgGoneAutoS)).goneRead_shows
    have hpow := Device.isOpen_powered hopen
    have heq : (s.dev.when (s.dev.powered && decide (s.dev.fn Fld.chgGoneAutoS ≠ 0) && s.dev.chg.latched.getLsbD 0 && !s.dev.chgRoomOpen) fun d =>
        match d.chg.okSince with
        | some t => d.dueAt (t + 1000000 * d.fn Fld.chgGoneAutoS) (·.goneRead)
        | none => d) = s.dev.dueAt (t0 + 1000000 * s.dev.fn Fld.chgGoneAutoS) (·.goneRead) :=
      (Device.when_true _ (by simp [hpow, hauto, hbit, hclosed])).trans (by simp only [ht0])
    refine ⟨_, State.onClk_meets hmeets heq (hgrave.trans hcalm) hbatch, ?_, h1, h2⟩
    rw [State.put, Device.now, hbatch]
    exact Device.moveTo_time hmeets.1
  · refine State.onClk_same hcalm ?_
    rcases hno with h | h | h | h
    · exact Device.when_false _ (by simp [h])
    · exact Device.when_false _ (by simp only [h, Bool.and_false, Bool.false_and])
    · exact Device.when_false _ (by simp [h])
    · exact Device.when_same (by simp only [h])
end Sys2Proof.Machine

/-! PROOFS. Intake (R245, R319, R326). -/
namespace Sys2Proof.Machine

section
variable {d e : Device} {n : RoomId}

/-- The status that an answer shows: in its slot of the ring, or in the completion that waits behind others of its Room. -/
def Device.Tells (d e : Device) (n : RoomId) (v : Byte) : Prop :=
  (d.waitingOf n = 0 ∧ e.winRead n (0xA00 + 16 * ((d.rooms.get n).cqTail.toNat % 64) + 4) = v) ∨
  (d.waitingOf n ≠ 0 ∧ ∃ w, e.reqs.waiting.getLast? = some w ∧ w.compl.status = v)

/-- What an answer changes. -/
def Device.AnswersOnly (d e : Device) (n : RoomId) : Prop :=
  (d.waitingOf n = 0 → e = { d with
      rooms := e.rooms, wram := e.wram } ∧ (e.rooms.get n).cqTail = (d.rooms.get n).cqTail + 1 ∧
    ∀ m, m ≠ n → e.rooms.get m = d.rooms.get m ∧ ∀ a, a < 4096 → e.winRead m a = d.winRead m a) ∧
  (d.waitingOf n ≠ 0 → e = { d with reqs := { d.reqs with waiting := e.reqs.waiting } } ∧
    ∃ w, e.reqs.waiting = d.reqs.waiting ++ [w] ∧ w.id.room = n ∧ w.final = false)

/-! ### One completion in the ring (R300, R314) -/

theorem slice_length (l : List Byte) (off k : Nat) : (slice l off k).length = k := by
  simp only [slice, List.length_append, List.length_replicate, List.length_take]
  omega

theorem complBytes_length (tag seq : Half) (status cflags : Nat) (batch : BitVec 48) (result : List Byte) :
    (complBytes tag seq status cflags batch result).length = 16 := by
  simp [complBytes, leBytes_length, slice_length]

theorem complBytes_status (tag seq : Half) (status cflags : Nat) (batch : BitVec 48) (result : List Byte) :
    (complBytes tag seq status cflags batch result)[4]? = some (BitVec.ofNat 8 status) := rfl

/-- A slot of a Room's ring lies in that Room's window. -/
theorem Device.winWrite_other {bytes : List Byte} {off a : Nat} {m : RoomId} (hwf : d.MemWf) (hm : m ≠ n)
    (hoff : off + bytes.length ≤ 4096) (ha : a < 4096) : (d.winWrite n off bytes).winRead m a = d.winRead m a := by
  refine cellRead_cellsWrite_out bytes hwf.1 ?_
  have hne : m.val ≠ n.val := fun h => hm (Fin.ext h)
  omega

theorem Device.winWrite_read {bytes : List Byte} {off i : Nat} {v : Byte} (hwf : d.MemWf) (hv : bytes[i]? = some v) :
    (d.winWrite n off bytes).winRead n (off + i) = v := by
  obtain ⟨hi, hv⟩ := List.getElem?_eq_some_iff.1 hv
  rw [← hv, ← cellRead_cellsWrite_in (dflt := zeroByte) (a := n.val * 4096 + off) bytes hwf.1 hi, Nat.add_assoc]
  rfl

theorem RoomRegs.setFlag_cqTail (k : Nat) (r : RoomRegs) : (r.setFlag k).cqTail = r.cqTail := by
  unfold RoomRegs.setFlag
  split <;> rfl

/-- Posting changes the ring and the flags of its Room. -/
theorem Device.postSlot_shows (d : Device) (n : RoomId) (bytes : List Byte) (quiet : Bool) :
    d.postSlot n bytes quiet = { d with
      rooms := (d.postSlot n bytes quiet).rooms
      wram := (d.postSlot n bytes quiet).wram } ∧
    (d.postSlot n bytes quiet).wram = (d.winWrite n (0xA00 + 16 * ((d.rooms.get n).cqTail.toNat % 64)) bytes).wram ∧
    ((d.postSlot n bytes quiet).rooms.get n).cqTail = (d.rooms.get n).cqTail + 1 ∧
    ∀ m, m ≠ n → (d.postSlot n bytes quiet).rooms.get m = d.rooms.get m := by
  cases quiet with
  | true =>
    refine ⟨rfl, rfl, ?_, fun m hm => ?_⟩
    · simp [Device.postSlot, Device.when, Device.winWrite]
    · simp [Device.postSlot, Device.when, Device.winWrite, vget_vmod_ne _ _ hm]
  | false =>
    refine ⟨rfl, rfl, ?_, fun m hm => ?_⟩
    · simp [Device.postSlot, Device.when, Device.winWrite, Device.flag, RoomRegs.setFlag_cqTail]
    · simp [Device.postSlot, Device.when, Device.winWrite, Device.flag, vget_vmod_ne _ _ hm]

/-! ### An answer (R326, R332) -/

section
variable {tag seq : Half} {status cflags : Nat} {result : List Byte} {quiet : Bool}

theorem Device.answer_room (h : d.answer n tag seq status cflags result quiet = some e) :
    (d.rooms.get n).cqUsed + d.waitingOf n < 64 := by
  by_contra hfull
  rw [Device.answer, if_pos (by omega)] at h
  exact nomatch h

theorem Device.answer_given (h : (d.rooms.get n).cqUsed + d.waitingOf n < 64) :
    ∃ e, d.answer n tag seq status cflags result quiet = some e := by
  rw [Device.answer, if_neg (by omega)]
  split
  · exact ⟨_, rfl⟩
  · exact ⟨_, rfl⟩

theorem Device.answer_shows (hwf : d.MemWf) (h : d.answer n tag seq status cflags result quiet = some e) :
    d.AnswersOnly e n ∧ d.Tells e n (BitVec.ofNat 8 status) := by
  have hroom := Device.answer_room h
  rw [Device.answer, if_neg (by omega)] at h
  by_cases hw : d.waitingOf n = 0
  · rw [if_pos hw] at h
    obtain rfl := Option.some.inj h
    obtain ⟨heq, hwram, htail, hothers⟩ := d.postSlot_shows n (complBytes tag seq status cflags d.batch.number result) quiet
    refine ⟨⟨fun _ => ⟨heq, htail, fun m hm => ⟨hothers m hm, fun a ha => ?_⟩⟩, fun hne => absurd hw hne⟩, .inl ⟨hw, ?_⟩⟩
    · rw [Device.winRead, hwram]
      refine Device.winWrite_other (d := d) hwf hm ?_ ha
      rw [complBytes_length]
      omega
    · rw [Device.winRead, hwram]
      exact Device.winWrite_read (d := d) hwf (complBytes_status ..)
  · rw [if_neg hw] at h
    obtain rfl := Option.some.inj h
    exact ⟨⟨fun h0 => absurd h0 hw, fun _ => ⟨rfl, _, rfl, rfl, rfl⟩⟩, .inr ⟨hw, _, List.getLast?_concat .., rfl⟩⟩

end

/-! ### The checks in their order (R245, R319) -/

section
variable {h : Hdr}

theorem Device.answerTaken_given (d : Device) (h : Hdr) {status cflags : Nat} {result : List Byte}
    (hroom : (d.rooms.get h.id.room).cqUsed + d.waitingOf h.id.room < 64) :
    ∃ e, d.answerTaken h status cflags result = .answered e ∧
      d.answer h.id.room h.id.tag h.id.seq status cflags result (bit h.flags 1 && decide (status ≠ stDup)) = some e := by
  obtain ⟨e, he⟩ := Device.answer_given (tag := h.id.tag) (seq := h.id.seq) (status := status) (cflags := cflags) (result := result)
    (quiet := bit h.flags 1 && decide (status ≠ stDup)) hroom
  exact ⟨e, by rw [Device.answerTaken, he], he⟩

/-- What intake hands on: nothing, one answer, or the record of a request that passed every check. -/
def Device.Fair (d : Device) (h : Hdr) : Taken → Prop
  | .stays => True
  | .answered e => ∃ tag seq status cflags result quiet, d.answer h.id.room tag seq status cflags result quiet = some e
  | .entered e => e = d.enterRec h (fingerprint h) ∧ h.wellFormed = true ∧ ((d.rooms.get h.id.room).st = .opened ∨ h.opcode = 0) ∧
      (∃ c, cmdOf h.opcode = some c ∧ c.check d h = none) ∧ (h.len = 0 ∨ d.blocks h.id.room < 128) ∧
      (quotaFree h.opcode = true ∨ d.romHold = true ∨ d.held h.id.room < (d.rooms.get h.id.room).quota)

theorem Device.answerTaken_fair (d : Device) (h : Hdr) (status cflags : Nat) (result : List Byte) :
    d.Fair h (d.answerTaken h status cflags result) := by
  unfold Device.answerTaken
  split
  next e he => exact ⟨_, _, _, _, _, _, he⟩
  next => trivial

theorem Device.dedupAnswer_fair {d : Device} {fp : Word} {t : Taken} (ht : d.dedupAnswer h fp = some t) : d.Fair h t := by
  unfold Device.dedupAnswer at ht
  dsimp only at ht
  split at ht
  next =>
    obtain rfl := Option.some.inj ht
    split <;> exact Device.answerTaken_fair ..
  next =>
    split at ht
    next =>
      obtain rfl := Option.some.inj ht
      split
      · split <;> exact Device.answerTaken_fair ..
      · exact Device.answerTaken_fair ..
    next =>
      split at ht
      next =>
        obtain rfl := Option.some.inj ht
        split <;> exact Device.answerTaken_fair ..
      next => exact nomatch ht

theorem Device.take_fair (d : Device) (h : Hdr) : d.Fair h (d.take cmdOf h) := by
  unfold Device.take
  dsimp only
  by_cases hw : h.wellFormed = true
  · rw [if_neg (by simp [hw])]
    by_cases hst : ((d.rooms.get h.id.room).st ≠ .opened ∨ (d.rooms.get h.id.room).closing.isSome) ∧ h.opcode ≠ 0
    · rw [if_pos hst]
      exact Device.answerTaken_fair ..
    rw [if_neg hst]
    split
    next t ht => exact Device.dedupAnswer_fair ht
    next =>
    by_cases hq : (!quotaFree h.opcode && decide (d.held h.id.room ≥ if d.romHold then 64 else (d.rooms.get h.id.room).quota)) = true
    · rw [if_pos hq]
      exact Device.answerTaken_fair ..
    rw [if_neg hq]
    split
    next => exact Device.answerTaken_fair ..
    next c hc =>
    split
    next => exact Device.answerTaken_fair ..
    next hcheck =>
    split
    next => trivial
    next hblocks =>
    refine ⟨rfl, hw, ?_, ⟨c, ?_, hcheck⟩, ?_, ?_⟩
    · by_contra hno
      simp only [not_or] at hno
      exact hst ⟨.inl hno.1, hno.2⟩
    · split at hc
      · exact nomatch hc
      · exact hc
    · omega
    · cases hrom : d.romHold with
      | true => exact .inr (.inl rfl)
      | false =>
        simp only [hrom, Bool.and_eq_true, Bool.not_eq_true', decide_eq_true_eq] at hq
        cases hf : quotaFree h.opcode with
        | true => exact .inl rfl
        | false => exact .inr (.inr (Nat.lt_of_not_le fun hle => hq ⟨hf, by simpa using hle⟩))
  · rw [if_pos (by simpa using hw)]
    split
    next e he => exact ⟨_, _, _, _, _, _, he⟩
    next => trivial

/-! ### The first check that fails -/

theorem Device.take_malformed (h1 : h.wellFormed = false) (hroom : (d.rooms.get h.id.room).cqUsed + d.waitingOf h.id.room < 64) :
    ∃ e, d.take cmdOf h = .answered e ∧
      d.answer h.id.room 0xFFFF h.id.seq stBadArg 0 (leBytes 2 h.id.tag.toNat) false = some e := by
  obtain ⟨e, he⟩ := Device.answer_given (tag := 0xFFFF) (seq := h.id.seq) (status := stBadArg) (cflags := 0)
    (result := leBytes 2 h.id.tag.toNat) (quiet := false) hroom
  refine ⟨e, ?_, he⟩
  unfold Device.take
  dsimp only
  rw [if_pos (by simp [h1]), he]

theorem Device.take_closed (h1 : h.wellFormed = true) (h2 : h.opcode ≠ 0)
    (h3 : (d.rooms.get h.id.room).st ≠ .opened ∨ (d.rooms.get h.id.room).closing.isSome = true) :
    d.take cmdOf h = d.answerTaken h stVersion 0 := by
  unfold Device.take
  dsimp only
  rw [if_neg (by simp [h1]), if_pos ⟨h3, h2⟩]

/-- The Room takes the request: it is open, or the request opens it. -/
def Device.Serves (d : Device) (h : Hdr) : Prop :=
  h.wellFormed = true ∧ (h.opcode = 0 ∨ ((d.rooms.get h.id.room).st = .opened ∧ (d.rooms.get h.id.room).closing = none))

theorem Device.Serves.taken (hs : d.Serves h) :
    d.take cmdOf h = match d.dedupAnswer h (fingerprint h) with
      | some t => t
      | none => if (!quotaFree h.opcode && decide (d.held h.id.room ≥ if d.romHold then 64 else (d.rooms.get h.id.room).quota)) = true
        then d.answerTaken h stQuota 0
        else match (if d.romHold && !romServes h.opcode then none else cmdOf h.opcode) with
          | none => d.answerTaken h stBadOpcode 0
          | some c => match c.check d h with
            | some st => d.answerTaken h st 0
            | none => if h.len ≠ 0 ∧ d.blocks h.id.room ≥ 128 then .stays else .entered (d.enterRec h (fingerprint h)) := by
  obtain ⟨hw, hopen⟩ := hs
  unfold Device.take
  dsimp only
  refine (if_neg (by simp [hw])).trans ((if_neg ?_).trans rfl)
  rintro ⟨h3, h2⟩
  rcases hopen with h0 | ⟨hst, hcl⟩
  · exact h2 h0
  · simp [hst, hcl] at h3

theorem Device.Serves.matched (hs : d.Serves h) {t : Taken} (ht : d.dedupAnswer h (fingerprint h) = some t) : d.take cmdOf h = t := by
  rw [hs.taken, ht]

theorem Device.dedupAnswer_found {r : Rec} (hr : (d.reqs.recs.filter fun x => x.id.room == h.id.room && x.id.tag == h.id.tag).find?
      (fun x => x.st ≠ .done) = some r) : d.dedupAnswer h (fingerprint h) =
    some (if r.id.seq = h.id.seq ∧ r.fp = fingerprint h then d.answerTaken h stDup 0 else d.answerTaken h stTagConflict 0) := by
  simp only [Device.dedupAnswer, hr]

theorem Device.Serves.overQuota (hs : d.Serves h) (hnew : d.dedupAnswer h (fingerprint h) = none) (hrom : d.romHold = false)
    (hq : quotaFree h.opcode = false) (hheld : (d.rooms.get h.id.room).quota ≤ d.held h.id.room) :
    d.take cmdOf h = d.answerTaken h stQuota 0 := by
  rw [hs.taken, hnew]
  exact if_pos (by simp [hq, hrom, hheld])

theorem Device.Serves.inQuota (hs : d.Serves h) (hnew : d.dedupAnswer h (fingerprint h) = none) (hrom : d.romHold = false)
    (hq : quotaFree h.opcode = true ∨ d.held h.id.room < (d.rooms.get h.id.room).quota) :
    d.take cmdOf h = match cmdOf h.opcode with
      | none => d.answerTaken h stBadOpcode 0
      | some c => match c.check d h with
        | some st => d.answerTaken h st 0
        | none => if h.len ≠ 0 ∧ d.blocks h.id.room ≥ 128 then .stays else .entered (d.enterRec h (fingerprint h)) := by
  rw [hs.taken, hnew]
  refine (if_neg ?_).trans ?_
  · rcases hq with hq | hq
    · simp [hq]
    · simp [hrom, hq]
  · simp only [hrom, Bool.false_and]
    rfl

end

end

/-- Settles O59: what intake hands on is fair, what an answer shows is said once, and each check that fails is the answer's status. -/
theorem intakeAnswersTheFirstFailure : Obligations.IntakeAnswersTheFirstFailure := by
  unfold Obligations.IntakeAnswersTheFirstFailure
  intro d h n q told hwf hn hq htold
  subst hn hq
  have htaken : ∀ {st cf : Nat} {res : List Byte}, (d.rooms.get h.id.room).cqUsed + d.waitingOf h.id.room < 64 →
      d.take cmdOf h = d.answerTaken h st cf res → told (BitVec.ofNat 8 st) := by
    intro st cf res hroom heq
    obtain ⟨e, he, hanswer⟩ := d.answerTaken_given h (status := st) (cflags := cf) (result := res) hroom
    exact (htold _).2 ⟨e, heq.trans he, (Device.answer_shows hwf hanswer).2⟩
  have hfair := d.take_fair h
  refine ⟨fun e he => ?_, fun e he => ?_, fun hroom => ⟨fun hbad => ?_, fun hw hop hst => ?_, fun hw hopen => ?_⟩⟩
  · rw [he] at hfair
    obtain ⟨tag, seq, status, cflags, result, quiet, hanswer⟩ := hfair
    exact ⟨Device.answer_room hanswer, (Device.answer_shows hwf hanswer).1⟩
  · rw [he] at hfair
    obtain ⟨rfl, hw, hst, hc, hblocks, hquota⟩ := hfair
    exact ⟨hw, hst, hc, hblocks, hquota, _, rfl, rfl, rfl, rfl, rfl⟩
  · obtain ⟨e, he, hanswer⟩ := Device.take_malformed hbad hroom
    exact (htold _).2 ⟨e, he, (Device.answer_shows hwf hanswer).2⟩
  · exact htaken hroom (Device.take_closed hw hop hst)
  · have hs : d.Serves h := ⟨hw, hopen⟩
    refine ⟨fun r hr => ?_, fun hnew hrom => ⟨fun hf hle => ?_, fun hin => ⟨fun hc => ?_, fun c st hc hcheck => ?_⟩⟩⟩
    · have hmatch := hs.matched (Device.dedupAnswer_found hr)
      split
      next hsame => exact htaken hroom (hmatch.trans (if_pos hsame))
      next hsame => exact htaken hroom (hmatch.trans (if_neg hsame))
    · exact htaken hroom (hs.overQuota hnew hrom hf hle)
    · exact htaken (cf := 0) (res := []) hroom ((hs.inQuota hnew hrom hin).trans (by simp only [hc]))
    · exact htaken (cf := 0) (res := []) hroom ((hs.inQuota hnew hrom hin).trans (by simp only [hc, hcheck]))

end Sys2Proof.Machine

/-! PROOFS. What a write through the host link leaves unchanged (R234, R236, R272). -/
namespace Sys2Proof.Machine

/-- A device that differs by Room `n`'s registers, records and submission ring, the port's registers, the engine and the counter of
free values at the most. -/
structure Device.Within (n : RoomId) (d e : Device) : Prop where
  same   : e = { d with
    rooms := e.rooms, link := e.link, reqs := e.reqs, dig := e.dig, wram := e.wram, freeCtr := e.freeCtr }
  memory : memWf zeroByte d.wram = true → memWf zeroByte e.wram = true ∧
    (∀ m a, m ≠ n → a < 4096 → e.winRead m a = d.winRead m a) ∧ (∀ a, a < 0x200 ∨ (0xA00 ≤ a ∧ a < 4096) → e.winRead n a = d.winRead n a)
  others : ∀ m, m ≠ n → e.rooms.get m = d.rooms.get m ∧ e.reqs.dedup.get m = d.reqs.dedup.get m
  recs   : ∀ r, r.id.room ≠ n → (r ∈ e.reqs.recs ↔ r ∈ d.reqs.recs)

section
variable {d e t : Device} {n : RoomId} {p : Port}

theorem Device.Within.refl (d : Device) : Device.Within n d d :=
  ⟨rfl, fun h => ⟨h, fun _ _ _ _ => rfl, fun _ _ => rfl⟩, fun _ _ => ⟨rfl, rfl⟩, fun _ _ => .rfl⟩

theorem Device.Within.trans (h : Device.Within n d e) (h' : Device.Within n e t) : Device.Within n d t where
  same := by
    rw [h'.same, h.same]
  memory hwf := by
    obtain ⟨hwf1, hother1, hown1⟩ := h.memory hwf
    obtain ⟨hwf2, hother2, hown2⟩ := h'.memory hwf1
    exact ⟨hwf2, fun m a hm ha => (hother2 m a hm ha).trans (hother1 m a hm ha), fun a ha => (hown2 a ha).trans (hown1 a ha)⟩
  others m hm := ⟨(h'.others m hm).1.trans (h.others m hm).1, (h'.others m hm).2.trans (h.others m hm).2⟩
  recs r hr := (h'.recs r hr).trans (h.recs r hr)

theorem Device.Within.when {f : Device → Device} (c : Bool) (hf : ∀ x, Device.Within n x (f x)) (d : Device) :
    Device.Within n d (d.when c f) := by
  unfold Device.when
  split
  · exact hf d
  · exact .refl d

/-! ### The parts of a frame's effect -/

theorem Device.updLink_within (d : Device) (f : LinkState → LinkState) : Device.Within n d (d.updLink f) :=
  ⟨rfl, fun h => ⟨h, fun _ _ _ _ => rfl, fun _ _ => rfl⟩, fun _ _ => ⟨rfl, rfl⟩, fun _ _ => .rfl⟩

theorem Device.EngineOnly.within (h : d.EngineOnly e) : Device.Within n d e := by
  obtain ⟨g, c, rfl⟩ := h
  exact ⟨rfl, fun h => ⟨h, fun _ _ _ _ => rfl, fun _ _ => rfl⟩, fun _ _ => ⟨rfl, rfl⟩, fun _ _ => .rfl⟩

theorem Device.updRoom_within (d : Device) (f : RoomRegs → RoomRegs) : Device.Within n d (d.updRoom n f) :=
  ⟨rfl, fun h => ⟨h, fun _ _ _ _ => rfl, fun _ _ => rfl⟩, fun _ hm => ⟨vget_vmod_ne _ _ hm, rfl⟩, fun _ _ => .rfl⟩

theorem Device.ringErr_within (d : Device) : Device.Within n d (d.ringErr n) := (d.updRoom_within _).trans (Device.updRoom_within _ _)

/-- A byte of the submission ring. -/
theorem Device.slotByte_within (d : Device) (at_ : Nat) (b : Byte) : Device.Within n d (d.slotByte n at_ b) := by
  unfold Device.slotByte
  split
  next h =>
    refine ⟨rfl, fun hwf => ⟨cellsWrite_wf _ _ hwf, fun m a hm ha => ?_, fun a ha => ?_⟩, fun _ _ => ⟨rfl, rfl⟩, fun _ _ => .rfl⟩
    · have hne : m.val ≠ n.val := fun h => hm (Fin.ext h)
      refine cellRead_cellsWrite_out _ hwf ?_
      simp only [List.length_singleton]
      omega
    · refine cellRead_cellsWrite_out _ hwf ?_
      simp only [List.length_singleton]
      omega
  next => exact .refl d

theorem Device.slotBytes_within (d : Device) (at_ : Nat) (l : List Byte) : Device.Within n d (d.slotBytes n at_ l) := by
  induction l generalizing d at_ with
  | nil => exact .refl d
  | cons b l ih => exact (d.slotByte_within at_ b).trans (ih _ _)

/-- Retiring takes records of its Room alone. -/
theorem Device.retire_within (d : Device) (a b : Byte) : Device.Within n d (d.retire n a b) := by
  refine ⟨rfl, fun h => ⟨h, fun _ _ _ _ => rfl, fun _ _ => rfl⟩, fun m hm => ⟨rfl, vget_vmod_ne _ _ hm⟩, fun r hr => ?_⟩
  simp [Device.retire, Device.updReqs, hr]

theorem Device.sqTailSet_within (d : Device) (v : Byte) : Device.Within n d (d.sqTailSet n v) := by
  unfold Device.sqTailSet
  dsimp only
  split
  · exact d.updRoom_within _
  · exact d.ringErr_within

theorem Device.cqHeadSet_inRoom (d : Device) (v : Byte) : Device.Within n d (d.cqHeadSet n v) := by
  unfold Device.cqHeadSet
  dsimp only
  split
  · exact (d.retire_within _ _).trans (Device.updRoom_within _ _)
  · exact d.ringErr_within

theorem Device.roomWrite_within (d : Device) (off : Nat) (l : List Byte) : Device.Within n d (d.roomWrite n off l) := by
  have htail (x : Device) : Device.Within n x (match frameByte off l 0x100 with | some v => x.sqTailSet n v | none => x) := by
    split
    · exact x.sqTailSet_within _
    · exact .refl x
  have hhead (x : Device) : Device.Within n x (match frameByte off l 0x104 with | some v => x.cqHeadSet n v | none => x) := by
    split
    · exact x.cqHeadSet_inRoom _
    · exact .refl x
  have hflags := (d.slotBytes_within (n := n) off l).trans (Device.updRoom_within _ fun r =>
    { r with evFlags := r.evFlags &&& ~~~(frameWord off l 0x110 0) })
  have henable := hflags.trans (Device.updRoom_within _ fun r => { r with evEnable := frameEnable off l r.evEnable })
  exact ((henable.trans (htail _)).trans (hhead _)).trans (Device.Within.when _ Device.ringErr_within _)

theorem Device.frameWrite_within (d : Device) (off : Nat) (l : List Byte) : Device.Within n d (d.frameWrite p n off l) :=
  (Device.Within.when _ (fun x => x.roomWrite_within off l) d).trans (Device.commonWrite_engineOnly _ p n off l).within

/-! ### Frames, good or discarded -/

theorem Device.respond_within (d : Device) (l : List Byte) : Device.Within n d (d.respond_ l) := by
  unfold Device.respond_
  exact d.updLink_within _

theorem Device.frameGood_within {f : Device → Device} (hf : ∀ x, Device.Within n x (f x)) (d : Device) (off len : Nat) :
    Device.Within n d (d.frameGood p n f off len) := by
  have hcleared (x : Device) : Device.Within n x (x.when ((d.rooms.get n).boundTo p) (·.updRoom n fun r => { r with linkErr := false })) :=
    .when _ (fun x => x.updRoom_within _) x
  have heffect := ((d.updLink_within fun x => x.setErr p false).trans (hcleared _)).trans (hf _)
  exact heffect.trans (.when _ (fun x => x.respond_within _) _)

theorem Device.frameBad_within (d : Device) (why : Discard) : Device.Within n d (d.frameBad p n why) := by
  have hcounted (x : Device) : Device.Within n x (x.when ((d.rooms.get n).boundTo p) fun d => (d.updRoom n fun r =>
      match why with
      | .crc => { r with linkErr := true, crcErrs := sat 255 (r.crcErrs + 1) }
      | .other => { r with linkErr := true, frameErrs := sat 255 (r.frameErrs + 1) }).flag n evLinkErr) :=
    .when _ (fun x => (x.updRoom_within _).trans (Device.updRoom_within _ _)) x
  have heffect := (d.updLink_within fun x => x.setErr p true).trans (hcounted _)
  unfold Device.frameBad
  dsimp only
  exact heffect.trans (.when _ (fun x => x.respond_within _) _)

theorem Device.writeFrame_within (d : Device) (off : Nat) (l : List Byte) : Device.Within n d (d.writeFrame p n off l) := by
  unfold Device.writeFrame
  split
  · exact d.frameBad_within _
  · exact Device.frameGood_within (fun x => x.frameWrite_within off l) d 0 0

theorem Device.hostWrite_within (d : Device) (off : Nat) (l : List Byte) : Device.Within n d (d.hostWrite p n off l) := by
  refine Device.Within.when _ (fun x => ?_) d
  obtain ⟨f, hseen⟩ := x.writeSeen_updLink p n off l.length
  rw [hseen]
  exact (x.updLink_within f).trans (Device.writeFrame_within _ off l)

end

/-- Settles O60: each row is one write frame for its Room, and a write frame stays within it. -/
theorem hostWritesStayInTheirRoom : Obligations.HostWritesStayInTheirRoom := by
  unfold Obligations.HostWritesStayInTheirRoom
  intro s t p n i hcalm hwf htick hrow hexec
  have hframe : ∃ f, exec i s = s.onFrame f ∧ ∀ x, Device.Within n x (f x) := by
    rcases hrow with ⟨v, rfl⟩ | ⟨v, rfl⟩ | ⟨off, l, rfl⟩ | ⟨w, rfl⟩ | ⟨v, rfl⟩ | ⟨h, k, rfl⟩ | ⟨off, l, rfl⟩ | rfl | rfl
    · exact ⟨_, rfl, fun x => x.hostWrite_within _ _⟩
    · exact ⟨_, rfl, fun x => x.hostWrite_within _ _⟩
    · exact ⟨_, rfl, Device.Within.when _ fun x => x.hostWrite_within _ _⟩
    · exact ⟨_, rfl, fun x => x.hostWrite_within _ _⟩
    · exact ⟨_, rfl, fun x => x.hostWrite_within _ _⟩
    · exact ⟨_, rfl, fun x => x.hostWrite_within _ _⟩
    · exact ⟨_, rfl, Device.Within.when _ fun x => x.hostWrite_within _ _⟩
    · exact ⟨_, rfl, fun x => x.hostWrite_within _ _⟩
    · exact ⟨_, rfl, fun x => x.hostWrite_within _ _⟩
  obtain ⟨f, hrun, hf⟩ := hframe
  have hin := hf s.dev
  have hfaults : (f s.dev).faults = s.dev.faults := (congrArg Device.faults hin.same :)
  have hbatch : (f s.dev).batch = s.dev.batch := (congrArg Device.batch hin.same :)
  rw [hrun, State.onFrame_away htick, State.onDev_calm' (by rw [hfaults]; exact hcalm) hbatch] at hexec
  obtain rfl := Host.Outcome.next.inj hexec
  obtain ⟨-, hother, hown⟩ := hin.memory hwf.1
  exact ⟨rfl, hin.same, fun m hm => ⟨(hin.others m hm).1, (hin.others m hm).2, fun a ha => hother m a hm ha⟩, hin.recs, hown⟩

end Sys2Proof.Machine

/-! PROOFS. The transition of a Recipe switch (R750 to R753). -/
namespace Sys2Proof.Machine

section
variable {d : Device} {w : RcpSwitch}

/-- A device that differs by its shadow targets at the most. -/
def Device.ShadowMoved (d e : Device) : Prop := ∃ targets, e = { d with shadow := targets }

theorem Device.ShadowMoved.trans {e t : Device} (h : d.ShadowMoved e) (h' : e.ShadowMoved t) : d.ShadowMoved t := by
  obtain ⟨x, rfl⟩ := h
  obtain ⟨y, rfl⟩ := h'
  exact ⟨y, rfl⟩

theorem Device.updShadow_moved (d : Device) (f : Targets → Targets) : d.ShadowMoved (d.updShadow f) := ⟨_, rfl⟩

theorem Device.combineRails_moved (d : Device) : d.supplyVotes.ShadowMoved d.combineRails := by
  unfold Device.combineRails
  exact Device.updShadow_moved _ _

theorem Device.chgTargets_moved (d : Device) : d.ShadowMoved d.chgTargets := by
  unfold Device.chgTargets
  exact d.updShadow_moved _

theorem Device.larderTargets_moved (d : Device) : d.ShadowMoved d.larderTargets := by
  unfold Device.larderTargets
  exact d.updShadow_moved _

theorem Device.kinTargets_moved (d : Device) : d.ShadowMoved d.kinTargets := by
  unfold Device.kinTargets
  exact d.updShadow_moved _

theorem Device.adcTargets_moved (d : Device) : d.ShadowMoved d.adcTargets := by
  unfold Device.adcTargets
  exact d.updShadow_moved _

/-- Forming the targets renews the supply votes and the shadow targets. -/
theorem Device.formTargets_moved (d : Device) : d.supplyVotes.ShadowMoved d.formTargets := by
  have hrails := d.combineRails_moved.trans (Device.chgTargets_moved _)
  have hall := ((hrails.trans (Device.larderTargets_moved _)).trans (Device.kinTargets_moved _)).trans (Device.adcTargets_moved _)
  unfold Device.formTargets
  exact hall.trans (Device.updShadow_moved _ _)

theorem Device.formTargets_shows (d : Device) : d.formTargets.rcp = d.rcp ∧ d.formTargets.sup = d.sup ∧ d.formTargets.batch = d.batch ∧
    d.formTargets.faults = d.faults ∧ d.formTargets.nvm = d.nvm ∧ d.formTargets.priv.votes = d.supplyVotes.priv.votes := by
  obtain ⟨targets, heq⟩ := d.formTargets_moved
  rw [heq]
  exact ⟨rfl, rfl, rfl, rfl, rfl, rfl⟩

/-- The supply votes aside, no vote is placed. -/
theorem Device.supplyVotes_mem {v : Vote} (hv : v ∈ d.supplyVotes.priv.votes) (hholder : v.holder ≠ .supply) : v ∈ d.priv.votes := by
  simp only [Device.supplyVotes, Device.updVotes, Device.updPriv, List.mem_append, List.mem_map] at hv
  rcases hv with hv | ⟨r, -, rfl⟩
  · exact List.mem_of_mem_filter hv
  · exact absurd rfl hholder

/-- The Rooms that the transition resets. -/
def Device.switchResets (d : Device) (w : RcpSwitch) : List RoomId :=
  all16.filter fun n => roomDiffers (d.rcp.inForce.getD factoryRecipe) w.recipe n

/-- The device that keeps the votes of the new Recipe's rails and of the Rooms that stay, and reads the new Recipe's fields. -/
def Device.switchVotes (d : Device) (w : RcpSwitch) : Device :=
  (d.updPriv fun p => { p with
    votes := p.votes.filter (fun v => w.recipe.get Fld.railPresent v.rail.val ≠ 0 &&
      (match v.holder with | .room n => !(d.switchResets w).contains n | _ => true)),
    kinUsers := [], adcHolds := Vector.replicate 4 none, pvSet := none }).underRecipe (some w.recipe)

/-- The transition up to its publication. -/
def Device.switchFormed (d : Device) (w : RcpSwitch) : Device :=
  ((d.switchVotes w).formTargets.underRecipe d.rcp.inForce).publish false

theorem Device.switchFormed_shows (d : Device) (w : RcpSwitch) : (d.switchFormed w).rcp = d.rcp ∧
    (d.switchFormed w).sup = { d.sup with published := true } ∧ (d.switchFormed w).batch = d.batch ∧
    (d.switchFormed w).faults = d.faults ∧ (d.switchFormed w).nvm = d.nvm ∧
    ∀ v ∈ (d.switchFormed w).priv.votes, v.holder ≠ .supply → w.recipe.get Fld.railPresent v.rail.val ≠ 0 := by
  obtain ⟨hrcp, hsup, hbatch, hfaults, hnvm, hvotes⟩ := (d.switchVotes w).formTargets_shows
  have hpub (x : Device) (r : Option Recipe) : ((x.underRecipe r).publish false).rcp = { x.rcp with inForce := r } ∧
      ((x.underRecipe r).publish false).sup = { x.sup with published := true } ∧
      ((x.underRecipe r).publish false).batch = x.batch ∧ ((x.underRecipe r).publish false).faults = x.faults ∧
      ((x.underRecipe r).publish false).nvm = x.nvm ∧ ((x.underRecipe r).publish false).priv = x.priv :=
    ⟨rfl, rfl, rfl, rfl, rfl, rfl⟩
  obtain ⟨prcp, psup, pbatch, pfaults, pnvm, ppriv⟩ := hpub (d.switchVotes w).formTargets d.rcp.inForce
  unfold Device.switchFormed
  rw [prcp, psup, pbatch, pfaults, pnvm, ppriv, hrcp, hsup, hbatch, hfaults, hnvm, hvotes]
  refine ⟨rfl, rfl, rfl, rfl, rfl, fun v hv hholder => ?_⟩
  have hmem : v ∈ (d.switchVotes w).priv.votes := Device.supplyVotes_mem hv hholder
  have hkept := (List.mem_filter.1 hmem).2
  simp only [Bool.and_eq_true, decide_eq_true_eq] at hkept
  exact hkept.1

/-- The transition marked as passed, with the request's record. -/
def Device.switchMark (d : Device) (w : RcpSwitch) : Device :=
  (d.updRcp fun r => { r with switch := some { w with passed := true, batch := d.batch.number.toNat } }).updRec w.req
    fun r => { r with intent := .open true, wait := [4, d.batch.number.toNat] }

/-- The new Recipe's watchdog period in force. -/
def Device.switchPeriod (d : Device) (w : RcpSwitch) : Device :=
  d.updWd fun x => { x with
    inForce := (w.recipe.get Fld.wdPeriod).toNat
    a := { x.a with newPeriod := some (w.recipe.get Fld.wdPeriod).toNat }
    b := { x.b with newPeriod := some (w.recipe.get Fld.wdPeriod).toNat } }

theorem Device.switchRun_eq (hw : d.rcp.switch = some w) : d.switchRun false =
    ((((d.switchFormed w).switchMark w).each (d.switchResets w) fun n d => d.roomReset n 3).switchBurst w.recipe).switchPeriod w := by
  unfold Device.switchRun
  rw [hw]
  rfl

theorem Device.switchMark_shows (d : Device) (w : RcpSwitch) : (d.switchMark w).rcp = { d.rcp with
      switch := some { w with passed := true, batch := d.batch.number.toNat } } ∧ (d.switchMark w).sup = d.sup ∧
    (d.switchMark w).batch = d.batch ∧ (d.switchMark w).faults = d.faults ∧ (d.switchMark w).nvm = d.nvm ∧
    (d.switchMark w).priv = d.priv :=
  ⟨rfl, rfl, rfl, rfl, rfl, rfl⟩

theorem Device.switchBurst_shows (d : Device) (r : Recipe) : (d.switchBurst r).rcp = d.rcp ∧ (d.switchBurst r).sup = d.sup ∧
    (d.switchBurst r).batch = d.batch ∧ (d.switchBurst r).faults = d.faults ∧ (d.switchBurst r).nvm = d.nvm ∧
    (d.switchBurst r).priv = d.priv :=
  ⟨Device.when_keeps _ rfl, Device.when_keeps _ rfl, Device.when_keeps _ rfl, Device.when_keeps _ rfl, Device.when_keeps _ rfl,
    Device.when_keeps _ rfl⟩

theorem Device.switchPeriod_shows (d : Device) (w : RcpSwitch) : (d.switchPeriod w).rcp = d.rcp ∧
    (d.switchPeriod w).wd.inForce = (w.recipe.get Fld.wdPeriod).toNat ∧ (d.switchPeriod w).sup = d.sup ∧
    (d.switchPeriod w).batch = d.batch ∧ (d.switchPeriod w).faults = d.faults ∧ (d.switchPeriod w).nvm = d.nvm ∧
    (d.switchPeriod w).priv = d.priv :=
  ⟨rfl, rfl, rfl, rfl, rfl, rfl, rfl⟩

/-- What the transition leaves where no Room's entry differs. -/
theorem Device.switchRun_shows (hw : d.rcp.switch = some w)
    (hsame : ∀ n, roomDiffers (d.rcp.inForce.getD factoryRecipe) w.recipe n = false) :
    (d.switchRun false).rcp = { d.rcp with switch := some { w with passed := true, batch := d.batch.number.toNat } } ∧
    (d.switchRun false).wd.inForce = (w.recipe.get Fld.wdPeriod).toNat ∧ (d.switchRun false).sup = { d.sup with published := true } ∧
    (d.switchRun false).batch = d.batch ∧ (d.switchRun false).faults = d.faults ∧ (d.switchRun false).nvm = d.nvm ∧
    (d.switchRun false).priv = (d.switchFormed w).priv := by
  have hnone : d.switchResets w = [] := List.filter_eq_nil_iff.2 fun n _ => by rw [hsame n]; decide
  obtain ⟨hrcp, hsup, hbatch, hfaults, hnvm, -⟩ := d.switchFormed_shows w
  obtain ⟨mrcp, msup, mbatch, mfaults, mnvm, mpriv⟩ := (d.switchFormed w).switchMark_shows w
  obtain ⟨brcp, bsup, bbatch, bfaults, bnvm, bpriv⟩ := ((d.switchFormed w).switchMark w).switchBurst_shows w.recipe
  obtain ⟨prcp, pwd, psup, pbatch, pfaults, pnvm, ppriv⟩ := (((d.switchFormed w).switchMark w).switchBurst w.recipe).switchPeriod_shows w
  rw [Device.switchRun_eq hw, hnone, (show (((d.switchFormed w).switchMark w).each [] fun n d => d.roomReset n 3) = (d.switchFormed w).switchMark w from rfl), prcp, pwd, psup, pbatch, pfaults, pnvm, ppriv, brcp, bsup, bbatch, bfaults, bnvm,
    bpriv, mrcp, msup, mbatch, mfaults, mnvm, mpriv, hrcp, hsup, hbatch, hfaults, hnvm]
  exact ⟨rfl, rfl, rfl, rfl, rfl, rfl, rfl⟩

end

theorem exec_recipeSwitch (s : State) : exec .recipeSwitch s = s.onClk (·.switchNow) := rfl

theorem Device.switchOpen_of {d : Device} {w : RcpSwitch} (hw : d.rcp.switch = some w) : d.switchOpen = (w.now && !w.passed) := by
  simp only [Device.switchOpen, hw]

theorem Device.switchNow_eq {d : Device} (hcaught : d.Caught) : d.switchNow = if d.isOpen ∧ d.switchOpen then
    d.when (d.keeperWorks && decide (d.sup.stage = .targets) && !d.sup.budgetPassed) fun d => (d.switchRun false).stageAt .commit
  else d.edgeIf (d.isOpen && (match d.rcp.switch with
    | some x => !x.passed && decide (x.batch ≤ d.batch.number.toNat + 1)
    | none => false)) (StartSense.plain d) := by
  unfold Device.switchNow
  rw [Device.catchUp_same hcaught.1 hcaught.2] <;> rfl

/-- Settles O53: by whether the bubble has begun, and whether the transition is carried out. -/
theorem recipeSwitchPasses : Obligations.RecipeSwitchPasses := by
  unfold Obligations.RecipeSwitchPasses
  intro s w hcalm hopen hcaught hw
  have hbegun (hnow : w.now = true) (hpassed : w.passed = false) : s.dev.switchNow =
      s.dev.when (s.dev.keeperWorks && decide (s.dev.sup.stage = .targets) && !s.dev.sup.budgetPassed) fun d =>
        (d.switchRun false).stageAt .commit := by
    rw [Device.switchNow_eq hcaught]
    exact if_pos ⟨hopen, by simp [Device.switchOpen_of hw, hnow, hpassed]⟩
  have hahead (h : w.now = false ∨ w.passed = true) : s.dev.switchNow = s.dev.edgeIf (!w.passed &&
      decide (w.batch ≤ s.dev.batch.number.toNat + 1)) (StartSense.plain s.dev) := by
    rw [Device.switchNow_eq hcaught, if_neg]
    · simp only [hw, hopen, Bool.true_and]
    · rcases h with h | h
      · simp [Device.switchOpen_of hw, h]
      · simp [Device.switchOpen_of hw, h]
  refine ⟨fun hnow hpassed hworks hstage hbudget hsame => ?_, fun hnow hpassed hno => ?_, fun hnow hpassed hbatch => ?_, fun hpassed => ?_⟩
  · obtain ⟨hrcp, hwd, hsup, hbatch, hfaults, hnvm, hpriv⟩ := Device.switchRun_shows hw hsame
    obtain ⟨-, -, -, -, -, hvotes⟩ := s.dev.switchFormed_shows w
    have heq : s.dev.switchNow = (s.dev.switchRun false).stageAt .commit :=
      (hbegun hnow hpassed).trans (Device.when_true _ (by simp [hworks, hstage, hbudget]))
    refine ⟨_, State.onClk_put heq ?_ ?_, congrArg (·.switch) hrcp, congrArg (·.inForce) hrcp, hwd, rfl, congrArg (·.published) hsup,
      hbatch, ?_, hnvm⟩
    · exact (congrArg (·.graveDue) hfaults).trans hcalm
    · exact le_of_eq (congrArg (·.time) hbatch.symm)
    · intro v hv
      have hv' : v ∈ (s.dev.switchRun false).priv.votes := hv
      rw [hpriv] at hv'
      exact hvotes v hv'
  · refine State.onClk_same hcalm ((hbegun hnow hpassed).trans (Device.when_false _ ?_))
    rcases hno with h | h | h
    · simp [h]
    · simp [h]
    · simp [h]
  · exact (State.edge_of_edgeIf hcalm (exec_recipeSwitch s) (hahead (.inl hnow))).1 (by simp [hpassed, hbatch])
  · exact (State.edge_of_edgeIf hcalm (exec_recipeSwitch s) (hahead (.inr hpassed))).2 (by simp [hpassed])

end Sys2Proof.Machine

/-! PROOFS. What a request that is accepted does (chapter 23). -/
namespace Sys2Proof.Machine

/-- A row's request: what its command makes of any device is its effect. -/
theorem request_served {s : State} {c : Cmd} {r : Sys2Proof.Req} {i : Instr} {f : Device → ReqId → List Byte → Device}
    (hexec : exec i s = s.request c r) (hc : cmdOf c.op = some c)
    (hf : ∀ d, settled (Req.ident r) (c.run d (Req.ident r) (Req.area r)) = f d (Req.ident r) (Req.area r)) (h : s.dev.Accepts c r) :
    exec i s = .next (s.served c r f) := by
  rw [hexec, request_accepts hc h]
  exact congrArg (fun e => Host.Outcome.next (s.onto e)) (hf _)

/-- An answer by cases settles by cases. -/
theorem settled_ite (id : ReqId) (p : Prop) [Decidable p] (x y : Device × Answer) :
    settled id (if p then x else y) = if p then settled id x else settled id y := apply_ite ..

/-- Settles O54: each row by its command. -/
theorem sessionAndQueryRequests : Obligations.SessionAndQueryRequests := by
  unfold Obligations.SessionAndQueryRequests
  intro s r
  refine ⟨request_served rfl rfl fun d => ?_, request_served rfl rfl fun d => ?_, request_served rfl rfl fun d => rfl,
    request_served rfl rfl fun d => rfl, request_served rfl rfl fun d => rfl, request_served rfl rfl fun d => ?_,
    request_served rfl rfl fun d => ?_, request_served rfl rfl fun d => rfl, request_served rfl rfl fun d => rfl,
    request_served rfl rfl fun d => rfl, request_served rfl rfl fun d => rfl, request_served rfl rfl fun d => rfl,
    request_served rfl rfl fun d => rfl, request_served rfl rfl fun d => rfl, request_served rfl rfl fun d => ?_,
    request_served rfl rfl fun d => rfl, request_served rfl rfl fun d => rfl⟩
  · refine (settled_ite ..).trans (ite_congr rfl (fun _ => rfl) fun _ => ?_)
    generalize d.agree (numAt (Req.area r) 0 2) (numAt (Req.area r) 2 2) = v
    cases v with
    | none => rfl
    | some v => rfl
  · exact settled_ite ..
  · exact (settled_ite ..).trans (ite_congr rfl (fun h => by rw [← h]; rfl) fun _ => rfl)
  · cases h : d.priv.floors.get (Req.ident r).room with
    | none => simp only [cmdPwrQuery, h, Option.getD_none]; rfl
    | some f => simp only [cmdPwrQuery, h, Option.getD_some]; rfl
  · cases h : d.cfg.manifest with
    | none => simp only [cmdImageQuery, h, Option.map_none, Option.getD_none]; rfl
    | some m => simp only [cmdImageQuery, h, Option.map_some, Option.getD_some]; rfl

end Sys2Proof.Machine

/-! PROOFS. Power, vote, schedule and sequence requests (R119 to R122, R402 to R408). -/
namespace Sys2Proof.Machine

/-- Settles O55: each row by its command. -/
theorem powerAndRailRequests : Obligations.PowerAndRailRequests := by
  unfold Obligations.PowerAndRailRequests
  intro s r
  have harm : byteAt (Req.area (withAction r 0 1)) 0 = 1 := area_withAction r 0 1 (by decide)
  have hcancel : byteAt (Req.area (withAction r 0 2)) 0 = 2 := area_withAction r 0 2 (by decide)
  refine ⟨request_served rfl rfl fun d => rfl, request_served rfl rfl fun d => settled_ite .., request_served rfl rfl fun d => ?_,
    request_served rfl rfl fun d => ?_, request_served rfl rfl fun d => settled_ite .., request_served rfl rfl fun d => rfl,
    fun d v b => rfl, fun h hbit => request_served rfl rfl (fun d => ?_) h, fun h hbit => request_served rfl rfl (fun d => ?_) h,
    request_served rfl rfl fun d => settled_ite .., request_served rfl rfl fun d => ?_⟩
  · have hrun : cmdPwrShip.run d (Req.ident (withAction r 0 1)) (Req.area (withAction r 0 1)) = if d.leavePending then (d, fails stBusy)
        else (d.updPriv fun p => { p with shipArmed := true }, ok) := if_neg (by rw [harm]; decide)
    rw [hrun]
    exact settled_ite ..
  · have hrun : cmdPwrShip.run d (Req.ident (withAction r 0 2)) (Req.area (withAction r 0 2)) =
        (d.updPriv fun p => { p with shipArmed := false }, ok) := if_pos hcancel
    rw [hrun]
    rfl
  · refine (congrArg (settled (Req.ident r)) (if_neg ?_)).trans (settled_ite ..)
    rw [hbit]
    decide
  · exact congrArg (settled (Req.ident r)) (if_pos hbit)
  · cases h : d.guestRun with
    | none => simp only [cmdSeqAbort, h]; rfl
    | some x =>
      simp only [cmdSeqAbort, h]
      exact settled_ite ..

end Sys2Proof.Machine

/-! PROOFS. Energy requests (R451 to R453, R486, R518, R552, R587 to R591). -/
namespace Sys2Proof.Machine

/-- A row's request where only the device that it meets counts. -/
theorem request_served_at {s : State} {c : Cmd} {r : Sys2Proof.Req} {i : Instr} {f : Device → ReqId → List Byte → Device}
    (hexec : exec i s = s.request c r) (hc : cmdOf c.op = some c)
    (hf : settled (Req.ident r) (c.run (s.dev.begun c r) (Req.ident r) (Req.area r)) = f (s.dev.begun c r) (Req.ident r) (Req.area r))
    (h : s.dev.Accepts c r) : exec i s = .next (s.served c r f) := by
  rw [hexec, request_accepts hc h]
  exact congrArg (fun e => Host.Outcome.next (s.onto e)) hf

theorem Device.flagOwner_keeps (d : Device) (r : Reservation) : (d.flagOwner r).priv = d.priv ∧ (d.flagOwner r).burst = d.burst := by
  unfold Device.flagOwner
  split
  · exact ⟨rfl, rfl⟩
  · exact ⟨rfl, rfl⟩

theorem Device.resRelease_reservations (d : Device) (h : Nat) (n : RoomId) :
    (d.resRelease h n).priv.larder.reservations = d.priv.larder.reservations.filter (·.handle ≠ h) ∧ (d.resRelease h n).burst = d.burst := by
  unfold Device.resRelease
  cases hfind : d.priv.larder.reservations.find? fun r => r.handle == h with
  | none =>
    refine ⟨(List.filter_eq_self.2 fun r hr => ?_).symm, rfl⟩
    simpa using List.find?_eq_none.1 hfind r hr
  | some r =>
    have hkeeps (x : Device) := x.flagOwner_keeps r
    exact ⟨Device.when_keeps (·.priv.larder.reservations) (congrArg (·.larder.reservations) (hkeeps _).1),
      Device.when_keeps (·.burst) (hkeeps _).2⟩

/-- Settles O56: each row by its command. -/
theorem energyRequests : Obligations.EnergyRequests := by
  unfold Obligations.EnergyRequests
  intro s r
  have hact (v : Nat) : byteAt (Req.area (withAction r 0 v)) 0 = v % 256 := area_withAction r 0 v (by decide)
  refine ⟨request_served rfl rfl fun d => rfl, request_served rfl rfl fun d => ?_, request_served rfl rfl fun d => ?_,
    request_served rfl rfl fun d => ?_, request_served rfl rfl fun d => ?_, request_served rfl rfl fun d => ?_,
    request_served rfl rfl fun d => ?_, fun h hbusy => request_served_at rfl rfl ?_ h, fun h hheld hfull hmv hpol => request_served_at rfl rfl ?_ h,
    request_served rfl rfl fun d => ?_, Device.resRelease_reservations, request_served rfl rfl fun d => ?_,
    request_served rfl rfl fun d => ?_, request_served rfl rfl fun d => rfl, request_served rfl rfl fun d => settled_ite ..,
    request_served rfl rfl fun d => ?_, request_served rfl rfl fun d => rfl, request_served rfl rfl fun d => settled_ite ..⟩
  · have hrun : cmdChgFaults.run d (Req.ident (withAction r 0 0)) (Req.area (withAction r 0 0)) = (d, ok [d.chg.latched, d.chg.latched]) := by
      simp only [cmdChgFaults, hact, Nat.zero_mod, Nat.zero_ne_one, if_false]
    rw [hrun]
    rfl
  · have hrun : cmdChgFaults.run d (Req.ident (withAction r 0 1)) (Req.area (withAction r 0 1)) =
        ((d.chgRead 0xEF).gaugeRestart d.sample.batMv d.sample.batTemp,
          ok [d.chg.latched, ((d.chgRead 0xEF).gaugeRestart d.sample.batMv d.sample.batTemp).chg.latched]) := by
      simp only [cmdChgFaults, hact, Nat.one_mod, if_true]
    rw [hrun]
    rfl
  · simp only [cmdGaugeSet, hact, Nat.one_mod]
    rfl
  · simp only [cmdGaugeSet, hact]
    rfl
  · simp only [cmdGaugeSet, hact]
    rfl
  · refine (settled_ite ..).trans (ite_congr rfl (fun _ => rfl) fun _ => ?_)
    generalize Device.admission d _ _ _ _ _ _ _ = x
    cases x with
    | grant t => rfl
    | defer t => rfl
    | refuse => rfl
  · exact congrArg (settled (Req.ident r)) (if_pos hbusy)
  · refine (congrArg (settled (Req.ident r)) (if_neg (by simp [hheld, hfull]))).trans ?_
    rw [if_neg hmv, hpol]
    dsimp only
    generalize Device.admission _ _ _ _ _ _ _ _ = x
    cases x with
    | grant t => rfl
    | defer t => rfl
    | refuse => rfl
  · rfl
  · have hrun : cmdLarderSet.run d (Req.ident (withAction r 0 1)) (Req.area (withAction r 0 1)) = _ := if_pos (hact 1)
    rw [hrun]
    rfl
  · have hrun : cmdLarderSet.run d (Req.ident (withAction r 0 2)) (Req.area (withAction r 0 2)) = _ := if_neg (by rw [hact]; decide)
    rw [hrun]
    rfl
  · rcases hbyte : byteAt (Req.area r) 0 with - | - | k
    · simp only [cmdPvSet, hbyte]
      rfl
    · simp only [cmdPvSet, hbyte]
      rfl
    · simp only [cmdPvSet, hbyte]
      rfl

end Sys2Proof.Machine

/-! PROOFS. Measurement, digest, fault and watchdog requests (R615 to R617, R640, R671 to R674, R698 to R700). -/
namespace Sys2Proof.Machine

/-- A hold taken is the Room's. -/
theorem Device.adcTake_holds (d : Device) (n : RoomId) (g : Fin 4) (c : AdcCfg × List Word) :
    (d.adcTake n g c).priv.adcHolds.get g = some { room := n, cfg := c.1, rowWords := c.2 } :=
  vget_vput_same ..

/-- The first part of an identifier that no part is held of (R641). -/
theorem cmdDigQueue_first {d : Device} {id : ReqId} {a : List Byte}
    (hnone : ((d.parts id.room (numAt a 4 2)).filter fun x => x.id != id) = []) :
    cmdDigQueue.run d id a = if byteAt a 3 == 1 then (d, .wait [d.now]) else (d, .accept [] [d.now]) := by
  simp only [cmdDigQueue, hnone, List.any_nil, Bool.and_false, Bool.false_eq_true, if_false, List.head?_nil, Option.map_none,
    Option.getD_none]

/-- Leaving Safe Hold withdraws its votes (R658). -/
theorem Device.safeLeave_leaves {d : Device} (hhold : d.faults.safeHold = true) (hstay : d.faults.leaving = false) :
    d.safeLeave.1 = true ∧ d.safeLeave.2.faults.leaving = true ∧ ∀ v ∈ d.safeLeave.2.priv.votes, v.holder ≠ .safe := by
  rw [Device.safeLeave, if_pos ⟨hhold, hstay⟩]
  refine ⟨rfl, rfl, fun v hv => ?_⟩
  simpa using (List.mem_filter.1 hv).2

/-- `FAULT_CLEAR` by its action. -/
theorem exec_faultClear {s : State} {r : Sys2Proof.Req} {i : Instr} {k : Fin 6}
    (hi : i = [Instr.faultClearSafeHold r, .faultClearRailHeld r, .faultClearAllHeld r, .faultClearBatfet r, .faultClearActive r,
      .faultClearLedgerMark r].getD k.val (.faultProbe r)) : exec i s = s.request cmdFaultClear (withAction r 0 (k.val + 1)) := by
  subst hi
  obtain ⟨k, hk⟩ := k
  match k, hk with
  | 0, _ | 1, _ | 2, _ | 3, _ | 4, _ | 5, _ => rfl

/-- Settles O57: each row by its command. -/
theorem measureFaultAndWatchdogRequests : Obligations.MeasureFaultAndWatchdogRequests := by
  unfold Obligations.MeasureFaultAndWatchdogRequests
  intro s r
  have hact (v : Nat) : byteAt (Req.area (withAction r 0 v)) 0 = v % 256 := area_withAction r 0 v (by decide)
  have hact1 (v : Nat) : byteAt (Req.area (withAction r 1 v)) 1 = v % 256 := area_withAction r 1 v (by decide)
  refine ⟨request_served rfl rfl fun d => settled_ite .., request_served rfl rfl fun d => ?_, request_served rfl rfl fun d => ?_,
    request_served rfl rfl fun d => ?_, request_served rfl rfl fun d => settled_ite .., request_served rfl rfl fun d => ?_,
    fun h hnone => request_served_at rfl rfl ?_ h, request_served rfl rfl fun d => rfl, request_served rfl rfl fun d => ?_,
    fun k i hi => request_served (exec_faultClear hi) rfl fun d => ?_, fun d => ⟨rfl, rfl, rfl, Device.safeLeave_leaves, fun hno => ?_⟩,
    request_served rfl rfl fun d => rfl, request_served rfl rfl fun d => ?_, request_served rfl rfl fun d => ?_,
    request_served rfl rfl fun d => rfl, request_served rfl rfl fun d => rfl, request_served rfl rfl fun d => settled_ite ..⟩
  · simp only [cmdAdcGroup, hact1, Nat.one_mod, Device.adcTake_holds]
    exact settled_ite ..
  · cases hheld : d.priv.adcHolds.get (fin4 (byteAt (Req.area (withAction r 1 2)) 0)) with
    | none =>
      simp only [cmdAdcGroup, hact1, hheld]
      exact settled_ite ..
    | some x =>
      simp only [cmdAdcGroup, hact1, hheld]
      exact settled_ite ..
  · simp only [cmdAdcGroup, hact1, Device.updPriv, vget_vput_same]
    rfl
  · exact (settled_ite ..).trans (ite_congr rfl (fun _ => rfl) fun _ => settled_ite ..)
  · refine (congrArg (settled (Req.ident r)) (cmdDigQueue_first hnone)).trans ((settled_ite ..).trans ?_)
    exact ite_congr (by simp) (fun _ => rfl) fun _ => rfl
  · cases hfirst : d.ledgerEntries.head? <;> cases hlast : d.ledgerEntries.getLast? <;>
      simp only [cmdLedgerRead, hfirst, hlast] <;> rfl
  · have hbyte : byteAt (Req.area (withAction r 0 (k.val + 1))) 0 = k.val + 1 := by
      rw [hact]
      omega
    simp only [cmdFaultClear, hbyte]
    rfl
  · exact if_neg (by simp [hno])
  · exact congrArg (settled _) (if_pos (hact 1))
  · exact congrArg (settled _) (if_neg (by rw [hact]; decide))

end Sys2Proof.Machine

/-! PROOFS. Keeper, image, Recipe and security requests (R202, R223 to R230, R729 to R731, R749, R754 to R758). -/
namespace Sys2Proof.Machine

section
variable {d : Device}

/-! ### COMMIT (R229) -/

theorem Device.commitWrite_none (h : d.images.commit = none) : d.commitWrite = d := by
  simp only [Device.commitWrite, h]

theorem Device.imageCommit_refused {id : ReqId} {b : Bool} (hnone : d.images.commit = none)
    (h : d.cfg.manifest = none ∨ (d.runsTrial .a || d.runsTrial .b) = false) : d.imageCommit id b = (d, fails stBadArg) := by
  unfold Device.imageCommit
  rw [Device.commitWrite_none hnone]
  dsimp only
  split
  next => rfl
  next m hm =>
    rcases h with h | h
    · exact nomatch hm.symm.trans h
    · exact if_pos (by rw [h]; rfl)

theorem Device.imageCommit_begins {id : ReqId} {b : Bool} {m : Manifest} (hnone : d.images.commit = none) (hm : d.cfg.manifest = some m)
    (h : (d.runsTrial .a || d.runsTrial .b) = true) : d.imageCommit id b =
      (d.updImages fun i => { i with commit := some ((d.cfg.nextSeq (d.commitManifest m b)).bytes, id) },
        .wait [1, (d.cfg.nextSeq (d.commitManifest m b)).seq.toNat] (.open false)) := by
  unfold Device.imageCommit
  rw [Device.commitWrite_none hnone]
  dsimp only
  rw [hm]
  dsimp only
  rw [h]
  rfl

/-- A COMMIT of keeper A's trial swaps its slots alone. -/
theorem Device.commitManifest_a {m : Manifest} {b : Bool} (ha : d.runsTrial .a = true) (hb : d.runsTrial .b = false) :
    (d.commitManifest m b).aPrimary = m.aFallback ∧ (d.commitManifest m b).aFallback = m.aPrimary ∧
    (d.commitManifest m b).bPrimary = m.bPrimary := by
  unfold Device.commitManifest
  rw [ha, hb]
  cases b with
  | true => exact ⟨rfl, rfl, rfl⟩
  | false => exact ⟨rfl, rfl, rfl⟩

theorem Device.commitDone_shows (d : Device) (id : ReqId) : (d.commitDone id).images = { d.images with
      trialA := false, trialB := false, commit := none } ∧ (d.commitDone id).findRec id = none := by
  unfold Device.commitDone
  refine ⟨?_, Device.findRec_complete ..⟩
  dsimp only
  simp only [Device.complete_frame, Device.raise_frame]
  rfl

theorem Device.commitWrite_some {l : List Byte} {id : ReqId} (h : d.images.commit = some (l, id)) :
    d.commitWrite = (d.writeCopy l).commitDone id := by
  unfold Device.commitWrite
  rw [h]

/-! ### The requests with an action byte -/

section
variable {id : ReqId} {a : List Byte}

theorem cmdImageStage_open (h : byteAt a 0 = 1) : cmdImageStage.run d id a = d.imageOpen (keeperOf (byteAt a 1)) (numAt a 4 4) := by
  simp only [cmdImageStage, h]

theorem cmdImageStage_data (h : byteAt a 0 = 2) : cmdImageStage.run d id a =
    d.imageData id (keeperOf (byteAt a 1)) (numAt a 4 4) (slice a 8 (byteAt a 2)) := by
  simp only [cmdImageStage, h]

theorem cmdImageStage_close (h : byteAt a 0 = 3) : cmdImageStage.run d id a = d.imageClose (keeperOf (byteAt a 1)) := by
  simp only [cmdImageStage, h]

theorem cmdRecipeWrite_data (h : byteAt a 0 = 2) : cmdRecipeWrite.run d id a =
    d.rcpData id (byteAt a 1) (numAt a 4 4) (slice a 8 (byteAt a 2)) := by
  simp only [cmdRecipeWrite, h]

theorem cmdRecipeWrite_close (h : byteAt a 0 = 3) : cmdRecipeWrite.run d id a = d.rcpClose (byteAt a 1) := by
  simp only [cmdRecipeWrite, h]

/-- DATA of an open stage (R225). -/
theorem Device.imageData_settled {x : Stage} {k : Keeper} {off : Nat} {l : List Byte} (hstage : d.images.stage = some x) :
    settled id (d.imageData id k off l) =
      let e := d.updImages fun i => { i with stage := some { x with lastUse := d.now } }
      let m := e.stagedRange 0x910 (slotBase x.slot) x.written id off l
      if x.keeper ≠ k then d.complete id stBadArg []
      else if x.total < off + l.length ∨ m.1 = true then e.complete id stBadArg []
      else if m.2 = true then e.complete id stOk []
      else e.updRec id fun y => { y with wait := [0], intent := .none } := by
  simp only [Device.imageData, hstage]
  refine (settled_ite ..).trans (ite_congr rfl (fun _ => rfl) fun _ => ?_)
  exact (settled_ite ..).trans (ite_congr rfl (fun _ => rfl) fun _ => settled_ite ..)

theorem Device.begun_romHold (d : Device) (c : Cmd) (r : Sys2Proof.Req) : (d.begun c r).romHold = d.romHold := rfl

/-- CLOSE away from ROM Safe Hold (R227). -/
theorem Device.imageClose_settled {k : Keeper} (hrom : d.romHold = false) : settled id (d.imageClose k) =
    match d.images.stage with
    | none => d.complete id stBadArg []
    | some x =>
      let e := d.updImages fun i => { i with stage := some { x with lastUse := d.now } }
      if x.keeper ≠ k then d.complete id stBadArg []
      else if ((List.range ((x.total + 3) / 4)).all fun i => x.written.contains (4 * i)) = false ∨
          x.total ≠ 256 + imgBody (d.slotHeader x.slot) + 64 then e.complete id stBadArg []
      else if (d.keeper k).role = .active ∨ (d.keeper k).role = .quarantined ∨ d.images.closeWait.isSome = true then
        e.complete id stBusy []
      else ((e.updImages fun i => { i.setTrial k true with closeWait := some (k, x.slot) }).keeperRestart k).updRec id fun y =>
        { y with wait := [103], intent := .open true } := by
  unfold Device.imageClose
  cases d.images.stage with
  | none => rfl
  | some x =>
    have hrom' (f : Images → Images) : (d.updImages f).romHold = false := hrom
    refine (settled_ite ..).trans (ite_congr rfl (fun _ => rfl) fun _ => ?_)
    refine (settled_ite ..).trans (ite_congr rfl (fun _ => rfl) fun _ => ?_)
    refine (congrArg (settled id) (if_neg (by simp [hrom']))).trans ?_
    exact settled_ite ..

/-- ABORT (R230). -/
theorem Device.imageAbort_settled : settled id d.imageAbort =
    let w := d.commitWrite
    match w.activeKeeper with
    | none => w.complete id stOk []
    | some k =>
      let e := (w.updImages fun i => { i with stage := none, trialA := false, trialB := false }).dataDrop 0x910
      if w.runsTrial k = true then w.complete id stBusy []
      else if w.runsTrial (otherKeeper k) = true then
        ((e.updImages fun i => { i with abortWait := some (otherKeeper k) }).keeperRestart (otherKeeper k)).updRec id fun x =>
          { x with wait := [2], intent := .open true }
      else e.complete id stOk [] := by
  unfold Device.imageAbort
  dsimp only
  cases d.commitWrite.activeKeeper with
  | none => rfl
  | some k => exact (settled_ite ..).trans (ite_congr rfl (fun _ => rfl) fun _ => settled_ite ..)

/-- DATA of a Recipe write (R756). -/
theorem Device.rcpData_settled {n off : Nat} {l : List Byte} : settled id (d.rcpData id n off l) =
    match d.rcp.write with
    | none => d.complete id stBadArg []
    | some w =>
      let e := d.updRcp fun x => { x with write := some { w with lastUse := d.now } }
      let m := e.stagedRange 0xA01 (rcpBase w.slot) w.written id off l
      if w.slot ≠ n then d.complete id stBadArg []
      else if ¬ (off + l.length ≤ w.total ∨ (0x1FE0 ≤ off ∧ off + l.length ≤ 0x2000)) ∨ m.1 = true then e.complete id stBadArg []
      else if m.2 = true then e.complete id stOk []
      else e.updRec id fun y => { y with wait := [0], intent := .none } := by
  unfold Device.rcpData
  cases d.rcp.write with
  | none => rfl
  | some w =>
    refine (settled_ite ..).trans (ite_congr rfl (fun _ => rfl) fun _ => ?_)
    exact (settled_ite ..).trans (ite_congr (by simp) (fun _ => rfl) fun _ => settled_ite ..)

/-- CLOSE of a Recipe write (R757). -/
theorem Device.rcpClose_settled {n : Nat} : settled id (d.rcpClose n) =
    match d.rcp.write with
    | none => d.complete id stBadArg []
    | some w =>
      let e := d.updRcp fun x => { x with write := some { w with lastUse := d.now } }
      if w.slot ≠ n then d.complete id stBadArg []
      else if w.whole = false then e.complete id stBadArg []
      else if d.digOurs = true then settled id (e.closeRun n)
      else e.digReserve.updRec id fun y => { y with wait := [1], intent := .none } := by
  unfold Device.rcpClose
  cases d.rcp.write with
  | none => rfl
  | some w =>
    dsimp only
    by_cases hslot : w.slot = n
    · rw [Device.when_true _ (decide_eq_true hslot)]
      rw [if_neg (not_not.2 hslot)]
      exact (settled_ite ..).trans (ite_congr (by simp [hslot]) (fun _ => rfl) fun _ => settled_ite ..)
    · rw [Device.when_false _ (decide_eq_false hslot)]
      rw [if_pos hslot]
      exact congrArg (settled id) (if_pos (.inl hslot))

/-- A selection by its verdict (R749). -/
theorem Device.selectRun_eq {n : Nat} : d.selectRun id n =
    if (d.rcpVerify n).1 ≠ 0 then ((d.rcpVerify n).2, .done stFault (leBytes 1 (d.rcpVerify n).1))
    else ((d.rcpVerify n).2.updRcp fun x => { x with
        switch := some ⟨decodeRecipe ((d.rcpVerify n).2.rcpBytes n), (d.rcpVerify n).2.batch.number.toNat + 1, id, false, false⟩ },
      .wait [3] (.open false)) := by
  unfold Device.selectRun
  rcases d.rcpVerify n with ⟨v, e⟩
  rfl

/-- A response (R730). -/
theorem cmdDbgRespond_settled (h : byteAt a 0 = 1) : settled id (cmdDbgRespond.run d id a) =
    if d.locked = true then d.complete id stBusy []
    else match d.challenge with
      | none => d.complete id stBadArg []
      | some c =>
        if d.digOurs = true then
          let x := (d.updSec fun y => { y with challenge := none }).verifyOne
            { bytes := slice a 8 32, challenge := c.1, req := some id }
          if x.2 = true then x.1.complete id stOk (leBytes 1 x.1.levelAfter.code) else x.1.complete id stFault []
        else ((d.respond (slice a 8 32) (some id)).digReserve).updRec id fun y => { y with wait := [], intent := .open true } := by
  have hrun : cmdDbgRespond.run d id a = _ := if_neg (by rw [h]; decide)
  rw [hrun]
  refine (settled_ite ..).trans (ite_congr rfl (fun _ => rfl) fun _ => ?_)
  cases d.challenge with
  | none => rfl
  | some c =>
    refine (settled_ite ..).trans (ite_congr rfl (fun _ => ?_) fun _ => rfl)
    dsimp only
    split
    · rfl
    · rfl

end

end

/-- Settles O58: each row by its command. -/
theorem keeperRecipeAndSecurityRequests : Obligations.KeeperRecipeAndSecurityRequests := by
  unfold Obligations.KeeperRecipeAndSecurityRequests
  intro s r
  have hact (v : Nat) : byteAt (Req.area (withAction r 0 v)) 0 = v % 256 := area_withAction r 0 v (by decide)
  refine ⟨request_served rfl rfl fun d => ?_, fun h => request_served_at rfl rfl ?_ h, request_served rfl rfl fun d => ?_,
    fun h hstage => request_served_at rfl rfl ?_ h, fun x h hstage => request_served_at rfl rfl ?_ h,
    fun h => request_served_at rfl rfl ?_ h, request_served rfl rfl fun d => ?_,
    fun d id b hnone => ⟨Device.imageCommit_refused hnone, fun m x hm htrial hx => ?_⟩, fun d l id h => ?_,
    request_served rfl rfl fun d => ?_, request_served rfl rfl fun d => ?_, fun d id n => Device.selectRun_eq, request_served rfl rfl fun d => ?_,
    request_served rfl rfl fun d => ?_, request_served rfl rfl fun d => ?_, request_served rfl rfl fun d => ?_,
    request_served rfl rfl fun d => ?_, request_served rfl rfl fun d => ?_, request_served rfl rfl fun d => ?_⟩
  · exact (settled_ite ..).trans (ite_congr rfl (fun _ => settled_ite ..) fun _ => rfl)
  · obtain ⟨-, -, -, -, -, -, -, -, hargs⟩ := h
    have hrole : ((s.dev.begun cmdKeeperRevive r).keeper (keeperOf (byteAt (Req.area r) 0))).role = .quarantined := by
      have hargs' := (Bool.and_eq_true _ _ ▸ hargs : _ ∧ _).2
      exact of_decide_eq_true hargs'
    exact congrArg (settled _) (if_pos hrole)
  · rw [cmdImageStage_open (hact 1)]
    exact settled_ite ..
  · rw [cmdImageStage_data (hact 2)]
    have hstage' : (s.dev.begun cmdImageStage (withAction r 0 2)).images.stage = none := hstage
    simp only [Device.imageData, hstage']
    rfl
  · rw [cmdImageStage_data (hact 2)]
    exact Device.imageData_settled hstage
  · rw [cmdImageStage_close (hact 3)]
    exact Device.imageClose_settled ((Device.begun_romHold ..).trans h.1.2)
  · exact congrArg (settled _) (if_pos (hact 1))
  · subst hx
    exact ⟨Device.imageCommit_begins hnone hm htrial, Device.commitManifest_a⟩
  · rw [Device.commitWrite_some h]
    obtain ⟨himages, hrec⟩ := (d.writeCopy l).commitDone_shows id
    rw [himages]
    exact ⟨rfl, rfl, rfl, hrec⟩
  · have hrun : cmdImageCommit.run d (Req.ident (withAction r 0 2)) (Req.area (withAction r 0 2)) = d.imageAbort :=
      if_neg (by rw [hact]; decide)
    rw [hrun]
    exact Device.imageAbort_settled
  · refine (settled_ite ..).trans (ite_congr rfl (fun _ => rfl) fun _ => ?_)
    exact (settled_ite ..).trans (ite_congr rfl (fun _ => rfl) fun _ => settled_ite ..)
  · simp only [cmdRecipeWrite, hact]
    exact settled_ite ..
  · rw [cmdRecipeWrite_data (hact 2)]
    exact Device.rcpData_settled
  · rw [cmdRecipeWrite_close (hact 3)]
    exact Device.rcpClose_settled
  · exact (settled_ite ..).trans (ite_congr rfl (fun _ => rfl) fun _ => settled_ite ..)
  · exact cmdDbgRespond_settled (hact 1)
  · exact congrArg (settled _) (if_pos (hact 2))
  · exact (settled_ite ..).trans (ite_congr rfl (fun _ => rfl) fun _ => settled_ite ..)

end Sys2Proof.Machine

/-! PROOFS. The debug port: its levels, its operations, and the memory they reach (R702 to R732). -/
namespace Sys2Proof.Machine

/-! ### Operations of the TAP (R719, R721) -/

section
variable {d : Device} {ir : BitVec 5} {f : Device → Device}

/-- The controller out of reset, with an instruction. -/
def Device.tapped (d : Device) (ir : BitVec 5) : Device :=
  (d.updSec fun s => { s with tapIr := ir }).updPins fun p => { p with tapReset := false }

theorem Device.tapOp_dead (h : d.tapLive = false) : d.tapOp ir f = d := Device.when_false _ h

theorem Device.tapOp_live (h : d.tapLive = true) : d.tapOp ir f = f (d.tapped ir) := Device.when_true _ h

theorem Device.tapped_portOpen (h : d.tapLive = true) : (d.tapped ir).portOpen = decide (d.sec.level ≠ .closed) := by
  have hlive : (d.tapped ir).tapLive = true := h
  simp only [Device.portOpen, hlive, Bool.true_and]
  rfl

theorem Device.tapOpen_dead (h : d.tapLive = false) : d.tapOpen ir f = d := Device.tapOp_dead h

theorem Device.tapOpen_shut (h : d.tapLive = true) (hlevel : d.sec.level = .closed) : d.tapOpen ir f = d.tapped ir :=
  (Device.tapOp_live h).trans (Device.when_false _ (by rw [Device.tapped_portOpen h, hlevel]; rfl))

theorem Device.tapOpen_open (h : d.tapLive = true) (hlevel : d.sec.level ≠ .closed) : d.tapOpen ir f = f (d.tapped ir).catchUp :=
  (Device.tapOp_live h).trans (Device.when_true _ (by rw [Device.tapped_portOpen h]; exact decide_eq_true hlevel))

/-- Where no mark has passed the operation finds the device as it is. -/
theorem Device.tapOpen_caught (h : d.tapLive = true) (hlevel : d.sec.level ≠ .closed) (hcaught : d.Caught ∨ d.romHold = true) :
    d.tapOpen ir f = f (d.tapped ir) := by
  have hsame : (d.tapped ir).catchUp = d.tapped ir := by
    rcases hcaught with hcaught | hrom
    · exact Device.catchUp_same (d := d.tapped ir) hcaught.1 hcaught.2
    · have hphase : d.power.phase = .romSafeHold := of_decide_eq_true hrom
      exact if_neg (by simp [Device.tapped, hphase, Phase.batchRuns])
  rw [Device.tapOpen_open h hlevel, hsame]

end

theorem exec_tapReset (s : State) : exec .tapReset s = s.onDev fun d => d.when d.tapLive fun d =>
    (d.updSec fun s => { s with tapIr := 1 }).updPins fun p => { p with tapReset := true } := rfl

theorem exec_keyprog (s : State) (x : Byte) (l : List Byte) :
    exec (.keyprog x l) s = s.onDev (·.tapOp 0x0B (·.keyProgram x.toNat l)) := rfl

theorem exec_lcadv (s : State) : exec .lcadv s = s.onDev (·.tapOp 0x0C (·.lcAdvance)) := rfl

theorem exec_dbgHalt (s : State) (a b : Bool) : exec (.dbgHalt a b) s = s.onDev (·.tapOpen 0x08 (·.halt a b)) := rfl

theorem exec_dbgWdhalt (s : State) (b : Bool) :
    exec (.dbgWdhalt b) s = s.onDev (·.tapOpen 0x08 (·.updSec fun x => { x with wdhalt := b })) := rfl

theorem exec_dbgAttach (s : State) (b : Bool) : exec (.dbgAttach b) s = s.onDev (·.tapOpen 0x08 (·.attachWrite b)) := rfl

theorem exec_dbgChalReq (s : State) :
    exec .dbgChalReq s = s.onDev (·.tapOp 0x08 (·.updSec fun x => { x with chalReq := true })) := rfl

theorem exec_dbgDrop (s : State) : exec .dbgDrop s = s.onDev (·.tapOpen 0x08 (·.dropLevel)) := rfl

theorem exec_dbgAuthSubmit (s : State) (l : List Byte) :
    exec (.dbgAuthSubmit l) s = s.onDev (·.tapOp 0x09 (·.respond (slice l 0 32) none)) := rfl

theorem exec_dbgMemRead (s : State) (p : MemSpace) (a : Word) :
    exec (.dbgMemRead p a) s = s.onDev (·.tapOp 0x0A (·.memRead p a.toNat)) := rfl

theorem exec_dbgMemWrite (s : State) (p : MemSpace) (a w : Word) :
    exec (.dbgMemWrite p a w) s = s.onDev (·.tapOp 0x0A (·.memWrite p a.toNat w)) := rfl

theorem exec_dbgMemErase (s : State) (p : MemSpace) (a : Word) :
    exec (.dbgMemErase p a) s = s.onDev (·.tapOp 0x0A (·.memErase p a.toNat)) := rfl

/-! ### Halts, attachment and level (R710 to R712, R722 to R725) -/

section
variable {d : Device}

theorem Device.noteCut_shows (d : Device) : d.noteCut.sec = d.sec ∧ d.noteCut.keepers = d.keepers ∧ d.noteCut.batch = d.batch ∧
    d.noteCut.faults = d.faults :=
  ⟨Device.when_keeps (·.sec) rfl, Device.when_keeps (·.keepers) rfl, Device.when_keeps (·.batch) rfl, Device.when_keeps (·.faults) rfl⟩

theorem Device.halt_shows (d : Device) (a b : Bool) : (d.halt a b).sec = { d.sec with haltA := a, haltB := b } ∧
    (d.halt a b).keepers.a.halted = (if d.asleep then d.keepers.a.halted && a
      else a && (d.keepers.a.powered || decide (d.keepers.a.role = .active))) ∧
    (d.halt a b).keepers.b.halted = (if d.asleep then d.keepers.b.halted && b
      else b && (d.keepers.b.powered || decide (d.keepers.b.role = .active))) ∧
    (d.halt a b).batch = d.batch ∧ (d.halt a b).faults = d.faults := by
  have hasleep (f : Security → Security) : (d.updSec f).asleep = d.asleep := rfl
  unfold Device.halt
  dsimp only
  rw [hasleep]
  cases d.asleep with
  | true => exact ⟨rfl, rfl, rfl, rfl, rfl⟩
  | false =>
    simp only [Bool.false_eq_true, if_false]
    unfold Device.haltApply
    rw [(Device.noteCut_shows _).1, (Device.noteCut_shows _).2.1, (Device.noteCut_shows _).2.2.1, (Device.noteCut_shows _).2.2.2]
    exact ⟨rfl, rfl, rfl, rfl, rfl⟩

theorem Device.attachWrite_shows {b : Bool} (h : d.sec.attach ≠ b) : (d.attachWrite b).sec = { d.sec with
      attach := b, attachDrop := !b, attState := if b && decide (d.sec.level = .opened) then 1 else if b then d.sec.attState else 0 } ∧
    (d.attachWrite b).batch = d.batch ∧ (d.attachWrite b).faults.graveDue = d.faults.graveDue := by
  unfold Device.attachWrite
  rw [if_neg h]
  exact ⟨by simp [Device.updSec], by simp, Device.raise_coded_grave _ _ _ _ (by decide)⟩

theorem Device.haltRelease_shows (d : Device) : d.haltRelease.sec = { d.sec with haltA := false, haltB := false } ∧
    d.haltRelease.batch = d.batch ∧ d.haltRelease.faults = d.faults :=
  ⟨rfl, rfl, rfl⟩

theorem Device.attachRelease_shows (d : Device) : d.attachRelease.sec = { d.sec with
      attHandle := none, attState := 0, retryAt := none, attachDrop := false } ∧
    d.attachRelease.batch = d.batch ∧ d.attachRelease.faults = d.faults :=
  ⟨rfl, rfl, rfl⟩

theorem Device.levelFall_shows (d : Device) : d.levelFall.sec = { d.sec with
      haltA := false, haltB := false, attHandle := none, attState := 0, retryAt := none, attachDrop := false, wdhalt := false,
      attach := false, memDenied := d.sec.memDenied || d.sec.memBusy, memBusy := false } ∧
    d.levelFall.batch = d.batch ∧ d.levelFall.faults = d.faults := by
  obtain ⟨hsec, hbatch, hfaults⟩ := d.haltRelease_shows
  obtain ⟨asec, abatch, afaults⟩ := d.haltRelease.attachRelease_shows
  unfold Device.levelFall
  refine ⟨?_, abatch.trans hbatch, afaults.trans hfaults⟩
  simp only [Device.updSec, asec, hsec]

/-- A fall of the level from AUTH releases what the port holds. -/
theorem Device.dropLevel_auth (h : d.sec.level = .auth) : d.dropLevel.sec.level = .closed ∧ d.dropLevel.sec.haltA = false ∧
    d.dropLevel.sec.haltB = false ∧ d.dropLevel.sec.wdhalt = false ∧ d.dropLevel.sec.attach = false ∧
    d.dropLevel.sec.attHandle = none ∧ d.dropLevel.batch = d.batch ∧ d.dropLevel.faults.graveDue = d.faults.graveDue := by
  have heq : d.dropLevel = ((d.updSec fun s => { s with level := .closed }).levelFall).raise (coded 0x11 2 2) := by
    unfold Device.dropLevel Device.setLevel
    rw [h, if_neg (by simp), if_neg (by decide)]
    rfl
  obtain ⟨hsec, hbatch, hfaults⟩ := (d.updSec fun s => { s with level := .closed }).levelFall_shows
  rw [heq, Device.raise_coded_grave _ _ _ _ (by decide), hfaults]
  simp only [Device.raise_frame, hsec, hbatch]
  exact ⟨rfl, trivial, trivial, trivial, trivial, trivial, rfl, rfl⟩

end

/-- Settles O50: by whether the port lives, and by its level. -/
theorem tapOperationsNeedTheirLevel : Obligations.TapOperationsNeedTheirLevel := by
  unfold Obligations.TapOperationsNeedTheirLevel
  intro s hcalm d
  simp only [exec_tapReset, exec_keyprog, exec_lcadv, exec_dbgHalt, exec_dbgWdhalt, exec_dbgAttach, exec_dbgChalReq, exec_dbgDrop,
    exec_dbgAuthSubmit, exec_dbgMemRead, exec_dbgMemWrite, exec_dbgMemErase]
  refine ⟨fun hdead => ?_, fun hlive => State.onDev_put (Device.when_true _ hlive) hcalm rfl, fun hlive hd => ?_⟩
  · have hop (ir : BitVec 5) (f : Device → Device) : s.onDev (·.tapOp ir f) = .next s := State.onDev_same hcalm (Device.tapOp_dead hdead)
    have hopen (ir : BitVec 5) (f : Device → Device) : s.onDev (·.tapOpen ir f) = .next s :=
      State.onDev_same hcalm (Device.tapOpen_dead hdead)
    exact ⟨State.onDev_same hcalm (Device.when_false _ hdead), fun x l => hop _ _, hop _ _, fun a b => hopen _ _, fun b => hopen _ _,
      fun b => hopen _ _, hop _ _, hopen _ _, fun l => hop _ _, fun p a => hop _ _, fun p a w => hop _ _, fun p a => hop _ _⟩
  · have hd' : d = s.dev.tapped 0x08 := hd
    subst hd'
    refine ⟨State.onDev_put (Device.tapOp_live hlive) hcalm rfl, fun hlevel => ?_, fun hlevel b => ?_, fun hlevel hcaught => ?_⟩
    · have hshut (f : Device → Device) : s.onDev (·.tapOpen 0x08 f) = .next (s.put (s.dev.tapped 0x08)) :=
        State.onDev_put (Device.tapOpen_shut hlive hlevel) hcalm rfl
      exact ⟨fun a b => hshut _, fun b => hshut _, fun b => hshut _, hshut _⟩
    · exact State.onDev_of_eq (Device.tapOpen_open hlive hlevel)
    · have hdo (f : Device → Device) : s.dev.tapOpen 0x08 f = f (s.dev.tapped 0x08) := Device.tapOpen_caught hlive hlevel hcaught
      refine ⟨fun b => State.onDev_put (hdo _) hcalm rfl, fun a b => ?_, fun b hb => ?_, fun b hb => ?_, fun hopened hl => ?_,
        fun hauth => ?_⟩
      · obtain ⟨hsec, ha, hb, hbatch, hfaults⟩ := (s.dev.tapped 0x08).halt_shows a b
        refine ⟨_, State.onDev_put (hdo (·.halt a b)) (by rw [Device.Calm, hfaults]; exact hcalm) hbatch, congrArg (·.haltA) hsec,
          congrArg (·.haltB) hsec, fun h => ?_, fun h => ?_, fun hawake hrole => ?_, fun hasleep h => ?_⟩
        · rw [State.put, ha, h]
          simp
        · rw [State.put, hb, h]
          simp
        · rw [State.put, ha]
          have hasleep : (s.dev.tapped 0x08).asleep = false := hawake
          have hrole' : (s.dev.tapped 0x08).keepers.a.role = .active := hrole
          rw [hasleep, hrole']
          simp
        · rw [State.put, ha, h]
          have hasleep' : (s.dev.tapped 0x08).asleep = true := hasleep
          rw [hasleep']
          exact Bool.and_true _
      · exact State.onDev_put ((hdo _).trans (if_pos hb)) hcalm rfl
      · obtain ⟨hsec, hbatch, hgrave⟩ := Device.attachWrite_shows (d := s.dev.tapped 0x08) hb
        refine ⟨_, State.onDev_put (hdo (·.attachWrite b)) (hgrave.trans hcalm) hbatch, congrArg (·.attach) hsec,
          congrArg (·.attachDrop) hsec, (congrArg (·.attState) hsec).trans ?_⟩
        have hlevel' : (s.dev.tapped 0x08).sec.level = s.dev.sec.level := rfl
        have hstate : (s.dev.tapped 0x08).sec.attState = s.dev.sec.attState := rfl
        rw [hlevel', hstate]
        cases b with
        | true => simp
        | false => rfl
      · exact State.onDev_put ((hdo _).trans (if_pos ⟨hopened, hl⟩)) hcalm rfl
      · obtain ⟨h1, h2, h3, h4, h5, h6, hbatch, hgrave⟩ := Device.dropLevel_auth (d := s.dev.tapped 0x08) hauth
        exact ⟨_, State.onDev_put (hdo (·.dropLevel)) (hgrave.trans hcalm) hbatch, h1, h2, h3, h4, h5, h6⟩

end Sys2Proof.Machine

/-! PROOFS. Keys, lifecycle words, challenges, and memory through the debug port (R702 to R709, R715 to R724). -/
namespace Sys2Proof.Machine

section
variable {d : Device}

/-! ### Keys (R709) -/

theorem Device.keyProgram_refused {k : Nat} {l : List Byte} (h : d.sec.level ≠ .opened ∨ 1 < d.lifecycle) : d.keyProgram k l = d := by
  refine if_pos ?_
  rcases h with h | h
  · simp [h]
  · have hno : ¬ d.lifecycle ≤ 1 := by omega
    simp [hno]

theorem Device.keyProgram_allowed {k : Nat} {l : List Byte} (hlive : d.tapLive = true) (hlevel : d.sec.level = .opened)
    (hlife : d.lifecycle ≤ 1) : d.keyProgram k l =
    if 3 < k then d.updSec fun s => { s with prog := 3 }
    else if k ≤ 1 then (((d.updSec fun s => { s with prog := 2 }).updKeys fun x =>
        { x with slots := x.slots.set! k (some (slotKeys (slice l 0 32))) }).raise (coded 0x0E 2 (256 * k + 1))).when
          (decide (k = 0)) (·.factoryTag (slotKeys (slice l 0 32)))
    else (d.updSec fun s => { s with prog := 2 }).updKeys fun x =>
      { x with pubKeys := x.pubKeys.set! (k - 2) (some (slice l 0 64)) } := by
  unfold Device.keyProgram
  rw [if_neg (by simp [hlive, hlevel, hlife])]

theorem Device.tapped_lifecycle (d : Device) (ir : BitVec 5) : (d.tapped ir).lifecycle = d.lifecycle := rfl

/-- KEYPROG through the port. -/
theorem Device.tapOp_keyProgram {k : Nat} {l : List Byte} (hlive : d.tapLive = true) (hlevel : d.sec.level = .opened)
    (hlife : d.lifecycle ≤ 1) : d.tapOp 0x0B (·.keyProgram k l) =
    if 3 < k then (d.tapped 0x0B).updSec fun s => { s with prog := 3 }
    else if k ≤ 1 then ((((d.tapped 0x0B).updSec fun s => { s with prog := 2 }).updKeys fun x =>
        { x with slots := x.slots.set! k (some (slotKeys (slice l 0 32))) }).raise (coded 0x0E 2 (256 * k + 1))).when
          (decide (k = 0)) (·.factoryTag (slotKeys (slice l 0 32)))
    else ((d.tapped 0x0B).updSec fun s => { s with prog := 2 }).updKeys fun x =>
      { x with pubKeys := x.pubKeys.set! (k - 2) (some (slice l 0 64)) } := by
  have hlife' : (d.tapped 0x0B).lifecycle ≤ 1 := by rw [Device.tapped_lifecycle]; exact hlife
  have hlive' : (d.tapped 0x0B).tapLive = true := hlive
  have hlevel' : (d.tapped 0x0B).sec.level = .opened := hlevel
  exact (Device.tapOp_live hlive).trans (Device.keyProgram_allowed hlive' hlevel' hlife')

/-! ### Lifecycle (R702 to R706) -/

theorem Device.lcAdvance_eq (hlive : d.tapLive = true) (hlevel : d.sec.level = .opened) (hlife : d.lifecycle = 0)
    (hnone : d.sec.advance = none) : d.lcAdvance =
    if (d.keys.slots.toList.getD 0 none).isSome ∧ d.debugKey.isSome ∧ d.keys.pubKeys.toList.any (·.isSome) then
      d.updSec fun s => { s with prog := 1, advance := some { target := 1, req := none } }
    else d.updSec fun s => { s with prog := 3 } := by
  unfold Device.lcAdvance
  rw [if_neg (by simp [hlive, hlevel, hlife, hnone])]

/-- What erasing key slots leaves as it was. -/
theorem Device.eraseKeys_keeps {α : Type} (p : Device → α) (hkeys : ∀ (x : Device) f, p (x.updKeys f) = p x)
    (hraise : ∀ (x : Device) i, p (x.raise (coded 0x0E 2 (256 * i))) = p x) (lo : Nat) : p (d.eraseKeys lo) = p d :=
  Device.each_keeps p (fun _ _ => (hraise _ _).trans (hkeys _ _)) _ d

theorem slot_erased (v : Vector (Option SlotKeys) 8) (j : Nat) (i : Fin 8) :
    (v.set! j none).get i = if j = i.val then none else v.get i := by
  simp only [Vector.get_eq_getElem, Vector.set!_eq_setIfInBounds, Vector.getElem_setIfInBounds]

/-- Slots erased one after another. -/
theorem Device.eraseEach_slot (l : List Nat) (i : Fin 8) : ((d.each l fun i d =>
      (d.updKeys fun k => { k with slots := k.slots.set! i none }).raise (coded 0x0E 2 (256 * i))).keys.slots.get i) =
    if i.val ∈ l then none else d.keys.slots.get i := by
  induction l generalizing d with
  | nil => simp [Device.each]
  | cons j l ih =>
    have hstep := ih (d := (d.updKeys fun k => { k with slots := k.slots.set! j none }).raise (coded 0x0E 2 (256 * j)))
    refine hstep.trans ?_
    simp only [Device.raise_frame, Device.updKeys, slot_erased, List.mem_cons]
    by_cases hl : i.val ∈ l
    · simp [hl]
    · simp only [hl, if_false, or_false, eq_comm]

/-- An erase from a slot on leaves none of them loaded. -/
theorem Device.eraseKeys_slot {lo : Nat} {i : Fin 8} (hi : lo ≤ i.val) : (d.eraseKeys lo).keys.slots.get i = none := by
  refine (Device.eraseEach_slot _ i).trans ?_
  rw [ite_eq_left_iff]
  intro hout
  cases hs : d.keys.slots.get i with
  | none => rfl
  | some x =>
    have hslot : d.keys.slots.toList.getD i.val none = some x := (KeyStore.slot_get d.keys i).trans hs
    exact absurd (List.mem_filter.2 ⟨List.mem_range.2 i.isLt, by rw [hslot]; simpa using hi⟩) hout

/-- An advance by its words, its challenge and its keys (R704, R731). -/
def Device.advanceWords (d : Device) (k : Nat) : Device :=
  (d.programLifecycle k).updSec fun s => { s with advance := none, challenge := none }

/-- The advance with the key slots that it erases. -/
def Device.advanceErased (d : Device) (k : Nat) : Device := (d.advanceWords k).when (decide (k = 3)) (·.eraseKeys 2)

theorem Device.advanceErased_shows (k : Nat) : (d.advanceErased k).sec = { d.sec with
      copyA := lifecycleWords k, copyB := lifecycleWords k, advance := none, challenge := none } ∧
    (d.advanceErased k).batch = d.batch ∧ (d.advanceErased k).faults.graveDue = d.faults.graveDue := by
  have herase {α : Type} (p : Device → α) (hkeys : ∀ (x : Device) f, p (x.updKeys f) = p x)
      (hraise : ∀ (x : Device) i, p (x.raise (coded 0x0E 2 (256 * i))) = p x) : p (d.advanceErased k) = p (d.advanceWords k) :=
    Device.when_keeps p (Device.eraseKeys_keeps p hkeys hraise 2)
  exact ⟨herase (·.sec) (fun _ _ => rfl) fun x i => by simp, herase (·.batch) (fun _ _ => rfl) fun x i => by simp,
    herase (·.faults.graveDue) (fun _ _ => rfl) fun x i => Device.raise_coded_grave _ _ _ _ (by decide)⟩

theorem Device.advanceErased_slot {i : Fin 8} (hi : 2 ≤ i.val) : (d.advanceErased 3).keys.slots.get i = none :=
  Device.eraseKeys_slot hi

theorem Device.advanceErased_slots {k : Nat} (hk : k ≠ 3) : (d.advanceErased k).keys.slots = d.keys.slots := by
  rw [Device.advanceErased, Device.when_false _ (decide_eq_false hk)]
  rfl

/-- The completion of an advance that a request asked for, with the level and the restart to follow. -/
def Device.advanceAnswered (d : Device) (k : Nat) (id : ReqId) : Device :=
  ((d.complete id stOk (leBytes 1 k)).updSec fun s => { s with nextLevel := some .closed }).when (decide (k = 4)) fun d =>
    d.updPriv fun p => { p with restart := some (d.batch.number.toNat, 8) }

theorem Device.advanceAnswered_shows (d : Device) (k : Nat) (id : ReqId) :
    (d.advanceAnswered k id).sec = { d.sec with nextLevel := some .closed } ∧ (d.advanceAnswered k id).keys = d.keys ∧
    (d.advanceAnswered k id).findRec id = none ∧ (d.advanceAnswered k id).batch = d.batch ∧ (d.advanceAnswered k id).faults = d.faults := by
  have hend {α : Type} (p : Device → α) (hp : ∀ (x : Device) f, p (x.updPriv f) = p x) : p (d.advanceAnswered k id) =
      p ((d.complete id stOk (leBytes 1 k)).updSec fun s => { s with nextLevel := some .closed }) :=
    Device.when_keeps p (hp _ _)
  rw [hend (·.sec) fun _ _ => rfl, hend (·.keys) fun _ _ => rfl, hend (·.findRec id) fun _ _ => rfl, hend (·.batch) fun _ _ => rfl,
    hend (·.faults) fun _ _ => rfl]
  refine ⟨?_, ?_, Device.findRec_complete .., ?_, ?_⟩
  all_goals simp [Device.updSec]

theorem Device.advanceDone_eq (k : Nat) (id : ReqId) :
    d.advanceDone { target := k, req := some id } = (d.advanceErased k).advanceAnswered k id := rfl

end

theorem exec_lifecycleProgramDone (s : State) (ss : StartSense) :
    exec (.lifecycleProgramDone ss) s = s.onClk (·.advanceEnds ss) := rfl

/-- Settles O51: each row by its equation. -/
theorem keysAndLifecycleAreProgrammed : Obligations.KeysAndLifecycleAreProgrammed := by
  unfold Obligations.KeysAndLifecycleAreProgrammed
  intro s hcalm
  simp only [exec_keyprog, exec_lcadv, exec_lifecycleProgramDone]
  refine ⟨fun hlive hlevel hlife => ⟨fun x l hx => ?_, fun l => ?_, fun l => ?_⟩, fun x l hno => ?_, fun hlive hlevel hlife hnone => ?_,
    fun ss hno => ?_, fun ss k id hopen hadv => ?_⟩
  · exact ⟨_, State.onDev_put ((Device.tapOp_keyProgram hlive hlevel hlife).trans (if_pos hx)) hcalm rfl, rfl, rfl⟩
  · have heq := (Device.tapOp_keyProgram (k := 1) (l := l) hlive hlevel hlife).trans ((if_neg (by decide)).trans (if_pos (by decide)))
    rw [Device.when_false _ (by decide)] at heq
    refine ⟨_, State.onDev_put heq ((Device.raise_coded_grave _ _ _ _ (by decide)).trans hcalm) (by simp; rfl), ?_, ?_, ?_⟩
    · rw [State.put]
      simp only [Device.raise_frame]
      rfl
    · rw [State.put]
      simp only [Device.raise_frame]
      rfl
    · rw [State.put]
      simp only [Device.raise_frame]
      rfl
  · have heq := (Device.tapOp_keyProgram (k := 3) (l := l) hlive hlevel hlife).trans ((if_neg (by decide)).trans (if_neg (by decide)))
    exact ⟨_, State.onDev_put heq hcalm rfl, rfl, rfl, rfl⟩
  · cases hlive : s.dev.tapLive with
    | false => exact ⟨_, State.onDev_same hcalm (Device.tapOp_dead hlive), rfl, rfl, rfl⟩
    | true =>
      have heq : s.dev.tapOp 0x0B (·.keyProgram x.toNat l) = s.dev.tapped 0x0B :=
        (Device.tapOp_live hlive).trans (Device.keyProgram_refused hno)
      exact ⟨_, State.onDev_put heq hcalm rfl, rfl, rfl, rfl⟩
  · have heq : s.dev.tapOp 0x0C (·.lcAdvance) = _ := (Device.tapOp_live hlive).trans (Device.lcAdvance_eq hlive hlevel hlife hnone)
    by_cases hready : (s.dev.keys.slots.toList.getD 0 none).isSome ∧ s.dev.debugKey.isSome ∧ s.dev.keys.pubKeys.toList.any (·.isSome) = true
    · refine ⟨_, State.onDev_put (heq.trans (if_pos hready)) hcalm rfl, fun _ => ⟨rfl, rfl⟩, fun hno => ?_, rfl, rfl⟩
      rw [hno] at hready
      exact absurd hready.2.1 (by decide)
    · exact ⟨_, State.onDev_put (heq.trans (if_neg hready)) hcalm rfl, fun h => absurd h hready, fun _ => ⟨rfl, hnone⟩, rfl, rfl⟩
  · refine State.onClk_same hcalm ?_
    unfold Device.advanceEnds
    cases hadv : s.dev.sec.advance with
    | none => rfl
    | some a =>
      rcases hno with hno | ⟨hopen, hrom⟩
      · exact nomatch hadv.symm.trans hno
      · exact if_neg (by rw [hopen, hrom]; decide)
  · obtain ⟨hsec, hbatch, hgrave⟩ := s.dev.advanceErased_shows k
    obtain ⟨asec, akeys, arec, abatch, afaults⟩ := (s.dev.advanceErased k).advanceAnswered_shows k id
    have heq : s.dev.advanceEnds ss = (s.dev.advanceErased k).advanceAnswered k id := by
      unfold Device.advanceEnds
      rw [hadv]
      exact if_pos (by rw [hopen]; rfl)
    have htime : s.dev.now ≤ ((s.dev.advanceErased k).advanceAnswered k id).now := by rw [Device.now, Device.now, abatch, hbatch]
    rw [hsec] at asec
    refine ⟨_, State.onClk_put heq ?_ htime, congrArg (·.copyA) asec, congrArg (·.copyB) asec, congrArg (·.advance) asec,
      congrArg (·.challenge) asec, congrArg (·.nextLevel) asec, arec, fun hk i hi => ?_, fun hk => ?_⟩
    · rw [Device.Calm, afaults, hgrave]
      exact hcalm
    · subst hk
      rw [State.put, akeys]
      exact Device.advanceErased_slot hi
    · rw [State.put, akeys]
      exact Device.advanceErased_slots hk

end Sys2Proof.Machine

/-! PROOFS. Challenges in time, and memory through the debug port (R715 to R717, R721, R724). -/
namespace Sys2Proof.Machine

section
variable {d : Device}

/-! ### Challenges and lockouts (R715 to R717) -/

theorem Device.respond_consumes {l : List Byte} {c : List Byte × Nat} (h : d.challenge = some c) : d.respond l none =
    d.updSec fun s => { s with challenge := none, responses := s.responses ++ [{ bytes := l, challenge := c.1, req := none }] } := by
  simp only [Device.respond, h]

theorem Device.respond_none {l : List Byte} (h : d.challenge = none) : d.respond l none = d := by
  simp only [Device.respond, h]

theorem Device.chalExpire_due {c : List Byte × Nat} (h : d.sec.challenge = some c) (hdue : c.2 + 10000000 ≤ d.now) :
    d.chalExpire = d.updSec fun s => { s with challenge := none } := by
  simp only [Device.chalExpire, h, hdue, if_true]

theorem Device.lockExpire_due {t : Nat} (h : d.sec.lockEnd = some t) (hdue : t ≤ d.now) :
    d.lockExpire = d.updSec fun s => { s with lockEnd := none } := by
  simp only [Device.lockExpire, h, hdue, if_true]

/-! ### Memory (R721, R724) -/

theorem memKind_nvm (a : Nat) : memKind .nvm a = if a % 4 ≠ 0 then 0 else if a < 0x100000 then 3 else 0 := rfl

theorem Device.memRead_shut {p : MemSpace} {a : Nat} (h : d.portOpen = false) : d.memRead p a = d := if_pos h

theorem Device.memRead_nowhere {p : MemSpace} {a : Nat} (h : d.portOpen = true) (hk : memKind p a = 0) :
    d.memRead p a = d.memStatus true := by
  rw [Device.memRead, if_neg (by simp [h]), if_pos hk]

theorem Device.memRead_word {p : MemSpace} {a : Nat} (h : d.portOpen = true) (hk : memKind p a ≠ 0) :
    d.memRead p a = (({ d with freeCtr := d.freeCtr + 1 } : Device).updSec fun s => { s with memData := d.memWord p a }).memStatus false := by
  rw [Device.memRead, if_neg (by simp [h]), if_neg hk]

theorem Device.memWord_nvm {a : Nat} (hk : memKind .nvm a = 3) : d.memWord .nvm a =
    if 0xFF000 ≤ a then 0 else if 0xF0000 ≤ a then wordOf fun i => Config.debugByte 3 (a + i) d.freeCtr
    else BitVec.ofNat 32 (leNat (d.nvmRead a 4)) := by
  simp only [Device.memWord, hk]

theorem Device.memWrite_shut {p : MemSpace} {a : Nat} {w : Word} (h : d.portOpen = false) : d.memWrite p a w = d := if_pos h

theorem Device.memWrite_allowed {a : Nat} {w : Word} (h : d.portOpen = true) (hk : memKind .nvm a = 3) (hw : d.nvmWritable a = true) :
    d.memWrite .nvm a w = (d.nvmWrite a (leBytes 4 w.toNat)).memStatus false := by
  simp only [Device.memWrite, h, hk, hw, Bool.true_eq_false, if_false, if_true]

theorem Device.memWrite_denied {a : Nat} {w : Word} (h : d.portOpen = true) (hw : d.nvmWritable a = false) :
    d.memWrite .nvm a w = d.memStatus true := by
  have hk : memKind .nvm a = 0 ∨ memKind .nvm a = 3 := by
    rw [memKind_nvm]
    split
    · exact .inl rfl
    · split
      · exact .inr rfl
      · exact .inl rfl
  rcases hk with hk | hk
  · simp only [Device.memWrite, h, hk, Bool.true_eq_false, if_false]
  · simp only [Device.memWrite, h, hk, hw, Bool.true_eq_false, Bool.false_eq_true, if_false]

theorem Device.memErase_shut {p : MemSpace} {a : Nat} (h : d.portOpen = false) : d.memErase p a = d := if_pos h

theorem Device.memErase_allowed {a : Nat} (h : d.portOpen = true) (hk : memKind .nvm a = 3) (hw : d.nvmWritable a = true) :
    d.memErase .nvm a = (d.nvmErase (a / 4096 * 4096) 4096).memStatus false := by
  rw [Device.memErase, if_neg (by simp [h]), if_pos ⟨hk, hw⟩]

theorem Device.memErase_denied {a : Nat} (h : d.portOpen = true) (hw : d.nvmWritable a = false) : d.memErase .nvm a = d.memStatus true := by
  rw [Device.memErase, if_neg (by simp [h]), if_neg (by simp [hw])]

/-- An erase looks at nothing but NVM. -/
theorem Device.nvmErase_shows {d e : Device} (h : d.nvm = e.nvm) (a n : Nat) (b : Bool) :
    ((d.nvmErase a n).memStatus b).nvm = (e.nvmErase a n).nvm := by
  rw [Device.nvmErase_eq, Device.nvmErase_eq, Device.memStatus, Device.updSec, h]

/-- A word written is read back, and nothing else changes. -/
theorem Device.nvmWrite_reads {a : Nat} {l : List Byte} (hwf : memWf nvmDefault d.nvm = true) :
    (d.nvmWrite a l).nvmRead a l.length = l ∧
    ∀ x, x < a ∨ a + l.length ≤ x → (d.nvmWrite a l).nvmRead x 1 = d.nvmRead x 1 := by
  refine ⟨cellsRead_cellsWrite_same a l hwf, fun x hx => ?_⟩
  have hcell := cellRead_cellsWrite_out (dflt := nvmDefault) (x := x) l hwf hx
  simp [Device.nvmRead, Device.nvmWrite, cellsRead, hcell]

end

theorem exec_challengeExpiry (s : State) : exec .challengeExpiry s = s.onClk fun d => match d.sec.challenge with
    | some c => d.dueAt (c.2 + 10000000) (·.chalExpire)
    | none => d := rfl

theorem exec_authLockoutEnd (s : State) : exec .authLockoutEnd s = s.onClk fun d => match d.sec.lockEnd with
    | some t => d.dueAt t (·.lockExpire)
    | none => d := rfl

/-- Settles O52: each row by its equation on the device that the port's operation meets. -/
theorem debugPortReachesMemory : Obligations.DebugPortReachesMemory := by
  unfold Obligations.DebugPortReachesMemory
  intro s hcalm
  simp only [exec_dbgAuthSubmit, exec_challengeExpiry, exec_authLockoutEnd, exec_dbgMemRead, exec_dbgMemWrite, exec_dbgMemErase]
  refine ⟨fun l c hlive hc => ?_, fun l hlive hnone => ?_, fun c hc hmeets => ?_, fun hnone => State.onClk_same hcalm (by rw [hnone]),
    fun e he hmeets => ?_, fun hnone => State.onClk_same hcalm (by rw [hnone]), fun hlive hlevel => ?_, fun hport => ?_⟩
  · have hc' : (s.dev.tapped 0x09).challenge = some c := hc
    exact ⟨_, State.onDev_put ((Device.tapOp_live hlive).trans (Device.respond_consumes hc')) hcalm rfl, rfl, rfl, rfl⟩
  · have hnone' : (s.dev.tapped 0x09).challenge = none := hnone
    exact ⟨_, State.onDev_put ((Device.tapOp_live hlive).trans (Device.respond_none hnone')) hcalm rfl, rfl⟩
  · have hnow : (s.dev.moveTo (c.2 + 10000000)).now = max s.dev.now (c.2 + 10000000) := Device.moveTo_time hmeets.1
    have hexp := Device.chalExpire_due (d := s.dev.moveTo (c.2 + 10000000)) hc (by rw [hnow]; exact le_max_right _ _)
    refine ⟨_, State.onClk_meets hmeets (f := (·.chalExpire)) (by simp only [hc]) ?_ ?_, ?_, ?_⟩
    · rw [hexp]
      exact hcalm
    · rw [hexp]
      rfl
    · rw [State.put, hexp]
      rfl
    · rw [State.put, hexp]
      exact hnow
  · have hnow : (s.dev.moveTo e).now = max s.dev.now e := Device.moveTo_time hmeets.1
    have hexp := Device.lockExpire_due (d := s.dev.moveTo e) he (by rw [hnow]; exact le_max_right _ _)
    refine ⟨_, State.onClk_meets hmeets (f := (·.lockExpire)) (by simp only [he]) ?_ ?_, ?_, ?_⟩
    · rw [hexp]
      exact hcalm
    · rw [hexp]
      rfl
    · rw [State.put, hexp]
      rfl
    · rw [State.put, hexp]
      exact hnow
  · have hshut : (s.dev.tapped 0x0A).portOpen = false := by rw [Device.tapped_portOpen hlive, hlevel]; rfl
    refine ⟨fun p a => ?_, fun p a w => ?_, fun p a => ?_⟩
    · exact ⟨_, State.onDev_put ((Device.tapOp_live hlive).trans (Device.memRead_shut hshut)) hcalm rfl, rfl, rfl⟩
    · exact ⟨_, State.onDev_put ((Device.tapOp_live hlive).trans (Device.memWrite_shut hshut)) hcalm rfl, rfl, rfl⟩
    · exact ⟨_, State.onDev_put ((Device.tapOp_live hlive).trans (Device.memErase_shut hshut)) hcalm rfl, rfl⟩
  · obtain ⟨hlive, -⟩ := Bool.and_eq_true _ _ ▸ hport
    have hopen : (s.dev.tapped 0x0A).portOpen = true := hport
    have htap {e : Device} (f : Device → Device) (h : f (s.dev.tapped 0x0A) = e) : s.dev.tapOp 0x0A f = e := (Device.tapOp_live hlive).trans h
    refine ⟨fun a hal hlt => ?_, fun a hlo hhi hal => ?_, fun p a hk => ?_, fun a w hk hw hwf => ?_, fun a w hw => ?_, fun a hk hw => ?_,
      fun a hw => ?_⟩
    · have hk : memKind .nvm a.toNat = 3 := by rw [memKind_nvm, if_neg (by omega), if_pos (by omega)]
      have hword := Device.memWord_nvm (d := s.dev.tapped 0x0A) hk
      rw [if_neg (by omega), if_neg (by omega)] at hword
      have heq := htap (·.memRead .nvm a.toNat) (Device.memRead_word (d := s.dev.tapped 0x0A) hopen (by rw [hk]; decide))
      rw [hword] at heq
      exact ⟨_, State.onDev_put heq hcalm rfl, rfl, rfl, rfl, rfl⟩
    · have hk : memKind .nvm a.toNat = 3 := by rw [memKind_nvm, if_neg (by omega), if_pos hhi]
      have hword := Device.memWord_nvm (d := s.dev.tapped 0x0A) hk
      rw [if_pos hlo] at hword
      have heq := htap (·.memRead .nvm a.toNat) (Device.memRead_word (d := s.dev.tapped 0x0A) hopen (by rw [hk]; decide))
      rw [hword] at heq
      exact ⟨_, State.onDev_put heq hcalm rfl, rfl, rfl⟩
    · exact ⟨_, State.onDev_put (htap _ (Device.memRead_nowhere hopen hk)) hcalm rfl, rfl, rfl⟩
    · obtain ⟨hsame, hout⟩ := Device.nvmWrite_reads (d := s.dev) (a := a.toNat) (l := leBytes 4 w.toNat) hwf.2
      have hw' : (s.dev.tapped 0x0A).nvmWritable a.toNat = true := hw
      rw [leBytes_length] at hsame hout
      refine ⟨_, State.onDev_put (htap _ (Device.memWrite_allowed hopen hk hw')) hcalm rfl, rfl, ?_, ?_⟩
      · exact hsame
      · exact hout
    · have hw' : (s.dev.tapped 0x0A).nvmWritable a.toNat = false := hw
      exact ⟨_, State.onDev_put (htap _ (Device.memWrite_denied hopen hw')) hcalm rfl, rfl, rfl⟩
    · have hw' : (s.dev.tapped 0x0A).nvmWritable a.toNat = true := hw
      refine ⟨_, State.onDev_put (htap _ (Device.memErase_allowed hopen hk hw')) hcalm rfl, rfl, ?_⟩
      exact Device.nvmErase_shows (d := s.dev.tapped 0x0A) (e := s.dev) rfl _ _ _
    · have hw' : (s.dev.tapped 0x0A).nvmWritable a.toNat = false := hw
      exact ⟨_, State.onDev_put (htap _ (Device.memErase_denied hopen hw')) hcalm rfl, rfl, rfl⟩

end Sys2Proof.Machine

/-! PROOFS. Reservations, bursts and sampling sets at their times (R564, R573, R583, R584, R598, R599). -/
namespace Sys2Proof.Machine

section
variable {d : Device}

/-! ### Reservations (R564) -/

theorem Device.resAt_none {h : Nat} {t : Reservation → Nat} {f : Device → Device}
    (hnone : d.priv.larder.reservations.find? (fun r => r.handle == h) = none) : d.resAt h t f = d := by
  simp only [Device.resAt, hnone]

theorem Device.resAt_some {h : Nat} {t : Reservation → Nat} {f : Device → Device} {r : Reservation} (hopen : d.isOpen = true)
    (hr : d.priv.larder.reservations.find? (fun r => r.handle == h) = some r) : d.resAt h t f = d.dueAt (t r) f := by
  simp only [Device.resAt, hr]
  exact Device.when_true _ hopen

/-- The first reservation of a handle is also the first of those not begun, where it has not begun. -/
theorem find?_not_begun {l : List Reservation} {h : Nat} {r : Reservation} (hr : l.find? (fun r => r.handle == h) = some r)
    (hb : r.begun = false) : l.find? (fun r => r.handle == h && !r.begun) = some r := by
  rw [List.find?_eq_some_iff_append] at hr ⊢
  obtain ⟨hh, before, after, hl, hbefore⟩ := hr
  refine ⟨by simp [hb, eq_of_beq hh], before, after, hl, fun x hx => ?_⟩
  have hne := hbefore x hx
  simp_all

theorem Device.resBegin_found {h : Nat} {r : Reservation} (hr : d.priv.larder.reservations.find? (fun r => r.handle == h) = some r)
    (hb : r.begun = false) : d.resBegin h = (d.updLarder fun l => { l with reservations := l.reservations.map fun x =>
      if x.handle = h then { x with begun := true } else x }).flagOwner r := by
  simp only [Device.resBegin, find?_not_begun hr hb]

theorem Device.resEnd_found {h : Nat} {r : Reservation} (hr : d.priv.larder.reservations.find? (fun r => r.handle == h) = some r) :
    d.resEnd h = (d.updLarder fun l => { l with reservations := l.reservations.filter fun x => x.handle ≠ h }).flagOwner r := by
  simp only [Device.resEnd, hr]

theorem Device.flagOwner_others (d : Device) (r : Reservation) : (d.flagOwner r).faults = d.faults ∧ (d.flagOwner r).batch = d.batch := by
  unfold Device.flagOwner
  split
  · exact ⟨rfl, rfl⟩
  · exact ⟨rfl, rfl⟩

/-! ### Bursts (R573, R583, R584) -/

/-- `BGNT` high from the present instant on (R573), with a free value taken for the instant of the trigger. -/
def Device.bgntUp (d : Device) : Device :=
  { d with pins := { d.pins with bgnt := true }, burst := { d.burst with riseAt := d.now }, freeCtr := d.freeCtr + 1 }

/-- What the rise of `BGNT` does at its instant (R573, R600). -/
def Device.bgntGoes (d : Device) : Device :=
  d.bgntUp.adcTriggerAll 3 (48 * d.now + Config.freeNat d.freeCtr % 48) fun _ _ => true

theorem Device.bgntRises_due {e : BurstEntry} (he : d.burst.running = some e) (hlow : d.pins.bgnt = false) (hpa : d.railSt 3 = .proofed) :
    d.bgntRises = d.dueAt (max e.startTime (d.rails.rails.get 3).since + 2000) (·.bgntGoes) := by
  simp only [Device.bgntRises, he]
  exact if_pos ⟨hlow, hpa⟩

theorem Device.bgntRises_none (h : d.burst.running = none) : d.bgntRises = d := by
  simp only [Device.bgntRises, h]

theorem Device.bgntRises_not (h : d.pins.bgnt = true ∨ d.railSt 3 ≠ .proofed) : d.bgntRises = d := by
  unfold Device.bgntRises
  split
  · refine if_neg fun ⟨hlow, hpa⟩ => ?_
    rcases h with h | h
    · exact Bool.noConfusion (h.symm.trans hlow)
    · exact h hpa
  · rfl

/-- A trigger reaches the groups alone. -/
theorem Device.adcTriggerAll_keeps {α : Type} (p : Device → α) (hp : ∀ (e : Device) g f, p (e.updAdcGroup g f) = p e) (d : Device)
    (code t : Nat) (q : Fin 4 → AdcGroup → Bool) : p (d.adcTriggerAll code t q) = p d := by
  unfold Device.adcTriggerAll
  split
  · exact Device.each_keeps p (fun g e => Device.when_keeps p (hp _ _ _)) _ _
  · rfl

theorem Device.bgntGoes_shows (d : Device) : d.bgntGoes.pins = { d.pins with bgnt := true } ∧ d.bgntGoes.batch = d.batch ∧
    d.bgntGoes.faults = d.faults ∧ d.bgntGoes.burst = { d.burst with riseAt := d.now } := by
  have htrig {α : Type} (p : Device → α) (hp : ∀ (e : Device) g f, p (e.updAdcGroup g f) = p e) : p d.bgntGoes = p d.bgntUp :=
    Device.adcTriggerAll_keeps p hp _ _ _ _
  exact ⟨htrig (·.pins) fun _ _ _ => rfl, htrig (·.batch) fun _ _ _ => rfl, htrig (·.faults) fun _ _ _ => rfl,
    htrig (·.burst) fun _ _ _ => rfl⟩

theorem Device.burstEnds_due {e : BurstEntry} (he : d.burst.running = some e) (hhigh : d.pins.bgnt = true) :
    d.burstEnds = d.dueAt (d.burst.riseAt + 1000 * e.len) (·.burstOver) := by
  simp only [Device.burstEnds, he]
  exact Device.when_true _ hhigh

theorem Device.burstEnds_none (h : d.burst.running = none) : d.burstEnds = d := by
  simp only [Device.burstEnds, h]

theorem Device.burstEnds_low (h : d.pins.bgnt = false) : d.burstEnds = d := by
  unfold Device.burstEnds
  split
  · exact Device.when_false _ h
  · rfl

theorem Device.burstFinish_running {e : BurstEntry} (h : d.burst.running = some e) :
    d.burstFinish = (d.updPins fun p => { p with bgnt := false }).updBurst fun b =>
      b.resolve d.burst.firstRuns (if e.slip = 0 then 1 else 2) d.now := by
  simp only [Device.burstFinish, h]

/-- The edge of a single rail is a change of the rails. -/
theorem Device.railEdgeOne_eq (d : Device) (t : Nat) (r : RailId) : d.railEdgeOne t r = { d with rails := (d.railEdgeOne t r).rails } := rfl

theorem Device.burstOver_running {e : BurstEntry} (h : d.burst.running = some e) :
    d.burstOver.pins = { d.pins with bgnt := false } ∧ d.burstOver.batch = d.batch ∧ d.burstOver.faults = d.faults ∧
    d.burstOver.burst = d.burst.resolve d.burst.firstRuns (if e.slip = 0 then 1 else 2) d.now := by
  rw [Device.burstOver, Device.railEdgeOne_eq, Device.burstFinish_running h]
  exact ⟨rfl, rfl, rfl, rfl⟩

theorem BurstHw.resolve_breqHigh (b : BurstHw) (first : Bool) (code now : Nat) : (b.resolve first code now).breqHigh = b.breqHigh := by
  cases first
  · rfl
  · rfl

theorem BurstHw.first_of_running {b : BurstHw} {e : BurstEntry} (h : b.running = some e) (hf : b.firstRuns = true) : b.first = some e := by
  unfold BurstHw.firstRuns at hf
  split at hf
  · rename_i e' he'
    simp only [BurstHw.running, he', of_decide_eq_true hf, if_true] at h
    rw [he', h]
  · exact Bool.noConfusion hf

/-- The first entry that runs is resolved with its outcome. -/
theorem BurstHw.resolve_first {b : BurstHw} {e : BurstEntry} (h : b.running = some e) (hf : b.firstRuns = true) (code now : Nat) :
    (b.resolve b.firstRuns code now).first = some { e with st := .resolved code } ∧
    (b.resolve b.firstRuns code now).unread = b.unread ++ [code] := by
  rw [hf]
  refine ⟨?_, rfl⟩
  exact congrArg (Option.map fun x : BurstEntry => { x with st := EntrySt.resolved code }) (BurstHw.first_of_running h hf)

theorem Device.breqUp_not (h : d.burst.breqHigh = true ∨ d.pins.vioGood = false) : d.breqUp = d := by
  refine if_pos ?_
  rcases h with h | h
  · simp [h]
  · simp [h]

theorem Device.breqUp_latches (hlow : d.burst.breqHigh = false) (hvio : d.pins.vioGood = true) : d.breqUp = d.updBurst fun b =>
    { b with breqHigh := true, breqLatched := b.breqLatched || (d.isOpen && decide (d.fn Fld.larBreqMs ≠ 0)) } :=
  if_neg (by simp [hlow, hvio])

theorem Device.breqDown_dead (h : d.pins.vioGood = false) : d.breqDown = d := Device.when_false _ h

theorem Device.breqDown_live (h : d.pins.vioGood = true) : d.breqDown =
    (d.updBurst fun b => { b with breqHigh := false }).when (d.burst.raw && d.burst.running.isSome) (·.burstOver) := Device.when_true _ h

/-! ### Sampling sets (R598, R599, R604 to R607) -/

theorem Device.adcStartDue_none {g : Fin 4} (h : (d.adcGroup g).run = none) : d.adcStartDue g = d := by
  simp only [Device.adcStartDue, h]

theorem Device.adcStartDue_begun {g : Fin 4} {r : AdcRun} (h : (d.adcGroup g).run = some r) (hr : r.started = true) :
    d.adcStartDue g = d := by
  simp only [Device.adcStartDue, h, hr, if_true]

theorem Device.adcStartDue_due {g : Fin 4} {r : AdcRun} (h : (d.adcGroup g).run = some r) (hr : r.started = false) :
    d.adcStartDue g = d.dueAt (d.adcBeginC g r / 48) (·.adcStart g) := by
  simp only [Device.adcStartDue, h, hr, Bool.false_eq_true, if_false]

theorem Device.adcCompleteDue_none {g : Fin 4} {l : List Nat} (h : (d.adcGroup g).run = none) : d.adcCompleteDue g l = d := by
  simp only [Device.adcCompleteDue, h]

theorem Device.adcCompleteDue_not {g : Fin 4} {l : List Nat} {r : AdcRun} (h : (d.adcGroup g).run = some r) (hr : r.started = false) :
    d.adcCompleteDue g l = d := by
  simp only [Device.adcCompleteDue, h, hr, Bool.false_eq_true, if_false]

theorem Device.adcCompleteDue_due {g : Fin 4} {l : List Nat} {r : AdcRun} (h : (d.adcGroup g).run = some r) (hr : r.started = true) :
    d.adcCompleteDue g l = d.dueAt (r.endC r.cfg.rows / 48) (·.adcComplete g l) := by
  simp only [Device.adcCompleteDue, h, hr, if_true]

theorem Device.adcBefore_idle {g h : Fin 4} {t : Nat} (hidle : (d.adcGroup h).run = none) : d.adcBefore h g t = false := by
  simp only [Device.adcBefore, AdcGroup.occupies, hidle, Bool.or_self]

/-- The set that a triggered run begins as at an instant (R598, R599). -/
def AdcGroup.begin (a : AdcGroup) (r : AdcRun) (t : Nat) : AdcRun :=
  { r with
    cfg := a.cfg, rowWords := a.rowWords, started := true, startC := t, latency := min 65535 (96 + (t - r.dueC a.cfg.delay)) }

/-- With every other group idle nothing comes before a triggered set. -/
theorem Device.adcStart_alone {g : Fin 4} {r : AdcRun} (h : (d.adcGroup g).run = some r) (hr : r.started = false)
    (halone : ∀ h, h ≠ g → (d.adcGroup h).run = none) :
    d.adcStart g = d.updAdcGroup g fun a => { a with run := some (a.begin r (d.adcBeginC g r)) } := by
  have hnone : ¬ (r.started = true ∨ (all4.any fun h => h ≠ g && d.adcBefore h g (d.adcBeginC g r)) = true) := by
    rw [not_or]
    refine ⟨by simp [hr], ?_⟩
    rw [List.any_eq_true]
    rintro ⟨k, -, hk⟩
    obtain ⟨hne, hbefore⟩ := (Bool.and_eq_true _ _).mp hk
    rw [Device.adcBefore_idle (halone k (of_decide_eq_true hne))] at hbefore
    exact Bool.noConfusion hbefore
  simp only [Device.adcStart, h]
  exact if_neg hnone

/-- The set of a run that ends without limits, as it is kept (R617). -/
def AdcRun.keptAs (r : AdcRun) (l : List Nat) : AdcSet :=
  { codes := setCodes r.cfg l, time := r.startC / 48, frac := r.startC % 48, latency := r.latency,
    mask := r.cfg.mask, rows := r.cfg.rows, trig := r.trig, angle := r.angle, outside := false }

theorem Device.adcComplete_plain {g : Fin 4} {l : List Nat} {r : AdcRun} (h : (d.adcGroup g).run = some r) (hr : r.started = true)
    (hlim : r.cfg.limEn = false) : d.adcComplete g l = d.updAdcGroup g fun a => { a with
      run := none, seq := if a.seq = 65535 then 1 else a.seq + 1, doneC := r.endC r.cfg.rows, kept := some (r.keptAs l) } := by
  simp only [Device.adcComplete, h, hr, hlim, Bool.true_eq_false, Bool.false_eq_true, Bool.false_and, if_false, AdcRun.keptAs]

theorem Device.adcGroup_updAdcGroup_same (d : Device) (g : Fin 4) (f : AdcGroup → AdcGroup) :
    (d.updAdcGroup g f).adcGroup g = f (d.adcGroup g) := vget_vmod_same _ _ _

theorem Device.adcGroup_updAdcGroup_ne (d : Device) {g h : Fin 4} (f : AdcGroup → AdcGroup) (hne : h ≠ g) :
    (d.updAdcGroup g f).adcGroup h = d.adcGroup h := vget_vmod_ne _ _ hne

end

theorem exec_reservationStart (h : Nat) (s : State) :
    exec (.reservationStart h) s = s.onClk fun d => d.resAt h (·.start) (·.resBegin h) := rfl
theorem exec_reservationEnd (h : Nat) (s : State) : exec (.reservationEnd h) s = s.onClk fun d => d.resAt h (·.stop) (·.resEnd h) := rfl
theorem exec_bgntRise (s : State) : exec .bgntRise s = s.onClk (·.bgntRises) := rfl
theorem exec_burstEnd (s : State) : exec .burstEnd s = s.onClk (·.burstEnds) := rfl
theorem exec_breqRise (s : State) : exec .breqRise s = s.onDev (·.breqUp) := rfl
theorem exec_breqFall (s : State) : exec .breqFall s = s.onDev (·.breqDown) := rfl
theorem exec_adcSetStart (g : Fin 4) (s : State) : exec (.adcSetStart g) s = s.onClk fun d => d.when d.isOpen (·.adcStartDue g) := rfl
theorem exec_adcSetComplete (g : Fin 4) (l : List Nat) (s : State) :
    exec (.adcSetComplete g l) s = s.onClk fun d => d.when d.isOpen (·.adcCompleteDue g l) := rfl

/-- Settles O49: each row by its equation at the instant that the Batch meets. -/
theorem reservationsBurstsAndSetsRun : Obligations.ReservationsBurstsAndSetsRun := by
  unfold Obligations.ReservationsBurstsAndSetsRun
  intro s hcalm
  simp only [exec_reservationStart, exec_reservationEnd, exec_bgntRise, exec_burstEnd, exec_breqRise, exec_breqFall,
    exec_adcSetStart, exec_adcSetComplete]
  refine ⟨fun h hnone => ⟨State.onClk_same hcalm (Device.resAt_none hnone), State.onClk_same hcalm (Device.resAt_none hnone)⟩,
    fun h r hopen hr hbegun hmeets => ?_, fun h r hopen hr hmeets => ?_,
    fun hnone => ⟨State.onClk_same hcalm (Device.bgntRises_none hnone), State.onClk_same hcalm (Device.burstEnds_none hnone)⟩,
    fun e t0 he hlow hpa ht hmeets => ?_, fun h => State.onClk_same hcalm (Device.bgntRises_not h),
    fun e t0 he hhigh ht hmeets => ?_, fun h => State.onClk_same hcalm (Device.burstEnds_low h),
    fun h => State.onDev_same hcalm (Device.breqUp_not h), fun hlow hvio => ?_, fun h => State.onDev_same hcalm (Device.breqDown_dead h),
    fun hvio hnone => ?_, fun hvio hraw hrun => ?_, fun g hnone => ?_, fun g r t0 hopen hr hstart ht hmeets halone => ?_,
    fun g r l hr => ?_, fun g r l t0 hopen hr hstart hlim ht hmeets => ?_⟩
  · have hfound := Device.resBegin_found (d := s.dev.moveTo r.start) hr hbegun
    obtain ⟨hfaults, hbatch⟩ := Device.flagOwner_others ((s.dev.moveTo r.start).updLarder fun l =>
      { l with reservations := l.reservations.map fun x => if x.handle = h then { x with begun := true } else x }) r
    rw [← hfound] at hfaults hbatch ⊢
    exact State.onClk_meets hmeets (f := (·.resBegin h)) (Device.resAt_some hopen hr) ((congrArg (·.graveDue) hfaults).trans hcalm) hbatch
  · have hfound := Device.resEnd_found (d := s.dev.moveTo r.stop) hr
    obtain ⟨hfaults, hbatch⟩ := Device.flagOwner_others ((s.dev.moveTo r.stop).updLarder fun l =>
      { l with reservations := l.reservations.filter fun x => x.handle ≠ h }) r
    rw [← hfound] at hfaults hbatch ⊢
    exact State.onClk_meets hmeets (f := (·.resEnd h)) (Device.resAt_some hopen hr) ((congrArg (·.graveDue) hfaults).trans hcalm) hbatch
  · subst ht
    obtain ⟨hpins, hbatch, hfaults, hburst⟩ :=
      Device.bgntGoes_shows (s.dev.moveTo (max e.startTime (s.dev.rails.rails.get 3).since + 2000))
    have hnow := congrArg (·.time) hbatch
    refine ⟨_, State.onClk_meets hmeets (Device.bgntRises_due he hlow hpa) ((congrArg (·.graveDue) hfaults).trans hcalm) hbatch,
      hpins, hnow.trans (Device.moveTo_time hmeets.1), hburst.trans ?_⟩
    exact congrArg (fun t => { s.dev.burst with riseAt := t }) hnow.symm
  · subst ht
    have he' : (s.dev.moveTo (s.dev.burst.riseAt + 1000 * e.len)).burst.running = some e := he
    obtain ⟨hpins, hbatch, hfaults, hburst⟩ := Device.burstOver_running he'
    refine ⟨_, State.onClk_meets hmeets (Device.burstEnds_due he hhigh) ((congrArg (·.graveDue) hfaults).trans hcalm) hbatch,
      congrArg (·.bgnt) hpins, (congrArg (·.time) hbatch).trans (Device.moveTo_time hmeets.1), fun hfirst hsecond => ?_⟩
    obtain ⟨hf, hu⟩ := BurstHw.resolve_first he' hfirst (if e.slip = 0 then 1 else 2) (s.dev.moveTo (s.dev.burst.riseAt + 1000 * e.len)).now
    exact ⟨(congrArg (·.first) hburst).trans hf, (congrArg (·.unread) hburst).trans hu⟩
  · exact State.onDev_put (Device.breqUp_latches hlow hvio) hcalm rfl
  · refine State.onDev_put ((Device.breqDown_live hvio).trans (Device.when_false _ ?_)) hcalm rfl
    rcases hnone with h | h
    · simp [h]
    · simp [h]
  · obtain ⟨e, he⟩ := Option.ne_none_iff_exists'.mp hrun
    have he' : (s.dev.updBurst fun b => { b with breqHigh := false }).burst.running = some e := he
    obtain ⟨hpins, hbatch, hfaults, hburst⟩ := Device.burstOver_running he'
    refine ⟨_, State.onDev_put ((Device.breqDown_live hvio).trans (Device.when_true _ (by simp [hraw, he]))) ?_ hbatch,
      congrArg (·.bgnt) hpins, ?_, congrArg (·.time) hbatch⟩
    · exact (congrArg (·.graveDue) hfaults).trans hcalm
    · exact (congrArg (·.breqHigh) hburst).trans (BurstHw.resolve_breqHigh _ _ _ _)
  · exact ⟨State.onClk_same hcalm (Device.when_same (Device.adcStartDue_none hnone)),
      fun l => State.onClk_same hcalm (Device.when_same (Device.adcCompleteDue_none hnone))⟩
  · subst ht
    have hbegin := Device.adcStart_alone (d := s.dev.moveTo (s.dev.adcBeginC g r / 48)) hr hstart halone
    refine ⟨_, State.onClk_meets hmeets (f := (·.adcStart g)) ((Device.when_true _ hopen).trans (Device.adcStartDue_due hr hstart)) ?_ ?_,
      ?_, ?_⟩
    · rw [hbegin]
      exact hcalm
    · rw [hbegin]
      rfl
    · rw [State.put, hbegin]
      exact Device.moveTo_time hmeets.1
    · rw [State.put, hbegin, Device.adcGroup_updAdcGroup_same]
      rfl
  · exact ⟨fun hstart => State.onClk_same hcalm (Device.when_same (Device.adcStartDue_begun hr hstart)),
      fun hstart => State.onClk_same hcalm (Device.when_same (Device.adcCompleteDue_not hr hstart))⟩
  · subst ht
    have hend := Device.adcComplete_plain (d := s.dev.moveTo (r.endC r.cfg.rows / 48)) (l := l) hr hstart hlim
    refine ⟨_, State.onClk_meets hmeets (f := (·.adcComplete g l)) ((Device.when_true _ hopen).trans (Device.adcCompleteDue_due hr hstart))
      ?_ ?_, ?_⟩
    · rw [hend]
      exact hcalm
    · rw [hend]
      rfl
    · rw [State.put, hend]
      refine ⟨Device.moveTo_time hmeets.1, ?_, ?_, ?_, fun h hne => Device.adcGroup_updAdcGroup_ne _ _ hne, rfl⟩
      · rw [Device.adcGroup_updAdcGroup_same]
      · rw [Device.adcGroup_updAdcGroup_same]
        rfl
      · rw [Device.adcGroup_updAdcGroup_same]
        rfl

end Sys2Proof.Machine

/-! PROOFS. The gauge in its modes: autozeros, windows, the hour of ageing, and its record (R522 to R528, R533, R539, R547). -/
namespace Sys2Proof.Machine

theorem BatchTimer.keepTo_reaches (b : BatchTimer) (t : Nat) : b.time ≤ (b.keepTo t).time ∧ t ≤ (b.keepTo t).time := by
  simp only [BatchTimer.keepTo, BatchTimer.keepSteps]
  omega

theorem Phase.batchRuns_powered {p : Phase} (h : p.batchRuns = true) : p.silent = false := by
  revert h
  cases p <;> decide

section
variable {d : Device}

theorem Device.batchRuns_collecting (h : d.power.phase.batchRuns = true) : d.collecting = true := by
  rw [Device.collecting_eq, Phase.batchRuns_powered h]
  rfl

/-- An instant that the Batch meets, or any instant in LODGE, comes. -/
theorem Device.dueAt_either {t : Nat} (h : d.Meets t ∨ d.power.phase = .lodge) (f : Device → Device) : d.dueAt t f = f (d.moveTo t) := by
  rcases h with h | h
  · exact Device.dueAt_meets h
  · exact Device.dueAt_lodge h t f

theorem Device.moveTo_either {t : Nat} (h : d.Meets t ∨ d.power.phase = .lodge) : d.now ≤ (d.moveTo t).now ∧ t ≤ (d.moveTo t).now := by
  rcases h with h | h
  · rw [Device.moveTo_time h.1]
    exact ⟨le_max_left _ _, le_max_right _ _⟩
  · rw [Device.moveTo_lodge_now h]
    exact d.batch.keepTo_reaches t

/-! ### Autozeros (R524) -/

/-- The gauge with an autozero taken, the next not before `next`. -/
def GaugeHw.zeroed (g : GaugeHw) (offset : Int) (next : Nat) : GaugeHw :=
  { g with azNext := next, offset := if 50 < offset.natAbs then g.offset else offset }

/-- The message of an autozero that is discarded. -/
def offsetBad (offset : Int) : Word := coded 0x0B 1 (ofSigned 2 (max (-32768) (min 32767 offset)))

theorem Device.autozero_bad {offset : Int} (next : Nat) (h : 50 < offset.natAbs) :
    d.autozero offset next = (d.updGaugeHw fun g => { g with azNext := next }).raise (offsetBad offset) := if_pos h

theorem Device.autozero_good {offset : Int} (next : Nat) (h : ¬ 50 < offset.natAbs) :
    d.autozero offset next = d.updGaugeHw fun g => { g with azNext := next, offset := offset } := if_neg h

theorem Device.autozero_shows (d : Device) (offset : Int) (next : Nat) :
    (d.autozero offset next).gaugeHw = d.gaugeHw.zeroed offset next ∧ (d.autozero offset next).priv = d.priv ∧
    (d.autozero offset next).batch = d.batch ∧ (d.autozero offset next).faults.graveDue = d.faults.graveDue := by
  by_cases h : 50 < offset.natAbs
  · rw [Device.autozero_bad next h]
    refine ⟨?_, ?_, ?_, Device.raise_coded_grave _ _ _ _ (by decide)⟩
    · simp [GaugeHw.zeroed, h, Device.updGaugeHw]
    · simp [Device.updGaugeHw]
    · simp [Device.updGaugeHw]
  · rw [Device.autozero_good next h]
    refine ⟨?_, rfl, rfl, rfl⟩
    simp [GaugeHw.zeroed, h, Device.updGaugeHw]

theorem Device.autozero_said {offset : Int} (next : Nat) (h : 50 < offset.natAbs) (hcoll : d.collecting = true)
    (hroom : d.faults.fifo.length < 64) : (d.autozero offset next).Said (offsetBad offset) := by
  rw [Device.autozero_bad next h]
  exact Device.raise_coded_said _ 0x0B 1 _ hcoll (by decide) hroom

theorem Device.autozeroAt_full (x : Int) (h : d.gaugeHw.mode = .full) :
    d.autozeroAt x = d.dueAt d.gaugeHw.azNext fun d => d.autozero x (d.now + 10000000) := by
  simp only [Device.autozeroAt, h]

theorem Device.autozeroAt_off (x : Int) (h : d.gaugeHw.mode = .off) : d.autozeroAt x = d := by
  simp only [Device.autozeroAt, h]

theorem Device.autozeroAt_window (x : Int) (h : d.gaugeHw.mode = .sipping ∨ d.gaugeHw.mode = .lodge) :
    d.autozeroAt x = d.when (decide (d.gaugeHw.azNext ≤ d.gaugeHw.winNext - 8000))
      (·.dueAt (d.gaugeHw.winNext - 8000) (·.autozero x d.gaugeHw.winNext)) := by
  rcases h with h | h
  · simp only [Device.autozeroAt, h]
  · simp only [Device.autozeroAt, h]

/-! ### Windows (R525 to R528) -/

theorem Device.gaugeWindowAt_due {mean : Int} {bat : Nat} {temp : Int} (h : d.gaugeHw.mode = .sipping ∨ d.gaugeHw.mode = .lodge) :
    d.gaugeWindowAt mean bat temp = d.dueAt d.gaugeHw.winNext (·.gaugeWin mean bat temp) := by
  rcases h with h | h
  · simp only [Device.gaugeWindowAt, h]
  · simp only [Device.gaugeWindowAt, h]

theorem Device.gaugeWindowAt_not {mean : Int} {bat : Nat} {temp : Int} (h : d.gaugeHw.mode = .off ∨ d.gaugeHw.mode = .full) :
    d.gaugeWindowAt mean bat temp = d := by
  rcases h with h | h
  · simp only [Device.gaugeWindowAt, h]
  · simp only [Device.gaugeWindowAt, h]

theorem GaugeHw.tempTaken_eq (g : GaugeHw) (now : Nat) (temp : Int) (period : Nat) : ∃ sum n next,
    g.tempTaken now temp period = { g with tempSum := sum, tempN := n, tempNext := next } := by
  unfold GaugeHw.tempTaken
  split
  · exact ⟨_, _, _, rfl⟩
  · exact ⟨_, _, _, rfl⟩

/-- The count of a window: its charge, and its end as the latest one. -/
def Device.Counted (d e : Device) (mean : Int) : Prop :=
  e.gaugeHw.integ = d.gaugeHw.integ + BitVec.ofInt 64 (meanCharge mean (d.now - d.gaugeHw.lastWindow)) ∧
    e.gaugeHw.lastMean = mean ∧ e.gaugeHw.lastWindow = d.now

/-- The gauge with a window's charge counted, before what its mode makes of the mean. -/
def Device.windowCounted (d : Device) (mean : Int) : GaugeHw :=
  { d.gaugeHw.add (meanCharge mean (d.now - d.gaugeHw.lastWindow)) with
    extrap := d.gaugeHw.extrap + (meanCharge mean (d.now - d.gaugeHw.lastWindow - 8000)).natAbs, lastWindow := d.now, lastMean := mean,
    relaxTime := if decide (mean.natAbs < 100 * d.fn Fld.gaugeRelaxUa) then
        (if d.gaugeHw.lastMean.natAbs < 100 * d.fn Fld.gaugeRelaxUa then d.gaugeHw.relaxTime + (d.now - d.gaugeHw.lastWindow)
          else d.gaugeHw.relaxTime) else 0 }

theorem Device.gaugeWin_sipping (mean : Int) (bat : Nat) (temp : Int) (h : d.gaugeHw.mode = .sipping) :
    (d.gaugeWin mean bat temp).gaugeHw =
      { (if mean.natAbs > 5000 then (d.windowCounted mean).toFull d.now else d.windowCounted mean) with winNext := d.now + 1000000 } := by
  simp only [Device.gaugeWin, Device.updGaugeHw, GaugeHw.add, h]
  have hperiod : ∀ g : GaugeHw, g.mode ≠ .lodge → g.winPeriod = 1000000 := fun g hg => if_neg fun hl => hg hl.1
  split
  · rw [hperiod _ (by simp [GaugeHw.toFull])]
    simp only [Device.windowCounted, GaugeHw.add, h]
  · rw [hperiod _ (by simp)]
    simp only [Device.windowCounted, GaugeHw.add, h]

theorem Device.gaugeWin_lodge (mean : Int) (bat : Nat) (temp : Int) (h : d.gaugeHw.mode = .lodge) :
    (d.gaugeWin mean bat temp).gaugeHw =
      { ((d.windowCounted mean).tempTaken d.now temp 60000000) with
        lodgeFast := decide (mean.natAbs > 5000), lodgeWin := some (bat, temp),
        winNext := d.now + if 5000 < mean.natAbs then 1000000 else 60000000 } := by
  obtain ⟨sum, n, next, htaken⟩ := (d.windowCounted mean).tempTaken_eq d.now temp 60000000
  simp only [Device.windowCounted, GaugeHw.add, h] at htaken
  simp only [Device.gaugeWin, Device.updGaugeHw, Device.windowCounted, GaugeHw.add, h, htaken, GaugeHw.winPeriod]
  by_cases hm : 5000 < mean.natAbs
  · simp [hm]
  · simp [hm]

theorem Device.gaugeWin_frame (d : Device) (mean : Int) (bat : Nat) (temp : Int) :
    (d.gaugeWin mean bat temp).faults = d.faults ∧ (d.gaugeWin mean bat temp).batch = d.batch := ⟨rfl, rfl⟩

/-! ### The shunt comparator (R526, R527) -/

theorem Device.shuntFires_lodge (h : d.gaugeHw.mode = .lodge) : d.shuntFires = d.updGaugeHw fun g =>
    if g.lodgeFast then g else { g with lodgeFast := true, winNext := min g.winNext (d.now + 9000) } := by
  simp only [Device.shuntFires, h]

theorem Device.shuntFires_sipping (h : d.gaugeHw.mode = .sipping) :
    d.shuntFires = d.updGaugeHw fun g => (g.extrapolate d.now).toFull d.now := by
  simp only [Device.shuntFires, h]

theorem Device.shuntFires_not (h : d.gaugeHw.mode = .off ∨ d.gaugeHw.mode = .full) : d.shuntFires = d := by
  rcases h with h | h
  · simp only [Device.shuntFires, h]
  · simp only [Device.shuntFires, h]

/-! ### Ageing and the record (R539, R547) -/

theorem Device.sohCheck_record (d : Device) : d.sohCheck.priv.gauge.record = d.priv.gauge.record := by
  unfold Device.sohCheck
  dsimp only
  split
  · simp [Device.updGauge]
  · rfl

theorem Device.refit_record (d : Device) (r : GaugeRec) : (d.refit r).priv.gauge.record = r := by
  unfold Device.refit
  rw [Device.sohCheck_record]
  simp only [Device.updGauge]
  split
  · rfl
  · rfl

/-- What the end of an hour makes of the gauge's hardware. -/
def GaugeHw.hourOver (g : GaugeHw) : GaugeHw := { g with tempSum := 0, tempN := 0, hourEnd := g.hourEnd + 3600000000 }

theorem Device.ageHourEnd_shows (d : Device) : d.ageHourEnd.gaugeHw = d.gaugeHw.hourOver ∧ d.ageHourEnd.batch = d.batch ∧
    d.ageHourEnd.faults.graveDue = d.faults.graveDue ∧ d.priv.gauge.record.e ≤ d.ageHourEnd.priv.gauge.record.e ∧
    d.ageHourEnd.priv.gauge.record.efc = d.priv.gauge.record.efc := by
  unfold Device.ageHourEnd
  dsimp only
  rw [Device.refit_record]
  have hmoved := Device.refit_moved (d.updGaugeHw fun g => { g with tempSum := 0, tempN := 0, hourEnd := g.hourEnd + 3600000000 })
  exact ⟨(hmoved _).frame.2.2.2.2.1, (hmoved _).frame.2.1, (hmoved _).2, Nat.le_add_right _ _, rfl⟩

/-- The number of the next copy of the record (R547). -/
def ConfigNvm.nextNumber (c : ConfigNvm) : Word := match c.gaugeRec with | some x => x.1 + 1 | none => 1

theorem ConfigNvm.nextNumber_eq (c : ConfigNvm) : c.nextNumber = (c.gaugeRec.map (·.1)).getD 0 + 1 := by
  unfold ConfigNvm.nextNumber
  split
  · rename_i x hx
    simp [hx]
  · rename_i hx
    simp [hx]

/-- The copy of the record that a save writes. -/
def Device.savedRecord (d : Device) : Word × GaugeRec :=
  (d.cfg.nextNumber, { d.priv.gauge.record with extrap := d.gaugeHw.extrap })

/-- Whether a save writes the first copy of the record: where it is not the one in force (R547). -/
def ConfigNvm.savesFirst (c : ConfigNvm) : Bool :=
  match c.gaugeRec, c.gauge0 with
  | some x, some a => decide (a.1 ≠ x.1)
  | _, _ => true

/-- The copies of the record with a new one over the copy not in force (R547). -/
def ConfigNvm.saveGauge (c : ConfigNvm) (x : Word × GaugeRec) : ConfigNvm :=
  if c.savesFirst then { c with gauge0 := some x } else { c with gauge1 := some x }

/-- A later number than that of the copy in force is written over the other copy, and is then in force. -/
theorem ConfigNvm.gaugeRec_saveGauge (c : ConfigNvm) (x : Word × GaugeRec) (h : ∀ y, c.gaugeRec = some y → y.1.toNat < x.1.toNat) :
    (c.saveGauge x).gaugeRec = some x := by
  rcases c with ⟨m0, m1, _ | a, _ | b, l0, l1⟩
  · simp [ConfigNvm.saveGauge, ConfigNvm.savesFirst, ConfigNvm.gaugeRec]
  · have hb := h b rfl
    simp [ConfigNvm.saveGauge, ConfigNvm.savesFirst, ConfigNvm.gaugeRec, Nat.not_lt.mpr hb.le]
  · have ha := h a rfl
    simp [ConfigNvm.saveGauge, ConfigNvm.savesFirst, ConfigNvm.gaugeRec, ha]
  · by_cases hlt : a.1.toNat < b.1.toNat
    · have hb := h b (if_pos hlt)
      have hne : a.1 ≠ b.1 := fun heq => by simp [heq] at hlt
      simp [ConfigNvm.saveGauge, ConfigNvm.savesFirst, ConfigNvm.gaugeRec, hlt, hne, Nat.not_lt.mpr hb.le]
    · have ha := h a (if_neg hlt)
      simp [ConfigNvm.saveGauge, ConfigNvm.savesFirst, ConfigNvm.gaugeRec, hlt, ha]

theorem ConfigNvm.saveGauge_larder (c : ConfigNvm) (x : Word × GaugeRec) :
    (c.saveGauge x).larder0 = c.larder0 ∧ (c.saveGauge x).larder1 = c.larder1 := by
  unfold ConfigNvm.saveGauge
  split
  · exact ⟨rfl, rfl⟩
  · exact ⟨rfl, rfl⟩

theorem Device.gaugeSave_eq (d : Device) : d.gaugeSave =
    ({ d with cfg := d.cfg.saveGauge d.savedRecord } : Device).updGauge fun g =>
      { g with record := d.savedRecord.2, recordTime := d.now } := rfl

theorem Device.savedRecord_later (h : ∀ x, d.cfg.gaugeRec = some x → x.1.toNat < 0xFFFFFFFF) :
    ∀ y, d.cfg.gaugeRec = some y → y.1.toNat < d.savedRecord.1.toNat := by
  intro y hy
  have hlt := h y hy
  simp only [Device.savedRecord, ConfigNvm.nextNumber, hy]
  bv_omega

end

theorem exec_gaugeAutozero (x : Int) (s : State) : exec (.gaugeAutozero x) s = s.onClk (·.autozeroAt x) := rfl
theorem exec_gaugeWindow (m : Int) (b : Nat) (t : Int) (s : State) : exec (.gaugeWindow m b t) s = s.onClk (·.gaugeWindowAt m b t) := rfl
theorem exec_gaugeSippingEntry (s : State) : exec .gaugeSippingEntry s =
    s.onClk fun d => d.when (decide (d.gaugeHw.mode = .full) && decide (d.fn Fld.gaugeSip = 1))
      (·.dueAt (d.gaugeHw.lowFrom + 10000000) (·.sipBegin)) := rfl
theorem exec_shuntComparator (s : State) : exec .shuntComparator s = s.onDev (·.shuntFires) := rfl
theorem exec_ocvCorrection (b : Nat) (t : Int) (s : State) : exec (.ocvCorrection b t) s =
    s.onClk fun d => d.when (d.isOpen && d.ocvNext) fun d =>
      d.batchEdge { d.sample with batMv := b, batTemp := t } .full (StartSense.plain d) := rfl
theorem exec_ageHour (s : State) : exec .ageHour s = s.onClk fun d => d.when d.powered fun d =>
    d.dueAt d.gaugeHw.hourEnd fun d => (d.ageHourEnd).when (!d.isOpen) (·.gaugeSnap) := rfl
theorem exec_gaugeRecordSave (s : State) : exec .gaugeRecordSave s = s.onClk fun d => d.when d.isOpen fun d =>
    d.dueAt (d.priv.gauge.recordTime + 3600000000 * d.fn Fld.gaugeSaveH) (·.gaugeSave) := rfl

/-- Settles O48: each row by its equation at the instant that comes. -/
theorem gaugeCountsInItsMode : Obligations.GaugeCountsInItsMode := by
  unfold Obligations.GaugeCountsInItsMode
  intro s hcalm g hg
  subst hg
  simp only [exec_gaugeAutozero, exec_gaugeWindow, exec_gaugeSippingEntry, exec_shuntComparator, exec_ocvCorrection, exec_ageHour,
    exec_gaugeRecordSave]
  refine ⟨fun x => ⟨fun hoff => State.onClk_same hcalm (Device.autozeroAt_off x hoff), fun hfull hmeets => ?_,
      fun hwin hdue hcomes => ?_, fun hwin hearly => ?_⟩,
    fun mean bat temp hmode => State.onClk_same hcalm (Device.gaugeWindowAt_not hmode), fun mean bat temp hmode hmeets => ?_,
    fun mean bat temp hmode hcomes => ?_, fun hfull hsip hmeets => ?_, fun hnot => State.onClk_same hcalm (Device.when_false _ ?_),
    fun hmode hfast => ?_, fun hmode hfast => ?_, fun hmode => ?_, fun hmode => State.onDev_same hcalm (Device.shuntFires_not hmode),
    fun bat temp hopen hnext => ?_, fun bat temp hnot => State.onClk_same hcalm (Device.when_false _ ?_),
    fun hpow => State.onClk_same hcalm (Device.when_false _ hpow), fun hpow hmeets => ?_,
    fun hopen => State.onClk_same hcalm (Device.when_false _ hopen), fun hopen hmeets hlater => ?_⟩
  · set e := s.dev.moveTo s.dev.gaugeHw.azNext with he
    obtain ⟨hhw, hpriv, hbatch, hgrave⟩ := e.autozero_shows x (e.now + 10000000)
    have hnow := congrArg (·.time) hbatch
    refine ⟨_, State.onClk_meets (f := fun d => d.autozero x (d.now + 10000000)) hmeets (Device.autozeroAt_full x hfull)
      (hgrave.trans hcalm) hbatch, hnow.trans (Device.moveTo_time hmeets.1), hpriv, hhw.trans ?_, fun hbad hroom => ?_⟩
    · exact congrArg (fun t => s.dev.gaugeHw.zeroed x (t + 10000000)) hnow.symm
    · exact Device.autozero_said _ hbad (Device.batchRuns_collecting (d := e) hmeets.1) hroom
  · set e := s.dev.moveTo (s.dev.gaugeHw.winNext - 8000) with he
    obtain ⟨hhw, hpriv, hbatch, hgrave⟩ := e.autozero_shows x s.dev.gaugeHw.winNext
    refine ⟨_, State.onClk_put (((Device.autozeroAt_window x hwin).trans (Device.when_true _ (decide_eq_true hdue))).trans
      (Device.dueAt_either hcomes _)) (hgrave.trans hcalm) ?_, hhw⟩
    exact (Device.moveTo_either hcomes).1.trans_eq (congrArg (·.time) hbatch).symm
  · exact State.onClk_same hcalm ((Device.autozeroAt_window x hwin).trans (Device.when_false _ (decide_eq_false (Nat.not_le.mpr hearly))))
  · have hwin := Device.gaugeWin_sipping (d := s.dev.moveTo s.dev.gaugeHw.winNext) mean bat temp hmode
    refine ⟨_, State.onClk_meets (f := (·.gaugeWin mean bat temp)) hmeets (Device.gaugeWindowAt_due (.inl hmode)) hcalm rfl,
      Device.moveTo_time hmeets.1, ?_⟩
    rw [State.put, hwin]
    by_cases hm : 5000 < mean.natAbs
    · rw [if_pos hm, if_pos hm]
      exact ⟨rfl, rfl, rfl, rfl, rfl⟩
    · rw [if_neg hm, if_neg hm]
      exact ⟨rfl, rfl, rfl, hmode, rfl⟩
  · have hwin := Device.gaugeWin_lodge (d := s.dev.moveTo s.dev.gaugeHw.winNext) mean bat temp hmode
    obtain ⟨hforth, hreach⟩ := Device.moveTo_either hcomes
    obtain ⟨sum, n, next, htaken⟩ := ((s.dev.moveTo s.dev.gaugeHw.winNext).windowCounted mean).tempTaken_eq
      (s.dev.moveTo s.dev.gaugeHw.winNext).now temp 60000000
    rw [htaken] at hwin
    refine ⟨_, State.onClk_put ((Device.gaugeWindowAt_due (.inr hmode)).trans (Device.dueAt_either hcomes _)) hcalm hforth, hforth, hreach,
      ?_⟩
    rw [State.put, hwin]
    exact ⟨rfl, rfl, rfl, rfl, rfl, hmode, rfl⟩
  · exact ⟨_, State.onClk_meets (f := (·.sipBegin)) hmeets (Device.when_true _ (by simp [hfull, hsip])) hcalm rfl,
      Device.moveTo_time hmeets.1, rfl⟩
  · rcases hnot with h | h
    · simp [h]
    · simp [h]
  · refine State.onDev_put ((Device.shuntFires_lodge hmode).trans ?_) hcalm rfl
    simp only [Device.updGaugeHw, hfast, Bool.false_eq_true, if_false]
  · refine State.onDev_same hcalm ((Device.shuntFires_lodge hmode).trans ?_)
    simp only [Device.updGaugeHw, hfast, if_true]
  · exact ⟨_, State.onDev_put (Device.shuntFires_sipping hmode) hcalm rfl, rfl, rfl, rfl, rfl⟩
  · rw [exec_batchEdge]
    have hdue : (s.dev.isOpen && s.dev.ocvNext) = true := by simp [hopen, hnext]
    exact (State.onClk_of_eq (e := s.dev.batchEdge { s.dev.sample with batMv := bat, batTemp := temp } .full (StartSense.plain s.dev))
      (if_pos hdue)).trans rfl
  · rcases hnot with h | h
    · simp [h]
    · simp [h]
  · set e := s.dev.moveTo s.dev.gaugeHw.hourEnd with he
    obtain ⟨hhw, hbatch, hgrave, hage, hefc⟩ := e.ageHourEnd_shows
    have hkeeps {α : Type} (p : Device → α) (hp : ∀ d : Device, p d.gaugeSnap = p d) :
        p ((e.ageHourEnd).when (!e.isOpen) (·.gaugeSnap)) = p e.ageHourEnd := Device.when_keeps p (hp _)
    have hhw' := (hkeeps (·.gaugeHw) fun _ => rfl).trans hhw
    have hbatch' := (hkeeps (·.batch) fun _ => rfl).trans hbatch
    have hrec := hkeeps (·.priv.gauge.record) fun _ => rfl
    refine ⟨_, State.onClk_meets (f := fun d => (d.ageHourEnd).when (!d.isOpen) (·.gaugeSnap)) hmeets (Device.when_true _ hpow)
      ((hkeeps (·.faults.graveDue) fun _ => rfl).trans (hgrave.trans hcalm)) hbatch',
      (congrArg (·.time) hbatch').trans (Device.moveTo_time hmeets.1), congrArg (·.hourEnd) hhw', congrArg (·.tempN) hhw',
      congrArg (·.tempSum) hhw', hage.trans_eq (congrArg (·.e) hrec).symm, (congrArg (·.efc) hrec).trans hefc, congrArg (·.integ) hhw'⟩
  · set e := s.dev.moveTo (s.dev.priv.gauge.recordTime + 3600000000 * s.dev.fn Fld.gaugeSaveH) with he
    have hsave := e.gaugeSave_eq
    obtain ⟨hl0, hl1⟩ := e.cfg.saveGauge_larder e.savedRecord
    have hforce := e.cfg.gaugeRec_saveGauge e.savedRecord (Device.savedRecord_later hlater)
    refine ⟨_, State.onClk_meets (f := (·.gaugeSave)) hmeets (Device.when_true _ hopen) ?_ ?_, ?_⟩
    · rw [← he, hsave]
      exact hcalm
    · rw [← he, hsave]
      rfl
    · rw [State.put, ← he, hsave]
      refine ⟨rfl, hforce.trans ?_, hl0, hl1⟩
      rw [Device.savedRecord, ConfigNvm.nextNumber_eq]
      rfl

end Sys2Proof.Machine

/-! PROOFS. The rotor: edges, the counter, stalls, and the duty cycle of `TWPWR` (R355, R455 to R466). -/
namespace Sys2Proof.Machine

/-! ### What the engine's events change -/

/-- `k` is `j` but for the gates, the mode, the speed conditions and what fired events count. -/
def Kinetic.Acted (j k : Kinetic) : Prop :=
  ∃ gates active passFired passDropped marks markLog slow fast, k = { j with
    gates := gates, active := active, passFired := passFired, passDropped := passDropped, marks := marks, markLog := markLog,
    lowSpeed := slow, overspeed := fast }

/-- `k` is `j` but for what its events change and the place of the wheel: the counter, the position and the synchronisation. -/
def Kinetic.Turned (j k : Kinetic) : Prop :=
  ∃ synced counter hist aIntervals lastEdgeA pos sensorBad resyncs, Kinetic.Acted { j with
    synced := synced, counter := counter, hist := hist, aIntervals := aIntervals, lastEdgeA := lastEdgeA, pos := pos,
    sensorBad := sensorBad, resyncs := resyncs } k

theorem Kinetic.Acted.refl (k : Kinetic) : k.Acted k := ⟨_, _, _, _, _, _, _, _, rfl⟩

theorem Kinetic.Acted.trans {j k l : Kinetic} (h : j.Acted k) (h' : k.Acted l) : j.Acted l := by
  obtain ⟨_, _, _, _, _, _, _, _, rfl⟩ := h
  obtain ⟨_, _, _, _, _, _, _, _, rfl⟩ := h'
  exact ⟨_, _, _, _, _, _, _, _, rfl⟩

theorem Kinetic.Acted.turned {j k : Kinetic} (h : j.Acted k) : j.Turned k := ⟨_, _, _, _, _, _, _, _, h⟩

theorem Kinetic.Turned.trans {j k l : Kinetic} (h : j.Turned k) (h' : k.Turned l) : j.Turned l := by
  obtain ⟨_, _, _, _, _, _, _, _, _, _, _, _, _, _, _, _, rfl⟩ := h
  obtain ⟨_, _, _, _, _, _, _, _, _, _, _, _, _, _, _, _, rfl⟩ := h'
  exact ⟨_, _, _, _, _, _, _, _, _, _, _, _, _, _, _, _, rfl⟩

theorem Kinetic.Acted.place {j k : Kinetic} (h : j.Acted k) : k.counter = j.counter ∧ k.pos = j.pos ∧ k.hist = j.hist ∧
    k.synced = j.synced ∧ k.sensorBad = j.sensorBad := by
  obtain ⟨_, _, _, _, _, _, _, _, rfl⟩ := h
  exact ⟨rfl, rfl, rfl, rfl, rfl⟩

theorem Kinetic.Turned.kept {j k : Kinetic} (h : j.Turned k) : k.seen = j.seen ∧ k.stopped = j.stopped ∧ k.lastEdge = j.lastEdge ∧
    k.rev = j.rev ∧ k.lvlA = j.lvlA ∧ k.lvlB = j.lvlB ∧ k.reversals = j.reversals ∧ k.stopTime = j.stopTime := by
  obtain ⟨_, _, _, _, _, _, _, _, _, _, _, _, _, _, _, _, rfl⟩ := h
  exact ⟨rfl, rfl, rfl, rfl, rfl, rfl, rfl, rfl⟩

theorem Kinetic.Turned.twKept {j k : Kinetic} (h : j.Turned k) : k.twCont = j.twCont ∧ k.twSample = j.twSample ∧ k.twAt = j.twAt := by
  obtain ⟨_, _, _, _, _, _, _, _, _, _, _, _, _, _, _, _, rfl⟩ := h
  exact ⟨rfl, rfl, rfl⟩

/-- `e` is `d` with the engine moved within `K`, and but for the groups that it triggers and what messages change, none of them Grave. -/
def Device.EngineMoved (K : Kinetic → Kinetic → Prop) (d e : Device) : Prop :=
  (∃ kin rooms burst faults adc free, K d.kin kin ∧ e = { d with
      kin := kin, rooms := rooms, burst := burst, faults := faults, adc := adc, freeCtr := free }) ∧
    e.faults.graveDue = d.faults.graveDue

section
variable {K : Kinetic → Kinetic → Prop} {d e t : Device}

theorem Device.EngineMoved.trans (hK : ∀ {j k l}, K j k → K k l → K j l) (h : d.EngineMoved K e) (h' : e.EngineMoved K t) :
    d.EngineMoved K t := by
  obtain ⟨⟨_, _, _, _, _, _, hk, rfl⟩, hg⟩ := h
  obtain ⟨⟨_, _, _, _, _, _, hk', rfl⟩, hg'⟩ := h'
  exact ⟨⟨_, _, _, _, _, _, hK hk hk', rfl⟩, hg'.trans hg⟩

theorem Device.EngineMoved.kin (h : d.EngineMoved K e) : K d.kin e.kin := by
  obtain ⟨⟨_, _, _, _, _, _, hk, rfl⟩, -⟩ := h
  exact hk

theorem Device.EngineMoved.frame (h : d.EngineMoved K e) : e.batch = d.batch ∧ e.rails = d.rails ∧ e.priv = d.priv ∧ e.nvm = d.nvm ∧
    e.wram = d.wram ∧ e.power = d.power ∧ e.active = d.active := by
  obtain ⟨⟨_, _, _, _, _, _, -, rfl⟩, -⟩ := h
  exact ⟨rfl, rfl, rfl, rfl, rfl, rfl, rfl⟩

/-- What the engine's own events move. -/
abbrev Device.EngineActed (d e : Device) : Prop := d.EngineMoved Kinetic.Acted e

/-- What an edge or a loss of synchronisation moves. -/
abbrev Device.EngineTurned (d e : Device) : Prop := d.EngineMoved Kinetic.Turned e

theorem Device.EngineActed.refl (d : Device) : d.EngineActed d := ⟨⟨_, _, _, _, _, _, .refl _, rfl⟩, rfl⟩

theorem Device.EngineActed.trans (h : d.EngineActed e) (h' : e.EngineActed t) : d.EngineActed t := EngineMoved.trans .trans h h'

theorem Device.EngineTurned.trans (h : d.EngineTurned e) (h' : e.EngineTurned t) : d.EngineTurned t := EngineMoved.trans .trans h h'

theorem Device.EngineActed.turned (h : d.EngineActed e) : d.EngineTurned e := by
  obtain ⟨⟨_, _, _, _, _, _, hk, rfl⟩, hg⟩ := h
  exact ⟨⟨_, _, _, _, _, _, hk.turned, rfl⟩, hg⟩

theorem Device.EngineTurned.refl (d : Device) : d.EngineTurned d := (EngineActed.refl d).turned

theorem Device.updKin_acted {f : Kinetic → Kinetic} (h : d.kin.Acted (f d.kin)) : d.EngineActed (d.updKin f) :=
  ⟨⟨_, _, _, _, _, _, h, rfl⟩, rfl⟩

theorem Device.updKin_turned {f : Kinetic → Kinetic} (h : d.kin.Turned (f d.kin)) : d.EngineTurned (d.updKin f) :=
  ⟨⟨_, _, _, _, _, _, h, rfl⟩, rfl⟩

theorem Device.raise_acted (d : Device) {a b q : Nat} (h : (kindClasses (a % 256) (b % 256) 0).1 ≠ 4) :
    d.EngineActed (d.raise (coded a b q)) :=
  ⟨⟨_, _, _, _, _, _, .refl _, (d.raise_same _).eq⟩, d.raise_coded_grave a b q h⟩

/-- What holds along each step of a list holds along the list. -/
theorem Device.each_along {α : Type} {R : Device → Device → Prop} (hrefl : ∀ d, R d d) (htrans : ∀ {d e t}, R d e → R e t → R d t)
    {f : α → Device → Device} (hf : ∀ a d, R d (f a d)) (l : List α) (d : Device) : R d (d.each l f) := by
  induction l generalizing d with
  | nil => exact hrefl d
  | cons a l ih => exact htrans (hf a d) (ih (f a d))

/-! ### Events, the counter, and the mode (R459, R460, R467 to R476) -/

theorem Device.kinMode_acted (d : Device) : d.EngineActed d.kinMode := by
  unfold Device.kinMode
  exact Device.updKin_acted ⟨_, _, _, _, _, _, _, _, rfl⟩

theorem Device.kinSpeed_acted (d : Device) : d.EngineActed d.kinSpeed := by
  unfold Device.kinSpeed
  split
  · exact Device.updKin_acted ⟨_, _, _, _, _, _, _, _, rfl⟩
  · refine EngineActed.trans ?_ (Device.when_along (R := Device.EngineActed) (.refl _) (Device.raise_acted _ (by decide)))
    exact Device.updKin_acted ⟨_, _, _, _, _, _, _, _, rfl⟩

theorem Device.kinSettled_acted (d : Device) : d.EngineActed d.kinSpeed.kinMode := (d.kinSpeed_acted).trans d.kinSpeed.kinMode_acted

theorem Device.fireEvent_acted (d : Device) (w : Word) : d.EngineActed (d.fireEvent w) := by
  unfold Device.fireEvent
  split
  · exact Device.when_along (R := Device.EngineActed) (.refl _) (Device.updKin_acted ⟨_, _, _, _, _, _, _, _, rfl⟩)
  · exact Device.when_along (R := Device.EngineActed) (.refl _) (Device.updKin_acted ⟨_, _, _, _, _, _, _, _, rfl⟩)
  · exact Device.when_along (R := Device.EngineActed) (.refl _) ⟨⟨_, _, _, _, _, _, .refl _, rfl⟩, rfl⟩
  · exact Device.when_along (R := Device.EngineActed) (.refl _) (Device.updKin_acted ⟨_, _, _, _, _, _, _, _, rfl⟩)
  · exact .refl d

/-- The counter moved along an arc, before the events on it. -/
def Kinetic.counted (k : Kinetic) (back : Bool) (len : Nat) : Kinetic :=
  { k with counter := if back then k.counter - BitVec.ofNat 16 len else k.counter + BitVec.ofNat 16 len }

theorem Device.moveCounter_acted (d : Device) (back : Bool) (len : Nat) :
    (d.updKin (·.counted back len)).EngineActed (d.moveCounter back len) := by
  unfold Device.moveCounter
  refine Device.each_along (R := Device.EngineActed) .refl .trans (fun w e => ?_) _ _
  refine Device.ite_along (e.fireEvent_acted w) (Device.ite_along ((e.fireEvent_acted w).trans ?_) ?_)
  · exact Device.updKin_acted ⟨_, _, _, _, _, _, _, _, rfl⟩
  · exact Device.updKin_acted ⟨_, _, _, _, _, _, _, _, rfl⟩

theorem Device.moveCounter_turned (d : Device) (back : Bool) (len : Nat) : d.EngineTurned (d.moveCounter back len) :=
  (Device.updKin_turned ⟨_, _, _, _, _, _, _, _, .refl _⟩).trans (d.moveCounter_acted back len).turned

/-- The counter moved to an angle along the arc to it stands on that angle. -/
theorem counted_nominal (c : BitVec 16) (back : Bool) {n : Nat} (hn : n < 4096) :
    (if back then c - BitVec.ofNat 16 (arcOffset back (c.toNat % 4096) n) else
      c + BitVec.ofNat 16 (arcOffset back (c.toNat % 4096) n)).toNat % 4096 = n := by
  have hc := c.isLt
  cases back
  · simp only [arcOffset, Bool.false_eq_true, if_false, BitVec.toNat_add, BitVec.toNat_ofNat]
    omega
  · simp only [arcOffset, if_true, BitVec.toNat_sub, BitVec.toNat_ofNat]
    omega

theorem nominal_lt {p : Nat} (h : p ≤ 91) : nominal p < 4096 := by
  unfold nominal
  omega

theorem nextPos_le (rev : Bool) {p : Nat} (h : p ≤ 91) : nextPos rev p ≤ 91 := by
  unfold nextPos
  split
  · split
    · exact le_rfl
    · omega
  · split
    · exact Nat.zero_le _
    · omega

theorem Device.snapTo_turned (d : Device) (p : Nat) : d.EngineTurned (d.snapTo p) := d.moveCounter_turned _ _

theorem Device.snapTo_place (d : Device) {p : Nat} (hp : p ≤ 91) :
    (d.snapTo p).kin.counter.toNat % 4096 = nominal p ∧ (d.snapTo p).kin.pos = d.kin.pos := by
  obtain ⟨hcounter, hpos, -⟩ := (d.moveCounter_acted d.kin.rev (arcOffset d.kin.rev (d.kin.counter.toNat % 4096) (nominal p))).kin.place
  unfold Device.snapTo
  rw [hcounter, hpos]
  exact ⟨counted_nominal _ _ (nominal_lt hp), rfl⟩

theorem Device.resyncJump_turned (d : Device) (p : Nat) : d.EngineTurned (d.resyncJump p) :=
  Device.ite_along (d.moveCounter_turned _ _) (d.moveCounter_turned _ _)

/-! ### An accepted edge (R455, R458 to R462) -/

/-- Whether an edge reverses the direction (R461). -/
def Kinetic.reversal (k : Kinetic) (e : Sys2Proof.HallEdge) : Bool :=
  k.seen && (edgeReverse e (if edgeOnA e then k.lvlB else k.lvlA) != k.rev)

/-- The position of an edge (R458, R461). -/
def Kinetic.edgePos (k : Kinetic) (e : Sys2Proof.HallEdge) : Nat :=
  if k.reversal e then k.pos else nextPos (edgeReverse e (if edgeOnA e then k.lvlB else k.lvlA)) k.pos

/-- The device with an edge taken: its direction, time, levels and place in the histories, before the counter follows. -/
def Device.edgeTaken (d : Device) (e : Sys2Proof.HallEdge) (t : Nat) : Device :=
  let k := d.kin
  let iv := if edgeOnA e then match k.lastEdgeA with | some t0 => [(k.lvlA, t - t0)] | none => [] else []
  (d.when (k.reversal e) (·.updKin fun k => { k with gates := 0, reversals := sat 0xFFFFFFFF (k.reversals + 1) })).updKin fun x => { x with
    rev := edgeReverse e (if edgeOnA e then k.lvlB else k.lvlA), seen := true, stopped := false, lastEdge := t,
    lvlA := if edgeOnA e then edgeLevel e else x.lvlA, lvlB := if edgeOnA e then x.lvlB else edgeLevel e,
    pos := if x.synced then k.edgePos e else 0,
    hist := if k.reversal e then [(t, if x.synced then k.edgePos e else 0)] else ((t, if x.synced then k.edgePos e else 0) :: x.hist).take 5,
    aIntervals := if k.reversal e then [] else (iv ++ x.aIntervals).take 3,
    lastEdgeA := if edgeOnA e then some t else if k.reversal e then none else x.lastEdgeA }

/-- What the counter makes of an edge taken at position `p`: it finds the gap, corrects itself by it, or snaps to the edge. -/
def Device.edgePlaced (d : Device) (gap rev : Bool) (p : Nat) : Device :=
  let true_ := if rev then 88 else 2
  if gap ∧ d.kin.synced = false then
    d.updKin fun k => { k with synced := true, pos := true_, sensorBad := false, counter := BitVec.ofNat 16 (nominal true_),
                               hist := relabel rev k.hist }
  else if gap ∧ p ≠ true_ then
    let d := (d.updKin fun k => { k with resyncs := sat 0xFFFFFFFF (k.resyncs + 1), pos := true_,
                                         hist := relabel rev k.hist }).resyncJump true_
    d.raise (coded 9 1 (resyncError p true_))
  else if d.kin.synced then d.snapTo p
  else d

/-- The device as an edge leaves the counter, before `TWPWR`, the speed and the mode follow. -/
def Device.edgeFollowed (d : Device) (e : Sys2Proof.HallEdge) (t : Nat) : Device :=
  (d.edgeTaken e t).edgePlaced (edgeOnA e && gapSeen (d.edgeTaken e t).kin.aIntervals)
    (edgeReverse e (if edgeOnA e then d.kin.lvlB else d.kin.lvlA)) (d.kin.edgePos e)

theorem Device.hallEdge_eq (d : Device) (e : Sys2Proof.HallEdge) (t : Nat) : d.hallEdge e t =
    ((d.edgeFollowed e t).when (!(d.edgeFollowed e t).kin.twCont) (·.twPower true)).kinSpeed.kinMode := rfl

theorem Device.edgePlaced_turned (d : Device) (gap rev : Bool) (p : Nat) : d.EngineTurned (d.edgePlaced gap rev p) := by
  unfold Device.edgePlaced
  refine Device.ite_along (Device.updKin_turned ⟨_, _, _, _, _, _, _, _, .refl _⟩) (Device.ite_along ?_ (Device.ite_along (d.snapTo_turned p) (.refl d)))
  exact ((Device.updKin_turned ⟨_, _, _, _, _, _, _, _, .refl _⟩).trans (Device.resyncJump_turned _ _)).trans
    (Device.raise_acted _ (by decide)).turned

/-- The engine with an edge taken. -/
theorem Device.edgeTaken_kin (d : Device) (e : Sys2Proof.HallEdge) (t : Nat) :
    (d.edgeTaken e t).kin.seen = true ∧ (d.edgeTaken e t).kin.stopped = false ∧ (d.edgeTaken e t).kin.lastEdge = t ∧
    (d.edgeTaken e t).kin.rev = edgeReverse e (if edgeOnA e then d.kin.lvlB else d.kin.lvlA) ∧
    (d.edgeTaken e t).kin.lvlA = (if edgeOnA e then edgeLevel e else d.kin.lvlA) ∧
    (d.edgeTaken e t).kin.lvlB = (if edgeOnA e then d.kin.lvlB else edgeLevel e) := by
  unfold Device.edgeTaken
  dsimp only
  cases d.kin.reversal e
  · exact ⟨rfl, rfl, rfl, rfl, rfl, rfl⟩
  · exact ⟨rfl, rfl, rfl, rfl, rfl, rfl⟩

theorem Device.edgeTaken_counts (d : Device) (e : Sys2Proof.HallEdge) (t : Nat) :
    (d.edgeTaken e t).kin.reversals = (if d.kin.reversal e then min 0xFFFFFFFF (d.kin.reversals + 1) else d.kin.reversals) ∧
    (d.edgeTaken e t).kin.synced = d.kin.synced ∧ (d.edgeTaken e t).kin.twCont = d.kin.twCont ∧
    (d.edgeTaken e t).kin.pos = (if d.kin.synced then d.kin.edgePos e else 0) := by
  unfold Device.edgeTaken
  dsimp only
  cases h : d.kin.reversal e
  · exact ⟨rfl, rfl, rfl, rfl⟩
  · exact ⟨rfl, rfl, rfl, rfl⟩

theorem Device.edgeTaken_frame (d : Device) (e : Sys2Proof.HallEdge) (t : Nat) :
    (d.edgeTaken e t).batch = d.batch ∧ (d.edgeTaken e t).priv = d.priv ∧ (d.edgeTaken e t).nvm = d.nvm ∧
    (d.edgeTaken e t).wram = d.wram ∧ (d.edgeTaken e t).faults = d.faults := by
  unfold Device.edgeTaken
  dsimp only
  cases d.kin.reversal e
  · exact ⟨rfl, rfl, rfl, rfl, rfl⟩
  · exact ⟨rfl, rfl, rfl, rfl, rfl⟩

/-- With `TWPWR` on an edge moves the engine alone. -/
theorem Device.hallEdge_turned {d : Device} (e : Sys2Proof.HallEdge) (t : Nat) (hcont : d.kin.twCont = true) :
    (d.edgeTaken e t).EngineTurned (d.hallEdge e t) ∧ (d.edgeFollowed e t).EngineActed (d.hallEdge e t) := by
  have hplaced : (d.edgeTaken e t).EngineTurned (d.edgeFollowed e t) := Device.edgePlaced_turned _ _ _ _
  have htw : (d.edgeFollowed e t).kin.twCont = true :=
    hplaced.kin.twKept.1.trans ((d.edgeTaken_counts e t).2.2.1.trans hcont)
  rw [Device.hallEdge_eq, Device.when_false _ (by rw [htw]; rfl)]
  exact ⟨hplaced.trans (Device.kinSettled_acted _).turned, Device.kinSettled_acted _⟩

/-- A synchronised edge of the other sensor snaps the counter to its position. -/
theorem Device.edgeFollowed_snaps {d : Device} {e : Sys2Proof.HallEdge} (t : Nat) (hb : edgeOnA e = false) (hsync : d.kin.synced = true) :
    d.edgeFollowed e t = (d.edgeTaken e t).snapTo (d.kin.edgePos e) := by
  have hsync' := (d.edgeTaken_counts e t).2.1.trans hsync
  unfold Device.edgeFollowed Device.edgePlaced
  rw [hb, if_neg (by simp), if_neg (by simp), if_pos hsync']

/-! ### Synchronisation lost (R464, R466) -/

theorem Device.syncLost_turned (d : Device) (cause : Nat) : d.EngineTurned (d.syncLost cause) := by
  unfold Device.syncLost
  refine Device.ite_along (EngineTurned.trans ?_ (Device.kinSettled_acted _).turned) (.refl d)
  exact (Device.updKin_turned ⟨_, _, _, _, _, _, _, _, .refl _⟩).trans (Device.raise_acted _ (by decide)).turned

/-- A loss of synchronisation moves the engine as its events do, once its place is given up. -/
theorem Device.syncLost_place (d : Device) (cause : Nat) : (d.syncLost cause).kin.synced = false ∧
    (d.syncLost cause).kin.sensorBad = d.kin.sensorBad ∧ (d.kin.synced = true → (d.syncLost cause).kin.counter = 0) := by
  unfold Device.syncLost
  by_cases h : d.kin.synced = true
  · rw [if_pos h]
    have hacted := ((d.updKin fun k => { k with
      synced := false, counter := 0, hist := [], aIntervals := [], lastEdgeA := none }).raise_acted (a := 9) (b := 2) (q := cause) (by decide)).trans
      (Device.kinSettled_acted _)
    obtain ⟨hcounter, -, -, hsynced, hbad⟩ := hacted.kin.place
    exact ⟨hsynced, hbad, fun _ => hcounter⟩
  · rw [if_neg h]
    exact ⟨by simpa using h, rfl, fun h' => absurd h' h⟩

theorem Device.kinCause_ne_zero_of_sensorBad (h : d.kin.sensorBad = true) : d.kinCause ≠ 0 := by
  unfold Device.kinCause
  simp only [h, Bool.true_or, if_true]
  split_ifs
  all_goals decide

theorem Device.illegal_shows (d : Device) : d.illegal.kin.sensorBad = true ∧ d.illegal.kin.synced = false ∧
    d.illegal.kin.active = false ∧ d.illegal.kin.gates = 0 ∧ (d.kin.synced = true → d.illegal.kin.counter = 0) ∧
    d.illegal.batch = d.batch ∧ d.illegal.faults.graveDue = d.faults.graveDue := by
  set b := d.updKin fun k => { k with sensorBad := true } with hb
  set l := (b.syncLost 1).raise (coded 9 3 1) with hl
  have hraise : (b.syncLost 1).EngineActed l := (b.syncLost 1).raise_acted (by decide)
  have hlost := b.syncLost_turned 1
  obtain ⟨hsynced, hbad, hcounter⟩ := b.syncLost_place 1
  obtain ⟨hcounter', -, -, hsynced', hbad'⟩ := hraise.kin.place
  have hbad'' : l.kin.sensorBad = true := hbad'.trans hbad
  have hcause := Device.kinCause_ne_zero_of_sensorBad hbad''
  have heq : d.illegal = l.kinMode := rfl
  rw [heq]
  refine ⟨hbad'', hsynced'.trans hsynced, ?_, ?_, fun h => hcounter'.trans (hcounter h), hraise.frame.1.trans hlost.frame.1,
    hraise.2.trans hlost.2⟩
  · rw [Device.kinMode_kin]
    simp [hcause]
  · rw [Device.kinMode_kin]
    simp [hcause]

/-- The engine at rest, its counter back on the last edge's angle (R464). -/
def Kinetic.rested (k : Kinetic) : Kinetic :=
  { k with
    stopped := true, stopTime := k.lastEdge + 200000, hist := [], aIntervals := [], lastEdgeA := none,
    counter := if k.synced then (if k.rev then k.counter + BitVec.ofNat 16 (arcOffset (!k.rev) (k.counter.toNat % 4096) (nominal k.pos))
      else k.counter - BitVec.ofNat 16 (arcOffset (!k.rev) (k.counter.toNat % 4096) (nominal k.pos))) else k.counter }

theorem Device.rotorStop_acted (d : Device) : (d.updKin Kinetic.rested).EngineActed d.rotorStop := Device.kinSettled_acted _

theorem Kinetic.rested_counter {k : Kinetic} (hsync : k.synced = true) (hpos : k.pos ≤ 91) :
    k.rested.counter.toNat % 4096 = nominal k.pos := by
  have hcount := counted_nominal k.counter (!k.rev) (nominal_lt hpos)
  simp only [Kinetic.rested, hsync, if_true]
  cases hrev : k.rev
  · simpa [hrev] using hcount
  · simpa [hrev] using hcount

/-! ### `TWPWR` (R355, R465, R466) -/

/-- The device once LDO6 follows the engine's enable, before synchronisation does. -/
def Device.twEdged (d : Device) (on : Bool) : Device := (d.updRails fun b => { b with twDuty := on }).railEdgeOne d.now 9

theorem Device.twEdged_eq (d : Device) (on : Bool) : d.twEdged on = { d with rails := (d.twEdged on).rails } := rfl

theorem Device.twEdged_duty (d : Device) (on : Bool) : (d.twEdged on).rails.twDuty = on := rfl

theorem Device.twEdged_railSt (d : Device) (on : Bool) :
    (d.twEdged on).railSt 9 = ((d.updRails fun b => { b with twDuty := on }).railNext d.now 9).st := by
  unfold Device.twEdged Device.railEdgeOne Device.railSt
  rw [Device.updRail_rails]
  simp only [vget_vmod_same]

/-- The enable of LDO6, with no vote on it (R355). -/
theorem Device.railTarget_ldo6 (hvote : d.ldo6Voted = false) :
    (d.railTarget 9).en = (d.rails.twDuty && d.railThere 9 && !d.gated 9) := by
  have hen : (d.active.rails.get 9).en = false := hvote
  cases hduty : d.rails.twDuty
  · simp [Device.railTarget, hen, hduty]
  · simp [Device.railTarget, hen, hduty]

/-- With no vote on it, LDO6 on goes off when the engine lets it go. -/
theorem Device.twEdged_off (hvote : d.ldo6Voted = false) (hon : (d.railSt 9).isOn = true) : (d.twEdged false).railSt 9 = .off := by
  rw [Device.twEdged_railSt, Device.railNext_on (d := d.updRails fun b => { b with twDuty := false }) hon, if_pos]
  rw [Device.railTarget_ldo6 (d := d.updRails fun b => { b with twDuty := false }) hvote]
  rfl

/-- Enabled by the engine where nothing holds it, LDO6 begins its proofing. -/
theorem Device.twEdged_proofs (hvote : d.ldo6Voted = false) (hoff : d.railSt 9 = .off) (hthere : d.railThere 9 = true)
    (hgate : d.gated 9 = false) (hcool : d.faults.dieHot = false) : (d.twEdged true).railSt 9 = .proofing := by
  rw [Device.twEdged_railSt, Device.railNext_off (d := d.updRails fun b => { b with twDuty := true }) hoff, if_pos]
  · rfl
  refine ⟨?_, rfl, by decide, hcool⟩
  rw [Device.railTarget_ldo6 (d := d.updRails fun b => { b with twDuty := true }) hvote]
  have hthere' : (d.updRails fun b => { b with twDuty := true }).railThere 9 = true := hthere
  have hgate' : (d.updRails fun b => { b with twDuty := true }).gated 9 = false := hgate
  rw [hthere', hgate']
  rfl

theorem Device.twEnable_same {on : Bool} (h : d.railSt 9 ≠ .proofed) : d.twEnable on = d.twEdged on :=
  Device.when_false _ (by simp [h])

theorem Device.twEnable_left {on : Bool} (h : d.railSt 9 = .proofed) (hoff : (d.twEdged on).railSt 9 = .off) :
    d.twEnable on = (d.twEdged on).ldo6Left := by
  have hoff' : ((d.updRails fun b => { b with twDuty := on }).railEdgeOne d.now 9).railSt 9 = .off := hoff
  exact Device.when_true _ (by simp [h, hoff'])

/-- What LDO6 leaving PROOFED changes: the engine, and the duty-cycled enable under way. -/
theorem Device.ldo6Left_shows (d : Device) : d.kin.Turned d.ldo6Left.kin ∧ d.ldo6Left.kin.synced = false ∧
    d.ldo6Left.rails = { d.rails with twDuty := d.rails.twDuty && d.kin.twCont } ∧ d.ldo6Left.batch = d.batch ∧
    d.ldo6Left.faults.graveDue = d.faults.graveDue := by
  have hlost := d.syncLost_turned 3
  have hsynced := (d.syncLost_place 3).1
  set l := (d.syncLost 3).updRails fun b => { b with twDuty := b.twDuty && d.kin.twCont } with hl
  have hrest : l.EngineActed d.ldo6Left := by
    refine EngineActed.trans ?_ (Device.kinMode_acted _)
    exact Device.when_along (R := Device.EngineActed) (.refl _) (Device.raise_acted _ (by decide))
  refine ⟨hlost.kin.trans hrest.kin.turned, hrest.kin.place.2.2.2.1.trans hsynced, hrest.frame.2.1.trans ?_,
    hrest.frame.1.trans hlost.frame.1, hrest.2.trans hlost.2⟩
  exact congrArg (fun r : RailBlock => { r with twDuty := r.twDuty && d.kin.twCont }) hlost.frame.2.1

/-- What the engine's enable of LDO6 changes beside the rails. -/
theorem Device.twEnable_shows (d : Device) (on : Bool) : d.kin.Turned (d.twEnable on).kin ∧
    (d.twEnable on).railSt 9 = (d.twEdged on).railSt 9 ∧ (d.twEnable on).batch = d.batch ∧
    (d.twEnable on).faults.graveDue = d.faults.graveDue ∧ (on = false → (d.twEnable on).rails.twDuty = false) ∧
    ((d.twEdged on).railSt 9 = .off → d.railSt 9 = .proofed → (d.twEnable on).kin.synced = false) := by
  by_cases hleft : d.railSt 9 = .proofed ∧ (d.twEdged on).railSt 9 = .off
  · rw [Device.twEnable_left hleft.1 hleft.2]
    obtain ⟨hturned, hsynced, hrails, hbatch, hgrave⟩ := (d.twEdged on).ldo6Left_shows
    refine ⟨hturned, ?_, hbatch, hgrave, fun hoff => ?_, fun _ _ => hsynced⟩
    · rw [Device.railSt, hrails]
      rfl
    · rw [hrails, Device.twEdged_duty, hoff]
      rfl
  · have hsame : d.twEnable on = d.twEdged on := by
      refine Device.when_false _ ?_
      by_contra hne
      refine hleft ?_
      have hand := (Bool.and_eq_true _ _).mp (Bool.eq_true_of_not_eq_false hne)
      exact ⟨of_decide_eq_true hand.1, of_decide_eq_true hand.2⟩
    rw [hsame]
    exact ⟨(Kinetic.Acted.refl _).turned, rfl, rfl, rfl, fun hoff => hoff, fun hoff hproofed => absurd ⟨hproofed, hoff⟩ hleft⟩

/-- Motion seen by a sample leaves the engine without synchronisation. -/
theorem Device.motionSeen_shows (d : Device) : d.EngineTurned d.motionSeen ∧ d.motionSeen.kin.synced = false := by
  unfold Device.motionSeen
  by_cases h : d.kin.synced = true
  · rw [if_pos h]
    exact ⟨d.syncLost_turned 2, (d.syncLost_place 2).1⟩
  · rw [if_neg h]
    have hraise : d.EngineActed (d.raise (coded 9 2 2)) := d.raise_acted (by decide)
    exact ⟨hraise.turned, hraise.kin.place.2.2.2.1.trans (by simpa using h)⟩

/-- The device with a sample of the inputs taken. -/
def Device.twTaken (d : Device) (a b : Bool) : Device := d.updKin fun k => { k with lvlA := a, lvlB := b, twSample := some (a, b) }

/-- The hold of continuous `TWPWR` begun anew at a time (R465). -/
def Device.twHeld (d : Device) (now : Nat) : Device := d.updKin fun k => { k with stopTime := now, twSample := none }

theorem Device.twSampled_still {a b : Bool} (h : d.kin.twSample = some (a, b)) : d.twSampled a b = d.twTaken a b := by
  simp only [Device.twSampled, h]
  exact if_neg fun hne => hne.2 rfl

theorem Device.twSampled_moves {a b : Bool} {x : Bool × Bool} (h : d.kin.twSample = some x) (hx : x ≠ (a, b)) : d.twSampled a b =
    ((d.twTaken a b).motionSeen.twHeld d.now).twPower true := by
  simp only [Device.twSampled, h]
  have hmoves : (some x : Option (Bool × Bool)).isSome = true ∧ some x ≠ some (a, b) := ⟨rfl, fun heq => hx (Option.some.inj heq)⟩
  exact if_pos hmoves

theorem Device.twCycle_enables {a b : Bool} (h : d.rails.twDuty = false) : d.twCycle a b =
    d.dueAt (d.kin.twAt + 1000 * d.fn Fld.kinTwPeriod) fun d => (d.updKin fun k => { k with twAt := d.now }).twEnable true := if_pos h

theorem Device.twCycle_samples {a b : Bool} (h : d.rails.twDuty = true) (hproofed : d.railSt 9 = .proofed) : d.twCycle a b =
    d.dueAt ((d.rails.rails.get 9).since + 10 * d.fn Fld.kinTwSettle) fun d => (d.twEnable false).twSampled a b :=
  (if_neg (by simp [h])).trans (Device.when_true _ (decide_eq_true hproofed))

/-- The next enable of the duty cycle: LDO6, off, is turned on. -/
theorem Device.twBegins_shows (hoff : d.railSt 9 = .off) : ((d.updKin fun k => { k with twAt := d.now }).twEnable true) =
    (d.updKin fun k => { k with twAt := d.now }).twEdged true := by
  have hne : (d.updKin fun k => { k with twAt := d.now }).railSt 9 ≠ .proofed := by
    rw [show (d.updKin fun k => { k with twAt := d.now }).railSt 9 = .off from hoff]
    decide
  exact Device.twEnable_same hne

/-- The end of continuous `TWPWR` (R465). -/
theorem Device.twHoldEnds_shows (d : Device) : (d.twPower false).kin.twCont = false ∧ (d.twPower false).rails.twDuty = false ∧
    (d.twPower false).kin.twAt = d.now ∧ (d.twPower false).batch = d.batch ∧
    (d.twPower false).faults.graveDue = d.faults.graveDue ∧
    (d.ldo6Voted = false → (d.railSt 9).isOn = true → (d.twPower false).railSt 9 = .off) ∧
    (d.ldo6Voted = false → d.railSt 9 = .proofed → (d.twPower false).kin.synced = false) := by
  set k := d.updKin fun k => { k with twCont := false, twAt := d.now } with hk
  obtain ⟨hturned, hst, hbatch, hgrave, hduty, hsynced⟩ := k.twEnable_shows false
  have heq : d.twPower false = k.twEnable false := rfl
  rw [heq]
  refine ⟨hturned.twKept.1, hduty rfl, hturned.twKept.2.2, hbatch, hgrave, fun hvote hon => ?_, fun hvote hproofed => ?_⟩
  · exact hst.trans (Device.twEdged_off (d := k) hvote hon)
  · exact hsynced (Device.twEdged_off (d := k) hvote (by
      rw [show k.railSt 9 = .proofed from hproofed]
      rfl)) hproofed

/-- A sample of the duty cycle with the inputs as the sample before: LDO6 is let go (R465). -/
theorem Device.twRests_shows {a b : Bool} (hvote : d.ldo6Voted = false) (hproofed : d.railSt 9 = .proofed) (hcont : d.kin.twCont = false)
    (hx : d.kin.twSample = some (a, b)) :
    ((d.twEnable false).twSampled a b).kin.lvlA = a ∧ ((d.twEnable false).twSampled a b).kin.lvlB = b ∧
    ((d.twEnable false).twSampled a b).kin.synced = false ∧ ((d.twEnable false).twSampled a b).kin.twCont = false ∧
    ((d.twEnable false).twSampled a b).kin.twSample = some (a, b) ∧ ((d.twEnable false).twSampled a b).rails.twDuty = false ∧
    ((d.twEnable false).twSampled a b).railSt 9 = .off ∧ ((d.twEnable false).twSampled a b).batch = d.batch ∧
    ((d.twEnable false).twSampled a b).faults.graveDue = d.faults.graveDue := by
  obtain ⟨hturned, hst, hbatch, hgrave, hduty, hsynced⟩ := d.twEnable_shows false
  have hoff := Device.twEdged_off (d := d) hvote (by rw [hproofed]; rfl)
  rw [Device.twSampled_still (hturned.twKept.2.1.trans hx)]
  exact ⟨rfl, rfl, hsynced hoff hproofed, hturned.twKept.1.trans hcont, rfl, hduty rfl, hst.trans hoff, hbatch, hgrave⟩

/-- Continuous `TWPWR` with LDO6 not PROOFED. -/
theorem Device.twPower_on (now : Nat) (h : d.railSt 9 ≠ .proofed) : ((d.twHeld now).twPower true).kin.lvlA = d.kin.lvlA ∧
    ((d.twHeld now).twPower true).kin.lvlB = d.kin.lvlB ∧ ((d.twHeld now).twPower true).kin.synced = d.kin.synced ∧
    ((d.twHeld now).twPower true).kin.twCont = true ∧ ((d.twHeld now).twPower true).kin.stopTime = now ∧
    ((d.twHeld now).twPower true).rails.twDuty = true ∧ ((d.twHeld now).twPower true).batch = d.batch ∧
    ((d.twHeld now).twPower true).faults = d.faults := by
  set k := (d.twHeld now).updKin fun k => { k with twCont := true, twAt := (d.twHeld now).now } with hk
  have hoff : k.railSt 9 ≠ .proofed := h
  have heq : (d.twHeld now).twPower true = k.twEdged true := Device.twEnable_same hoff
  rw [heq, Device.twEdged_eq]
  exact ⟨rfl, rfl, rfl, rfl, rfl, rfl, rfl, rfl⟩

/-- A sample of the duty cycle that differs from the one before: `TWPWR` returns (R465). -/
theorem Device.twReturns_shows {a b : Bool} {x : Bool × Bool} (hvote : d.ldo6Voted = false) (hproofed : d.railSt 9 = .proofed)
    (hx : d.kin.twSample = some x) (hne : x ≠ (a, b)) :
    ((d.twEnable false).twSampled a b).kin.lvlA = a ∧ ((d.twEnable false).twSampled a b).kin.lvlB = b ∧
    ((d.twEnable false).twSampled a b).kin.synced = false ∧ ((d.twEnable false).twSampled a b).kin.twCont = true ∧
    ((d.twEnable false).twSampled a b).kin.stopTime = d.now ∧ ((d.twEnable false).twSampled a b).rails.twDuty = true ∧
    ((d.twEnable false).twSampled a b).batch = d.batch ∧
    ((d.twEnable false).twSampled a b).faults.graveDue = d.faults.graveDue := by
  obtain ⟨hturned, hst, hbatch, hgrave, -, -⟩ := d.twEnable_shows false
  have hoff := hst.trans (Device.twEdged_off (d := d) hvote (by rw [hproofed]; rfl))
  rw [Device.twSampled_moves (hturned.twKept.2.1.trans hx) hne]
  generalize d.twEnable false = l at hbatch hgrave hoff ⊢
  obtain ⟨hmoved, hsynced⟩ := (l.twTaken a b).motionSeen_shows
  obtain ⟨-, -, -, -, hlvlA, hlvlB, -⟩ := hmoved.kin.kept
  have hmoff : (l.twTaken a b).motionSeen.railSt 9 ≠ .proofed := by
    rw [Device.railSt, hmoved.frame.2.1]
    exact ne_of_eq_of_ne hoff (by decide)
  obtain ⟨ha, hb, hsync, htw, hstop, hduty, hbatch', hfaults⟩ := Device.twPower_on l.now hmoff
  exact ⟨ha.trans hlvlA, hb.trans hlvlB, hsync.trans hsynced, htw, hstop.trans (congrArg (·.time) hbatch), hduty,
    hbatch'.trans (hmoved.frame.1.trans hbatch), (congrArg (·.graveDue) hfaults).trans (hmoved.2.trans hgrave)⟩


theorem and_and_not_eq_false {p q r : Bool} (h : p = false ∨ q = false ∨ r = true) : (p && q && !r) = false := by
  rcases h with h | h | h
  · simp [h]
  · simp [h]
  · simp [h]

end

theorem exec_hallEdge (e : Sys2Proof.HallEdge) (time : Nat) (s : State) : exec (.hallEdge e time) s =
    s.onClk fun d => d.when d.sensorsOn fun d => d.dueAt (max time d.now) fun d => d.hallEdge e d.now := rfl
theorem exec_illegalTransition (s : State) : exec .illegalTransition s = s.onDev fun d => d.when d.sensorsOn (·.illegal) := rfl
theorem exec_counterInterpolate (s : State) : exec .counterInterpolate s =
    s.onClk fun d => d.when (d.sensorsOn && d.kin.mayStep) fun d => match d.kin.stepTime with
      | some t => d.dueAt t fun d => d.moveCounter d.kin.rev 1
      | none => d := rfl
theorem exec_rotorStall (s : State) : exec .rotorStall s =
    s.onClk fun d => d.when (d.kinPresent && d.isOpen && !d.kin.stopped) fun d => d.dueAt (d.kin.lastEdge + 200000) (·.rotorStop) := rfl
theorem exec_twpwrHoldEnd (s : State) : exec .twpwrHoldEnd s =
    s.onClk fun d => d.when (d.kinPresent && d.isOpen && d.kin.stopped && d.kin.twCont) fun d =>
      d.dueAt (d.kin.stopTime + 1000 * d.fn Fld.kinTwHold) (·.twPower false) := rfl
theorem exec_twpwrDutySample (a b : Bool) (s : State) : exec (.twpwrDutySample a b) s =
    s.onClk fun d => d.when (d.kinPresent && d.isOpen && !d.kin.twCont && !d.ldo6Voted && !d.ldo6Down) (·.twCycle a b) := rfl

/-- Settles O45: each row by what it makes of the engine at its instant. -/
theorem rotorEventsMoveTheCounter : Obligations.RotorEventsMoveTheCounter := by
  unfold Obligations.RotorEventsMoveTheCounter
  intro s hcalm
  simp only [exec_hallEdge, exec_illegalTransition, exec_counterInterpolate, exec_rotorStall, exec_twpwrHoldEnd, exec_twpwrDutySample]
  refine ⟨fun e time hoff => State.onClk_same hcalm (Device.when_false _ hoff), fun e time hon hcomes hcont => ?_,
    fun hoff => State.onDev_same hcalm (Device.when_false _ hoff), fun hon => ?_, fun hnot => State.onClk_same hcalm (Device.when_false _ ?_),
    fun t0 hon hmay ht hmeets => ?_, fun t0 ht hpres hopen hrun hmeets => ?_,
    fun hnot => State.onClk_same hcalm (Device.when_false _ (and_and_not_eq_false hnot)), fun t0 ht hpres hopen hstop hcont hmeets => ?_,
    fun a b hnot => State.onClk_same hcalm (Device.when_false _ ?_), fun a b hpres hopen hcont hvote hdown => ⟨fun t0 ht hduty hoff hmeets => ?_,
      fun t0 x ht hduty hproofed hmeets hx => ?_⟩⟩
  · set m := s.dev.moveTo (max time s.dev.now) with hm
    have hnow : m.now = max time s.dev.now := Device.moveTo_now hcomes.1 hcomes.2.1
    have hcont' : m.kin.twCont = true := hcont
    obtain ⟨hturned, hacted⟩ := Device.hallEdge_turned e m.now hcont'
    obtain ⟨hbatch, hpriv, hnvm, hwram, hfaults⟩ := m.edgeTaken_frame e m.now
    obtain ⟨hbatch', -, hpriv', hnvm', hwram', -⟩ := hturned.frame
    obtain ⟨hseen, hstopped, hlast, hrev, ha, hb⟩ := m.edgeTaken_kin e m.now
    obtain ⟨hcount, hsynced, -, hpos⟩ := m.edgeTaken_counts e m.now
    obtain ⟨hseen', hstopped', hlast', hrev', ha', hb', hcount', -⟩ := hturned.kin.kept
    refine ⟨_, State.onClk_comes (f := fun d => d.hallEdge e d.now) hcomes (Device.when_true _ hon)
      (hturned.2.trans ((congrArg (·.graveDue) hfaults).trans hcalm)) (hbatch'.trans hbatch),
      (congrArg (·.time) (hbatch'.trans hbatch)).trans hnow, hseen'.trans hseen, hstopped'.trans hstopped, (hlast'.trans hlast).trans hnow,
      hrev'.trans hrev, ha'.trans ha, hb'.trans hb, fun hs hr => ?_, fun hB hsync hle hs => ?_, hpriv'.trans hpriv, hnvm'.trans hnvm,
      hwram'.trans hwram⟩
    · have hreversal : m.kin.reversal e = true := by
        have hne : edgeReverse e (if edgeOnA e then m.kin.lvlB else m.kin.lvlA) ≠ m.kin.rev := fun h => hr ((hrev'.trans hrev).trans h)
        have hs' : m.kin.seen = true := hs
        simp [Kinetic.reversal, hs', hne]
      exact (hcount'.trans hcount).trans (if_pos hreversal)
    · have hsync' : m.kin.synced = true := hsync
      have hple : m.kin.edgePos e ≤ 91 := by
        unfold Kinetic.edgePos
        split
        · exact hle
        · exact nextPos_le _ hle
      obtain ⟨hplace, hplacepos⟩ := (m.edgeTaken e m.now).snapTo_place hple
      rw [Device.edgeFollowed_snaps m.now hB hsync'] at hacted
      obtain ⟨hcounter, hpos', -⟩ := hacted.kin.place
      have hposfinal : (m.hallEdge e m.now).kin.pos = m.kin.edgePos e := (hpos'.trans hplacepos).trans (hpos.trans (if_pos hsync'))
      refine ⟨hposfinal.trans ?_, (congrArg (fun c : BitVec 16 => c.toNat % 4096) hcounter).trans (hplace.trans (congrArg nominal hposfinal.symm))⟩
      have hs' : m.kin.seen = true := hs
      have hrevfinal : (m.hallEdge e m.now).kin.rev = edgeReverse e (if edgeOnA e then m.kin.lvlB else m.kin.lvlA) := hrev'.trans hrev
      show m.kin.edgePos e = if (m.hallEdge e m.now).kin.rev = m.kin.rev then nextPos m.kin.rev m.kin.pos else m.kin.pos
      rw [hrevfinal]
      unfold Kinetic.edgePos Kinetic.reversal
      by_cases heq : edgeReverse e (if edgeOnA e then m.kin.lvlB else m.kin.lvlA) = m.kin.rev
      · rw [if_pos heq, if_neg (by simp [heq]), heq]
      · rw [if_neg heq, if_pos (by simp [heq, hs'])]
  · obtain ⟨hbad, hsynced, hactive, hgates, hcounter, hbatch, hgrave⟩ := s.dev.illegal_shows
    exact ⟨_, State.onDev_put (Device.when_true _ hon) (hgrave.trans hcalm) hbatch, hbad, hsynced, hactive, hgates, hcounter⟩
  · rcases hnot with h | h
    · simp [h]
    · simp [h]
  · set m := s.dev.moveTo t0 with hm
    have hacted := m.moveCounter_acted m.kin.rev 1
    obtain ⟨hcounter, hpos, hhist, -⟩ := hacted.kin.place
    have hmay' : (s.dev.sensorsOn && s.dev.kin.mayStep) = true := by simp [hon, hmay]
    refine ⟨_, State.onClk_meets (f := fun d => d.moveCounter d.kin.rev 1) hmeets ((Device.when_true _ hmay').trans (by rw [ht]))
      (hacted.2.trans hcalm) hacted.frame.1, (congrArg (·.time) hacted.frame.1).trans (Device.moveTo_time hmeets.1), hcounter, hpos, hhist⟩
  · subst ht
    set m := s.dev.moveTo (s.dev.kin.lastEdge + 200000) with hm
    have hacted := m.rotorStop_acted
    obtain ⟨hcounter, -, -, hsynced, -⟩ := hacted.kin.place
    obtain ⟨-, hstopped, -, -, -, -, -, htime⟩ := hacted.turned.kin.kept
    have hmay : (s.dev.kinPresent && s.dev.isOpen && !s.dev.kin.stopped) = true := by simp [hpres, hopen, hrun]
    refine ⟨_, State.onClk_meets (f := (·.rotorStop)) hmeets (Device.when_true _ hmay) (hacted.2.trans hcalm) hacted.frame.1,
      (congrArg (·.time) hacted.frame.1).trans (Device.moveTo_time hmeets.1), hstopped, htime, hsynced, fun hsync hle => ?_⟩
    exact (congrArg (fun c : BitVec 16 => c.toNat % 4096) hcounter).trans (Kinetic.rested_counter (k := m.kin) hsync hle)
  · subst ht
    set m := s.dev.moveTo (s.dev.kin.stopTime + 1000 * s.dev.fn Fld.kinTwHold) with hm
    obtain ⟨htw, hduty, hat, hbatch, hgrave, hoff, hsynced⟩ := m.twHoldEnds_shows
    have hmay : (s.dev.kinPresent && s.dev.isOpen && s.dev.kin.stopped && s.dev.kin.twCont) = true := by simp [hpres, hopen, hstop, hcont]
    have hnow := congrArg (·.time) hbatch
    exact ⟨_, State.onClk_meets (f := (·.twPower false)) hmeets (Device.when_true _ hmay) (hgrave.trans hcalm) hbatch,
      hnow.trans (Device.moveTo_time hmeets.1), htw, hduty, hat.trans hnow.symm, hoff, hsynced⟩
  · rcases hnot with h | h | h | h | h
    · simp [h]
    · simp [h]
    · simp [h]
    · simp [h]
    · simp [h]
  · subst ht
    set m := s.dev.moveTo (s.dev.kin.twAt + 1000 * s.dev.fn Fld.kinTwPeriod) with hm
    have hmay : (s.dev.kinPresent && s.dev.isOpen && !s.dev.kin.twCont && !s.dev.ldo6Voted && !s.dev.ldo6Down) = true := by
      simp [hpres, hopen, hcont, hvote, hdown]
    have hbegins := Device.twBegins_shows (d := m) hoff
    refine ⟨_, State.onClk_meets (f := fun d => (d.updKin fun k => { k with twAt := d.now }).twEnable true) hmeets
      ((Device.when_true _ hmay).trans (Device.twCycle_enables hduty)) ?_ ?_, ?_⟩
    · rw [hbegins]
      exact hcalm
    · rw [hbegins]
      rfl
    · rw [State.put, hbegins]
      exact ⟨Device.moveTo_time hmeets.1, rfl, rfl, fun hthere hgate hcool =>
        Device.twEdged_proofs (d := m.updKin fun k => { k with twAt := m.now }) hvote hoff hthere hgate hcool⟩
  · subst ht
    set m := s.dev.moveTo ((s.dev.rails.rails.get 9).since + 10 * s.dev.fn Fld.kinTwSettle) with hm
    have hmay : (s.dev.kinPresent && s.dev.isOpen && !s.dev.kin.twCont && !s.dev.ldo6Voted && !s.dev.ldo6Down) = true := by
      simp [hpres, hopen, hcont, hvote, hdown]
    have hdue := (Device.when_true (·.twCycle a b) hmay).trans (Device.twCycle_samples (a := a) (b := b) hduty hproofed)
    by_cases hsame : x = (a, b)
    · obtain ⟨ha, hb, hsynced, htw, hsample, hoff, hst, hbatch, hgrave⟩ :=
        Device.twRests_shows (d := m) hvote hproofed hcont (hx.trans (congrArg some hsame))
      exact ⟨_, State.onClk_meets (f := fun d => (d.twEnable false).twSampled a b) hmeets hdue (hgrave.trans hcalm) hbatch,
        (congrArg (·.time) hbatch).trans (Device.moveTo_time hmeets.1), ha, hb, hsynced, fun _ => ⟨htw, hsample, hoff, hst⟩,
        fun hne => absurd hsame hne⟩
    · obtain ⟨ha, hb, hsynced, htw, hstop, hon, hbatch, hgrave⟩ := Device.twReturns_shows (d := m) hvote hproofed hx hsame
      have hnow := congrArg (·.time) hbatch
      exact ⟨_, State.onClk_meets (f := fun d => (d.twEnable false).twSampled a b) hmeets hdue (hgrave.trans hcalm) hbatch,
        hnow.trans (Device.moveTo_time hmeets.1), ha, hb, hsynced, fun heq => absurd heq hsame,
        fun _ => ⟨htw, hstop.trans hnow.symm, hon⟩⟩

end Sys2Proof.Machine

/-! PROOFS. Keepers fail and return (R157, R168, R176, R190 to R196, R219, R227). -/
namespace Sys2Proof.Machine

/-! ### One keeper of the two -/

theorem otherKeeper_ne (k : Keeper) : otherKeeper k ≠ k := by cases k <;> decide

theorem Device.keeper_updKeeper_same (d : Device) (k : Keeper) (f : KeeperState → KeeperState) :
    (d.updKeeper k f).keeper k = f (d.keeper k) := by cases k <;> rfl

theorem Device.keeper_updKeeper_other (d : Device) (k : Keeper) (f : KeeperState → KeeperState) :
    (d.updKeeper k f).keeper (otherKeeper k) = d.keeper (otherKeeper k) := by cases k <;> rfl

/-- `e` is `d` but for the images' records, the requests, the watchdogs, the digest engine, and what messages change, none of them
Grave. -/
def Device.RestartMoved (d e : Device) : Prop :=
  (∃ images reqs wd dig rooms burst faults, e = { d with
      images := images, reqs := reqs, wd := wd, dig := dig, rooms := rooms, burst := burst, faults := faults }) ∧
    e.faults.graveDue = d.faults.graveDue

section
variable {d e t : Device} {k : Keeper}

theorem Device.RestartMoved.refl (d : Device) : d.RestartMoved d := ⟨⟨_, _, _, _, _, _, _, rfl⟩, rfl⟩

theorem Device.RestartMoved.of_eq (h : e = d) : d.RestartMoved e := h ▸ .refl d

theorem Device.RestartMoved.trans (h : d.RestartMoved e) (h' : e.RestartMoved t) : d.RestartMoved t := by
  obtain ⟨⟨_, _, _, _, _, _, _, rfl⟩, hg⟩ := h
  obtain ⟨⟨_, _, _, _, _, _, _, rfl⟩, hg'⟩ := h'
  exact ⟨⟨_, _, _, _, _, _, _, rfl⟩, hg'.trans hg⟩

theorem Device.RestartMoved.frame (h : d.RestartMoved e) : e.keepers = d.keepers ∧ e.batch = d.batch ∧ e.power = d.power ∧
    e.nvm = d.nvm ∧ e.ckpt0 = d.ckpt0 ∧ e.ckpt1 = d.ckpt1 := by
  obtain ⟨⟨_, _, _, _, _, _, _, rfl⟩, -⟩ := h
  exact ⟨rfl, rfl, rfl, rfl, rfl, rfl⟩

theorem Device.RestartMoved.keeper (h : d.RestartMoved e) (j : Keeper) : e.keeper j = d.keeper j := congrArg (·.get j) h.frame.1

theorem Device.raise_restart (d : Device) {a b q : Nat} (h : (kindClasses (a % 256) (b % 256) 0).1 ≠ 4) :
    d.RestartMoved (d.raise (coded a b q)) :=
  ⟨⟨_, _, _, _, _, _, _, (d.raise_same _).eq⟩, d.raise_coded_grave a b q h⟩

theorem Device.updImages_restart (d : Device) (f : Images → Images) : d.RestartMoved (d.updImages f) := ⟨⟨_, _, _, _, _, _, _, rfl⟩, rfl⟩

theorem Device.recordVerdict_restart (d : Device) (n v : Nat) : d.RestartMoved (d.recordVerdict n v) := ⟨⟨_, _, _, _, _, _, _, rfl⟩, rfl⟩

theorem Device.updKwd_restart (d : Device) (k : Keeper) (f : KeeperWd → KeeperWd) : d.RestartMoved (d.updKwd k f) :=
  ⟨⟨_, _, _, _, _, _, _, rfl⟩, rfl⟩

theorem Device.updDig_restart (d : Device) (f : Digest → Digest) : d.RestartMoved (d.updDig f) := ⟨⟨_, _, _, _, _, _, _, rfl⟩, rfl⟩

theorem Device.complete_restart (d : Device) (id : ReqId) (st : Nat) (l : List Byte) : d.RestartMoved (d.complete id st l) := by
  obtain ⟨q, hq⟩ := d.complete_eq id st l false false
  rw [hq]
  exact ⟨⟨_, _, _, _, _, _, _, rfl⟩, rfl⟩

theorem Device.closeOver_restart (d : Device) (k : Keeper) (v : Nat) : d.RestartMoved (d.closeOver k v) := by
  unfold Device.closeOver
  split
  · refine Device.ite_along ?_ (.refl d)
    dsimp only
    split
    · exact (d.updImages_restart _).trans (Device.complete_restart _ _ _ _)
    · exact d.updImages_restart _
  · exact .refl d

theorem Device.abortOver_restart (d : Device) (k : Keeper) : d.RestartMoved (d.abortOver k) := by
  unfold Device.abortOver
  refine Device.ite_along ?_ (.refl d)
  dsimp only
  split
  · exact (d.updImages_restart _).trans (Device.complete_restart _ _ _ _)
  · exact d.updImages_restart _

theorem Device.digDone_restart (d : Device) : d.RestartMoved d.digDone :=
  Device.when_along (R := Device.RestartMoved) (.refl _) (d.updDig_restart _)

theorem Device.engineAsk_restart (d : Device) : d.RestartMoved d.engineAsk :=
  Device.when_along (R := Device.RestartMoved) (.refl _) (d.updDig_restart _)

theorem Device.bootSlots_restart (d : Device) (k : Keeper) (l : List (Nat × Bool)) : d.RestartMoved (d.bootSlots k l).2 := by
  induction l generalizing d with
  | nil => exact d.raise_restart (by decide)
  | cons a l ih =>
    unfold Device.bootSlots
    dsimp only
    split
    · exact d.recordVerdict_restart _ _
    · refine Device.RestartMoved.trans ?_ (ih _)
      have htried := (d.recordVerdict_restart a.1 (d.imgVerdict a.1)).trans
        (Device.raise_restart _ (a := 3) (b := 1) (q := 256 * a.1 + d.imgVerdict a.1) (by decide))
      exact htried.trans (Device.when_along (R := Device.RestartMoved) (.refl _) (Device.updImages_restart _ _))

/-! ### A failure (R176, R190 to R194) -/

theorem Device.keeper_coldFix (d : Device) (j : Keeper) : d.coldFix.keeper j = d.keeper j := by cases j <;> rfl

/-- The device with a failure's time kept. -/
def Device.failTimed (d : Device) (k : Keeper) : Device :=
  (d.updKeeper k fun s => { s with failTimes := (d.now :: s.failTimes).take 3 }).updImages (·.setTrial k false)

theorem Device.failTimed_keeper (d : Device) (k : Keeper) :
    (d.failTimed k).keeper k = { d.keeper k with failTimes := (d.now :: (d.keeper k).failTimes).take 3 } :=
  d.keeper_updKeeper_same k fun s => { s with failTimes := (d.now :: s.failTimes).take 3 }

theorem Device.failRecord_moved (cause : Nat) (h : (d.keeper (otherKeeper k)).role ≠ .quarantined) :
    (d.failTimed k).RestartMoved (d.failRecord k cause) := by
  have hone := (d.failTimed k).raise_restart (a := 2) (b := 7) (q := 256 * keeperCode k + cause) (by decide)
  have htwo := ((d.failTimed k).raise (coded 2 7 (256 * keeperCode k + cause))).raise_restart (a := 2) (b := 8) (q := keeperCode k) (by decide)
  have hother : ((((d.failTimed k).raise (coded 2 7 (256 * keeperCode k + cause))).raise (coded 2 8 (keeperCode k))).keeper
      (otherKeeper k)).role ≠ .quarantined := by
    rw [(hone.trans htwo).keeper]
    have hkeep := d.keeper_updKeeper_other k fun s => { s with failTimes := (d.now :: s.failTimes).take 3 }
    exact ne_of_eq_of_ne (congrArg (·.role) hkeep) h
  unfold Device.failRecord
  refine Device.ite_along ?_ hone
  refine Device.RestartMoved.trans (hone.trans htwo) ?_
  exact Device.RestartMoved.of_eq (Device.when_false _ (decide_eq_false hother))

theorem KeeperState.thirdFailure_soon {s : KeeperState} {now : Nat} {l : List Nat} (h : s.failTimes = (now :: l).take 3) :
    (∀ a b r, l = a :: b :: r → b + 86400000000 < now) → s.thirdFailure = false := by
  intro hold
  unfold KeeperState.thirdFailure
  rw [h]
  rcases l with _ | ⟨a, _ | ⟨b, r⟩⟩
  · rfl
  · rfl
  · have := hold a b r rfl
    simp
    omega

theorem KeeperState.thirdFailure_late {s : KeeperState} {now a b : Nat} {r : List Nat} (h : s.failTimes = (now :: a :: b :: r).take 3)
    (hb : now ≤ b + 86400000000) : s.thirdFailure = true := by
  unfold KeeperState.thirdFailure
  rw [h]
  simpa using hb

/-- A quarantined keeper is off (R193). -/
theorem Device.quarantine_shows (d : Device) (k : Keeper) : ((d.quarantine k).keeper k).role = .quarantined ∧
    ((d.quarantine k).keeper k).powered = false ∧ ((d.quarantine k).keeper k).failTimes = (d.keeper k).failTimes ∧
    (d.quarantine k).power = d.power := by
  set q := d.updKeeper k fun s => { s with
    role := .quarantined, offUse := .nothing, slot := none, image := [], hot := none, powered := false, halted := false } with hq
  have hmoved : q.coldFix.RestartMoved (d.quarantine k) :=
    ((q.coldFix.updKwd_restart k _).trans (Device.closeOver_restart _ k noVerdict)).trans (Device.abortOver_restart _ k)
  rw [hmoved.keeper, Device.keeper_coldFix, Device.keeper_updKeeper_same]
  exact ⟨rfl, rfl, rfl, hmoved.frame.2.2.1⟩

/-- A restart puts the keeper OFFLINE, restarting (R191). -/
theorem Device.keeperRestart_shows (d : Device) (k : Keeper) : ((d.keeperRestart k).keeper k).role = .offline ∧
    ((d.keeperRestart k).keeper k).offUse = .restarting ∧ ((d.keeperRestart k).keeper k).failTimes = (d.keeper k).failTimes ∧
    (d.keeperRestart k).power = d.power := by
  set q := d.updKeeper k fun s => { s with
    role := .offline, offUse := .restarting, slot := none, image := [], hot := none, powered := true } with hq
  have hmoved : q.coldFix.RestartMoved (d.keeperRestart k) := (q.coldFix.updKwd_restart k _).trans (Device.engineAsk_restart _)
  rw [hmoved.keeper, Device.keeper_coldFix, Device.keeper_updKeeper_same]
  exact ⟨rfl, rfl, rfl, hmoved.frame.2.2.1⟩

/-! ### The way back to standby (R157, R168, R191, R219) -/

/-- What a keeper's image and use say of the pair. -/
theorem Device.coldPair_congr (h : ∀ j, (e.keeper j).runs = (d.keeper j).runs ∧ (e.keeper j).image = (d.keeper j).image) :
    e.coldPair = d.coldPair := by
  have hrun (j : Keeper) : e.runHeader j = d.runHeader j := by
    rw [Device.runHeader, Device.runHeader, (h j).1, (h j).2]
  rw [Device.coldPair, Device.coldPair, hrun, hrun]

/-- A change of one keeper that keeps what it runs keeps the pair. -/
theorem Device.coldPair_updKeeper {f : KeeperState → KeeperState} (h : (f (d.keeper k)).runs = (d.keeper k).runs ∧
    (f (d.keeper k)).image = (d.keeper k).image) : (d.updKeeper k f).coldPair = d.coldPair := by
  refine Device.coldPair_congr fun j => ?_
  by_cases hj : j = k
  · rw [hj, Device.keeper_updKeeper_same]
    exact h
  · have hother : j = otherKeeper k := by
      revert hj
      cases j <;> cases k <;> decide
    rw [hother, Device.keeper_updKeeper_other]
    exact ⟨rfl, rfl⟩

/-- What a hot copy read by an absorbing keeper makes of it. -/
theorem Device.hotRead_shows (h : (d.keeper k).offUse = .absorbing) : ∃ x : KeeperState,
    ((d.hotRead k).keeper k = x ∧ (d.hotRead k).batch = d.batch ∧ (d.hotRead k).faults.graveDue = d.faults.graveDue) ∧
    ((d.ckpt d.keepers.ckptBuffer).verifies = true → x = { d.keeper k with
      hot := some (d.ckpt d.keepers.ckptBuffer).batch, role := .standbyHot, offUse := .nothing }) ∧
    ((d.ckpt d.keepers.ckptBuffer).verifies = false → x = { d.keeper k with hot := none }) := by
  by_cases hv : (d.ckpt d.keepers.ckptBuffer).verifies = true
  · set r := d.updKeeper k fun s => { s with hot := some (d.ckpt d.keepers.ckptBuffer).batch } with hr
    have huse : (r.keeper k).offUse = .absorbing := by
      rw [hr, Device.keeper_updKeeper_same]
      exact h
    have heq : d.hotRead k = (r.updKeeper k fun s => { s with role := .standbyHot, offUse := .nothing }).closeOver k 0 :=
      (if_pos hv).trans (if_pos huse)
    have hmoved := (r.updKeeper k fun s => { s with role := .standbyHot, offUse := .nothing }).closeOver_restart k 0
    refine ⟨_, ⟨rfl, ?_, ?_⟩, fun _ => ?_, fun hno => absurd hv (by simp [hno])⟩
    · rw [heq]
      exact hmoved.frame.2.1
    · rw [heq]
      exact hmoved.2
    · rw [heq, hmoved.keeper, Device.keeper_updKeeper_same, hr, Device.keeper_updKeeper_same]
  · set r := d.updKeeper k fun s => { s with hot := none } with hr
    have heq : d.hotRead k = r.raise (coded 2 6 (keeperCode k)) := if_neg hv
    have hmoved : r.RestartMoved (r.raise (coded 2 6 (keeperCode k))) := r.raise_restart (by decide)
    refine ⟨_, ⟨rfl, ?_, ?_⟩, fun hyes => absurd hyes hv, fun _ => ?_⟩
    · rw [heq]
      exact hmoved.frame.2.1
    · rw [heq]
      exact hmoved.2
    · rw [heq, hmoved.keeper, hr, Device.keeper_updKeeper_same]

/-- A keeper about to enter its standby role: powered, with its first hot copy to read. -/
def KeeperState.absorbs (x : KeeperState) : KeeperState := { x with offUse := .absorbing, powered := true }

/-- What a keeper is in its standby role, with the pair cold or not and a committed checkpoint. -/
def KeeperState.joined (x : KeeperState) (cold : Bool) (c : Ckpt) (y : KeeperState) : Prop :=
  (y.powered = x.powered ∧ y.slot = x.slot ∧ y.image = x.image ∧ y.romOk = x.romOk) ∧
  (cold = true → y.role = .standbyCold ∧ y.offUse = .nothing) ∧
  (cold = false → c.verifies = true → y.role = .standbyHot ∧ y.offUse = .nothing ∧ y.hot = some c.batch) ∧
  (cold = false → c.verifies = false → y.role = x.role ∧ y.offUse = x.offUse)

/-- A keeper that absorbs its first copy and has joined enters its standby role as the pair and the checkpoint say. -/
theorem Device.Joins.of_joined {x : KeeperState} {cold : Bool} (h : x.absorbs.joined cold (d.ckpt d.keepers.ckptBuffer) (e.keeper k))
    (hrole : x.role = (d.keeper k).role) : d.Joins cold k e := by
  obtain ⟨-, hc, hhot, hwait⟩ := h
  exact ⟨hc, hhot, fun hno hv => ⟨(hwait hno hv).1.trans hrole, (hwait hno hv).2⟩⟩

theorem Ckpt.mark_of_verifies {c : Ckpt} (h : c.verifies = true) : c.mark = 0xA5 :=
  of_decide_eq_true ((Bool.and_eq_true _ _).mp h).1

theorem Device.enterStandby_shows (d : Device) (k : Keeper) :
    (d.keeper k).absorbs.joined (d.updKeeper k KeeperState.absorbs).coldPair (d.ckpt d.keepers.ckptBuffer) ((d.enterStandby k).keeper k) ∧
    (d.enterStandby k).batch = d.batch ∧ (d.enterStandby k).faults.graveDue = d.faults.graveDue := by
  set w := (d.updKeeper k KeeperState.absorbs).wdEnter k with hw
  have hwk : w.keeper k = (d.keeper k).absorbs := d.keeper_updKeeper_same k KeeperState.absorbs
  have hcold : w.coldPair = (d.updKeeper k KeeperState.absorbs).coldPair := rfl
  rw [← hcold]
  set c := w.updKeepers fun x => { x with cold := w.coldPair } with hc
  have hck : c.keeper k = (d.keeper k).absorbs := by
    rw [← hwk, hc]
    cases k <;> rfl
  have hckpt : c.ckpt c.keepers.ckptBuffer = d.ckpt d.keepers.ckptBuffer := by
    rw [hc, hw]
    cases k <;> rfl
  have heq : d.enterStandby k = if w.coldPair = true then
      (c.updKeeper k fun s => { s with role := .standbyCold, offUse := .nothing }).closeOver k 0
    else c.when (decide ((c.ckpt c.keepers.ckptBuffer).mark = 0xA5)) (·.hotRead k) := rfl
  rw [heq]
  by_cases hpair : w.coldPair = true
  · rw [if_pos hpair]
    have hmoved := (c.updKeeper k fun s => { s with role := .standbyCold, offUse := .nothing }).closeOver_restart k 0
    rw [hmoved.keeper, Device.keeper_updKeeper_same, hck]
    exact ⟨⟨⟨rfl, rfl, rfl, rfl⟩, fun _ => ⟨rfl, rfl⟩, fun h => absurd hpair (by simp [h]), fun h => absurd hpair (by simp [h])⟩,
      hmoved.frame.2.1, hmoved.2⟩
  · rw [if_neg hpair]
    obtain ⟨x, ⟨hx, hbatch, hgrave⟩, hyes, hno⟩ := Device.hotRead_shows (d := c) (k := k) (congrArg (·.offUse) hck)
    rw [hckpt, hck] at hyes hno
    rw [hckpt]
    by_cases hmark : (d.ckpt d.keepers.ckptBuffer).mark = 0xA5
    · rw [Device.when_true _ (decide_eq_true hmark), hx]
      refine ⟨⟨?_, fun h => absurd h hpair, fun _ hv => ?_, fun _ hv => ?_⟩, hbatch, hgrave⟩
      · cases hv : (d.ckpt d.keepers.ckptBuffer).verifies
        · rw [hno hv]
          exact ⟨rfl, rfl, rfl, rfl⟩
        · rw [hyes hv]
          exact ⟨rfl, rfl, rfl, rfl⟩
      · rw [hyes hv]
        exact ⟨rfl, rfl, rfl⟩
      · rw [hno hv]
        exact ⟨rfl, rfl⟩
    · rw [Device.when_false _ (decide_eq_false hmark), hck]
      exact ⟨⟨⟨rfl, rfl, rfl, rfl⟩, fun h => absurd h hpair, fun _ hv => absurd (Ckpt.mark_of_verifies hv) hmark, fun _ _ => ⟨rfl, rfl⟩⟩,
        rfl, rfl⟩

/-! ### A restart and a self-test that end (R191, R196, R213, R214) -/

/-- The device with a slot's image loaded and its ROM good. -/
def Device.imageLoaded (d : Device) (k : Keeper) (n : Nat) : Device := (d.loadImage k n).updKeeper k fun x => { x with romOk := true }

/-- The device with a keeper switched off, for which no image stands. -/
def Device.keeperIdle (d : Device) (k : Keeper) : Device :=
  (d.updKeeper k fun x => { x with offUse := .nothing, powered := false, slot := none, image := [] }).coldFix

/-- A restart that ends, once its slots have been tried: the keeper enters its standby role, or stays off. -/
theorem Device.restartEnd_moved (huse : (d.keeper k).offUse = .restarting) (hidle : d.engineIdle = true) :
    (match (d.bootSlots k (d.bootOrder k true)).1 with
      | some n => ((d.bootSlots k (d.bootOrder k true)).2.imageLoaded k n).enterStandby k
      | none => (d.bootSlots k (d.bootOrder k true)).2.keeperIdle k).RestartMoved (d.restartEnd k) := by
  unfold Device.restartEnd
  rw [if_pos ⟨huse, hidle⟩]
  dsimp only
  have hend (e : Device) : e.RestartMoved (e.abortOver k).digDone := (e.abortOver_restart k).trans (Device.digDone_restart _)
  have hclose (e : Device) (o : Option Nat) : e.RestartMoved (match o with | some v => e.closeOver k v | none => e) := by
    cases o with
    | none => exact .refl e
    | some v => exact e.closeOver_restart k v
  cases (d.bootSlots k (d.bootOrder k true)).1 with
  | some n => exact (hclose _ _).trans (hend _)
  | none =>
    refine Device.RestartMoved.trans ?_ ((hclose _ _).trans (hend _))
    exact Device.updKwd_restart _ _ _

section
variable {b : Device} {n : Nat}

/-- A loaded image comes from NVM as it was before the slots were tried. -/
theorem Device.RestartMoved.loaded_keeper (h : d.RestartMoved b) (k : Keeper) (n : Nat) : (b.imageLoaded k n).keeper k = { d.keeper k with
    slot := some n, image := d.nvmRead (slotBase n) (256 + imgBody (d.slotHeader n)), romOk := true } := by
  have hread (a m : Nat) : b.nvmRead a m = d.nvmRead a m := by rw [Device.nvmRead, Device.nvmRead, h.frame.2.2.2.1]
  rw [Device.imageLoaded, Device.loadImage, Device.keeper_updKeeper_same, Device.keeper_updKeeper_same, h.keeper, Device.slotHeader,
    Device.slotHeader, hread, hread]

theorem Device.RestartMoved.loaded_ckpt (h : d.RestartMoved b) (k : Keeper) (n : Nat) :
    (b.imageLoaded k n).ckpt (b.imageLoaded k n).keepers.ckptBuffer = d.ckpt d.keepers.ckptBuffer := by
  obtain ⟨hkeepers, -, -, -, hc0, hc1⟩ := h.frame
  have hbuf : (b.imageLoaded k n).keepers.ckptBuffer = d.keepers.ckptBuffer := by
    rw [← hkeepers]
    cases k <;> rfl
  rw [hbuf, Device.ckpt, Device.ckpt]
  exact ite_congr rfl (fun _ => hc1) fun _ => hc0

theorem Device.RestartMoved.loaded_cold (h : d.RestartMoved b) (huse : (d.keeper k).offUse = .restarting) :
    ((b.imageLoaded k n).updKeeper k KeeperState.absorbs).coldPair = (d.loadImage k n).coldPair := by
  refine Device.coldPair_congr fun j => ?_
  by_cases hj : j = k
  · rw [hj, Device.keeper_updKeeper_same, h.loaded_keeper, Device.loadImage, Device.keeper_updKeeper_same]
    simp [KeeperState.absorbs, KeeperState.runs, huse]
  · have hother : j = otherKeeper k := by
      revert hj
      cases j <;> cases k <;> decide
    rw [hother, Device.keeper_updKeeper_other, Device.imageLoaded, Device.loadImage, Device.loadImage, Device.keeper_updKeeper_other,
      Device.keeper_updKeeper_other, Device.keeper_updKeeper_other, h.keeper]
    exact ⟨rfl, rfl⟩

end

/-- A restart with an image that verifies. -/
theorem Device.restartEnd_loads {n : Nat} (huse : (d.keeper k).offUse = .restarting) (hidle : d.engineIdle = true)
    (hn : (d.bootSlots k (d.bootOrder k true)).1 = some n) :
    ((d.restartEnd k).keeper k).slot = some n ∧
    ((d.restartEnd k).keeper k).image = d.nvmRead (slotBase n) (256 + imgBody (d.slotHeader n)) ∧
    ((d.restartEnd k).keeper k).powered = true ∧ ((d.restartEnd k).keeper k).romOk = true ∧
    d.Joins (d.loadImage k n).coldPair k (d.restartEnd k) ∧ (d.restartEnd k).batch = d.batch ∧
    (d.restartEnd k).faults.graveDue = d.faults.graveDue := by
  have hmoved := Device.restartEnd_moved huse hidle
  rw [hn] at hmoved
  dsimp only at hmoved
  have hboot := d.bootSlots_restart k (d.bootOrder k true)
  generalize (d.bootSlots k (d.bootOrder k true)).2 = b at hmoved hboot
  have hstands := (b.imageLoaded k n).enterStandby_shows k
  rw [hboot.loaded_ckpt, hboot.loaded_keeper, hboot.loaded_cold huse] at hstands
  rw [← hmoved.keeper] at hstands
  generalize d.nvmRead (slotBase n) (256 + imgBody (d.slotHeader n)) = image at hstands ⊢
  obtain ⟨hjoined, hbatch, hgrave⟩ := hstands
  obtain ⟨hpow, hslot, himg, hrom⟩ := hjoined.1
  exact ⟨hslot, himg, hpow, hrom, .of_joined hjoined rfl, hmoved.frame.2.1.trans (hbatch.trans hboot.frame.2.1),
    hmoved.2.trans (hgrave.trans hboot.2)⟩

/-- A restart with no image that verifies. -/
theorem Device.restartEnd_empty (huse : (d.keeper k).offUse = .restarting) (hidle : d.engineIdle = true)
    (hn : (d.bootSlots k (d.bootOrder k true)).1 = none) :
    ((d.restartEnd k).keeper k).slot = none ∧ ((d.restartEnd k).keeper k).offUse = .nothing ∧
    ((d.restartEnd k).keeper k).powered = false ∧ (d.restartEnd k).batch = d.batch ∧
    (d.restartEnd k).faults.graveDue = d.faults.graveDue := by
  have hmoved := Device.restartEnd_moved huse hidle
  rw [hn] at hmoved
  dsimp only at hmoved
  have hboot := d.bootSlots_restart k (d.bootOrder k true)
  generalize (d.bootSlots k (d.bootOrder k true)).2 = b at hmoved hboot
  rw [hmoved.keeper, Device.keeperIdle, Device.keeper_coldFix, Device.keeper_updKeeper_same]
  exact ⟨rfl, rfl, rfl, hmoved.frame.2.1.trans hboot.frame.2.1, hmoved.2.trans hboot.2⟩

theorem Device.restartEnd_waits (h : d.engineIdle = false) : d.restartEnd k = d := if_neg fun hboth => by simp [h] at hboth

theorem Device.restartDone_runs {b : Bool} (hopen : d.isOpen = true) (huse : (d.keeper k).offUse = .restarting)
    (hpairs : d.keeperPairs k = false) :
    d.restartDone k b = if b then d.restartEnd k else d.keeperFail k 5 (StartSense.plain d) := by
  rw [Device.restartDone, if_pos ⟨hopen, huse⟩, if_neg (by simp [hpairs])]

theorem Device.restartDone_not {b : Bool} (huse : (d.keeper k).offUse ≠ .restarting) : d.restartDone k b = d :=
  if_neg fun hboth => huse hboth.2

theorem Device.selfTestAsk_due (hfn : d.fn Fld.kprSelftest ≠ 0) (hdue : d.keepers.selfTestDue ≤ d.now) :
    d.selfTestAsk.keepers.selfTestWanted = true ∧ d.selfTestAsk.batch = d.batch ∧ d.selfTestAsk.faults = d.faults := by
  have hask : (decide (d.fn Fld.kprSelftest ≠ 0) && decide (d.keepers.selfTestDue ≤ d.now)) = true := by simp [hfn, hdue]
  unfold Device.selfTestAsk
  rw [hask]
  exact ⟨Device.when_keeps (·.keepers.selfTestWanted) rfl, Device.when_keeps (·.batch) rfl, Device.when_keeps (·.faults) rfl⟩

theorem Device.testedKeeper_use (h : d.testedKeeper = some k) : (d.keeper k).offUse = .selfTest := by
  unfold Device.testedKeeper at h
  split at h
  · rename_i ha
    cases h
    exact ha
  · split at h
    · rename_i hb
      cases h
      exact hb
    · cases h

theorem Device.selfTestEnds_passes {ss : StartSense} (h : d.testedKeeper = some k) (hin : d.now ≤ d.keepers.selfTestStart + 50000) :
    d.selfTestEnds true ss = d.enterStandby k := by
  simp only [Device.selfTestEnds, h, hin, decide_true, Bool.and_self, if_true]

theorem Device.selfTestEnds_fails {pass : Bool} {ss : StartSense} (h : d.testedKeeper = some k)
    (hnot : (pass && decide (d.now ≤ d.keepers.selfTestStart + 50000)) = false) : d.selfTestEnds pass ss = d.keeperFail k 4 ss := by
  simp only [Device.selfTestEnds, h, hnot, Bool.false_eq_true, if_false]

theorem Device.selfTestEnds_none {pass : Bool} {ss : StartSense} (h : d.testedKeeper = none) : d.selfTestEnds pass ss = d := by
  simp only [Device.selfTestEnds, h]

/-! ### A failure while the device serves (R176, R191, R193) -/

/-- A failure off the escalation ladder: its time is kept, and the keeper's role decides what follows. -/
theorem Device.keeperFail_serving {cause : Nat} {ss : StartSense} (hcalm : d.Calm) (hcaught : d.Caught) (hopen : d.isOpen = true)
    (hladder : d.ladderTwo k = false) (hother : (d.keeper (otherKeeper k)).role ≠ .quarantined)
    (hrole : (d.keeper k).role ≠ .quarantined ∧ (d.keeper k).role ≠ .offline) :
    d.keeperFail k cause ss = if d.activeKeeper = some k then (d.failRecord k cause).updKeepers fun x => { x with hwTakeover := true }
      else (d.failRecord k cause).failAway k := by
  have hmoved := Device.failRecord_moved cause hother
  have hgrave : (d.failRecord k cause).faults.graveDue = none := hmoved.2.trans hcalm
  have hladder' : (d.failRecord k cause).ladderTwo k = false := by
    have hkeep := (hmoved.keeper (otherKeeper k)).trans (d.keeper_updKeeper_other k fun s => { s with failTimes := (d.now :: s.failTimes).take 3 })
    rw [← hladder, Device.ladderTwo, Device.ladderTwo, hkeep, show (d.failRecord k cause).now = d.now from congrArg (·.time) hmoved.frame.2.1]
  have hopen' : (d.failRecord k cause).isOpen = true := (congrArg (fun p : Power => decide (p.phase = .open)) hmoved.frame.2.2.1).trans hopen
  have hgone : ¬ ((d.keeper k).role = .quarantined ∨ ((d.keeper k).role = .offline ∧ (d.keeper k).offUse = .nothing)) := by
    rintro (h | h)
    · exact hrole.1 h
    · exact hrole.2 h.1
  unfold Device.keeperFail
  rw [Device.catchUp_same hcaught.1 hcaught.2]
  dsimp only
  rw [if_neg hgone, if_neg (by simp [hgrave]), if_neg (by simp [hladder', hopen'])]
  exact ite_congr (by simp) (fun _ => rfl) fun _ => rfl

theorem Device.failRecord_keeper {cause : Nat} (hother : (d.keeper (otherKeeper k)).role ≠ .quarantined) :
    (d.failRecord k cause).keeper k = { d.keeper k with failTimes := (d.now :: (d.keeper k).failTimes).take 3 } :=
  ((Device.failRecord_moved cause hother).keeper k).trans (d.failTimed_keeper k)

theorem Device.failRecord_power {cause : Nat} (hother : (d.keeper (otherKeeper k)).role ≠ .quarantined) :
    (d.failRecord k cause).power = d.power := (Device.failRecord_moved cause hother).frame.2.2.1

theorem Role.able_stands {r : Role} (h : r.able = true) : r ≠ .quarantined ∧ r ≠ .offline := by
  revert h
  cases r <;> decide

end

theorem exec_keeperRestartDone (k : Keeper) (b : Bool) (s : State) : exec (.keeperRestartDone k b) s = s.onClk (·.restartDone k b) := rfl
theorem exec_selfTestDue (s : State) : exec .selfTestDue s =
    s.onClk fun d => d.when (d.isOpen && decide (d.fn Fld.kprSelftest ≠ 0)) fun d => d.dueAt d.keepers.selfTestDue (·.selfTestAsk) := rfl
theorem exec_selfTestResult (pass : Bool) (ss : StartSense) (s : State) : exec (.selfTestResult pass ss) s =
    s.onClk fun d => d.when d.isOpen (·.selfTestEnds pass ss) := rfl

/-- Settles O34: a failure by what its record leaves, a restart and a self-test by how the keeper enters its standby role. -/
theorem keepersFailAndReturn : Obligations.KeepersFailAndReturn := by
  unfold Obligations.KeepersFailAndReturn
  refine ⟨fun d k cause ss hcalm hcaught hopen hladder hother => ⟨fun hact hrole hable => ?_, fun hact hable => ?_⟩,
    fun s k hcalm hopen => ?_⟩
  · have hrec := Device.failRecord_keeper (d := d) (cause := cause) hother
    have heq := (Device.keeperFail_serving (cause := cause) (ss := ss) hcalm hcaught hopen hladder hother (by simp [hrole])).trans (if_pos hact)
    have hkeep : (d.keeperFail k cause ss).keeper k = (d.failRecord k cause).keeper k := by
      rw [heq]
      cases k <;> rfl
    rw [hkeep, hrec]
    refine ⟨by rw [heq]; rfl, rfl, hrole, ?_⟩
    rw [heq]
    exact Device.failRecord_power hother
  · have hrec := Device.failRecord_keeper (d := d) (cause := cause) hother
    have hpow := Device.failRecord_power (d := d) (cause := cause) hother
    have hne : d.activeKeeper ≠ some k := fun h => otherKeeper_ne k (Option.some.inj (hact.symm.trans h))
    have htimes := congrArg (·.failTimes) hrec
    rw [(Device.keeperFail_serving (cause := cause) (ss := ss) hcalm hcaught hopen hladder hother (Role.able_stands hable)).trans (if_neg hne)]
    by_cases hthird : ((d.failRecord k cause).keeper k).thirdFailure = true
    · rw [show (d.failRecord k cause).failAway k = (d.failRecord k cause).quarantine k from if_pos hthird]
      obtain ⟨hrole, hoff, hkept, hpower⟩ := (d.failRecord k cause).quarantine_shows k
      refine ⟨hkept.trans htimes, hpower.trans hpow, fun hold => ?_, fun a b l _ _ => ⟨hrole, hoff⟩⟩
      exact absurd hthird (by rw [KeeperState.thirdFailure_soon htimes hold]; decide)
    · rw [show (d.failRecord k cause).failAway k = (d.failRecord k cause).keeperRestart k from if_neg hthird]
      obtain ⟨hrole, huse, hkept, hpower⟩ := (d.failRecord k cause).keeperRestart_shows k
      refine ⟨hkept.trans htimes, hpower.trans hpow, fun _ => ⟨hrole, huse⟩, fun a b l hl hb => ?_⟩
      exact absurd (KeeperState.thirdFailure_late (htimes.trans (by rw [hl])) hb) hthird
  simp only [exec_keeperRestartDone, exec_selfTestDue, exec_selfTestResult]
  refine ⟨fun huse hpairs hidle => ⟨fun n hn => ?_, fun hn => ?_⟩, fun huse hpairs hidle => ?_, fun huse hpairs => ?_,
    fun huse b => State.onClk_same hcalm (Device.restartDone_not huse), fun hfn hcomes => ?_, fun hfn => State.onClk_same hcalm (Device.when_false _ ?_),
    fun ss hk hin => ?_, fun ss hk hlate => ?_, fun ss hk => ?_,
    fun pass ss hk => State.onClk_same hcalm (Device.when_same (Device.selfTestEnds_none hk))⟩
  · obtain ⟨hslot, himage, hpow, hrom, hjoins, hbatch, hgrave⟩ := Device.restartEnd_loads huse hidle hn
    exact ⟨_, State.onClk_put ((Device.restartDone_runs hopen huse hpairs).trans (if_pos rfl)) (hgrave.trans hcalm)
      (congrArg (·.time) hbatch).ge, hslot, himage, hpow, hrom, hjoins⟩
  · obtain ⟨hslot, hoff, hpow, hbatch, hgrave⟩ := Device.restartEnd_empty huse hidle hn
    exact ⟨_, State.onClk_put ((Device.restartDone_runs hopen huse hpairs).trans (if_pos rfl)) (hgrave.trans hcalm)
      (congrArg (·.time) hbatch).ge, hslot, hoff, hpow⟩
  · exact State.onClk_same hcalm (((Device.restartDone_runs hopen huse hpairs).trans (if_pos rfl)).trans (Device.restartEnd_waits hidle))
  · exact State.onClk_of_eq ((Device.restartDone_runs hopen huse hpairs).trans (if_neg (by decide)))
  · have hnow : (s.dev.moveTo s.dev.keepers.selfTestDue).now = s.dev.keepers.selfTestDue := Device.moveTo_now hcomes.1 hcomes.2.1
    obtain ⟨hwanted, hbatch, hfaults⟩ := Device.selfTestAsk_due (d := s.dev.moveTo s.dev.keepers.selfTestDue) hfn hnow.ge
    exact ⟨_, State.onClk_comes (f := (·.selfTestAsk)) hcomes (Device.when_true _ (by simp [hopen, hfn]))
      ((congrArg (·.graveDue) hfaults).trans hcalm) hbatch, hwanted, (congrArg (·.time) hbatch).trans hnow⟩
  · simp [hfn]
  · have huse := Device.testedKeeper_use hk
    obtain ⟨hjoined, hbatch, hgrave⟩ := s.dev.enterStandby_shows k
    have hcold : (s.dev.updKeeper k KeeperState.absorbs).coldPair = (s.dev.updKeeper k fun x => { x with offUse := .absorbing }).coldPair := by
      have htwice : s.dev.updKeeper k KeeperState.absorbs =
          (s.dev.updKeeper k fun x => { x with offUse := .absorbing }).updKeeper k fun x => { x with powered := true } := by
        cases k <;> rfl
      rw [htwice]
      exact Device.coldPair_updKeeper ⟨rfl, rfl⟩
    rw [hcold] at hjoined
    obtain ⟨hpow, hslot, -⟩ := hjoined.1
    exact ⟨_, State.onClk_put ((Device.when_true _ hopen).trans (Device.selfTestEnds_passes hk hin)) (hgrave.trans hcalm)
      (congrArg (·.time) hbatch).ge, hpow, hslot, .of_joined hjoined rfl⟩
  · exact State.onClk_of_eq ((Device.when_true _ hopen).trans (Device.selfTestEnds_fails hk (by simpa using hlate)))
  · exact State.onClk_of_eq ((Device.when_true _ hopen).trans (Device.selfTestEnds_fails hk rfl))

end Sys2Proof.Machine

/-! PROOFS. Memory stays canonical, first part: the shared operations, requests, rails, sequences, the power path, measurement and
the angle engine. Each lemma says of one function of the model that it keeps the canonical form. Only `winWrite`, `nvmWrite` and
`nvmErase` write memory; each other proof follows its function from call to call. -/
namespace Sys2Proof.Machine

/-! ### Branches and folds -/

theorem Device.MemWf.ite {p : Prop} [Decidable p] {d e : Device} (hd : d.MemWf) (he : e.MemWf) : (if p then d else e).MemWf := by
  split
  · exact hd
  · exact he

section
variable {α : Type} {p : Prop} [Decidable p]

theorem Device.MemWf.ite_fst {x y : Device × α} (hx : x.1.MemWf) (hy : y.1.MemWf) : (if p then x else y).1.MemWf := by
  split
  · exact hx
  · exact hy

theorem Device.MemWf.ite_snd {x y : α × Device} (hx : x.2.MemWf) (hy : y.2.MemWf) : (if p then x else y).2.MemWf := by
  split
  · exact hx
  · exact hy

theorem Device.MemWf.foldl {f : Device → α → Device} {l : List α} {d : Device} (h : d.MemWf)
    (hf : ∀ {a : α} {e : Device}, e.MemWf → (f e a).MemWf) : (l.foldl f d).MemWf :=
  List.foldlRecOn (motive := Device.MemWf) l f h fun _ h _ _ => hf h

/-- A fold that carries more than the device. -/
theorem Device.MemWf.foldl_fst {β : Type} {f : Device × β → α → Device × β} {l : List α} {x : Device × β}
    (h : x.1.MemWf) (hf : ∀ {a : α} {y : Device × β}, y.1.MemWf → (f y a).1.MemWf) : (l.foldl f x).1.MemWf :=
  List.foldlRecOn (motive := fun y : Device × β => y.1.MemWf) l f h fun _ h _ _ => hf h

end

/-- A command whose execution and whose replay keep memory canonical. -/
structure Cmd.KeepsMem (c : Cmd) : Prop where
  run : ∀ {d id a}, d.MemWf → (c.run d id a).1.MemWf
  redo : ∀ {f}, c.redo = some f → ∀ {d r a}, d.MemWf → (f d r a).MemWf

theorem Cmd.KeepsMem.run_eq {c : Cmd} {d e : Device} {id : ReqId} {a : List Byte} {ans : Answer} (hc : c.KeepsMem)
    (hx : c.run d id a = (e, ans)) (h : d.MemWf) : e.MemWf := by
  have hrun : (c.run d id a).1.MemWf := hc.run h
  rwa [hx] at hrun

section
variable {d e : Device} {n : RoomId} {k : Keeper} {id : ReqId} {r : RailId} {l : List Byte} {off mv : Nat} {sm : Sample}
  {ss : StartSense}

/-! ### Memory, lists of effects, and the collector (chapter 19) -/

theorem Device.MemWf.updPower {f : Power → Power} (h : d.MemWf) : (d.updPower f).MemWf := h
theorem Device.MemWf.updPins {f : Pins → Pins} (h : d.MemWf) : (d.updPins f).MemWf := h
theorem Device.MemWf.updBatch {f : BatchTimer → BatchTimer} (h : d.MemWf) : (d.updBatch f).MemWf := h
theorem Device.MemWf.updSup {f : Supervisor → Supervisor} (h : d.MemWf) : (d.updSup f).MemWf := h
theorem Device.MemWf.updKeepers {f : Keepers → Keepers} (h : d.MemWf) : (d.updKeepers f).MemWf := h
theorem Device.MemWf.updImages {f : Images → Images} (h : d.MemWf) : (d.updImages f).MemWf := h
theorem Device.MemWf.updRoom {f : RoomRegs → RoomRegs} (h : d.MemWf) : (d.updRoom n f).MemWf := h
theorem Device.MemWf.updLink {f : LinkState → LinkState} (h : d.MemWf) : (d.updLink f).MemWf := h
theorem Device.MemWf.updReqs {f : ReqTable → ReqTable} (h : d.MemWf) : (d.updReqs f).MemWf := h
theorem Device.MemWf.updRails {f : RailBlock → RailBlock} (h : d.MemWf) : (d.updRails f).MemWf := h
theorem Device.MemWf.updPath {f : Path → Path} (h : d.MemWf) : (d.updPath f).MemWf := h
theorem Device.MemWf.updKin {f : Kinetic → Kinetic} (h : d.MemWf) : (d.updKin f).MemWf := h
theorem Device.MemWf.updChg {f : Charger → Charger} (h : d.MemWf) : (d.updChg f).MemWf := h
theorem Device.MemWf.updGaugeHw {f : GaugeHw → GaugeHw} (h : d.MemWf) : (d.updGaugeHw f).MemWf := h
theorem Device.MemWf.updBurst {f : BurstHw → BurstHw} (h : d.MemWf) : (d.updBurst f).MemWf := h
theorem Device.MemWf.updKeys {f : KeyStore → KeyStore} (h : d.MemWf) : (d.updKeys f).MemWf := h
theorem Device.MemWf.updFaults {f : Faults → Faults} (h : d.MemWf) : (d.updFaults f).MemWf := h
theorem Device.MemWf.updWd {f : Watchdogs → Watchdogs} (h : d.MemWf) : (d.updWd f).MemWf := h
theorem Device.MemWf.updSec {f : Security → Security} (h : d.MemWf) : (d.updSec f).MemWf := h
theorem Device.MemWf.updRcp {f : Recipes → Recipes} (h : d.MemWf) : (d.updRcp f).MemWf := h
theorem Device.MemWf.updShadow {f : Targets → Targets} (h : d.MemWf) : (d.updShadow f).MemWf := h
theorem Device.MemWf.updActive {f : Targets → Targets} (h : d.MemWf) : (d.updActive f).MemWf := h
theorem Device.MemWf.updPriv {f : Priv → Priv} (h : d.MemWf) : (d.updPriv f).MemWf := h
theorem Device.MemWf.updGauge {f : Gauge → Gauge} (h : d.MemWf) : (d.updGauge f).MemWf := h
theorem Device.MemWf.updLarder {f : Larder → Larder} (h : d.MemWf) : (d.updLarder f).MemWf := h

theorem Device.MemWf.when {c : Bool} {f : Device → Device} (h : d.MemWf) (hf : ∀ {e : Device}, e.MemWf → (f e).MemWf) :
    (d.when c f).MemWf :=
  .ite (hf h) h

theorem Device.MemWf.free (h : d.MemWf) : d.free.2.MemWf := h
theorem Device.MemWf.freeSkip {n : Nat} (h : d.MemWf) : (d.freeSkip n).MemWf := h

theorem Device.MemWf.each {α : Type} {l : List α} {f : α → Device → Device} (h : d.MemWf)
    (hf : ∀ {x0 : α} {e : Device}, e.MemWf → (f x0 e).MemWf) : (d.each l f).MemWf :=
  .foldl h fun h => hf h

theorem Device.MemWf.nvmWrite {a : Nat} (h : d.MemWf) : (d.nvmWrite a l).MemWf :=
  ⟨h.1, Device.nvmWrite_wf a l h.2⟩

theorem Device.MemWf.nvmErase {a k : Nat} (h : d.MemWf) : (d.nvmErase a k).MemWf :=
  ⟨h.1, Device.nvmErase_wf a k h.2⟩

theorem Device.MemWf.winWrite (h : d.MemWf) : (d.winWrite n off l).MemWf :=
  ⟨Device.winWrite_wf n off l h.1, h.2⟩

theorem Device.MemWf.flagAll {k : Nat} (h : d.MemWf) : (d.flagAll k).MemWf := h

theorem Device.MemWf.ledgerWrite {m : FaultMsg} {isGrave : Bool} (h : d.MemWf) : (d.ledgerWrite m isGrave).MemWf :=
  .updFaults (.nvmWrite (.ite (.nvmErase h) h))

theorem Device.MemWf.ledgerTake {m : FaultMsg} (h : d.MemWf) : (d.ledgerTake m).MemWf :=
  .ite (.updFaults (.ledgerWrite h)) (.updFaults h)

theorem Device.MemWf.record {msg : Word} {cls : Cls} {pair line : Bool} {time : Nat} (h : d.MemWf) :
    (d.record msg cls pair line time).MemWf :=
  .when h fun h => h

theorem Device.MemWf.enterSafeHold (h : d.MemWf) : d.enterSafeHold.MemWf :=
  .ite h (.record h)

theorem Device.MemWf.raiseAs {msg : Word} {pair line : Bool} {time : Nat} (h : d.MemWf) :
    (d.raiseAs msg pair line time).MemWf := by
  unfold Device.raiseAs
  refine .ite ?_ h
  dsimp only
  split
  · exact h
  · exact .enterSafeHold (.record h)
  · exact .record h

theorem Device.MemWf.raise {msg : Word} (h : d.MemWf) : (d.raise msg).MemWf :=
  .raiseAs h

theorem Device.MemWf.raisePair {msg : Word} (h : d.MemWf) : (d.raisePair msg).MemWf :=
  .raiseAs h

theorem Device.MemWf.raiseOn {p : Fin 24} {msg : Word} (h : d.MemWf) : (d.raiseOn p msg).MemWf :=
  .ite h (.raisePair h)

theorem Device.MemWf.ledgerStep (h : d.MemWf) : d.ledgerStep.MemWf := by
  unfold Device.ledgerStep
  split
  · exact h
  · exact .ite (.ledgerTake h) (.raise (.updFaults (.ledgerTake h)))

theorem Device.MemWf.advanceCut (h : d.MemWf) : d.advanceCut.MemWf := by
  unfold Device.advanceCut
  split
  · exact h
  · exact h

/-- POR empties the window RAM and keeps NVM (R113). -/
theorem Device.MemWf.porReset (h : d.MemWf) : d.porReset.MemWf :=
  ⟨rfl, (Device.MemWf.advanceCut h).2⟩

theorem Device.MemWf.gravePath {msg : Word} {pair : Bool} (h : d.MemWf) : (d.gravePath msg pair).MemWf :=
  .porReset (.ledgerWrite h)

theorem Device.MemWf.finish (h : d.MemWf) : d.finish.MemWf := by
  unfold Device.finish
  split
  · exact .gravePath h
  · exact h

/-! ### Device time and bursts (chapters 04, 16) -/

theorem Device.MemWf.moveTo {t : Nat} (h : d.MemWf) : (d.moveTo t).MemWf := h

theorem Device.MemWf.burstPaFail (h : d.MemWf) : d.burstPaFail.MemWf := by
  unfold Device.burstPaFail
  split
  · exact h
  · exact .raise (.when h fun h => h)

theorem Device.MemWf.burstBegin {isFirst : Bool} (h : d.MemWf) : (d.burstBegin isFirst).MemWf :=
  .ite (.burstPaFail h) h

theorem Device.MemWf.burstFinish (h : d.MemWf) : d.burstFinish.MemWf := by
  unfold Device.burstFinish
  split
  · exact h
  · exact h

/-! ### Requests in flight (chapters 07, 09) -/

theorem Device.MemWf.postSlot {bytes : List Byte} {quiet : Bool} (h : d.MemWf) : (d.postSlot n bytes quiet).MemWf :=
  .when (.updRoom (.winWrite h)) fun h => h

theorem Device.MemWf.answer {tag seq : Half} {status cflags : Nat} {result : List Byte} {quiet : Bool} (h : d.MemWf)
    (he : d.answer n tag seq status cflags result quiet = some e) : e.MemWf := by
  unfold Device.answer at he
  dsimp only at he
  split at he
  · exact nomatch he
  · split at he <;> cases he
    · exact .postSlot h
    · exact h

theorem Device.MemWf.postItem {p : PostItem} (h : d.MemWf) : (d.postItem p).MemWf :=
  .updReqs (.postSlot h)

theorem Device.MemWf.postAll (h : d.MemWf) : d.postAll.MemWf := by
  unfold Device.postAll
  refine .each (.foldl_fst h ?_) fun h => .when h fun h => h
  intro _ _ h
  exact .ite_fst h (.postItem h)

theorem Device.MemWf.updRec {f : Rec → Rec} (h : d.MemWf) : (d.updRec id f).MemWf := h
theorem Device.MemWf.releaseBlocks (h : d.MemWf) : d.releaseBlocks.MemWf := h

theorem Device.MemWf.complete {status : Nat} {result : List Byte} {slid dup : Bool} (h : d.MemWf) :
    (d.complete id status result slid dup).MemWf := by
  unfold Device.complete
  split
  · exact h
  · exact h

/-- Intake hands on a device whose memory is canonical. -/
def Taken.MemWf : Taken → Prop
  | .stays => True
  | .answered e => e.MemWf
  | .entered e => e.MemWf

theorem Device.MemWf.take {r : Hdr} (h : d.MemWf) : (d.take cmdOf r).MemWf := by
  have hfair := d.take_fair r
  cases ht : d.take cmdOf r with
  | stays => trivial
  | answered e =>
    rw [ht] at hfair
    obtain ⟨_, _, _, _, _, _, he⟩ := hfair
    exact .answer h he
  | entered e =>
    rw [ht] at hfair
    obtain ⟨rfl, -⟩ := hfair
    exact h

theorem Device.MemWf.execRec {c : Cmd} {r : Rec} (h : d.MemWf) (hc : c.KeepsMem) : (d.execRec c r).MemWf := by
  unfold Device.execRec
  dsimp only
  refine .ite (.complete h) (.ite (.complete h) (.ite (.complete h) ?_))
  split
  next hx => exact .complete (hc.run_eq hx h)
  next hx =>
    have he := hc.run_eq hx h
    exact he
  next hx =>
    have he := hc.run_eq hx h
    exact he
  next hx => exact hc.run_eq hx h

theorem Device.MemWf.execAll {cmds : Nat → Option Cmd} (h : d.MemWf) (hc : ∀ {op c}, cmds op = some c → c.KeepsMem) :
    (d.execAll cmds).MemWf := by
  refine .each h ?_
  intro _ _ h
  split
  next => exact h
  next =>
    refine .ite ?_ h
    split
    next hop => exact .execRec h (hc hop)
    next => exact h

theorem Device.MemWf.eccStep4 (h : d.MemWf) : d.eccStep4.MemWf :=
  .each h fun h => .when h .complete

theorem Device.MemWf.buffer (h : d.MemWf) : (d.buffer n off l).MemWf :=
  .winWrite h

theorem Device.MemWf.discardRecs {p : Rec → Bool} (h : d.MemWf) : (d.discardRecs n p).MemWf := h

/-! ### Rails (chapter 10) -/

theorem Device.MemWf.tripOne {code : Nat} {hot : Bool} (h : d.MemWf) : (d.tripOne r code hot).MemWf :=
  .when (.when (.raiseOn h) .raise) .burstPaFail

theorem Device.MemWf.tripList {fuel : Nat} {l : List (RailId × Nat × Bool)} (h : d.MemWf) :
    (Device.tripList fuel d l).MemWf := by
  induction fuel generalizing d l with
  | zero => exact h
  | succ fuel ih =>
    cases l with
    | nil => exact h
    | cons x rest => exact .ite (ih h) (ih (.tripOne h))

theorem Device.MemWf.trip {code : Nat} {hot : Bool} (h : d.MemWf) : (d.trip r code hot).MemWf :=
  .tripList h

theorem Device.MemWf.tripUnsupplied {before : Device} (h : d.MemWf) : (d.tripUnsupplied before).MemWf :=
  .tripList h

theorem Device.MemWf.railsEdge {t : Nat} (h : d.MemWf) : (d.railsEdge t).MemWf :=
  .tripUnsupplied (.each h fun h => .when h fun h => h)

theorem Device.MemWf.railEdgeOne {t : Nat} (h : d.MemWf) : (d.railEdgeOne t r).MemWf := h

theorem Device.MemWf.releaseHeld (h : d.MemWf) : (d.releaseHeld r).MemWf :=
  .ite h h

theorem Device.MemWf.tripDie (h : d.MemWf) : d.tripDie.MemWf :=
  .foldl h .tripOne

theorem Device.MemWf.railsMeasure (h : d.MemWf) : (d.railsMeasure sm).MemWf := h
theorem Device.MemWf.railsSeen (h : d.MemWf) : d.railsSeen.MemWf := h

/-! ### Votes and sequences (chapter 11) -/

theorem Device.MemWf.updVotes {f : List Vote → List Vote} (h : d.MemWf) : (d.updVotes f).MemWf := h
theorem Device.MemWf.combineRails (h : d.MemWf) : d.combineRails.MemWf := h

theorem Device.MemWf.waitStep {s s' : SeqRun} {st : SeqStep} {t : Nat} {cond atOnce : Bool} (h : d.MemWf)
    (he : s.waitStep d st t cond atOnce = .next e s') : e.MemWf := by
  unfold SeqRun.waitStep at he
  dsimp only at he
  split at he
  · cases he; exact h
  · split at he
    · cases he; exact h
    · split at he <;> exact nomatch he

/-- A sequence's step hands on a device whose memory is canonical. -/
theorem Device.MemWf.seqOne {s s' : SeqRun} {t : Nat} (h : d.MemWf) (he : d.seqOne s t = .next e s') : e.MemWf := by
  unfold Device.seqOne at he
  dsimp only at he
  split at he
  · exact nomatch he
  · split at he <;> cases he <;> exact h
  · cases he; exact h
  · exact h.waitStep he
  · exact h.waitStep he
  · split at he
    · split at he
      · cases he; exact h
      · exact nomatch he
    · exact nomatch he

theorem Device.MemWf.seqFinish {s : SeqRun} {outcome : Nat} (h : d.MemWf) : (d.seqFinish s outcome).MemWf := by
  unfold Device.seqFinish
  dsimp only
  split
  · exact .complete h
  · exact h
  · exact h

theorem Device.MemWf.seqUnwind {s : SeqRun} {outcome : Nat} (h : d.MemWf) : (d.seqUnwind s outcome).MemWf := by
  unfold Device.seqUnwind
  split
  · exact .seqFinish h
  · exact .ite (.seqFinish h) h

theorem Device.MemWf.seqLoop {s : SeqRun} {t fuel : Nat} (h : d.MemWf) : (Device.seqLoop fuel d s t).MemWf := by
  induction fuel generalizing d s with
  | zero => exact h
  | succ fuel ih =>
    unfold Device.seqLoop
    split
    next he => exact ih (h.seqOne he)
    next => exact h
    next => exact .seqFinish h
    next =>
      dsimp only
      split
      · exact ih (.raise h)
      · exact .seqFinish (.raise (.raise h))
      · exact .seqUnwind (.raise (.raise h))

theorem Device.MemWf.seqBatch {t : Nat} (h : d.MemWf) : (d.seqBatch t).MemWf := by
  unfold Device.seqBatch
  split
  · exact h
  · split
    · exact .seqUnwind h
    · exact .seqLoop h

theorem Device.MemWf.seqStop (h : d.MemWf) : d.seqStop.MemWf := by
  unfold Device.seqStop
  split
  · refine .updPriv ?_
    split
    · exact .raise h
    · exact h
  · exact h

theorem Device.MemWf.downBegin (h : d.MemWf) : d.downBegin.MemWf := h
theorem Device.MemWf.holdRails {rails : List RailId} (h : d.MemWf) : (d.holdRails rails).MemWf := h
theorem Device.MemWf.holdRoomVotes (h : d.MemWf) : (d.holdRoomVotes n).MemWf := h
theorem Device.MemWf.holdStart (h : d.MemWf) : d.holdStart.MemWf := h
theorem Device.MemWf.holdEnd (h : d.MemWf) : d.holdEnd.MemWf := h

/-! ### The power path (chapter 12) -/

theorem Device.MemWf.dockLeaves (h : d.MemWf) : d.dockLeaves.MemWf :=
  .ite h h

theorem Device.MemWf.ccLevel {level : Nat} (h : d.MemWf) : (d.ccLevel level).MemWf := by
  unfold Device.ccLevel
  split
  · split
    · exact h
    · exact h
  · exact h
  · exact h
  · exact h

theorem Device.MemWf.priUpdate (h : d.MemWf) : d.priUpdate.MemWf :=
  .ite (.ite h (.raise h)) (.ite h h)

theorem Device.MemWf.fetOpen {cause : Nat} (h : d.MemWf) : (d.fetOpen cause).MemWf :=
  .priUpdate h

theorem Device.MemWf.fetSupply (h : d.MemWf) : d.fetSupply.MemWf := h

theorem Device.MemWf.pulseFinish {p : Pulse} (h : d.MemWf) : (d.pulseFinish p mv).MemWf := by
  unfold Device.pulseFinish
  dsimp only
  split
  · exact .complete (.when h .raise)
  · exact .when h .raise

theorem Device.MemWf.resCheck (h : d.MemWf) : d.resCheck.MemWf :=
  .when h fun h => h

theorem Device.MemWf.resResume (h : d.MemWf) : d.resResume.MemWf :=
  .when h fun h => h

theorem Device.MemWf.resEdge (h : d.MemWf) : d.resEdge.MemWf :=
  .resResume (.when (.resCheck h) fun h => h)

theorem Device.MemWf.pvRegulate (h : d.MemWf) : d.pvRegulate.MemWf := h

theorem cmdPathQuery_keepsMem : cmdPathQuery.KeepsMem :=
  ⟨.buffer, nofun⟩

theorem cmdPvSet_keepsMem : cmdPvSet.KeepsMem :=
  ⟨fun h => h, nofun⟩

theorem cmdDcLimit_keepsMem : cmdDcLimit.KeepsMem :=
  ⟨fun h => h, nofun⟩

theorem cmdPriPulse_keepsMem : cmdPriPulse.KeepsMem :=
  ⟨fun h => .ite_fst h h, nofun⟩

/-! ### Measurement (chapter 17) -/

theorem Device.MemWf.adcTriggerAll {code at_ : Nat} {p : Fin 4 → AdcGroup → Bool} (h : d.MemWf) :
    (d.adcTriggerAll code at_ p).MemWf :=
  .ite (.each h fun h => .when h fun h => h) h

theorem Device.MemWf.freeC (h : d.MemWf) : d.freeC.2.MemWf := h

theorem Device.MemWf.adcStart {g : Fin 4} (h : d.MemWf) : (d.adcStart g).MemWf := by
  unfold Device.adcStart
  dsimp only
  split
  · exact h
  · exact .ite h h

theorem Device.MemWf.adcComplete {g : Fin 4} {codes : List Nat} (h : d.MemWf) : (d.adcComplete g codes).MemWf := by
  unfold Device.adcComplete
  dsimp only
  split
  · exact h
  · exact .ite h (.ite (.adcTriggerAll (.raise h)) h)

theorem Device.MemWf.adcOverlaps (h : d.MemWf) : d.adcOverlaps.MemWf :=
  .each h fun h => .ite h (.raise h)

theorem Device.MemWf.adcStep10 (h : d.MemWf) : d.adcStep10.MemWf := h
theorem Device.MemWf.adcStop (h : d.MemWf) : d.adcStop.MemWf := h
theorem Device.MemWf.adcTargets (h : d.MemWf) : d.adcTargets.MemWf := h

theorem cmdAdcPlan_keepsMem : cmdAdcPlan.KeepsMem :=
  ⟨fun h => .ite_fst h h, nofun⟩

theorem cmdAdcGroup_keepsMem : cmdAdcGroup.KeepsMem where
  run := by
    intro _ _ _ h
    dsimp only [cmdAdcGroup]
    split
    · exact .ite_fst h h
    · exact .ite_fst h h
    · exact h
  redo := nofun

theorem Device.MemWf.adcReturn {g : Fin 4} {valid : Bool} (h : d.MemWf) : (d.adcReturn n g valid).1.MemWf :=
  .buffer h

theorem cmdAdcRead_keepsMem : cmdAdcRead.KeepsMem :=
  ⟨fun h => .ite_fst h (.buffer h), nofun⟩

theorem Device.MemWf.adcWaiter {r : Rec} (h : d.MemWf) : (d.adcWaiter r).MemWf :=
  .ite (.ite (.complete (.adcReturn h)) h) h

theorem Device.MemWf.adcWaiters (h : d.MemWf) : d.adcWaiters.MemWf :=
  .each h .adcWaiter

theorem Device.MemWf.adcReadEnd {g : Fin 4} (h : d.MemWf) : (d.adcReadEnd id g).MemWf :=
  .complete (.adcReturn h)

/-! ### The angle engine (chapter 13) -/

theorem Device.MemWf.kinSpeed (h : d.MemWf) : d.kinSpeed.MemWf := by
  unfold Device.kinSpeed
  dsimp only
  split
  · exact h
  · exact .when h .raise

theorem Device.MemWf.kinMode (h : d.MemWf) : d.kinMode.MemWf := h

theorem Device.MemWf.fireEvent {w : Word} (h : d.MemWf) : (d.fireEvent w).MemWf := by
  unfold Device.fireEvent
  split
  · exact .when h fun h => h
  · exact .when h fun h => h
  · exact .when h fun h => h
  · exact .when h fun h => h
  · exact h

theorem Device.MemWf.moveCounter {back : Bool} {len : Nat} (h : d.MemWf) : (d.moveCounter back len).MemWf :=
  .each h fun h => .ite (.fireEvent h) (.ite (.updKin (.fireEvent h)) h)

theorem Device.MemWf.snapTo {p : Nat} (h : d.MemWf) : (d.snapTo p).MemWf :=
  .moveCounter h

theorem Device.MemWf.resyncJump {p : Nat} (h : d.MemWf) : (d.resyncJump p).MemWf :=
  .ite (.moveCounter h) (.moveCounter h)

theorem Device.MemWf.syncLost {cause : Nat} (h : d.MemWf) : (d.syncLost cause).MemWf :=
  .ite (.kinMode (.kinSpeed (.raise h))) h

theorem Device.MemWf.syncGone (h : d.MemWf) : d.syncGone.MemWf :=
  .ite (.raise h) h

theorem Device.MemWf.kinStop (h : d.MemWf) : d.kinStop.MemWf :=
  .updRails (.updKin (.syncGone h))

theorem Device.MemWf.ldo6Left (h : d.MemWf) : d.ldo6Left.MemWf :=
  .kinMode (.when (.updRails (.syncLost h)) .raise)

theorem Device.MemWf.twLeft {before : Device} (h : d.MemWf) : (d.twLeft before).MemWf :=
  .when h .ldo6Left

theorem Device.MemWf.twEnable {on : Bool} (h : d.MemWf) : (d.twEnable on).MemWf :=
  .twLeft h

theorem Device.MemWf.twPower {on : Bool} (h : d.MemWf) : (d.twPower on).MemWf :=
  .twEnable h

theorem Device.MemWf.hallEdge {e : HallEdge} {t : Nat} (h : d.MemWf) : (d.hallEdge e t).MemWf :=
  .kinMode (.kinSpeed (.when (.ite (.updKin (.updKin (.when h fun h => h)))
    (.ite (.raise (.resyncJump (.updKin (.updKin (.when h fun h => h)))))
    (.ite (.snapTo (.updKin (.when h fun h => h))) (.updKin (.when h fun h => h))))) .twPower))

theorem Device.MemWf.rotorStop (h : d.MemWf) : d.rotorStop.MemWf :=
  .kinMode (.kinSpeed h)

theorem Device.MemWf.illegal (h : d.MemWf) : d.illegal.MemWf :=
  .kinMode (.raise (.syncLost h))

theorem Device.MemWf.kinTargets (h : d.MemWf) : d.kinTargets.MemWf := h

theorem Device.MemWf.kinEdge {table : Option (List Word)} (h : d.MemWf) : (d.kinEdge table).MemWf := by
  unfold Device.kinEdge
  refine .kinMode ?_
  refine .ite h ?_
  split
  · exact h
  · exact .when h .raise

theorem Device.MemWf.kinStep10 (h : d.MemWf) : d.kinStep10.MemWf := by
  unfold Device.kinStep10
  exact .when (.updKin (.kinStop h)) .twPower

theorem cmdKinQuery_keepsMem : cmdKinQuery.KeepsMem :=
  ⟨.buffer, nofun⟩

theorem cmdKinSet_keepsMem : cmdKinSet.KeepsMem :=
  ⟨fun h => h, nofun⟩

theorem cmdKinUser_keepsMem : cmdKinUser.KeepsMem :=
  ⟨fun h => .ite_fst h h, nofun⟩

end

end Sys2Proof.Machine

/-! PROOFS. Memory stays canonical, second part: the charger, the gauge, the Larder, the digest engine, the keepers, images and
Recipes. -/
namespace Sys2Proof.Machine

section
variable {d e : Device} {n : RoomId} {k : Keeper} {id : ReqId} {r : RailId} {l : List Byte} {off mv : Nat} {sm : Sample}
  {ss : StartSense}

/-! ### The charger (chapter 14) -/

theorem Device.MemWf.chgEnter {p : ChgPhase} (h : d.MemWf) : (d.chgEnter p).MemWf := by
  unfold Device.chgEnter
  dsimp only
  split
  · exact h
  · exact h
  · exact .ite (.priUpdate (.ite h h)) h

theorem Device.MemWf.chgFet (h : d.MemWf) : d.chgFet.MemWf :=
  .ite h h

theorem Device.MemWf.fetEdge (h : d.MemWf) : d.fetEdge.MemWf :=
  .ite (.chgFet (.fetSupply (.when h fun h => h))) (.when h fun h => h)

theorem Device.MemWf.qualKeep (h : d.MemWf) : d.qualKeep.MemWf := h

theorem Device.MemWf.chgSettle (h : d.MemWf) : d.chgSettle.MemWf := by
  unfold Device.chgSettle
  extract_lets d₁ p d₂
  have h₁ : d₁.MemWf := .qualKeep h
  clear_value d₁
  have h₂ : d₂.MemWf :=
    .ite h₁ (.ite (.when h₁ .chgEnter) (.ite (.when h₁ .chgEnter) (.ite (.chgEnter h₁) (.ite (.chgEnter h₁) h₁))))
  clear_value d₂
  exact .ite h₁ (.ite (.when (.chgEnter h₂) .chgEnter) h₂)

theorem Device.MemWf.chgTerminateEnd (h : d.MemWf) : d.chgTerminateEnd.MemWf :=
  .ite (.ite (.updChg (.chgEnter h)) (.chgEnter h)) h

theorem Device.MemWf.chgNoEdge (h : d.MemWf) : d.chgNoEdge.MemWf :=
  .when h .chgTerminateEnd

theorem Device.MemWf.chgRaise {kind qual : Nat} (h : d.MemWf) : (d.chgRaise kind qual).MemWf :=
  .ite (.raiseOn h) (.raise h)

theorem Device.MemWf.chgLatch {k qual : Nat} (h : d.MemWf) : (d.chgLatch k qual).MemWf :=
  .ite (.chgRaise (.chgEnter h)) (.updChg (.chgEnter h))

theorem Device.MemWf.chgReport (h : d.MemWf) : d.chgReport.MemWf :=
  .each h .chgRaise

theorem Device.MemWf.chgRemoval {route : Nat} (h : d.MemWf) : (d.chgRemoval route).MemWf :=
  .fetOpen (.updGauge (.updChg (.chgLatch h)))

theorem Device.MemWf.stepRemoval (h : d.MemWf) : (d.stepRemoval sm).MemWf :=
  .updChg (.when h .chgRemoval)

theorem Device.MemWf.chgRead {mask : BitVec 8} (h : d.MemWf) : (d.chgRead mask).MemWf :=
  .ite (.chgSettle (.chgEnter (.updChg (.each h fun h => .when h fun h => h)))) (.updChg (.each h fun h => .when h fun h => h))

theorem Device.MemWf.zoneTo {z : Zone} (h : d.MemWf) : (d.zoneTo z).MemWf :=
  .ite h (.ite (.chgNoEdge (.updChg (.chgEnter (.when h .raise)))) (.chgSettle (.when h .raise)))

theorem Device.MemWf.chgFast {p : ChgPhase} (h : d.MemWf) : (d.chgFast p).MemWf :=
  .updChg (.chgEnter h)

theorem Device.MemWf.qualified (h : d.MemWf) : (d.qualified mv).MemWf :=
  .ite (.updChg (.chgEnter h)) (.ite (.chgFast h) (.chgEnter h))

theorem Device.MemWf.chgWithdraw (h : d.MemWf) : d.chgWithdraw.MemWf := h
theorem Device.MemWf.chgTargets (h : d.MemWf) : d.chgTargets.MemWf := h

theorem cmdChgQuery_keepsMem : cmdChgQuery.KeepsMem :=
  ⟨.buffer, nofun⟩

theorem cmdChgSet_keepsMem : cmdChgSet.KeepsMem :=
  ⟨fun h => h, nofun⟩

/-! ### The gauge (chapter 15) -/

theorem Device.MemWf.gaugeEdge {dt : Nat} (h : d.MemWf) : (d.gaugeEdge sm dt).MemWf :=
  .ite h h

theorem Device.MemWf.gaugeLodge (h : d.MemWf) : d.gaugeLodge.MemWf := h

theorem Device.MemWf.sohCheck (h : d.MemWf) : d.sohCheck.MemWf :=
  .ite (.raise h) h

theorem Device.MemWf.refit {r : GaugeRec} (h : d.MemWf) : (d.refit r).MemWf :=
  .sohCheck h

theorem Device.MemWf.age {c : Nat} {temp10 : Int} (h : d.MemWf) : (d.age c temp10).MemWf :=
  .refit h

theorem Device.MemWf.ageHourEnd (h : d.MemWf) : d.ageHourEnd.MemWf :=
  .refit h

theorem Device.MemWf.learnRef {fcc learns : Nat} (h : d.MemWf) : (d.learnRef fcc learns).MemWf :=
  .sohCheck h

theorem Device.MemWf.learnPoint {soc : Nat} (h : d.MemWf) : (d.learnPoint soc).MemWf :=
  .updGauge (.ite (.ite (.raise h) (.ite (.raise h) (.ite (.raise h) (.learnRef h)))) h)

theorem Device.MemWf.fullAnchor (h : d.MemWf) : d.fullAnchor.MemWf :=
  .updGauge (.learnPoint h)

theorem Device.MemWf.emptyAnchor (h : d.MemWf) : d.emptyAnchor.MemWf :=
  .updGauge (.learnPoint h)

theorem Device.MemWf.ocvCorrect {bat : Nat} {temp : Int} (h : d.MemWf) : (d.ocvCorrect bat temp).MemWf :=
  .ite (.updGauge (.learnPoint h)) h

theorem Device.MemWf.gaugeSeed {bat : Nat} {temp : Int} (h : d.MemWf) : (d.gaugeSeed bat temp).MemWf :=
  .raise h

theorem Device.MemWf.seedOrWait {bat : Nat} {temp : Int} (h : d.MemWf) : (d.seedOrWait bat temp).MemWf :=
  .ite (.gaugeSeed h) h

theorem Device.MemWf.gaugeRestart {bat : Nat} {temp : Int} (h : d.MemWf) : (d.gaugeRestart bat temp).MemWf :=
  .ite (.seedOrWait h) h

theorem Device.MemWf.gaugeCount (h : d.MemWf) : d.gaugeCount.MemWf :=
  .ite (.refit h) h

theorem Device.MemWf.gaugeSlew (h : d.MemWf) : d.gaugeSlew.MemWf := h
theorem Device.MemWf.gaugeSnap (h : d.MemWf) : d.gaugeSnap.MemWf := h

theorem Device.MemWf.gaugeStep4 (h : d.MemWf) : d.gaugeStep4.MemWf := by
  unfold Device.gaugeStep4
  refine .gaugeSnap ?_
  refine .gaugeSlew ?_
  split
  · exact .ocvCorrect (.when (.gaugeCount h) .gaugeSeed)
  · exact .when (.when (.gaugeCount h) .gaugeSeed) .ocvCorrect

theorem Device.MemWf.gaugeSave (h : d.MemWf) : d.gaugeSave.MemWf := h

theorem Device.MemWf.gaugeLoad (h : d.MemWf) : d.gaugeLoad.MemWf := by
  unfold Device.gaugeLoad
  split
  · exact h
  · exact .raise h

theorem Device.MemWf.gaugeResume (h : d.MemWf) : d.gaugeResume.MemWf := h

theorem Device.MemWf.gaugeStep10 (h : d.MemWf) : d.gaugeStep10.MemWf :=
  .updGauge (.updGaugeHw (.when (.when h fun h => h) fun h => h))

theorem cmdGaugeQuery_keepsMem : cmdGaugeQuery.KeepsMem :=
  ⟨fun h => .free (.buffer h), nofun⟩

theorem cmdGaugeSet_keepsMem : cmdGaugeSet.KeepsMem where
  run := by
    intro _ _ _ h
    dsimp only [cmdGaugeSet]
    split
    · exact h
    · exact .gaugeSave (.age h)
    · exact .gaugeSave (.learnRef h)
  redo := nofun

theorem cmdChgFaults_keepsMem : cmdChgFaults.KeepsMem :=
  ⟨fun h => .ite (.gaugeRestart (.chgRead h)) h, nofun⟩

/-! ### The Larder (chapter 16) -/

theorem Device.MemWf.larderSave (h : d.MemWf) : d.larderSave.MemWf := h

theorem Device.MemWf.larderLoad (h : d.MemWf) : d.larderLoad.MemWf := by
  unfold Device.larderLoad
  split
  · exact h
  · exact .raise h

theorem Device.MemWf.larderSkip {dt : Nat} (h : d.MemWf) : (d.larderSkip dt).MemWf := h

theorem Device.MemWf.binRoll (h : d.MemWf) : d.binRoll.MemWf :=
  .ite h (.when h .larderSave)

theorem Device.MemWf.larderEnter {room : Option RoomId} {app start stop dur : Nat} (h : d.MemWf) :
    (d.larderEnter room app start stop dur).2.MemWf := h

theorem Device.MemWf.flagOwner {r : Reservation} (h : d.MemWf) : (d.flagOwner r).MemWf := by
  unfold Device.flagOwner
  split
  · exact h
  · exact h

theorem Device.MemWf.resBegin {hd : Nat} (h : d.MemWf) : (d.resBegin hd).MemWf := by
  unfold Device.resBegin
  split
  · exact .flagOwner h
  · exact h

theorem Device.MemWf.resEnd {hd : Nat} (h : d.MemWf) : (d.resEnd hd).MemWf := by
  unfold Device.resEnd
  split
  · exact .flagOwner h
  · exact h

theorem Device.MemWf.resRelease {hd : Nat} (h : d.MemWf) : (d.resRelease hd n).MemWf := by
  unfold Device.resRelease
  split
  · exact .when h .flagOwner
  · exact h

theorem Device.MemWf.resTime (h : d.MemWf) : d.resTime.MemWf :=
  .each h fun h => .when (.when h .resBegin) .resEnd

theorem Device.MemWf.larderReset (h : d.MemWf) : (d.larderReset n).MemWf :=
  .when h fun h => h

theorem Device.MemWf.larderStop (h : d.MemWf) : d.larderStop.MemWf := h

theorem Device.MemWf.firstEdge {n : Nat} {bubble : Option Nat} (h : d.MemWf) : (d.firstEdge n bubble).MemWf := by
  unfold Device.firstEdge
  split
  · exact h
  · refine .ite h ?_
    dsimp only
    split
    · exact .when h fun h => h
    · exact .ite (.burstBegin h) h

theorem Device.MemWf.secondEdge {n : Nat} {bubble : Option Nat} (h : d.MemWf) : (d.secondEdge n bubble).MemWf := by
  unfold Device.secondEdge
  split
  · exact h
  · refine .ite h ?_
    dsimp only
    split
    · exact .when h fun h => h
    · exact .ite (.burstBegin h) h

theorem Device.MemWf.burstEdge {bubble : Option Nat} (h : d.MemWf) : (d.burstEdge bubble).MemWf :=
  .secondEdge (.firstEdge h)

theorem Device.MemWf.burstRead (h : d.MemWf) : d.burstRead.MemWf := by
  unfold Device.burstRead
  dsimp only
  split
  · exact h
  · refine .ite (.when h fun h => h) ?_
    refine .updBurst ?_
    refine .updLarder ?_
    refine .ite ?_ ?_
    · refine .resRelease ?_
      split
      · exact .complete (.when (.free (.free (.when h fun h => h))) .raise)
      · exact .when (.free (.free (.when h fun h => h))) .raise
    · refine .resEnd ?_
      split
      · exact .complete (.when (.free (.free (.when h fun h => h))) .raise)
      · exact .when (.free (.free (.when h fun h => h))) .raise

theorem Device.MemWf.larderTargets (h : d.MemWf) : d.larderTargets.MemWf := h

theorem Device.MemWf.breqDecide (h : d.MemWf) : d.breqDecide.MemWf := by
  unfold Device.breqDecide
  refine .ite h ?_
  dsimp only
  split
  · exact h
  · refine .ite h ?_
    split
    · exact h
    · exact h

theorem Device.MemWf.larderStep4 (h : d.MemWf) : d.larderStep4.MemWf :=
  .breqDecide (.resTime (.binRoll h))

theorem Device.MemWf.deferred {start : Nat} (h : d.MemWf) : (d.deferred id start).1.MemWf :=
  .buffer (.buffer h)

theorem Device.MemWf.larderAgain {r : Rec} {app start stop dur : Nat} (h : d.MemWf) :
    (d.larderAgain r app start stop dur).MemWf :=
  .when h fun h => h

theorem cmdLarderReserve_keepsMem : cmdLarderReserve.KeepsMem where
  run := by
    intro _ _ _ h
    dsimp only [cmdLarderReserve]
    refine .ite_fst h ?_
    split
    · exact h
    · exact .deferred h
    · exact h
  redo := by
    rintro _ ⟨⟩ _ _ _ h
    exact .larderAgain h

theorem cmdBurstPair_keepsMem : cmdBurstPair.KeepsMem where
  run := by
    intro _ _ _ h
    dsimp only [cmdBurstPair]
    refine .ite_fst h ?_
    split
    · exact h
    · exact .deferred h
    · exact h
  redo := by
    rintro _ ⟨⟩ _ _ _ h
    exact .when (.larderAgain h) fun h => h

theorem cmdLarderRelease_keepsMem : cmdLarderRelease.KeepsMem :=
  ⟨fun h => .resRelease (.when h fun h => h), nofun⟩

theorem cmdLarderQuery_keepsMem : cmdLarderQuery.KeepsMem :=
  ⟨.buffer, nofun⟩

theorem cmdLarderSet_keepsMem : cmdLarderSet.KeepsMem :=
  ⟨fun h => .ite_fst h (.larderSave h), nofun⟩

/-! ### The digest engine (chapter 18) -/

theorem Device.MemWf.digReserve (h : d.MemWf) : d.digReserve.MemWf :=
  .when h fun h => h

theorem Device.MemWf.engineAsk (h : d.MemWf) : d.engineAsk.MemWf :=
  .when h fun h => h

theorem Device.MemWf.digDone (h : d.MemWf) : d.digDone.MemWf :=
  .when h fun h => h

theorem Device.MemWf.digAbortRoom (h : d.MemWf) : (d.digAbortRoom n).MemWf :=
  .when h fun h => h

theorem Device.MemWf.digStop (h : d.MemWf) : d.digStop.MemWf := h
theorem Device.MemWf.digStep10 (h : d.MemWf) : d.digStep10.MemWf := h

theorem Device.MemWf.digClaim {p : Port} {v : Byte} (h : d.MemWf) : (d.digClaim p n v).MemWf :=
  .ite h h

theorem Device.MemWf.digFrom {p : Port} {f : Device → Device} (h : d.MemWf) (hf : ∀ {e : Device}, e.MemWf → (f e).MemWf) :
    (d.digFrom p n f).MemWf := by
  unfold Device.digFrom
  split
  · exact h
  · exact .ite (hf h) h

theorem Device.MemWf.digFinishMsg (h : d.MemWf) : (d.digFinishMsg n).MemWf :=
  .ite h h

theorem Device.MemWf.digTimeout {maximum : Bool} (h : d.MemWf) : (d.digTimeout maximum).MemWf := by
  unfold Device.digTimeout
  split
  · exact .raise h
  · exact h

theorem Device.MemWf.digCtrl {w : Word} (h : d.MemWf) : (d.digCtrl n w).MemWf := by
  unfold Device.digCtrl
  dsimp only
  split
  · exact h
  · exact .digFinishMsg h
  · exact h
  · exact h

theorem Device.MemWf.digQueueOne (h : d.MemWf) : d.digQueueOne.MemWf := by
  unfold Device.digQueueOne
  split
  · exact h
  · exact .ite h (.each (.buffer h) .complete)

theorem Device.MemWf.keyWaiters (h : d.MemWf) : d.keyWaiters.MemWf :=
  .each h fun h => .when h fun h => h

theorem Device.MemWf.keyDone {ok_ : Bool} (h : d.MemWf) : (d.keyDone ok_).MemWf := by
  unfold Device.keyDone
  split
  · exact h
  · exact .complete (.when h .raise)

theorem Device.MemWf.queueFail {ident : Nat} (h : d.MemWf) : (d.queueFail n ident).MemWf :=
  .each h .complete

theorem Device.MemWf.queueAged (h : d.MemWf) : d.queueAged.MemWf :=
  .each h fun h => .when h .queueFail

theorem Device.MemWf.digStep4 (h : d.MemWf) : d.digStep4.MemWf :=
  .engineAsk (.digReserve (.digDone (.digQueueOne (.keyWaiters (.queueAged h)))))

theorem cmdDigKeyload_keepsMem : cmdDigKeyload.KeepsMem :=
  ⟨fun h => .ite_fst h (.ite_fst h (.digReserve h)), nofun⟩

theorem cmdDigQueue_keepsMem : cmdDigQueue.KeepsMem :=
  ⟨fun h => .ite_fst h (.ite_fst (.each h .complete) (.ite_fst h h)), nofun⟩

/-! ### The keepers (chapter 05) -/

theorem Device.MemWf.updKeeper {x : Keeper} {f : KeeperState → KeeperState} (h : d.MemWf) : (d.updKeeper x f).MemWf := h

theorem Device.MemWf.bootSlots {l : List (Nat × Bool)} (h : d.MemWf) : (d.bootSlots k l).2.MemWf := by
  induction l generalizing d with
  | nil => exact .raise h
  | cons x rest ih =>
    unfold Device.bootSlots
    generalize d.imgVerdict x.1 = v
    exact .ite_snd h (ih (.when (.raise h) fun h => h))

theorem Device.MemWf.loadImage {s : Nat} (h : d.MemWf) : (d.loadImage k s).MemWf := h
theorem Device.MemWf.coldFix (h : d.MemWf) : d.coldFix.MemWf := h
theorem Device.MemWf.wdRom (h : d.MemWf) : (d.wdRom k).MemWf := h
theorem Device.MemWf.wdStop (h : d.MemWf) : (d.wdStop k).MemWf := h

theorem Device.MemWf.keeperRestart (h : d.MemWf) : (d.keeperRestart k).MemWf :=
  .engineAsk h

theorem Device.MemWf.closeOver {verdict : Nat} (h : d.MemWf) : (d.closeOver k verdict).MemWf := by
  unfold Device.closeOver
  split
  · refine .ite ?_ h
    dsimp only
    split
    · exact .complete h
    · exact h
  · exact h

theorem Device.MemWf.abortOver (h : d.MemWf) : (d.abortOver k).MemWf := by
  unfold Device.abortOver
  refine .ite ?_ h
  dsimp only
  split
  · exact .complete h
  · exact h

theorem Device.MemWf.quarantine (h : d.MemWf) : (d.quarantine k).MemWf :=
  .abortOver (.closeOver h)

theorem Device.MemWf.failRecord {cause : Nat} (h : d.MemWf) : (d.failRecord k cause).MemWf :=
  .ite (.when (.raise (.raise h)) .raise) (.raise h)

theorem Device.MemWf.failAway (h : d.MemWf) : (d.failAway k).MemWf :=
  .ite (.quarantine h) (.keeperRestart h)

theorem Device.MemWf.updCkpt {which : Bool} {f : Ckpt → Ckpt} (h : d.MemWf) : (d.updCkpt which f).MemWf :=
  .ite h h

theorem Device.MemWf.windowOpen (h : d.MemWf) : d.windowOpen.MemWf :=
  .updCkpt h

theorem Device.MemWf.accept {w : CommitTry} (h : d.MemWf) : (d.accept k w).MemWf :=
  .releaseBlocks (.updKeeper (.updSup (.updKeepers (.updCkpt h))))

theorem Device.MemWf.commitWith {w : CommitTry} (h : d.MemWf) : (d.commitWith w).MemWf := by
  unfold Device.commitWith
  split
  · exact h
  · exact .ite (.accept h) (.raise h)

theorem Device.MemWf.commit (h : d.MemWf) : d.commit.MemWf := by
  unfold Device.commit
  split
  · exact h
  · exact .commitWith h

theorem Device.MemWf.writeAs {f : Device → Device} (h : d.MemWf) (hf : ∀ {e : Device}, e.MemWf → (f e).MemWf) :
    (d.writeAs k f).MemWf :=
  .ite (hf h) (.raise h)

theorem Device.MemWf.hotRead (h : d.MemWf) : (d.hotRead k).MemWf :=
  .ite (.ite (.closeOver h) h) (.raise h)

theorem Device.MemWf.hotCopy {committed : Bool} (h : d.MemWf) : (d.hotCopy committed).MemWf := by
  unfold Device.hotCopy
  split
  · exact .when h .hotRead
  · exact h

theorem Device.MemWf.enterStandby (h : d.MemWf) : (d.enterStandby k).MemWf :=
  .ite (.closeOver h) (.when h .hotRead)

theorem Device.MemWf.swapNote {out : ArbOut} {active : Option Keeper} {n : Nat} (h : d.MemWf) :
    (d.swapNote out active n).MemWf := h

theorem Device.MemWf.swapAnswers (h : d.MemWf) : d.swapAnswers.MemWf :=
  .each h fun h => .when h .complete

theorem Device.MemWf.grantSwap {kind : SwapKind} {n : Nat} {offBefore : Bool} (h : d.MemWf) :
    (d.grantSwap kind n offBefore).MemWf := by
  unfold Device.grantSwap
  split
  · exact h
  · refine .when ?_ .raise
    refine .raise ?_
    refine .updSup ?_
    refine .updKeepers ?_
    refine .updKeeper ?_
    refine .coldFix ?_
    split
    · exact .failAway h
    · exact .failAway (.failRecord h)
    · exact h
    · exact .ite h h

theorem cmdKeeperSwap_keepsMem : cmdKeeperSwap.KeepsMem :=
  ⟨fun h => .ite_fst (.ite_fst h h) h, nofun⟩

theorem cmdKeeperQuery_keepsMem : cmdKeeperQuery.KeepsMem :=
  ⟨fun h => h, nofun⟩

theorem cmdKeeperRevive_keepsMem : cmdKeeperRevive.KeepsMem :=
  ⟨fun h => .ite_fst (.keeperRestart h) h, nofun⟩

/-! ### Image stages and the manifest (chapter 06) -/

theorem Device.MemWf.program {op base : Nat} {note : Nat → Device → Device} (h : d.MemWf)
    (hf : ∀ {i e}, Device.MemWf e → (note i e).MemWf) : (d.program op base note).MemWf := by
  unfold Device.program
  refine .foldl_fst h ?_
  intro _ _ h
  exact .ite_fst h (.ite (.complete (.each (.nvmWrite h) hf)) (.each (.nvmWrite h) hf))

theorem Device.MemWf.imageProgram (h : d.MemWf) : d.imageProgram.MemWf := by
  unfold Device.imageProgram
  split
  · exact h
  · exact .program h fun h => h

theorem Device.MemWf.dataDrop {op : Nat} (h : d.MemWf) : (d.dataDrop op).MemWf :=
  .each h .complete

theorem Device.MemWf.imageErased (h : d.MemWf) : d.imageErased.MemWf := by
  unfold Device.imageErased
  split
  · exact h
  · dsimp only
    split
    · exact .complete h
    · exact h

theorem Device.MemWf.stageAbandon (h : d.MemWf) : d.stageAbandon.MemWf := by
  unfold Device.stageAbandon
  split
  · exact h
  · exact .ite (.dataDrop (.raise h)) h

theorem Device.MemWf.restartEnd (h : d.MemWf) : (d.restartEnd k).MemWf := by
  unfold Device.restartEnd
  refine .ite ?_ h
  refine .digDone ?_
  refine .abortOver ?_
  split
  · refine .closeOver ?_
    split
    · exact .enterStandby (.updKeeper (.loadImage (.bootSlots h)))
    · exact .wdStop (.coldFix (.updKeeper (.bootSlots h)))
  · split
    · exact .enterStandby (.updKeeper (.loadImage (.bootSlots h)))
    · exact .wdStop (.coldFix (.updKeeper (.bootSlots h)))

theorem Device.MemWf.imageOpen {total : Nat} (h : d.MemWf) : (d.imageOpen k total).1.MemWf :=
  .ite_fst h (.updImages (.nvmErase h))

theorem Device.MemWf.imageData (h : d.MemWf) : (d.imageData id k off l).1.MemWf := by
  unfold Device.imageData
  split
  · exact h
  · exact .ite_fst h (.ite_fst h (.ite_fst h h))

theorem Device.MemWf.imageClose (h : d.MemWf) : (d.imageClose k).1.MemWf := by
  unfold Device.imageClose
  split
  · exact h
  · dsimp only
    generalize Device.imgVerdict _ _ = v
    exact .ite_fst h (.ite_fst h (.ite_fst (.when h fun h => h) (.ite_fst h (.keeperRestart h))))

theorem cmdImageStage_keepsMem : cmdImageStage.KeepsMem where
  run := by
    intro _ _ _ h
    dsimp only [cmdImageStage]
    split
    · exact .imageOpen h
    · exact .imageData h
    · exact .imageClose h
  redo := nofun

theorem Device.MemWf.commitDone (h : d.MemWf) : (d.commitDone id).MemWf :=
  .complete (.raise h)

theorem Device.MemWf.commitWrite (h : d.MemWf) : d.commitWrite.MemWf := by
  unfold Device.commitWrite
  split
  · exact .commitDone h
  · exact h

theorem Device.MemWf.commitResolve {seq : Nat} (h : d.MemWf) : (d.commitResolve id seq).MemWf := by
  unfold Device.commitResolve
  split
  · exact .ite (.commitDone h) (.complete h)
  · exact .complete h

theorem Device.MemWf.imageCommit {raiseFloor : Bool} (h : d.MemWf) : (d.imageCommit id raiseFloor).1.MemWf := by
  unfold Device.imageCommit
  dsimp only
  split
  · exact .commitWrite h
  · exact .ite_fst (.commitWrite h) (.updImages (.commitWrite h))

theorem Device.MemWf.imageAbort (h : d.MemWf) : d.imageAbort.1.MemWf := by
  unfold Device.imageAbort
  dsimp only
  split
  · exact .commitWrite h
  · exact .ite_fst (.commitWrite h) (.ite_fst (.keeperRestart (.updImages (.dataDrop (.updImages (.commitWrite h)))))
      (.dataDrop (.updImages (.commitWrite h))))

theorem cmdImageCommit_keepsMem : cmdImageCommit.KeepsMem :=
  ⟨fun h => .ite_fst (.imageCommit h) (.imageAbort h), nofun⟩

theorem cmdImageQuery_keepsMem : cmdImageQuery.KeepsMem :=
  ⟨fun h => .freeSkip (.buffer h), nofun⟩

/-! ### Recipes (chapter 22) -/

theorem Device.MemWf.rcpVerify {slot : Nat} (h : d.MemWf) : (d.rcpVerify slot).2.MemWf := by
  unfold Device.rcpVerify
  generalize d.rcpVerdict slot = v
  dsimp only
  exact .when (.updRcp h) .raise

theorem Device.MemWf.selectRun {slot : Nat} (h : d.MemWf) : (d.selectRun id slot).1.MemWf := by
  unfold Device.selectRun
  have hv := Device.MemWf.rcpVerify h (slot := slot)
  generalize d.rcpVerify slot = x at hv
  exact .ite_fst hv (.updRcp hv)

theorem Device.MemWf.answerRec {x : Device × Answer} (h : d.MemWf) (hx : x.1.MemWf) : (d.answerRec id x).MemWf := by
  unfold Device.answerRec
  split
  · exact .complete hx
  · exact hx
  · exact h

theorem cmdRecipeSelect_keepsMem : cmdRecipeSelect.KeepsMem :=
  ⟨fun h => .ite_fst h (.ite_fst h (.ite_fst (.selectRun h) (.digReserve h))), nofun⟩

theorem Device.MemWf.selectDone (h : d.MemWf) : d.selectDone.MemWf :=
  .each h fun h => .when h .complete

theorem Device.MemWf.rcpProgram (h : d.MemWf) : d.rcpProgram.MemWf := by
  unfold Device.rcpProgram
  split
  · exact h
  · exact .program h fun h => h

theorem Device.MemWf.rcpErased (h : d.MemWf) : d.rcpErased.MemWf := by
  unfold Device.rcpErased
  split
  · exact h
  · exact .complete h

theorem Device.MemWf.rcpAbandon (h : d.MemWf) : d.rcpAbandon.MemWf := by
  unfold Device.rcpAbandon
  split
  · exact .ite (.dataDrop h) h
  · exact h

theorem Device.MemWf.rcpOpen {slot total : Nat} (h : d.MemWf) : (d.rcpOpen id slot total).1.MemWf :=
  .ite_fst h (.updRcp (.nvmErase h))

theorem Device.MemWf.rcpData {slot : Nat} (h : d.MemWf) : (d.rcpData id slot off l).1.MemWf := by
  unfold Device.rcpData
  split
  · exact h
  · exact .ite_fst h (.ite_fst h (.ite_fst h h))

theorem Device.MemWf.closeRun {slot : Nat} (h : d.MemWf) : (d.closeRun slot).1.MemWf := by
  unfold Device.closeRun
  have hv := Device.MemWf.rcpVerify h (slot := slot)
  generalize d.rcpVerify slot = x at hv
  exact hv

theorem Device.MemWf.rcpClose {slot : Nat} (h : d.MemWf) : (d.rcpClose slot).1.MemWf := by
  unfold Device.rcpClose
  split
  · exact h
  · exact .ite_fst (.when h fun h => h) (.ite_fst (.closeRun (.when h fun h => h)) (.digReserve (.when h fun h => h)))

theorem cmdRecipeWrite_keepsMem : cmdRecipeWrite.KeepsMem where
  run := by
    intro _ _ _ h
    dsimp only [cmdRecipeWrite]
    split
    · exact .rcpOpen h
    · exact .rcpData h
    · exact .rcpClose h
  redo := nofun

theorem Device.MemWf.rcpWaiters (h : d.MemWf) : d.rcpWaiters.MemWf :=
  .each h fun h => .ite (.ite (.answerRec h (.ite_fst h (.selectRun h))) (.ite (.answerRec h (.closeRun h)) h)) h

theorem cmdRecipeQuery_keepsMem : cmdRecipeQuery.KeepsMem :=
  ⟨.buffer, nofun⟩

end

end Sys2Proof.Machine

/-! PROOFS. Memory stays canonical, third part: watchdogs, security, Rooms, power states and the active keeper's work. -/
namespace Sys2Proof.Machine

section
variable {d e : Device} {n : RoomId} {k : Keeper} {id : ReqId} {r : RailId} {l : List Byte} {off mv : Nat} {sm : Sample}
  {ss : StartSense}

/-! ### Watchdogs (chapter 20) -/

theorem Device.MemWf.wdTick (h : d.MemWf) : (d.wdTick k).MemWf :=
  .when h fun h => h

theorem Device.MemWf.wdClosing (h : d.MemWf) : (d.wdClosing k).MemWf :=
  .when h fun h => h

theorem Device.MemWf.wdPeriod (h : d.MemWf) : (d.wdPeriod k).MemWf := by
  unfold Device.wdPeriod
  split
  · exact .when h fun h => h
  · exact h

theorem Device.MemWf.wdStep4 (h : d.MemWf) : d.wdStep4.MemWf := by
  unfold Device.wdStep4
  split
  · exact h
  · exact .ite (.each (.wdPeriod h) fun h => .when h .complete) (.wdPeriod h)

theorem cmdWdSet_keepsMem : cmdWdSet.KeepsMem :=
  ⟨fun h => .ite_fst h h, nofun⟩

theorem Device.MemWf.gwdOff (h : d.MemWf) : (d.gwdOff n).MemWf := h
theorem Device.MemWf.gatingChoose (h : d.MemWf) : d.gatingChoose.MemWf := h

theorem Device.MemWf.gatingClear {before : List Gating} (h : d.MemWf) : (d.gatingClear before).MemWf :=
  .each h fun h => .when h fun h => h

theorem Device.MemWf.gatingEnd {t : Nat} {p : Gating → Bool} (h : d.MemWf) : (d.gatingEnd t p).MemWf :=
  .gatingClear h

theorem Device.MemWf.gatingEdge {t : Nat} (h : d.MemWf) : (d.gatingEdge t).MemWf :=
  .updWd (.gatingEnd h)

theorem Device.MemWf.gwdStep (h : d.MemWf) : (d.gwdStep n).MemWf := by
  unfold Device.gwdStep
  dsimp only
  split
  · exact .raise h
  · exact .raise h
  · exact .raise h

theorem Device.MemWf.gwdAll (h : d.MemWf) : d.gwdAll.MemWf :=
  .each h fun h => .when h .gwdStep

theorem cmdGwdArm_keepsMem : cmdGwdArm.KeepsMem :=
  ⟨fun h => h, nofun⟩

theorem cmdWdKick_keepsMem : cmdWdKick.KeepsMem :=
  ⟨fun h => .ite_fst h h, nofun⟩

theorem cmdWdQuery_keepsMem : cmdWdQuery.KeepsMem :=
  ⟨.buffer, nofun⟩

/-! ### Lifecycle and debug (chapter 21) -/

theorem Device.MemWf.programLifecycle {k : Nat} (h : d.MemWf) : (d.programLifecycle k).MemWf := h
theorem Device.MemWf.haltRelease (h : d.MemWf) : d.haltRelease.MemWf := h
theorem Device.MemWf.levelFall (h : d.MemWf) : d.levelFall.MemWf := h

theorem Device.MemWf.setLevel {l : Level} (h : d.MemWf) : (d.setLevel l).MemWf :=
  .ite h (.raise (.when h .levelFall))

theorem Device.MemWf.authEnd (h : d.MemWf) : d.authEnd.MemWf :=
  .when (.when h fun h => h) .setLevel

theorem Device.MemWf.dropLevel (h : d.MemWf) : d.dropLevel.MemWf :=
  .ite h (.setLevel h)

theorem Device.MemWf.exhaustRelease (h : d.MemWf) : d.exhaustRelease.MemWf :=
  .when h fun h => .haltRelease (.authEnd h)

theorem Device.MemWf.secEdge (h : d.MemWf) : d.secEdge.MemWf := by
  unfold Device.secEdge
  split
  · exact .setLevel (.when h .raise)
  · exact h

theorem Device.MemWf.noteCut (h : d.MemWf) : d.noteCut.MemWf :=
  .when h fun h => h

theorem Device.MemWf.haltApply (h : d.MemWf) : d.haltApply.MemWf :=
  .noteCut h

theorem Device.MemWf.halt {a b : Bool} (h : d.MemWf) : (d.halt a b).MemWf :=
  .ite h (.haltApply h)

theorem Device.MemWf.chalStep4 (h : d.MemWf) : d.chalStep4.MemWf :=
  .ite (.ite h h) h

theorem Device.MemWf.chalExpire (h : d.MemWf) : d.chalExpire.MemWf := by
  unfold Device.chalExpire
  split
  · exact .ite h h
  · exact h

theorem Device.MemWf.lockExpire (h : d.MemWf) : d.lockExpire.MemWf := by
  unfold Device.lockExpire
  split
  · exact .ite h h
  · exact h

theorem Device.MemWf.respond {req : Option ReqId} (h : d.MemWf) : (d.respond l req).MemWf := by
  unfold Device.respond
  split
  · exact h
  · exact h

theorem Device.MemWf.verifyOne {r : Response} (h : d.MemWf) : (d.verifyOne r).1.MemWf :=
  .ite_fst h (.raise h)

theorem Device.MemWf.respStep4 (h : d.MemWf) : d.respStep4.MemWf := by
  unfold Device.respStep4
  refine .ite (.each h ?_) (.digReserve h)
  intro r _ h
  have hv := Device.MemWf.verifyOne h (r := r)
  generalize Device.verifyOne _ r = x at hv
  dsimp only
  split
  · exact .complete hv
  · exact hv

theorem Device.MemWf.attachStep4 (h : d.MemWf) : d.attachStep4.MemWf := by
  unfold Device.attachStep4
  refine .ite (.when h fun h => h) ?_
  refine .ite (.when h fun h => h) ?_
  refine .ite (.updSec (.when h fun h => h)) ?_
  split
  · exact .updSec (.larderEnter (.when h fun h => h))
  · exact .updSec (.when h fun h => h)

theorem Device.MemWf.attachWrite {on : Bool} (h : d.MemWf) : (d.attachWrite on).MemWf :=
  .ite h (.raise h)

theorem Device.MemWf.factoryTag {k : SlotKeys} (h : d.MemWf) : (d.factoryTag k).MemWf :=
  .ite (.nvmWrite h) h

theorem Device.MemWf.keyProgram {target : Nat} (h : d.MemWf) : (d.keyProgram target l).MemWf :=
  .ite h (.ite h (.ite (.when (.raise h) .factoryTag) h))

theorem Device.MemWf.memStatus {denied : Bool} (h : d.MemWf) : (d.memStatus denied).MemWf := h

theorem Device.MemWf.memRead {space : MemSpace} {a : Nat} (h : d.MemWf) : (d.memRead space a).MemWf :=
  .ite h (.ite h h)

theorem Device.MemWf.mirrorPoke {a : Nat} {w : Word} (h : d.MemWf) : (d.mirrorPoke a w).MemWf :=
  .updCkpt h

theorem Device.MemWf.memWrite {space : MemSpace} {a : Nat} {w : Word} (h : d.MemWf) : (d.memWrite space a w).MemWf := by
  unfold Device.memWrite
  refine .ite h ?_
  split
  · exact .memStatus (.when h .mirrorPoke)
  · exact .ite (.memStatus (.nvmWrite h)) h
  · exact h

theorem Device.MemWf.memErase {space : MemSpace} {a : Nat} (h : d.MemWf) : (d.memErase space a).MemWf :=
  .ite h (.ite (.memStatus (.nvmErase h)) h)

theorem Device.MemWf.lcAdvance (h : d.MemWf) : d.lcAdvance.MemWf :=
  .ite h (.ite h h)

theorem Device.MemWf.eraseKeys {lo : Nat} (h : d.MemWf) : (d.eraseKeys lo).MemWf :=
  .each h fun h => .raise h

theorem Device.MemWf.advanceDone {a : Advance} (h : d.MemWf) : (d.advanceDone a).MemWf := by
  unfold Device.advanceDone
  dsimp only
  split
  · exact .when (.updSec (.complete (.when (.when h .eraseKeys) .raise))) fun h => h
  · exact .when (.when h .eraseKeys) .raise

theorem cmdDbgChallenge_keepsMem : cmdDbgChallenge.KeepsMem :=
  ⟨fun h => .ite_fst h (.ite_fst h (.buffer h)), nofun⟩

theorem cmdDbgRespond_keepsMem : cmdDbgRespond.KeepsMem where
  run := by
    intro _ _ _ h
    dsimp only [cmdDbgRespond]
    refine .ite_fst (.dropLevel h) ?_
    refine .ite_fst h ?_
    split
    · exact h
    · exact .ite_fst (.verifyOne h) (.digReserve (.respond h))
  redo := nofun

theorem cmdLifecycleAdvance_keepsMem : cmdLifecycleAdvance.KeepsMem :=
  ⟨fun h => .ite_fst h (.ite_fst h h), nofun⟩

theorem cmdSecQuery_keepsMem : cmdSecQuery.KeepsMem :=
  ⟨fun h => h, nofun⟩

/-! ### The life of a Room (chapter 07) -/

theorem Device.MemWf.undoIntent {r : Rec} (h : d.MemWf) : (d.undoIntent r).MemWf := by
  unfold Device.undoIntent
  split
  · split
    · exact .when h fun h => h
    · exact h
  · exact h
  · exact h
  · exact h
  · exact h
  · exact h

theorem Device.MemWf.intentNote {r : Rec} (h : d.MemWf) : (d.intentNote r).MemWf :=
  .raise h

theorem Device.MemWf.intentDrop {r : Rec} (h : d.MemWf) : (d.intentDrop r).MemWf :=
  .ite (.intentNote (.when h .undoIntent)) h

theorem Device.MemWf.resolveRoom {p : Rec → Bool} (h : d.MemWf) : (d.resolveRoom n p).MemWf :=
  .each h .intentDrop

theorem Device.MemWf.seqStopOf (h : d.MemWf) : (d.seqStopOf n).MemWf := by
  unfold Device.seqStopOf
  split
  · split
    · exact .when h .seqStop
    · exact h
  · exact h

theorem Device.MemWf.setFloor {f : Option PowerState} (h : d.MemWf) : (d.setFloor n f).MemWf := h
theorem Device.MemWf.clearDedup (h : d.MemWf) : (d.clearDedup n).MemWf := h

theorem Device.MemWf.dropWork (h : d.MemWf) : (d.dropWork n).MemWf :=
  .updPriv (.seqStopOf h)

theorem Device.MemWf.roomClear (h : d.MemWf) : (d.roomClear n).MemWf :=
  .winWrite (.updRoom (.updPriv (.digAbortRoom (.larderReset (.clearDedup
    (.setFloor (.gwdOff (.dropWork (.discardRecs (.resolveRoom h))))))))))

theorem Device.MemWf.closeRooms (h : d.MemWf) : d.closeRooms.MemWf := h

theorem Device.MemWf.roomReset {cause : Nat} (h : d.MemWf) : (d.roomReset n cause).MemWf :=
  .raise (.updRoom (.when (.roomClear h) fun h => h))

theorem Device.MemWf.roomColdClose (h : d.MemWf) : (d.roomColdClose n).MemWf :=
  .updRoom (.roomClear h)

theorem Device.MemWf.roomVersionClose (h : d.MemWf) : (d.roomVersionClose n).MemWf :=
  .updRoom (.holdRoomVotes (.roomClear h))

theorem Device.MemWf.roomsEnd (h : d.MemWf) : d.roomsEnd.MemWf := by
  unfold Device.roomsEnd
  exact .updReqs (.each h fun h => .updRoom (.roomClear h))

theorem Device.MemWf.helloPriv {keep : Bool} (h : d.MemWf) : (d.helloPriv n keep).MemWf :=
  .setFloor (.when (.gwdOff (.dropWork h)) fun h => h)

theorem Device.MemWf.helloOpen {version : Nat} {session : Word} {keep : Bool} (h : d.MemWf) :
    (d.helloOpen id version session keep).1.MemWf :=
  .updRoom (.helloPriv (.clearDedup (.discardRecs (.resolveRoom h))))

theorem cmdHello_keepsMem : cmdHello.KeepsMem where
  run := by
    intro _ _ _ h
    dsimp only [cmdHello]
    refine .ite_fst h ?_
    split
    · exact h
    · exact .helloOpen h
  redo := by
    rintro _ ⟨⟩ _ _ _ h
    dsimp only
    split
    · exact .when h .helloPriv
    · exact h

theorem Device.MemWf.byePriv {keep : Bool} (h : d.MemWf) : (d.byePriv n keep).MemWf :=
  .when h fun h => h

theorem cmdBye_keepsMem : cmdBye.KeepsMem where
  run := fun h => .ite_fst h (.updRoom (.digAbortRoom (.clearDedup (.byePriv h))))
  redo := by
    rintro _ ⟨⟩ _ _ _ h
    dsimp only
    split
    · exact .when h .byePriv
    · exact h

theorem cmdPing_keepsMem : cmdPing.KeepsMem :=
  ⟨fun h => h, nofun⟩

theorem cmdTime_keepsMem : cmdTime.KeepsMem :=
  ⟨fun h => h, nofun⟩

theorem cmdRoomQuery_keepsMem : cmdRoomQuery.KeepsMem :=
  ⟨fun h => h, nofun⟩

theorem cmdRoomReset_keepsMem : cmdRoomReset.KeepsMem where
  run := fun h => .ite_fst (.roomReset h) (.roomReset h)
  redo := by
    rintro _ ⟨⟩ _ _ _ h
    exact .dropWork (.byePriv h)

/-! ### Power states (chapter 03) -/

theorem Device.MemWf.chgPause (h : d.MemWf) : d.chgPause.MemWf :=
  .ite h (.ite h h)

theorem Device.MemWf.gateBegin (h : d.MemWf) : d.gateBegin.MemWf := h

theorem Device.MemWf.lodgeLeave {code period : Nat} (h : d.MemWf) : (d.lodgeLeave code period).MemWf :=
  .updPower (.gateBegin (.chgPause h))

theorem Device.MemWf.exitLog (h : d.MemWf) : d.exitLog.MemWf := by
  unfold Device.exitLog
  split
  · exact .updPower (.raise h)
  · exact h

theorem Device.MemWf.wakeEvent {code : Nat} (h : d.MemWf) : (d.wakeEvent code).MemWf := by
  unfold Device.wakeEvent
  refine .ite ?_ h
  split
  · exact .lodgeLeave h
  · exact h
  · exact h
  · exact .when h fun h => h
  · exact h

theorem Device.MemWf.forceLodge (h : d.MemWf) : d.forceLodge.MemWf := h

theorem Device.MemWf.wakeArmEdge (h : d.MemWf) : d.wakeArmEdge.MemWf := by
  unfold Device.wakeArmEdge
  split
  · exact .ite h h
  · exact h

theorem Device.MemWf.entryEnds (h : d.MemWf) : d.entryEnds.MemWf := by
  unfold Device.entryEnds
  exact .updPriv (.updRcp (.updImages (.chgWithdraw (.digStop (.adcStop (.kinStop (.authEnd (.larderStop (.roomsEnd h)))))))))

theorem Device.MemWf.lodgeBegin {t : Nat} (h : d.MemWf) : (d.lodgeBegin t).MemWf := by
  unfold Device.lodgeBegin
  split
  · exact h
  · exact .raise (.updActive (.updShadow (.downBegin (.gaugeLodge (.entryEnds (.free (.updPins (.updPower (.ite h h)))))))))

theorem Device.MemWf.shipBegin (h : d.MemWf) : d.shipBegin.MemWf :=
  .updPower (.downBegin (.entryEnds h))

theorem Device.MemWf.allRailsOff (h : d.MemWf) : d.allRailsOff.MemWf :=
  .updVotes (.updActive (.updShadow h))

theorem Device.MemWf.keepersOff (h : d.MemWf) : d.keepersOff.MemWf := h

theorem Device.MemWf.lodgeReached (h : d.MemWf) : d.lodgeReached.MemWf := by
  unfold Device.lodgeReached
  dsimp only
  split
  · exact .updPower (.keepersOff (.allRailsOff h))
  · exact .lodgeLeave (.updPower (.keepersOff (.allRailsOff h)))

theorem Device.MemWf.aonFet {batMv : Nat} (h : d.MemWf) : (d.aonFet batMv).MemWf := h

theorem Device.MemWf.ledgerDrain (h : d.MemWf) : d.ledgerDrain.MemWf :=
  .foldl h .ledgerStep

theorem Device.MemWf.shipLeave (h : d.MemWf) : d.shipLeave.MemWf :=
  .ite h h

theorem Device.MemWf.shipReached (h : d.MemWf) : d.shipReached.MemWf := by
  have hz : (d.allRailsOff.gaugeSave.larderSave.raise (coded 0x13 3)).ledgerDrain.porReset.MemWf :=
    .porReset (.ledgerDrain (.raise (.larderSave (.gaugeSave (.allRailsOff h)))))
  unfold Device.shipReached
  dsimp only
  generalize (d.allRailsOff.gaugeSave.larderSave.raise (coded 0x13 3)).ledgerDrain.porReset = z at hz ⊢
  exact .when hz .shipLeave

theorem cmdPwrQuery_keepsMem : cmdPwrQuery.KeepsMem :=
  ⟨fun h => h, nofun⟩

theorem cmdPwrFloor_keepsMem : cmdPwrFloor.KeepsMem :=
  ⟨fun h => h, nofun⟩

theorem cmdPwrLodge_keepsMem : cmdPwrLodge.KeepsMem where
  run := fun h => .ite_fst h h
  redo := by
    rintro _ ⟨⟩ _ _ _ h
    dsimp only
    split
    · exact .when h fun h => h
    · exact h

theorem cmdPwrShip_keepsMem : cmdPwrShip.KeepsMem :=
  ⟨fun h => .ite_fst h (.ite_fst h h), nofun⟩

theorem cmdPwrRestart_keepsMem : cmdPwrRestart.KeepsMem where
  run := fun h => .ite_fst h h
  redo := by
    rintro _ ⟨⟩ _ _ _ h
    dsimp only
    split
    · exact .when h fun h => h
    · exact h

/-! ### Safe Hold, the pair table and their commands (chapter 19) -/

theorem Device.MemWf.safeVotes (h : d.MemWf) : d.safeVotes.MemWf :=
  .ite h h

theorem Device.MemWf.safeEdge (h : d.MemWf) : d.safeEdge.MemWf :=
  .ite (.raise h) (.when h fun h => h)

theorem Device.MemWf.safeLeave (h : d.MemWf) : d.safeLeave.2.MemWf :=
  .ite_snd h h

theorem cmdFaultRead_keepsMem : cmdFaultRead.KeepsMem :=
  ⟨fun h => .when (.buffer h) fun h => h, nofun⟩

theorem cmdLedgerRead_keepsMem : cmdLedgerRead.KeepsMem :=
  ⟨.buffer, nofun⟩

theorem Device.MemWf.faultClear {action target : Nat} (h : d.MemWf) : (d.faultClear action target).2.MemWf := by
  unfold Device.faultClear
  split
  · exact .safeLeave h
  · exact .releaseHeld h
  · exact .each h .releaseHeld
  · exact h
  · exact h
  · exact h

theorem cmdFaultClear_keepsMem : cmdFaultClear.KeepsMem :=
  ⟨fun h => .raise (.faultClear h), nofun⟩

theorem cmdFaultProbe_keepsMem : cmdFaultProbe.KeepsMem :=
  ⟨fun h => .buffer h, nofun⟩

theorem Device.MemWf.dieFault (h : d.MemWf) : d.dieFault.MemWf :=
  .when (.tripDie h) .ldo6Left

theorem Device.MemWf.pairAction {p qual : Nat} (h : d.MemWf) : (d.pairAction p qual).MemWf :=
  .ite (.dieFault h) (.ite h (.ite (.updCkpt h) h))

/-! ### The `RAIL_` and `SEQ_` commands (chapters 10, 11) -/

theorem cmdRailVote_keepsMem : cmdRailVote.KeepsMem :=
  ⟨fun h => h, nofun⟩

theorem cmdRailQuery_keepsMem : cmdRailQuery.KeepsMem :=
  ⟨fun h => h, nofun⟩

theorem Device.MemWf.schedDrop {bits : Nat} (h : d.MemWf) : (d.schedDrop n r bits).MemWf := by
  unfold Device.schedDrop
  split
  · exact h
  · exact .complete h

theorem Device.MemWf.schedMake {s : Sched} (h : d.MemWf) : (d.schedMake s).MemWf :=
  .complete h

theorem Device.MemWf.schedStep (h : d.MemWf) : d.schedStep.MemWf :=
  .each h fun h => .when h .schedMake

theorem cmdRailSched_keepsMem : cmdRailSched.KeepsMem :=
  ⟨fun h => .ite_fst (.free (.schedDrop h)) (.ite_fst h (.updPriv (.schedDrop h))), nofun⟩

theorem cmdSeqRun_keepsMem : cmdSeqRun.KeepsMem where
  run := fun h => .ite_fst h h
  redo := by
    rintro _ ⟨⟩ _ _ _ h
    dsimp only
    split
    · exact h
    · exact .ite h h

theorem cmdSeqAbort_keepsMem : cmdSeqAbort.KeepsMem where
  run := by
    intro _ _ _ h
    dsimp only [cmdSeqAbort]
    split
    · exact h
    · exact .ite_fst (.updPriv (.raise h)) (.seqFinish (.raise h))
  redo := nofun

/-! ### The active keeper's work (chapters 04, 05) -/

theorem cmdOf_keepsMem {op : Nat} {c : Cmd} (hc : cmdOf op = some c) : c.KeepsMem := by
  unfold cmdOf at hc
  split at hc <;> cases hc
  exacts [cmdHello_keepsMem, cmdBye_keepsMem, cmdPing_keepsMem, cmdTime_keepsMem, cmdRoomQuery_keepsMem,
    cmdRoomReset_keepsMem, cmdPwrQuery_keepsMem, cmdPwrFloor_keepsMem, cmdPwrLodge_keepsMem, cmdPwrShip_keepsMem,
    cmdPwrRestart_keepsMem, cmdRailVote_keepsMem, cmdRailQuery_keepsMem, cmdRailSched_keepsMem, cmdSeqRun_keepsMem,
    cmdSeqAbort_keepsMem, cmdChgQuery_keepsMem, cmdChgSet_keepsMem, cmdChgFaults_keepsMem, cmdGaugeQuery_keepsMem,
    cmdGaugeSet_keepsMem, cmdLarderReserve_keepsMem, cmdBurstPair_keepsMem, cmdLarderRelease_keepsMem,
    cmdLarderQuery_keepsMem, cmdLarderSet_keepsMem, cmdPathQuery_keepsMem, cmdDcLimit_keepsMem, cmdPriPulse_keepsMem,
    cmdPvSet_keepsMem, cmdKinQuery_keepsMem, cmdKinSet_keepsMem, cmdKinUser_keepsMem, cmdAdcPlan_keepsMem,
    cmdAdcGroup_keepsMem, cmdAdcRead_keepsMem, cmdDigKeyload_keepsMem, cmdDigQueue_keepsMem, cmdFaultRead_keepsMem,
    cmdLedgerRead_keepsMem, cmdFaultClear_keepsMem, cmdFaultProbe_keepsMem, cmdWdSet_keepsMem, cmdWdQuery_keepsMem,
    cmdGwdArm_keepsMem, cmdWdKick_keepsMem, cmdKeeperSwap_keepsMem, cmdKeeperQuery_keepsMem, cmdKeeperRevive_keepsMem,
    cmdImageStage_keepsMem, cmdImageCommit_keepsMem, cmdImageQuery_keepsMem, cmdRecipeSelect_keepsMem,
    cmdRecipeWrite_keepsMem, cmdRecipeQuery_keepsMem, cmdDbgChallenge_keepsMem, cmdDbgRespond_keepsMem,
    cmdLifecycleAdvance_keepsMem, cmdSecQuery_keepsMem]

theorem Device.MemWf.step1 (h : d.MemWf) : (d.step1 sm).MemWf :=
  .free (.railsSeen (.gatingChoose (.burstRead h)))

theorem Device.MemWf.step2 (h : d.MemWf) : d.step2.MemWf := h

theorem Device.MemWf.takeOne (h : d.MemWf) (he : d.takeOne n = some e) : e.MemWf := by
  unfold Device.takeOne at he
  dsimp only at he
  split at he
  · exact nomatch he
  · have ht := Device.MemWf.take h (r := parseSlot n ((List.range 64).map fun i =>
      d.winRead n (0x200 + 64 * ((d.rooms.get n).sqHead.toNat % 32) + i)))
    split at he
    next => exact nomatch he
    next x hx =>
      rw [hx] at ht
      cases he
      exact ht
    next x hx =>
      rw [hx] at ht
      cases he
      exact ht

theorem intakeRoom_memWf {k : Nat} {x : Device × Nat × List RoomId} (h : x.1.MemWf) : (intakeRoom n k x).1.MemWf := by
  induction k generalizing x with
  | zero => exact h
  | succ k ih =>
    unfold intakeRoom
    split
    · exact h
    · split
      next he => exact ih (.takeOne h he)
      next => exact h

theorem intakePasses_memWf {start fuel : Nat} {x : Device × Nat × List RoomId} (h : x.1.MemWf) :
    (intakePasses start fuel x).1.MemWf := by
  induction fuel generalizing x with
  | zero => exact h
  | succ fuel ih =>
    unfold intakePasses
    split
    · exact h
    · exact ih (.foldl_fst h intakeRoom_memWf)

theorem Device.MemWf.intake {rooms : List RoomId} {k : Nat} (h : d.MemWf) : (d.intake rooms k).1.MemWf :=
  intakePasses_memWf h

theorem Device.MemWf.uartLost (h : d.MemWf) : d.uartLost.MemWf :=
  .ite (.updPath (.each h .roomReset)) h

theorem Device.MemWf.versionCloses (h : d.MemWf) : d.versionCloses.MemWf :=
  .each h .roomVersionClose

theorem Device.MemWf.exhaustStep (h : d.MemWf) : d.exhaustStep.MemWf :=
  .ite (.haltRelease (.authEnd (.forceLodge (.raise h)))) h

theorem Device.MemWf.step4Rooms (h : d.MemWf) : d.step4Rooms.MemWf :=
  .safeVotes (.holdEnd (.holdStart (.versionCloses (.uartLost h))))

theorem Device.MemWf.execRounds {fuel left : Nat} (h : d.MemWf) : (d.execRounds fuel left).MemWf := by
  induction fuel generalizing d left with
  | zero => exact .execAll h cmdOf_keepsMem
  | succ fuel ih => exact .ite (.execAll h cmdOf_keepsMem) (ih (.intake (.execAll h cmdOf_keepsMem)))

theorem Device.MemWf.step4Exec {left : Nat} (h : d.MemWf) : (d.step4Exec left).MemWf :=
  .execRounds (.selectDone (.swapAnswers (.eccStep4 (.step4Rooms h))))

theorem Device.MemWf.step4Rest (h : d.MemWf) : d.step4Rest.MemWf := by
  unfold Device.step4Rest
  exact .exhaustStep (.rcpAbandon (.stageAbandon (.rcpProgram (.imageProgram
    (.digStep4 (.larderStep4 (.gaugeStep4 (.schedStep (.seqBatch (.adcWaiters
    (.attachStep4 (.respStep4 (.chalStep4 (.commitWrite (.wdStep4 (.rcpWaiters h))))))))))))))))

theorem Device.MemWf.formTargets (h : d.MemWf) : d.formTargets.MemWf := by
  unfold Device.formTargets
  exact .updShadow (.adcTargets (.kinTargets (.larderTargets (.chgTargets (.combineRails h)))))

theorem Device.MemWf.latePatch (h : d.MemWf) : d.latePatch.MemWf := by
  unfold Device.latePatch
  refine .each h ?_
  intro _ _ h
  split
  · exact h
  · split
    · refine .ite ?_ h
      split
      · exact h
      · exact h
    · exact h

theorem Device.MemWf.step5 (h : d.MemWf) : d.step5.MemWf :=
  .latePatch (.formTargets h)

theorem Device.MemWf.publish {held : Bool} (h : d.MemWf) : (d.publish held).MemWf := h

theorem Device.MemWf.mirrorWrite (h : d.MemWf) : d.mirrorWrite.MemWf :=
  .when (.each h fun h => .when h fun h => h) fun h => h

theorem Device.MemWf.steps67 (h : d.MemWf) : d.steps67.MemWf :=
  .when h fun h => .mirrorWrite (.postAll h)

theorem Device.MemWf.stageAt {st : WorkStage} (h : d.MemWf) : (d.stageAt st).MemWf := h

theorem Device.MemWf.workNormal (h : d.MemWf) : (d.workNormal sm).MemWf := by
  unfold Device.workNormal
  dsimp only
  split
  · exact .stageAt (.gwdAll (.intake (.step2 (.step1 h))))
  · exact .step4Exec (.gwdAll (.intake (.step2 (.step1 h))))

theorem Device.MemWf.workRest (h : d.MemWf) : d.workRest.MemWf := by
  unfold Device.workRest
  split
  · exact h
  · exact .stageAt (.step4Exec h)
  · exact h

theorem Device.MemWf.replayOne {r : Rec} (h : d.MemWf) : (d.replayOne r).MemWf := by
  unfold Device.replayOne
  split
  next => exact h
  next c hc =>
    have hk := cmdOf_keepsMem hc
    refine .ite h ?_
    split
    next hf => exact hk.redo hf h
    next =>
      have hx : (c.run d r.id (r.args.getD (List.replicate 56 0))).1.MemWf := hk.run h
      refine .ite h (.ite hx ?_)
      split
      · exact .complete hx
      · exact hx
      · exact hx
      · exact hx

theorem Device.MemWf.replayAll {batch : Nat} (h : d.MemWf) : (d.replayAll batch).MemWf :=
  .each h .replayOne

theorem Device.MemWf.resolveIntent {r : Rec} (h : d.MemWf) : (d.resolveIntent r).MemWf :=
  .ite (.intentNote h) (.ite (.commitResolve (.intentNote h)) (.ite (.updReqs (.undoIntent (.intentNote h)))
    (.complete (.undoIntent (.intentNote h)))))

theorem Device.MemWf.resolveAll (h : d.MemWf) : d.resolveAll.MemWf :=
  .each h .resolveIntent

theorem Device.MemWf.hotTakeover {c : Ckpt} {schema : Nat} (h : d.MemWf) : (d.hotTakeover c schema).MemWf :=
  .postAll (.ite (.resolveAll (.replayAll h)) (.resolveAll (.replayAll h)))

theorem Device.MemWf.coldTakeover (h : d.MemWf) : d.coldTakeover.MemWf := by
  unfold Device.coldTakeover
  have hlast : ∀ {e : Device}, e.MemWf → (if e.sup.published then e else { e with shadow := e.active }).MemWf :=
    fun h => .ite h h
  exact hlast (.updLarder (.gaugeResume (.holdRails (.updVotes (.seqStop (.updReqs
    (.each (.each h .intentDrop) .roomColdClose)))))))

theorem Device.MemWf.coldVerify (h : d.MemWf) : d.coldVerify.2.MemWf := by
  unfold Device.coldVerify
  split
  next r _ =>
    have hv := Device.MemWf.rcpVerify h (slot := r.number)
    generalize d.rcpVerify r.number = x at hv
    exact hv
  next => exact h

theorem Device.MemWf.takeover (h : d.MemWf) : d.takeover.2.MemWf := by
  unfold Device.takeover
  dsimp only
  split
  · exact .hotTakeover h
  · exact .ite (.coldTakeover (.coldVerify h)) (.coldVerify h)

theorem Device.MemWf.underRecipe {r : Option Recipe} (h : d.MemWf) : (d.underRecipe r).MemWf := h

theorem Device.MemWf.switchBurst {r : Recipe} (h : d.MemWf) : (d.switchBurst r).MemWf :=
  .when h fun h => h

theorem Device.MemWf.switchRun {held : Bool} (h : d.MemWf) : (d.switchRun held).MemWf := by
  unfold Device.switchRun
  split
  · exact h
  · exact .updWd (.switchBurst (.each
      (.updRec (.updRcp (.publish (.underRecipe (.formTargets (.underRecipe (.updPriv h))))))) .roomReset))

theorem Device.MemWf.copyIdent (h : d.MemWf) : d.copyIdent.MemWf := h

theorem Device.MemWf.switchEdge (h : d.MemWf) : d.switchEdge.MemWf := by
  unfold Device.switchEdge
  split
  · exact h
  · exact .ite (.updPriv (.raise (.copyIdent (.when h fun h => .chgSettle (.chgEnter h))))) h

theorem Device.MemWf.stepsEnd (h : d.MemWf) : d.stepsEnd.MemWf := by
  unfold Device.stepsEnd
  refine .updSup ?_
  refine .windowOpen ?_
  split
  · exact .writeAs h fun h => h
  · exact h

theorem Device.MemWf.afterPublish (h : d.MemWf) : d.afterPublish.MemWf :=
  .ite (.stepsEnd (.steps67 h)) h

theorem Device.MemWf.formSet (h : d.MemWf) : d.formSet.MemWf :=
  .ite (.step5 (.step4Rest h)) (.combineRails (.seqBatch h))

theorem Device.MemWf.workToMark (h : d.MemWf) : d.workToMark.MemWf := by
  unfold Device.workToMark
  dsimp only
  split
  · exact .ite h (.ite (.stepsEnd h) h)
  · exact .ite h (.ite (.ite (.stepsEnd (.switchRun h)) (.stageAt (.switchRun h))) (.afterPublish (.publish (.formSet h))))
  · exact .ite (.stepsEnd (.steps67 h)) h
  · exact .ite (.stepsEnd h) h
  · exact h
  · exact h

theorem Device.MemWf.budgetAt (h : d.MemWf) : d.budgetAt.MemWf :=
  .ite h (.ite (.raise (.updSup (.updSup (.when h .workToMark)))) (.updSup (.when h .workToMark)))

theorem Device.MemWf.workToDeadline (h : d.MemWf) : d.workToDeadline.MemWf := by
  unfold Device.workToDeadline
  refine .ite ?_ (.ite (.ite (.stageAt (.switchRun h)) (.stageAt (.publish (.formSet h)))) h)
  refine .stageAt ?_
  split
  · refine .wdClosing ?_
    split
    · exact .commitWith h
    · exact .raise h
    · exact .commit h
  · split
    · exact .commitWith h
    · exact .raise h
    · exact .commit h

theorem Device.MemWf.standbyWindow (h : d.MemWf) : d.standbyWindow.MemWf := by
  unfold Device.standbyWindow
  split
  · exact .wdClosing (.wdPeriod h)
  · exact h

theorem Device.MemWf.standbyOn (h : d.MemWf) : d.standbyOn.MemWf := by
  unfold Device.standbyOn
  split
  · exact .ite h h
  · exact h

theorem Device.MemWf.missedCommit (h : d.MemWf) : d.missedCommit.MemWf :=
  .ite (.when h .standbyOn) (.when (.updSup (.when h .standbyOn)) fun h => h)

theorem Device.MemWf.deadlineAt (h : d.MemWf) : d.deadlineAt.MemWf :=
  .ite h (.ite (.updSup (.standbyWindow (.when h .workToDeadline))) (.missedCommit
    (.updSup (.standbyWindow (.when h .workToDeadline)))))

theorem Device.MemWf.catchUp (h : d.MemWf) : d.catchUp.MemWf :=
  .ite (.ite (.deadlineAt (.ite (.budgetAt h) h)) (.ite (.budgetAt h) h)) h

theorem Device.MemWf.dueAt {t : Nat} {f : Device → Device} (h : d.MemWf) (hf : ∀ {e : Device}, e.MemWf → (f e).MemWf) :
    (d.dueAt t f).MemWf :=
  .ite (hf (.catchUp h)) h

theorem Device.MemWf.ringPut {r : Req} {op : Nat} (h : d.MemWf) : (d.ringPut r op).MemWf :=
  .updRoom (.winWrite h)

theorem Device.MemWf.ringPass {r : Req} {op : Nat} (h : d.MemWf) : (d.ringPass r op).MemWf :=
  .updRoom (.ringPut h)

theorem Device.MemWf.beginNow {c : Cmd} (h : d.MemWf) (hc : c.KeepsMem) : (d.beginNow c id).MemWf := by
  unfold Device.beginNow
  split
  · exact h
  · exact .when h fun h => .execRec h hc

theorem Device.MemWf.runReq {c : Cmd} {r : Req} (h : d.MemWf) (hc : c.KeepsMem) : (d.runReq c r).MemWf := by
  unfold Device.runReq
  refine .ite h (.ite (.ringPut h) ?_)
  have ht := Device.MemWf.take h (r := Req.hdr r c.op)
  split
  next => exact .ringPut h
  next hx =>
    rw [hx] at ht
    exact .ringPass ht
  next hx =>
    rw [hx] at ht
    exact .ite (.postAll (.beginNow (.ringPass ht) hc)) (.beginNow (.ringPass ht) hc)

end

end Sys2Proof.Machine

/-! PROOFS. Memory stays canonical, fourth part: starts, the Batch edge, the host link, the rows, and the step (R113, R224, R225,
R296). -/
namespace Sys2Proof.Machine

section
variable {d e : Device} {n : RoomId} {k : Keeper} {id : ReqId} {r : RailId} {l : List Byte} {off mv : Nat} {sm : Sample}
  {ss : StartSense}

/-! ### Starts (chapter 03) -/

theorem Device.MemWf.secStart (h : d.MemWf) : d.secStart.MemWf := h

theorem Device.MemWf.railsStart {keep : RailId → Bool} (h : d.MemWf) : (d.railsStart keep).MemWf := by
  unfold Device.railsStart
  exact .updRails (.updActive (.updShadow h))

theorem Device.MemWf.roomsStart (h : d.MemWf) : d.roomsStart.MemWf :=
  .updReqs (.each h fun h => .winWrite h)

theorem Device.MemWf.privStart {votes : List Vote} (h : d.MemWf) : (d.privStart votes).MemWf := h

theorem Device.MemWf.keepersStart (h : d.MemWf) : d.keepersStart.MemWf := by
  unfold Device.keepersStart
  extract_lets off e
  have he : e.MemWf := .updKeepers (.updKeeper (.updKeeper (.keepersOff h)))
  clear_value e
  exact he

theorem Device.MemWf.chgResume (h : d.MemWf) : d.chgResume.MemWf :=
  .ite h (.chgFet h)

theorem Device.MemWf.startClear {keep : RailId → Bool} {votes : List Vote} (h : d.MemWf) : (d.startClear keep votes).MemWf :=
  .priUpdate (.chgPause (.updPower (.updBatch (.updPins (.updPath (.updFaults
    (.updWd (.updRcp (.secStart (.digStop (.adcStop (.kinStop (.keepersStart
    (.privStart (.roomsStart (.railsStart (.advanceCut (.seqStop h))))))))))))))))))

theorem Device.MemWf.holdLost (h : d.MemWf) : d.holdLost.MemWf := h

theorem Device.MemWf.startStep2 (h : d.MemWf) : (d.startStep2 ss).MemWf :=
  .ite (.ite h (.ite h h)) (.ite (.wdRom (.updKeeper (.ite h (.ite h h)))) (.updKeeper (.ite h (.ite h h))))

theorem Device.MemWf.ledgerIndex (h : d.MemWf) : d.ledgerIndex.MemWf := by
  unfold Device.ledgerIndex
  split
  · exact h
  · exact h

theorem Device.MemWf.graveLogged (h : d.MemWf) : d.graveLogged.MemWf :=
  .ite h (.updPower (.raise h))

theorem Device.MemWf.zeroise (h : d.MemWf) : d.zeroise.MemWf :=
  .updFaults (.nvmErase (.updKeys (.eraseKeys h)))

theorem Device.MemWf.startStep3 (h : d.MemWf) : (d.startStep3 ss).2.MemWf := by
  unfold Device.startStep3
  extract_lets d₁ badLife badManifest d₂ d₃ d₄ d₅ d₆ d₇
  have h₁ : d₁.MemWf := .graveLogged (.ledgerIndex h)
  have h₂ : d₂.MemWf := .ite (.raise h₁) (.programLifecycle h₁)
  have h₅ : d₅.MemWf := .when (.when (.when h₂ .raise) .raise) .raiseOn
  clear_value d₅
  exact .ite_snd h₅ (.when (.when h₅ .eraseKeys) .zeroise)

theorem Device.MemWf.startStep4 (h : d.MemWf) : (d.startStep4 ss).MemWf :=
  .ite h h

theorem Device.MemWf.recipeTry {slot : Nat} {fallback : Bool} (h : d.MemWf) : (d.recipeTry slot fallback).2.MemWf := by
  unfold Device.recipeTry
  have hv := Device.MemWf.rcpVerify h (slot := slot)
  generalize d.rcpVerify slot = x at hv
  obtain ⟨v, e⟩ := x
  dsimp only at hv ⊢
  split
  · dsimp only
    exact .updPins (.updRcp hv)
  · exact .updRcp hv

theorem Device.MemWf.startStep5 (h : d.MemWf) : d.startStep5.2.MemWf := by
  unfold Device.startStep5
  extract_lets slot x
  have hx := Device.MemWf.recipeTry (slot := slot) (fallback := false) h
  rw [show d.recipeTry slot false = x from rfl] at hx
  clear_value x
  exact .ite_snd hx (.recipeTry hx)

theorem Device.MemWf.startStep6 (h : d.MemWf) : (d.startStep6 k).2.MemWf :=
  .ite_snd (.bootSlots h) h

theorem Device.MemWf.placeKeeper {slot : Option Nat} {active cold : Bool} (h : d.MemWf) :
    (d.placeKeeper k slot active cold).MemWf := by
  unfold Device.placeKeeper
  split
  · exact h
  · exact h

theorem Device.MemWf.startStep7 {a b : Option Nat} (h : d.MemWf) : (d.startStep7 a b).MemWf :=
  .updKeepers (.placeKeeper (.placeKeeper h))

theorem Device.MemWf.bootEntry {a b : Option Nat} (h : d.MemWf) : (d.bootEntry a b).MemWf :=
  .raiseAs h

theorem Device.MemWf.romSafe (h : d.MemWf) : d.romSafe.MemWf := by
  unfold Device.romSafe
  extract_lets d₁ reg d₂ d₃ rails
  have h₁ : d₁.MemWf := .updPins (.updPower (.keepersOff h))
  clear_value d₁
  have h₂ : d₂.MemWf := h₁
  clear_value d₂
  exact .updPower (.updSup (.updShadow (.updVotes (.raise (.bootEntry h₂)))))

theorem Device.MemWf.startInterval (h : d.MemWf) : d.startInterval.MemWf :=
  .updSup (.combineRails (.seqBatch h))

theorem Device.MemWf.gaugeStart (h : d.MemWf) : (d.gaugeStart ss).MemWf :=
  .ite (.larderLoad (.seedOrWait (.gaugeLoad h))) h

theorem Device.MemWf.startSteps (h : d.MemWf) : (d.startSteps ss).MemWf := by
  unfold Device.startSteps
  extract_lets d₁ d₂
  have h₁ : d₁.MemWf := .startStep2 h
  clear_value d₁
  refine .ite (.updPower (.updPins (.updVotes (.railsStart h₁)))) ?_
  have h₃ : (d₂.startStep3 ss).2.MemWf := .startStep3 h₁
  generalize d₂.startStep3 ss = x at h₃ ⊢
  obtain ⟨hold, d₃⟩ := x
  dsimp only at h₃ ⊢
  generalize hsec : d₃.secStart = d₄
  have h₄ : d₄.MemWf := hsec ▸ .secStart h₃
  refine .ite h₄ (.ite (.romSafe (.ite h₄ h₄)) ?_)
  have h₅ : (d₄.startStep4 ss).startStep5.2.MemWf := .startStep5 (.startStep4 h₄)
  generalize (d₄.startStep4 ss).startStep5 = x at h₅ ⊢
  have h₆ : (x.2.startStep6 .a).2.MemWf := .startStep6 h₅
  generalize x.2.startStep6 .a = a at h₆ ⊢
  have h₇ : (a.2.startStep6 .b).2.MemWf := .startStep6 h₆
  generalize a.2.startStep6 .b = b at h₇ ⊢
  exact .ite (.romSafe h₅) (.ite (.romSafe h₇)
    (.startInterval (.updPower (.updPriv (.gaugeStart (.startStep7 (.bootEntry (.updWd h₇))))))))

theorem Device.MemWf.gatePass (h : d.MemWf) : (d.gatePass ss).MemWf := by
  unfold Device.gatePass
  extract_lets d₁ sample d₂ d₃ d₄
  have h₁ : d₁.MemWf := .exitLog h
  have h₂ : d₂.MemWf := h₁
  have h₃ : d₃.MemWf := .updPower h₂
  exact .ite (.updPower h) (.ite (.startSteps h₃) (.startSteps (.when (.updPower h₃) .startClear)))

theorem Device.MemWf.batchStart (h : d.MemWf) : d.batchStart.MemWf := h

theorem Device.MemWf.startReports (h : d.MemWf) : (d.startReports sm).MemWf := by
  unfold Device.startReports
  dsimp only
  split
  · refine .raise ?_
    refine .updWd ?_
    refine .when (.chgReport (.each h .raise)) ?_
    intro _ h
    split
    · exact .ite h h
    · exact h
  · refine .when (.chgReport (.each h .raise)) ?_
    intro _ h
    split
    · exact .ite h h
    · exact h

theorem Device.MemWf.step10 (h : d.MemWf) : (d.step10 sm).MemWf := by
  unfold Device.step10
  extract_lets d₁ d₂ d₃ d₄ d₅ d₆
  have h₅ : d₅.MemWf :=
    .gaugeStep10 (.digStep10 (.adcStep10 (.kinStep10 (.updPower (.copyIdent (.batchStart (.updPower (.updPins h))))))))
  clear_value d₅
  exact .workNormal (.updSup (.startReports (.priUpdate (.updChg (.chgSettle (.fetEdge (.chgResume h₅)))))))

theorem Device.MemWf.startTick (h : d.MemWf) : (d.startTick sm).MemWf :=
  .ite h (.ite (.startInterval (.gaugeEdge (.railsMeasure (.railsEdge (.when h fun h => h)))))
    (.step10 (.gaugeEdge (.railsMeasure (.railsEdge (.when h fun h => h))))))

theorem Device.MemWf.restartCounted (h : d.MemWf) : d.restartCounted.MemWf :=
  .when (.raise h) fun h => h

theorem Device.MemWf.chipRestart {cause : Nat} (h : d.MemWf) : (d.chipRestart cause ss).MemWf := by
  unfold Device.chipRestart
  extract_lets d₁ held votes d₂
  have h₁ : d₁.MemWf := .ite (.restartCounted h) (.raise h)
  clear_value d₁
  have h₂ : d₂.MemWf := .holdLost (.updPower h₁)
  clear_value d₂
  exact .startSteps (.tripUnsupplied (.startClear h₂))

theorem Device.MemWf.brownOut (h : d.MemWf) : d.brownOut.MemWf := by
  unfold Device.brownOut
  split
  · exact h
  · exact h
  · exact h
  · exact .railsStart h
  · exact .updPins (.updRcp (.updChg (.startClear (.holdLost (.updPower (.gateBegin (.exitLog h)))))))

theorem Device.MemWf.keeperFail {cause : Nat} (h : d.MemWf) : (d.keeperFail k cause ss).MemWf := by
  unfold Device.keeperFail
  extract_lets d₁ s act d₂
  have h₁ : d₁.MemWf := .catchUp h
  clear_value d₁
  have h₂ : d₂.MemWf := .failRecord h₁
  clear_value d₂
  exact .ite h₁ (.ite h₂ (.ite (.chipRestart (.when h₂ .quarantine)) (.ite h₂ (.failAway h₂))))

/-! ### The Batch edge (chapter 04) -/

theorem Device.MemWf.closeBatch (h : d.MemWf) : d.closeBatch.MemWf := by
  unfold Device.closeBatch
  extract_lets d₁ d₂ d₃ d₄
  have h₄ : d₄.MemWf := .adcOverlaps (.when (.when (.deadlineAt (.budgetAt h)) .raise) .larderSkip)
  clear_value d₄
  exact .ite (.flagAll (.updKeepers h₄)) h₄

theorem Device.MemWf.applyShadow (h : d.MemWf) : d.applyShadow.MemWf :=
  .ite (.adcTriggerAll (.kinEdge h)) (.kinEdge h)

theorem Device.MemWf.standbyRest (h : d.MemWf) : d.standbyRest.MemWf := by
  unfold Device.standbyRest
  split
  · exact .ite h h
  · exact h

theorem Device.MemWf.stateEdge (h : d.MemWf) : d.stateEdge.MemWf :=
  .ite (.standbyRest h) (.standbyOn h)

theorem Device.MemWf.nextBatch (h : d.MemWf) : d.nextBatch.MemWf := h

theorem Device.MemWf.modeEdge (h : d.MemWf) : d.modeEdge.MemWf :=
  .ite (.when h .raise) h

theorem Device.MemWf.bootFloorEdge (h : d.MemWf) : d.bootFloorEdge.MemWf :=
  .ite h h

theorem Device.MemWf.logicEdge (h : d.MemWf) : d.logicEdge.MemWf :=
  .closeRooms (.wakeArmEdge (.switchEdge (.haltApply (.secEdge (.safeEdge (.bootFloorEdge (.modeEdge h)))))))

theorem Device.MemWf.hardwareEdge {dt : Nat} (h : d.MemWf) : (d.hardwareEdge sm dt).MemWf :=
  .exhaustRelease (.pvRegulate (.resEdge (.priUpdate (.chgSettle (.stepRemoval
    (.chgTerminateEnd (.gaugeEdge (.fetEdge (.when (.railsMeasure (.twLeft (.railsEdge (.gatingEdge (.burstEdge h)))))
    .adcTriggerAll)))))))))

theorem Device.MemWf.wdEdge (h : d.MemWf) : (d.wdEdge ss).MemWf :=
  .ite (.keeperFail (.raise (.ite (.keeperFail (.raise (.wdTick (.wdTick h)))) (.wdTick (.wdTick h)))))
    (.ite (.keeperFail (.raise (.wdTick (.wdTick h)))) (.wdTick (.wdTick h)))

theorem Device.MemWf.selfTestAsk (h : d.MemWf) : d.selfTestAsk.MemWf :=
  .when (.when h fun h => h) fun h => h

theorem Device.MemWf.selfTestLate (h : d.MemWf) : (d.selfTestLate ss).MemWf :=
  .ite (.keeperFail (.ite (.keeperFail h) h)) (.ite (.keeperFail h) h)

theorem Device.MemWf.arbiterEdge (h : d.MemWf) : (d.arbiterEdge ss).2.MemWf := by
  unfold Device.arbiterEdge
  dsimp only
  split
  · exact .ite (.chipRestart (.updKeepers (.flagAll (.grantSwap (.swapNote (.selfTestAsk h))))))
      (.updKeepers (.flagAll (.grantSwap (.swapNote (.selfTestAsk h)))))
  · exact .ite (.updKeepers (.when (.swapNote (.selfTestAsk h)) .failRecord))
      (.chipRestart (.when (.updKeepers (.when (.swapNote (.selfTestAsk h)) .failRecord)) .quarantine))
  · exact .updKeepers (.swapNote (.selfTestAsk h))

theorem Device.MemWf.classifyBatch (h : d.MemWf) : d.classifyBatch.MemWf := by
  unfold Device.classifyBatch
  dsimp only
  split
  · exact h
  · exact h
  · exact .ite h h
  · exact h

theorem Device.MemWf.batchWork {ext : WorkExtent} {granted : Bool} (h : d.MemWf) : (d.batchWork sm ext ss granted).MemWf := by
  unfold Device.batchWork
  dsimp only
  split
  · exact .workNormal h
  · exact .ite (.ite (.takeover h) (.chipRestart (.takeover h))) h
  · exact h
  · exact .ite h (.workRest h)
  · exact .ite h (.workRest h)

theorem Device.MemWf.downWork {ext : WorkExtent} (h : d.MemWf) : (d.downWork ext).MemWf := by
  unfold Device.downWork
  dsimp only
  split
  · exact h
  · exact h
  · exact h

theorem Device.MemWf.leaveEdge {ext : WorkExtent} {dt : Nat} {begin_ : Device → Device} (h : d.MemWf)
    (hf : ∀ {e : Device}, e.MemWf → (begin_ e).MemWf) : (d.leaveEdge sm ext dt begin_).MemWf := by
  unfold Device.leaveEdge
  extract_lets was d₁ d₂
  have h₂ : d₂.MemWf := .classifyBatch (.hotCopy (.logicEdge (.nextBatch (.stateEdge (.updRcp h)))))
  clear_value d₂
  exact .downWork (hf (.hardwareEdge h₂))

theorem Device.MemWf.downEdge {ext : WorkExtent} (h : d.MemWf) : (d.downEdge sm ext ss).MemWf := by
  unfold Device.downEdge
  extract_lets dt d₁ d₂ d₃ was d₄ d₅
  have h₃ : d₃.MemWf := .selfTestLate (.wdEdge (.when (.moveTo (.closeBatch h)) .updActive))
  clear_value d₃
  exact .ite h₃ (.ite
    (.downWork (.hardwareEdge (.classifyBatch (.hotCopy (.haltApply (.secEdge (.safeEdge (.modeEdge (.nextBatch h₃)))))))))
    (.ite (.lodgeReached (.hardwareEdge h₃)) (.shipReached (.hardwareEdge h₃))))

theorem Device.MemWf.beginBatch {ext : WorkExtent} {dt : Nat} {granted : Bool} (h : d.MemWf) :
    (d.beginBatch sm ext ss dt granted).MemWf := by
  unfold Device.beginBatch
  extract_lets was d₁
  have h₁ : d₁.MemWf := .classifyBatch (.hotCopy (.logicEdge (.nextBatch (.stateEdge h))))
  clear_value d₁
  exact .batchWork (.hardwareEdge h₁)

theorem Device.MemWf.openEdge {ext : WorkExtent} (h : d.MemWf) : (d.openEdge sm ext ss).MemWf := by
  unfold Device.openEdge
  extract_lets dt d₁ d₂
  have h₂ : d₂.MemWf := .selfTestLate (.wdEdge (.applyShadow (.moveTo (.closeBatch h))))
  clear_value d₂
  refine .ite h₂ ?_
  split
  · exact .chipRestart h₂
  · refine .ite (.leaveEdge h₂ .lodgeBegin) (.ite (.leaveEdge h₂ .shipBegin) ?_)
    have ha : (d₂.arbiterEdge ss).2.MemWf := .arbiterEdge h₂
    generalize d₂.arbiterEdge ss = x at ha ⊢
    exact .ite ha (.beginBatch ha)

theorem Device.MemWf.romEdge (h : d.MemWf) : (d.romEdge sm ss).MemWf := by
  unfold Device.romEdge
  extract_lets d₁ d₂ d₃ x d₄
  have h₃ : d₃.MemWf := .railsMeasure (.railsEdge (.secEdge (.safeEdge (.when h fun h => .updSup (.updActive h)))))
  clear_value d₃
  have h₄ : d₄.MemWf := .postAll (.stageAbandon (.imageProgram (.execRounds (.eccStep4 (.intake h₃)))))
  clear_value d₄
  split
  · exact .chipRestart h₄
  · exact h₄

theorem Device.MemWf.batchEdge {ext : WorkExtent} (h : d.MemWf) : (d.batchEdge sm ext ss).MemWf := by
  unfold Device.batchEdge
  split
  · exact .openEdge h
  · exact .downEdge h
  · exact .downEdge h
  · exact .romEdge h
  · exact h

theorem Device.MemWf.edgeIf {due : Bool} (h : d.MemWf) : (d.edgeIf due ss).MemWf :=
  .ite (.batchEdge h) h

theorem Device.MemWf.idleTick (h : d.MemWf) : d.idleTick.MemWf :=
  .ite h (.ite (.catchUp h) (.when h fun h => h))

/-! ### The host link (chapter 08) -/

theorem Device.MemWf.slotByte {at_ : Nat} {b : Byte} (h : d.MemWf) : (d.slotByte n at_ b).MemWf :=
  .ite (.winWrite h) h

theorem Device.MemWf.slotBytes {k : Nat} (h : d.MemWf) : (d.slotBytes n k l).MemWf := by
  induction l generalizing d k with
  | nil => exact h
  | cons b l ih => exact ih (.slotByte h)

theorem Device.MemWf.sqTailSet {v : Byte} (h : d.MemWf) : (d.sqTailSet n v).MemWf :=
  .ite h h

theorem Device.MemWf.cqHeadSet {v : Byte} (h : d.MemWf) : (d.cqHeadSet n v).MemWf :=
  .ite h h

theorem Device.MemWf.evtClear {w : Word} (h : d.MemWf) : (d.evtClear n w).MemWf := h

theorem Device.MemWf.roomWrite (h : d.MemWf) : (d.roomWrite n off l).MemWf := by
  unfold Device.roomWrite
  refine .when ?_ fun h => h
  split
  · refine .cqHeadSet ?_
    split
    · exact .sqTailSet (.updRoom (.evtClear (.slotBytes h)))
    · exact .updRoom (.evtClear (.slotBytes h))
  · split
    · exact .sqTailSet (.updRoom (.evtClear (.slotBytes h)))
    · exact .updRoom (.evtClear (.slotBytes h))

theorem Device.MemWf.commonWrite {p : Port} (h : d.MemWf) : (d.commonWrite p n off l).MemWf := by
  unfold Device.commonWrite
  refine .ite (.digFrom h fun h => h) ?_
  refine .when ?_ fun h => .digFrom h fun h => h
  split
  · refine .digFrom ?_ .digCtrl
    split
    · exact .digClaim h
    · exact h
  · split
    · exact .digClaim h
    · exact h

theorem Device.MemWf.frameWrite {p : Port} (h : d.MemWf) : (d.frameWrite p n off l).MemWf :=
  .commonWrite (.when h .roomWrite)

theorem Device.MemWf.frameBad {p : Port} {why : Discard} (h : d.MemWf) : (d.frameBad p n why).MemWf :=
  .when (.when h fun h => h) fun h => h

theorem Device.MemWf.frameGood {p : Port} {f : Device → Device} {len : Nat} (h : d.MemWf)
    (hf : ∀ {e : Device}, e.MemWf → (f e).MemWf) : (d.frameGood p n f off len).MemWf :=
  .when (hf (.when h fun h => h)) fun h => h

theorem Device.MemWf.writeFrame {p : Port} (h : d.MemWf) : (d.writeFrame p n off l).MemWf :=
  .ite (.frameBad h) (.frameGood h .frameWrite)

theorem Device.MemWf.i2cNextAt (h : d.MemWf) : (d.i2cNextAt n off).MemWf := h

theorem Device.MemWf.writeSeen {p : Port} {k : Nat} (h : d.MemWf) : (d.writeSeen p n off k).MemWf := by
  unfold Device.writeSeen
  split
  · exact h
  · exact h
  · exact h

theorem Device.MemWf.hostWrite {p : Port} (h : d.MemWf) : (d.hostWrite p n off l).MemWf :=
  .when h fun h => .writeFrame (.writeSeen h)

theorem Device.MemWf.doorbellFrame {p : Port} {high : Nat} {v : Byte} (h : d.MemWf) : (d.doorbellFrame p n off high v).MemWf :=
  .ite (.writeFrame h) (.frameBad h)

theorem Device.MemWf.headedFrame {p : Port} (h : d.MemWf) : (d.headedFrame p l).MemWf :=
  .ite (.frameBad h) (.ite (.frameGood h fun h => h) (.ite (.frameBad h)
    (.ite (.frameBad h) (.ite (.ite (.frameGood h fun h => h) (.frameBad h)) (.ite (.writeFrame h) (.doorbellFrame h))))))

theorem Device.MemWf.spiFrame (h : d.MemWf) : (d.spiFrame l).MemWf :=
  .ite h (.ite (.when h fun h => h) (.headedFrame h))

theorem Device.MemWf.uartFrame (h : d.MemWf) : (d.uartFrame l).MemWf :=
  .ite h (.headedFrame h)

theorem Device.MemWf.uartGap (h : d.MemWf) : (d.uartGap l).MemWf :=
  .ite h (.ite h (.frameBad h))

theorem Device.MemWf.i2cRead {k : Nat} (h : d.MemWf) : (d.i2cRead n off k).MemWf :=
  .i2cNextAt (.updLink (.frameGood h fun h => h))

theorem Device.MemWf.i2cWrite (h : d.MemWf) : (d.i2cWrite l).MemWf :=
  .ite (.frameBad h) (.ite (.frameBad h) (.ite (.doorbellFrame h) (.writeFrame h)))

theorem Device.MemWf.i2cSent (h : d.MemWf) : (d.i2cSent l).MemWf :=
  .ite h (.ite h (.i2cWrite h))

theorem Device.MemWf.i2cGot {k : Nat} (h : d.MemWf) : (d.i2cGot k).MemWf :=
  .when h .i2cRead

theorem Device.MemWf.i2cTransfer {k : Nat} (h : d.MemWf) : (d.i2cTransfer l k).MemWf := by
  unfold Device.i2cTransfer
  split
  · exact h
  · exact .ite h (.ite (.i2cGot h) (.i2cGot (.i2cSent h)))

theorem Device.MemWf.i2cPoint {a : Nat} (h : d.MemWf) : (d.i2cPoint a).MemWf :=
  .when h fun h => .i2cSent h

theorem Device.MemWf.portFrame {p : Port} {k : Nat} (h : d.MemWf) : (d.portFrame p l k).MemWf := by
  unfold Device.portFrame
  split
  · exact .when h .spiFrame
  · exact .i2cTransfer h
  · exact .when h .uartFrame

/-! ### Rows of power, resets, starts and the crystal (chapters 02 to 04) -/

theorem Device.MemWf.porAssert {batMv : Nat} (h : d.MemWf) : (d.porAssert batMv).MemWf := by
  unfold Device.porAssert
  split
  · exact h
  · exact h
  · exact h
  · exact .aonFet (.porReset h)

theorem Device.MemWf.porRelease {batMv : Nat} {test : Bool} (h : d.MemWf) : (d.porRelease batMv test).MemWf :=
  .ite h h

theorem Device.MemWf.aonLoss (h : d.MemWf) : d.aonLoss.MemWf := by
  unfold Device.aonLoss
  split
  · exact h
  · exact h
  · exact h
  · exact h

theorem Device.MemWf.graveLeave {i : GraveInput} (h : d.MemWf) : (d.graveLeave i).MemWf :=
  .ite h h

theorem Device.MemWf.btnRestart (h : d.MemWf) : (d.btnRestart ss).MemWf :=
  .ite (.chipRestart h) h

theorem Device.MemWf.alarmAt (h : d.MemWf) : d.alarmAt.MemWf := by
  unfold Device.alarmAt
  split
  · exact .when h fun h => .dueAt h .wakeEvent
  · exact .when h fun h => .dueAt h .wakeEvent
  · exact h

theorem Device.MemWf.btnLow (h : d.MemWf) : d.btnLow.MemWf :=
  .when h fun h => .when h .wakeEvent

theorem Device.MemWf.vioLoss (h : d.MemWf) : d.vioLoss.MemWf :=
  .ite (.when h .raise) h

theorem Device.MemWf.xtalFail (h : d.MemWf) : d.xtalFail.MemWf :=
  .ite h (.ite (.raise h) h)

theorem Device.MemWf.xtalGood {rate : Nat} (h : d.MemWf) : (d.xtalGood rate).MemWf :=
  .ite h h

theorem Device.MemWf.dividerLoop {rate : Nat} (h : d.MemWf) : (d.dividerLoop rate).MemWf :=
  .ite h h

/-! ### Rows of the Batch, the keepers, sequences and stages (chapters 04 to 06, 11, 22) -/

theorem Device.MemWf.restartDone {romOk : Bool} (h : d.MemWf) : (d.restartDone k romOk).MemWf :=
  .ite (.ite (.keeperFail h) (.ite (.restartEnd h) (.keeperFail h))) h

theorem Device.MemWf.selfTestEnds {pass : Bool} (h : d.MemWf) : (d.selfTestEnds pass ss).MemWf := by
  unfold Device.selfTestEnds
  split
  · exact h
  · exact .ite (.enterStandby h) (.keeperFail h)

theorem Device.MemWf.wdKickAt (h : d.MemWf) : (d.wdKickAt k ss).MemWf :=
  .ite h (.ite h (.keeperFail (.raise h)))

theorem Device.MemWf.wdPeriodAt {p : Nat} (h : d.MemWf) : (d.wdPeriodAt k p).MemWf :=
  .ite h (.ite h (.raise h))

theorem Device.MemWf.wdExpire (h : d.MemWf) : (d.wdExpire k ss).MemWf :=
  .ite (.keeperFail (.raise h)) h

theorem Device.MemWf.romLimit (h : d.MemWf) : (d.romLimit k ss).MemWf := by
  unfold Device.romLimit
  split
  · exact .when h fun h => .dueAt h fun h => .keeperFail (.raise h)
  · exact h

theorem Device.MemWf.seqDueEdge {ops : List SeqOp} (h : d.MemWf) : (d.seqDueEdge ops).MemWf :=
  .ite (.ite (.startTick h) h) (.edgeIf h)

theorem Device.MemWf.romPost (h : d.MemWf) : d.romPost.MemWf :=
  .when h .postAll

theorem Device.MemWf.switchNow (h : d.MemWf) : d.switchNow.MemWf :=
  .ite (.when (.catchUp h) fun h => .stageAt (.switchRun h)) (.edgeIf (.catchUp h))

/-! ### Rows of the host link and the digest engine (chapters 08, 18) -/

theorem Device.MemWf.claimDue {t : Nat} {maximum : Bool} (h : d.MemWf) : (d.claimDue t maximum).MemWf :=
  .when h fun h => .dueAt h .digTimeout

theorem Device.MemWf.queueLate {ident : Nat} (h : d.MemWf) : (d.queueLate n ident).MemWf := by
  unfold Device.queueLate
  split
  · exact .when h fun h => .dueAt h .queueFail
  · exact h

theorem Device.MemWf.adcTimeout (h : d.MemWf) : (d.adcTimeout id).MemWf := by
  unfold Device.adcTimeout
  split
  · exact .ite (.dueAt h .adcReadEnd) h
  · exact h

/-! ### Rows of the collector and of the rails (chapters 10, 19) -/

theorem Device.MemWf.pairActs {p : Fin 24} {qual : Nat} (h : d.MemWf) : (d.pairActs p qual ss).MemWf := by
  unfold Device.pairActs
  refine .ite (.pairAction h) ?_
  split
  · exact .ite (.keeperFail (.pairAction h)) (.pairAction h)
  · exact .ite (.chipRestart (.pairAction h)) (.pairAction h)

theorem Device.MemWf.pairFault {p : Fin 24} {cause qual : Nat} (h : d.MemWf) : (d.pairFault p cause qual ss).MemWf :=
  .ite h (.ite h (.pairActs (.raisePair h)))

theorem Device.MemWf.lineFaultAt {p : Fin 24} {high : Bool} (h : d.MemWf) : (d.lineFaultAt p high ss).MemWf :=
  .ite h (.ite (.raiseAs h) (.pairActs (.free (.when (.raiseAs h) .enterSafeHold))))

theorem Device.MemWf.raiseNow {msg : Word} (h : d.MemWf) : (d.raiseNow msg).MemWf :=
  .updFaults (.each (.raise h) .ledgerWrite)

theorem Device.MemWf.rateHour (h : d.MemWf) : d.rateHour.MemWf :=
  .each h .raiseNow

theorem Device.MemWf.warnEnd {msg : Word} (h : d.MemWf) : (d.warnEnd msg).MemWf := by
  unfold Device.warnEnd
  split
  · exact .dueAt h fun h => h
  · exact h

theorem Device.MemWf.afterTrip (h : d.MemWf) : (d.afterTrip r).MemWf :=
  .when h .ldo6Left

theorem Device.MemWf.railGood (h : d.MemWf) : (d.railGood r mv).MemWf :=
  .ite (.dueAt h fun h => h) h

theorem Device.MemWf.proofFails {cause : ProofCause} (h : d.MemWf) : (d.proofFails r cause mv).MemWf :=
  .ite (.dueAt h fun h => .afterTrip (.trip h)) h

theorem Device.MemWf.railSagged (h : d.MemWf) : (d.railSagged r mv).MemWf :=
  .afterTrip (.when (.when h .raise) .burstPaFail)

theorem Device.MemWf.railSags (h : d.MemWf) : (d.railSags r mv).MemWf :=
  .ite (.dueAt h .railSagged) h

theorem Device.MemWf.thermTrip {sensor : Fin 7} (h : d.MemWf) : (d.thermTrip sensor).MemWf :=
  .foldl h fun h => .ite (.trip h) h

theorem Device.MemWf.railOc (h : d.MemWf) : (d.railOc r mv).MemWf :=
  .ite (.raise h) (.ite (.dueAt h fun h => .afterTrip (.trip h)) h)

theorem Device.MemWf.railOv (h : d.MemWf) : (d.railOv r mv).MemWf :=
  .ite (.dueAt h fun h => .afterTrip (.trip h)) h

theorem Device.MemWf.railTrips {cause : TripCause} (h : d.MemWf) : (d.railTrips r cause mv).MemWf := by
  unfold Device.railTrips
  split
  · exact .railOc h
  · exact .railOv h
  · split
    · exact .ite (.thermTrip h) h
    · exact h

theorem Device.MemWf.thermWarns {sensor : Fin 7} (h : d.MemWf) : (d.thermWarns sensor).MemWf :=
  .ite h (.each h .raise)

theorem Device.MemWf.thermCools {sensor : Fin 7} (h : d.MemWf) : (d.thermCools sensor).MemWf :=
  .each h fun h => h

theorem Device.MemWf.retryPasses (h : d.MemWf) : (d.retryPasses r).MemWf :=
  .when h fun h => .dueAt h fun h => h

theorem Device.MemWf.ladderEnds (h : d.MemWf) : (d.ladderEnds r).MemWf :=
  .when h fun h => .dueAt h fun h => h

theorem Device.MemWf.paLeaves (h : d.MemWf) : d.paLeaves.MemWf :=
  .when h fun h => h

/-! ### Rows of power, charger, gauge, Larder and measurement (chapters 12 to 17) -/

theorem Device.MemWf.dcArrives (h : d.MemWf) : d.dcArrives.MemWf :=
  .ite h (.resCheck (.chgSettle (.wakeEvent (.shipLeave h))))

theorem Device.MemWf.dcLeaves (h : d.MemWf) : d.dcLeaves.MemWf :=
  .when (.exhaustRelease (.resCheck (.chgSettle (.dockLeaves h)))) fun h => h

theorem Device.MemWf.dcOver (h : d.MemWf) : (d.dcOver mv).MemWf :=
  .ite h (.raiseOn (.updFaults (.dcLeaves h)))

theorem Device.MemWf.vsysOver (h : d.MemWf) : d.vsysOver.MemWf :=
  .ite h (.raiseOn h)

theorem Device.MemWf.anchorBy {f : Device → Device} (h : d.MemWf) (hf : ∀ {e : Device}, e.MemWf → (f e).MemWf) :
    (d.anchorBy f).MemWf :=
  .when (hf (.gaugeCount h)) fun h => h

theorem Device.MemWf.fetOverCurrent (h : d.MemWf) : d.fetOverCurrent.MemWf :=
  .exhaustRelease (.raiseOn (.updFaults (.fetOpen h)))

theorem Device.MemWf.fetRecovers {batMv : Nat} (h : d.MemWf) : (d.fetRecovers batMv).MemWf :=
  .ite (.ite (.batchEdge h) h) h

theorem Device.MemWf.priFails (h : d.MemWf) : (d.priFails mv).MemWf :=
  .ite (.exhaustRelease (.raise h)) h

theorem Device.MemWf.pulseDueAt {t : Nat} {rep : Option (Nat × Nat)} (h : d.MemWf) : (d.pulseDueAt mv t rep).MemWf := by
  unfold Device.pulseDueAt
  refine .dueAt h ?_
  intro _ h
  refine .ite h ?_
  refine .ite h ?_
  refine .ite ?_ h
  split
  · exact h
  · exact h

theorem Device.MemWf.pulseComes (h : d.MemWf) : (d.pulseComes mv).MemWf := by
  unfold Device.pulseComes
  refine .ite h ?_
  split
  · exact .pulseDueAt h
  · exact .when h .pulseDueAt

theorem Device.MemWf.pulseEnds (h : d.MemWf) : (d.pulseEnds mv).MemWf := by
  unfold Device.pulseEnds
  split
  · exact .dueAt h .pulseFinish
  · exact h

theorem Device.MemWf.motionSeen (h : d.MemWf) : d.motionSeen.MemWf :=
  .ite (.syncLost h) (.raise h)

theorem Device.MemWf.twSampled {a b : Bool} (h : d.MemWf) : (d.twSampled a b).MemWf :=
  .ite (.twPower (.updKin (.motionSeen h))) h

theorem Device.MemWf.twCycle {a b : Bool} (h : d.MemWf) : (d.twCycle a b).MemWf :=
  .ite (.dueAt h fun h => .twEnable h) (.when h fun h => .dueAt h fun h => .twSampled (.twEnable h))

theorem Device.MemWf.qualifies (h : d.MemWf) : (d.qualifies mv).MemWf := by
  unfold Device.qualifies
  refine .ite (.chgSettle h) ?_
  split
  · exact .chgSettle h
  · exact .dueAt (.chgSettle h) fun h => .ite (.qualified (.ite (.gaugeRestart h) h)) (.ite (.gaugeRestart h) h)

theorem Device.MemWf.chgTerminates (h : d.MemWf) : d.chgTerminates.MemWf :=
  .chgNoEdge (.anchorBy (.raise (.updChg (.chgEnter h))) .fullAnchor)

theorem Device.MemWf.chgRecharge (h : d.MemWf) : d.chgRecharge.MemWf :=
  .ite (.updChg (.chgFast h)) (.chgEnter h)

theorem Device.MemWf.batGone {route batMv : Nat} (h : d.MemWf) : (d.batGone route batMv).MemWf :=
  .chgRemoval h

theorem Device.MemWf.ntcBad {isShort : Bool} (h : d.MemWf) : (d.ntcBad isShort).MemWf :=
  .ite (.chgLatch h) (.ite (.exhaustRelease (.batGone h)) h)

theorem Device.MemWf.goneRead (h : d.MemWf) : d.goneRead.MemWf :=
  .gaugeRestart (.raise (.chgRead h))

theorem Device.MemWf.autozero {offset : Int} {next : Nat} (h : d.MemWf) : (d.autozero offset next).MemWf :=
  .ite (.raise h) h

theorem Device.MemWf.autozeroAt {offset : Int} (h : d.MemWf) : (d.autozeroAt offset).MemWf := by
  unfold Device.autozeroAt
  dsimp only
  split
  · exact h
  · exact .dueAt h .autozero
  · exact .when h fun h => .dueAt h .autozero

theorem Device.MemWf.gaugeWindowAt {mean : Int} {bat : Nat} {temp : Int} (h : d.MemWf) :
    (d.gaugeWindowAt mean bat temp).MemWf := by
  unfold Device.gaugeWindowAt
  split
  · exact .dueAt h fun h => h
  · exact .dueAt h fun h => h
  · exact h

theorem Device.MemWf.shuntFires (h : d.MemWf) : d.shuntFires.MemWf := by
  unfold Device.shuntFires
  split
  · exact h
  · exact h
  · exact h

theorem Device.MemWf.resAt {hd : Nat} {t : Reservation → Nat} {f : Device → Device} (h : d.MemWf)
    (hf : ∀ {e : Device}, e.MemWf → (f e).MemWf) : (d.resAt hd t f).MemWf := by
  unfold Device.resAt
  split
  · exact .when h fun h => .dueAt h fun h => hf h
  · exact h

theorem Device.MemWf.bgntRises (h : d.MemWf) : d.bgntRises.MemWf := by
  unfold Device.bgntRises
  split
  · exact .ite (.dueAt h fun h => .adcTriggerAll (.freeC (.updBurst (.updPins h)))) h
  · exact h

theorem Device.MemWf.burstOver (h : d.MemWf) : d.burstOver.MemWf :=
  .railEdgeOne (.burstFinish h)

theorem Device.MemWf.burstEnds (h : d.MemWf) : d.burstEnds.MemWf := by
  unfold Device.burstEnds
  split
  · exact .when h fun h => .dueAt h .burstOver
  · exact h

theorem Device.MemWf.breqUp (h : d.MemWf) : d.breqUp.MemWf :=
  .ite h h

theorem Device.MemWf.breqDown (h : d.MemWf) : d.breqDown.MemWf :=
  .when h fun h => .when h .burstOver

theorem Device.MemWf.adcStartDue {g : Fin 4} (h : d.MemWf) : (d.adcStartDue g).MemWf := by
  unfold Device.adcStartDue
  split
  · exact .ite h (.dueAt h .adcStart)
  · exact h

theorem Device.MemWf.adcCompleteDue {g : Fin 4} {codes : List Nat} (h : d.MemWf) : (d.adcCompleteDue g codes).MemWf := by
  unfold Device.adcCompleteDue
  split
  · exact .ite (.dueAt h .adcComplete) h
  · exact h

/-! ### Rows of the debug port and of the lifecycle (chapter 21) -/

theorem Device.MemWf.tapOp {ir : BitVec 5} {f : Device → Device} (h : d.MemWf) (hf : ∀ {e : Device}, e.MemWf → (f e).MemWf) :
    (d.tapOp ir f).MemWf :=
  .when h fun h => hf h

theorem Device.MemWf.tapOpen {ir : BitVec 5} {f : Device → Device} (h : d.MemWf)
    (hf : ∀ {e : Device}, e.MemWf → (f e).MemWf) : (d.tapOpen ir f).MemWf :=
  .tapOp h fun h => .when h fun h => hf (.catchUp h)

theorem Device.MemWf.advanceEnds (h : d.MemWf) : (d.advanceEnds ss).MemWf := by
  unfold Device.advanceEnds
  split
  · exact .ite (.ite (.chipRestart (.advanceDone h)) (.advanceDone h)) h
  · exact h

end

/-! ### From an effect to an outcome, and the step -/

/-- Where the outcome is a next state, its memory is canonical. -/
def Res.MemWf (o : Res) : Prop := ∀ t, o = .next t → t.dev.MemWf

section
variable {s : State} {f : Device → Device}

theorem Res.MemWf.next {t : State} (h : t.dev.MemWf) : Res.MemWf (.next t) := by
  rintro _ ⟨⟩
  exact h

theorem Res.MemWf.onDev (h : s.dev.MemWf) (hf : ∀ {d : Device}, d.MemWf → (f d).MemWf) : Res.MemWf (s.onDev f) :=
  .next (Device.MemWf.finish (hf h))

theorem Res.MemWf.onClk (h : s.dev.MemWf) (hf : ∀ {d : Device}, d.MemWf → (f d).MemWf) : Res.MemWf (s.onClk f) :=
  .next (Device.MemWf.finish (hf h))

theorem Res.MemWf.onPor (h : s.dev.MemWf) (hf : ∀ {d : Device}, d.MemWf → (f d).MemWf) : Res.MemWf (s.onPor f) :=
  .next (hf h)

theorem Res.MemWf.onFrame (h : s.dev.MemWf) (hf : ∀ {d : Device}, d.MemWf → (f d).MemWf) : Res.MemWf (s.onFrame f) := by
  unfold State.onFrame
  split
  · exact .onClk h fun h => hf (.batchEdge h)
  · exact .onDev h hf

theorem Res.MemWf.request {c : Cmd} {r : Req} (h : s.dev.MemWf) (hc : c.KeepsMem) : Res.MemWf (s.request c r) :=
  .onFrame h fun h => .runReq h hc

end

/-- Every row keeps memory canonical. -/
theorem exec_memWf (i : Instr) {s : State} (h : s.dev.MemWf) : Res.MemWf (exec i s) := by
  cases i
  all_goals dsimp only [exec]
  case por => exact .onPor h .porAssert
  case brownOut => exact .onClk h .brownOut
  case startGatePass => exact .onClk h fun h => .when h fun h => .dueAt h .gatePass
  case startTick => exact .onClk h .startTick
  case restartGraceEnd | bootFloorEnd | lodgeEntry | shipEntry | coldHoldEnd | guestWdExpiry | gwdGatingEnd |
      schedDue | stagedBytesProgrammed | attachRetry | forecastBinUpdate | burstStart => exact .onClk h .edgeIf
  case btnRestartHold => exact .onClk h .btnRestart
  case lodgeAlarm => exact .onClk h .alarmAt
  case wakeNRequest | wakeComparatorFire => exact .onDev h fun h => .when h .wakeEvent
  case btnNPress => exact .onDev h .btnLow
  case shipBtnHold => exact .onDev h fun h => .when h .shipLeave
  case vioGood | kineticClamp | vsysOvClear | kineticClampRelease | reservoirChargeStop | dieCooled |
      dualRailReturn => exact .onDev h fun h => h
  case vioLost => exact .onDev h .vioLoss
  case crystalFail => exact .onClk h .xtalFail
  case crystalQualify => exact .onClk h .xtalGood
  case dividerUpdate => exact .onClk h .dividerLoop
  case batchEdge => exact .onClk h .batchEdge
  case budgetMark => exact .onClk h fun h => .when h fun h => .dueAt h .budgetAt
  case commitDeadline => exact .onClk h fun h => .when h fun h => .dueAt h fun h => .deadlineAt (.budgetAt h)
  case keeperRestartDone => exact .onClk h .restartDone
  case selfTestDue => exact .onClk h fun h => .when h fun h => .dueAt h .selfTestAsk
  case selfTestResult => exact .onClk h fun h => .when h .selfTestEnds
  case keeperWdKick => exact .onClk h .wdKickAt
  case keeperWdPeriodWrite => exact .onDev h .wdPeriodAt
  case keeperWdExpiry => exact .onClk h .wdExpire
  case romLimitExpiry => exact .onClk h .romLimit
  case sqTailWrite | cqHeadWrite | evtFlagsClear | digClaimWrite | digStart | digFinish | digAbort =>
    exact .onFrame h .hostWrite
  case submissionSlotWrite | digDataWrite => exact .onFrame h fun h => .when h .hostWrite
  case registerWrite => exact .onFrame h .portFrame
  case i2cAddressSet => exact .onFrame h .i2cPoint
  case servicePortGap => exact .onFrame h .uartGap
  case digClaimIdle | digClaimMax => exact .onClk h .claimDue
  case hello => exact .request h cmdHello_keepsMem
  case bye => exact .request h cmdBye_keepsMem
  case ping => exact .request h cmdPing_keepsMem
  case time => exact .request h cmdTime_keepsMem
  case roomQuery => exact .request h cmdRoomQuery_keepsMem
  case roomReset => exact .request h cmdRoomReset_keepsMem
  case pwrQuery => exact .request h cmdPwrQuery_keepsMem
  case pwrFloor => exact .request h cmdPwrFloor_keepsMem
  case pwrLodge => exact .request h cmdPwrLodge_keepsMem
  case pwrShipArm | pwrShipCancel => exact .request h cmdPwrShip_keepsMem
  case pwrRestart => exact .request h cmdPwrRestart_keepsMem
  case railVote => exact .request h cmdRailVote_keepsMem
  case railQuery => exact .request h cmdRailQuery_keepsMem
  case railSched => exact .request h cmdRailSched_keepsMem
  case seqRun => exact .request h cmdSeqRun_keepsMem
  case seqAbort => exact .request h cmdSeqAbort_keepsMem
  case seqDelayEnd | seqWaitTimeout => exact .onClk h .seqDueEdge
  case chgQuery => exact .request h cmdChgQuery_keepsMem
  case chgSet => exact .request h cmdChgSet_keepsMem
  case chgFaultsRead | chgFaultsClear => exact .request h cmdChgFaults_keepsMem
  case gaugeQuery => exact .request h cmdGaugeQuery_keepsMem
  case gaugeSetSoc | gaugeSetAgeAdd | gaugeSetLearnReset => exact .request h cmdGaugeSet_keepsMem
  case larderReserve => exact .request h cmdLarderReserve_keepsMem
  case burstPair => exact .request h cmdBurstPair_keepsMem
  case larderRelease => exact .request h cmdLarderRelease_keepsMem
  case larderQuery => exact .request h cmdLarderQuery_keepsMem
  case larderSetTod | larderSetFcReset => exact .request h cmdLarderSet_keepsMem
  case pathQuery => exact .request h cmdPathQuery_keepsMem
  case dcLimit => exact .request h cmdDcLimit_keepsMem
  case priPulse => exact .request h cmdPriPulse_keepsMem
  case pvSet => exact .request h cmdPvSet_keepsMem
  case kinQuery => exact .request h cmdKinQuery_keepsMem
  case kinSet => exact .request h cmdKinSet_keepsMem
  case kinUser => exact .request h cmdKinUser_keepsMem
  case adcPlan => exact .request h cmdAdcPlan_keepsMem
  case adcGroupSet | adcGroupTrigger | adcGroupRelease => exact .request h cmdAdcGroup_keepsMem
  case adcRead => exact .request h cmdAdcRead_keepsMem
  case adcReadTimeout => exact .onClk h .adcTimeout
  case digKeyload => exact .request h cmdDigKeyload_keepsMem
  case keystoreWriteDone => exact .onDev h .keyDone
  case digQueue => exact .request h cmdDigQueue_keepsMem
  case digQueueTimeout => exact .onClk h .queueLate
  case faultRead => exact .request h cmdFaultRead_keepsMem
  case ledgerRead => exact .request h cmdLedgerRead_keepsMem
  case faultClearSafeHold | faultClearRailHeld | faultClearAllHeld | faultClearBatfet | faultClearActive |
      faultClearLedgerMark => exact .request h cmdFaultClear_keepsMem
  case faultProbe => exact .request h cmdFaultProbe_keepsMem
  case wdSetPeriod | wdSetClearRestarts => exact .request h cmdWdSet_keepsMem
  case wdQuery => exact .request h cmdWdQuery_keepsMem
  case gwdArm => exact .request h cmdGwdArm_keepsMem
  case wdKick => exact .request h cmdWdKick_keepsMem
  case keeperSwap => exact .request h cmdKeeperSwap_keepsMem
  case keeperQuery => exact .request h cmdKeeperQuery_keepsMem
  case keeperRevive => exact .request h cmdKeeperRevive_keepsMem
  case imageStageOpen | imageStageData | imageStageClose => exact .request h cmdImageStage_keepsMem
  case imageEraseEnd => exact .onDev h fun h => .romPost (.imageErased h)
  case imageStageAbandon =>
    refine .onClk h ?_
    intro _ h
    split
    · exact .dueAt h .stageAbandon
    · exact h
  case imageCommitCommit | imageCommitAbort => exact .request h cmdImageCommit_keepsMem
  case imageQuery => exact .request h cmdImageQuery_keepsMem
  case recipeSelect => exact .request h cmdRecipeSelect_keepsMem
  case recipeSwitch => exact .onClk h .switchNow
  case recipeWriteOpen | recipeWriteData | recipeWriteClose => exact .request h cmdRecipeWrite_keepsMem
  case recipeEraseEnd => exact .onDev h .rcpErased
  case recipeWriteAbandon =>
    refine .onClk h ?_
    intro _ h
    split
    · exact .dueAt h .rcpAbandon
    · exact h
  case recipeQuery => exact .request h cmdRecipeQuery_keepsMem
  case dbgChallenge => exact .request h cmdDbgChallenge_keepsMem
  case dbgRespondRespond | dbgRespondDrop => exact .request h cmdDbgRespond_keepsMem
  case lifecycleAdvance => exact .request h cmdLifecycleAdvance_keepsMem
  case lifecycleProgramDone => exact .onClk h .advanceEnds
  case secQuery => exact .request h cmdSecQuery_keepsMem
  case tapReset | pvColdStart | reservoirChargeStart | reverseCurrentCut | hrstNHoldThreshold |
      batteryStartCrossing | vsysCeilingCrossing => exact .onDev h fun h => .when h fun h => h
  case keyprog => exact .onDev h fun h => .tapOp h .keyProgram
  case lcadv => exact .onDev h fun h => .tapOp h .lcAdvance
  case dbgHalt => exact .onDev h fun h => .tapOpen h .halt
  case dbgWdhalt => exact .onDev h fun h => .tapOpen h fun h => h
  case dbgAttach => exact .onDev h fun h => .tapOpen h .attachWrite
  case dbgChalReq => exact .onDev h fun h => .tapOp h fun h => h
  case dbgDrop => exact .onDev h fun h => .tapOpen h .dropLevel
  case dbgAuthSubmit => exact .onDev h fun h => .tapOp h .respond
  case dbgMemRead => exact .onDev h fun h => .tapOp h .memRead
  case dbgMemWrite => exact .onDev h fun h => .tapOp h .memWrite
  case dbgMemErase => exact .onDev h fun h => .tapOp h .memErase
  case challengeExpiry =>
    refine .onClk h ?_
    intro _ h
    split
    · exact .dueAt h .chalExpire
    · exact h
  case dualRailFault => exact .onClk h .pairFault
  case lineFault => exact .onClk h .lineFaultAt
  case codedMessage => exact .onDev h .raise
  case ledgerEntryWrite => exact .onDev h fun h => .when h .ledgerStep
  case suppressionHourEnd => exact .onClk h fun h => .when h fun h => .dueAt h .rateHour
  case warnExpiry => exact .onClk h .warnEnd
  case graveExit => exact .onDev h .graveLeave
  case railProofed => exact .onClk h .railGood
  case proofFail => exact .onClk h .proofFails
  case railSag => exact .onClk h .railSags
  case railTrip => exact .onClk h fun h => .when h .railTrips
  case thermalWarning => exact .onDev h .thermWarns
  case retryRelease => exact .onClk h .retryPasses
  case ladderReset => exact .onClk h .ladderEnds
  case paSourceSwitch => exact .onDev h .paLeaves
  case dcinValid => exact .onDev h .dcArrives
  case dcinInvalid => exact .onDev h fun h => .dcLeaves h
  case dcOv => exact .onDev h fun h => .when h .dcOver
  case dockDetectionEnd => exact .onClk h fun h => .when h fun h => .dueAt h fun h => .raise h
  case ccLevelChange => exact .onDev h fun h => .when h .ccLevel
  case vsysOv => exact .onDev h .vsysOver
  case batfetUvOpen => exact .onDev h fun h => .when h fun h => .exhaustRelease (.anchorBy (.raise (.fetOpen h)) .emptyAnchor)
  case batfetOcOpen => exact .onDev h fun h => .when h .fetOverCurrent
  case batfetClose => exact .onClk h .fetRecovers
  case batfetStuck => exact .onDev h fun h => .when h .raise
  case priLow => exact .onDev h .priFails
  case passivationPulseDue => exact .onClk h .pulseComes
  case priPulseEnd => exact .onClk h .pulseEnds
  case pvFocvSample | gaugeSippingEntry => exact .onClk h fun h => .when h fun h => .dueAt h fun h => h
  case resImbal | resOv => exact .onDev h fun h => .when h fun h => .raiseOn h
  case hallEdge => exact .onClk h fun h => .when h fun h => .dueAt h .hallEdge
  case illegalTransition => exact .onDev h fun h => .when h .illegal
  case counterInterpolate =>
    refine .onClk h ?_
    intro _ h
    refine .when h ?_
    intro _ h
    split
    · exact .dueAt h .moveCounter
    · exact h
  case rotorStall => exact .onClk h fun h => .when h fun h => .dueAt h .rotorStop
  case twpwrDutySample => exact .onClk h fun h => .when h .twCycle
  case qualifyPass => exact .onClk h .qualifies
  case prechargeExit => exact .onDev h fun h => .when h .chgFast
  case cvReached => exact .onDev h fun h => .when h .chgEnter
  case chargeTerminate => exact .onDev h fun h => .when h .chgTerminates
  case topoffEnd => exact .onClk h fun h => .when h fun h => .dueAt h .chgEnter
  case rechargeStart => exact .onDev h fun h => .when h .chgRecharge
  case zoneChange => exact .onDev h fun h => .when h fun h => .zoneTo h
  case harvestChargingPresent | harvestChargingCeases => exact .onDev h fun h => .when h fun h => .chgSettle h
  case prechargeTimeout | fastTimeout => exact .onClk h fun h => .when h fun h => .dueAt h .chgLatch
  case batteryRemoved => exact .onDev h fun h => .when h fun h => .exhaustRelease (.batGone h)
  case chgBatOv | chgOvFetfail => exact .onDev h fun h => .when h fun h => .chgLatch h
  case chgNtc => exact .onDev h fun h => .when h .ntcBad
  case chgBatid => exact .onDev h fun h => .when h .chgLatch
  case goneAutoRead =>
    refine .onClk h ?_
    intro _ h
    refine .when h ?_
    intro _ h
    split
    · exact .dueAt h .goneRead
    · exact h
  case gaugeAutozero => exact .onClk h .autozeroAt
  case gaugeWindow => exact .onClk h .gaugeWindowAt
  case shuntComparator => exact .onDev h .shuntFires
  case ocvCorrection => exact .onClk h fun h => .when h .batchEdge
  case ageHour => exact .onClk h fun h => .when h fun h => .dueAt h fun h => .when (.ageHourEnd h) fun h => h
  case gaugeRecordSave => exact .onClk h fun h => .when h fun h => .dueAt h .gaugeSave
  case reservationEnd => exact .onClk h fun h => .resAt h .resEnd
  case bgntRise => exact .onClk h .bgntRises
  case burstEnd => exact .onClk h .burstEnds
  case breqRise => exact .onDev h .breqUp
  case breqFall => exact .onDev h .breqDown
  case adcSetStart => exact .onClk h fun h => .when h .adcStartDue
  case adcSetComplete => exact .onClk h fun h => .when h .adcCompleteDue
  case porRelease => exact .onPor h .porRelease
  case aonNodeLoss => exact .onDev h .aonLoss
  case resOvClear | resImbalClear => exact .onDev h fun h => .when h fun h => .resResume h
  case thermalWarningClear => exact .onDev h .thermCools
  case twpwrHoldEnd => exact .onClk h fun h => .when h fun h => .dueAt h .twPower
  case reservationStart => exact .onClk h fun h => .resAt h .resBegin
  case authLockoutEnd =>
    refine .onClk h ?_
    intro _ h
    split
    · exact .dueAt h .lockExpire
    · exact h

/-- Settles O6: each row's effect is followed from call to call down to the only writers of memory, which keep the
canonical form. -/
theorem memoryStaysCanonical : Obligations.MemoryStaysCanonical := by
  intro s t h hstep
  unfold step at hstep
  split at hstep
  next => exact Res.MemWf.onClk h .idleTick t hstep
  next c rest _ => exact exec_memWf c (s := { s with pending := rest }) h t hstep

end Sys2Proof.Machine
